-- ==== Sys2Proof/Word.lean ====
section
/-! DEFINITION. Sys2Proof/Word.lean: the byte, and nothing else. Registers and objects of this hardware have many
widths, so a register value is a `Nat` below two to its width; the operations that keep it there are in
`Machine/Bits.lean`. -/

namespace Sys2Proof

/-- One byte of memory or of a message (R10). -/
abbrev Byte := BitVec 8

end Sys2Proof
end

