-- ==== Sys2Proof/Syntax.lean ====
section
/-! DEFINITION. Sys2Proof/Syntax.lean: the commands of the block, one constructor for each row of
spec/opcode_table.json, in the order of the table. A command carries what the world outside decides: the value written,
the bytes received, the level of a pin, the result of an analog conversion. -/

namespace Sys2Proof

/-- Who writes an object: transport (1 ETH0, 2 ETH1, 3 CAN0, 4 CAN1, 5 mailbox), source address on it, and the CLIENT
field of its messages (R322, R329). -/
structure Writer where
  transport : Nat
  addr : Nat
  client : Nat
deriving DecidableEq, Repr

/-- The fields of a received PTP message that the device uses (R378): type as IEEE 1588 numbers it, source clock
identity and port, sequence number, the two-step flag, the receive time (ns, with 32 fractional bits), the origin or
receive time the message carries, its correction, and for an Announce the dataset it advertises. -/
structure PtpMsg where
  domain : Nat
  srcId : Nat
  srcPort : Nat
  seq : Nat
  twoStep : Bool
  rxTime : Nat
  origin : Int
  correction : Int
  reqId : Nat
  reqPort : Nat
  logInterval : Int
  gmId : Nat
  priority1 : Nat
  clockClass : Nat
  accuracy : Nat
  variance : Nat
  priority2 : Nat
  stepsRemoved : Nat
  utcOffset : Int
deriving DecidableEq, Repr

/-- The commands. -/
inductive Instr where
  /-- R1: A write of DEV.MARK_MODE, accepted only in STANDBY, sets the marking mode that takes effect at the next
  transition to READY. -/
  | devMarkModeWrite (w : Writer) (v : Nat)
  /-- R314: A write of an RW, RWI or RWL object that has no row of its own is checked and applied under its access
  right. -/
  | objectWrite (w : Writer) (index sub typ offset : Nat) (data : List Byte)
  /-- R316: A write of an RWS object is checked against its range and its ties to other objects, then stored in
  the staging copy of its scope. -/
  | stagedWrite (w : Writer) (index sub typ offset : Nat) (data : List Byte)
  /-- R28: A write of DEV.PD_ENABLE is checked as a whole and then switches domains off from the most dependent
  and on from the least dependent. -/
  | pdEnableWrite (w : Writer) (v : Nat)
  /-- R28: A domain switch completes and DEV.PD_STATUS shows the domain usable, or off. -/
  | pdSwitchDone (d : Nat)
  /-- R15: A forward crossing of P_n to a line above CHn.LINE_HIGH applies due commits, tone swaps and cues in
  order, then fires the line. -/
  | lineBoundary (n : Nat)
  /-- R33: A filtered change of ENCn_A or ENCn_B counts +1 or −1, or is a double edge. -/
  | encEdge (n : Nat) (a b : Bool)
  /-- R34: More than DOUBLE_LIMIT double edges in the 65,536-sample window raise ENC_UNRELIABLE. -/
  | encUnreliable (n : Nat)
  /-- R36: An index on ENCn_Z is checked against the expected count, or homes the count. -/
  | encIndex (n : Nat) (z : Bool)
  /-- R35: A write of ENCn.PRESET sets the count, clears UNCERTAIN and clears pend. -/
  | encPreset (w : Writer) (n v : Nat)
  /-- R37: A write of ENCn.REHOME makes the next index home the count. -/
  | rehome (w : Writer) (n v : Nat)
  /-- R40: At each SPOSn.PERIOD, the port starts a request by lowering SPOSn_CLK, unless SPOSn_DATA is low. -/
  | sposRequest (n : Nat) (dataHigh : Bool)
  /-- R46: A received word is checked, and a good word is unwrapped into ENCn.COUNT. -/
  | sposWord (n startClocks delay word : Nat)
  /-- R44: SPOSn_DATA not high within WORD_TIMEOUT of the request raises SPOS_TIMEOUT. -/
  | sposWordTimeout (n : Nat)
  /-- R45: ERROR_LIMIT consecutive bad words raise SPOS_LOST and set UNCERTAIN. -/
  | sposLost (n : Nat)
  /-- R49: Emulated counts that do not fit in a period carry over and raise PASS_OVERRUN. -/
  | passOverrun (p : Nat)
  /-- R52: In regular-spacing mode, the followed position reaches a target and the pulse starts. -/
  | compareTarget (n : Nat)
  /-- R53: In list mode, a CMP_PULSE cue entry's position is reached and the pulse starts. -/
  | cmpPulse (n : Nat)
  /-- R51: A compare pulse ends after CMPn.WIDTH. -/
  | cmpPulseEnd (n : Nat)
  /-- R55: A write of 1 to CMPn.ARM resets FIRED, sets the high-water mark and starts the unit. -/
  | cmpArm (w : Writer) (n : Nat)
  /-- R55: A write of 0 to CMPn.ARM stops the unit. -/
  | cmpDisarm (w : Writer) (n : Nat)
  /-- R56: An accepted capture edge latches the position and time outside the holdoff window. -/
  | cmpCapture (n : Nat) (rising : Bool)
  /-- R63: |v| below SLOW_RATE, or a count change against the direction, returns the synthesiser to edge mode. -/
  | lcTrackExit (n : Nat)
  /-- R63: No count change for LCn.STILL_TIME sets STILL. -/
  | lcStill (n : Nat)
  /-- R64: |e| above UNLOCK_TOL in track mode clears LOCKED and raises LC_UNLOCK. -/
  | lcUnlock (n : Nat)
  /-- R64: |e| within LOCK_TOL for LOCK_TIME sets LOCKED again. -/
  | lcRelock (n : Nat)
  /-- R64: |e| within LOCK_TOL for LOCK_TIME in track mode sets SETTLED. -/
  | lcSettled (n : Nat)
  /-- R73: A NOP cue executes without effect. -/
  | nop (k : Nat)
  /-- R95: A TONE_SWAP cue makes the named bank live, row by row, in each channel of its mask. -/
  | toneSwap (k : Nat)
  /-- R80: A COMMIT cue applies, in step 3, the staged values of each channel in its mask. -/
  | commit (k : Nat)
  /-- R318: A DEV_COMMIT cue applies the device's staged device-level values in its cycle. -/
  | devCommit (k : Nat)
  /-- R352: A LOOP_SAMPLE cue triggers one sample of a Loop Engine slot in mode 2. -/
  | loopSample (k : Nat)
  /-- R356: A LOOP_BANK cue swaps the coefficient bank of a slot at its next sample. -/
  | loopBank (k : Nat)
  /-- R364: An ADC_TRIGGER cue starts an AIN conversion sequence. -/
  | adcTrigger (k : Nat)
  /-- R73: A GPIO cue clears, sets or toggles the named GPIO pins. -/
  | gpio (k : Nat)
  /-- R82: An EVENT cue writes an EVENT record carrying ARG to a channel's cue-feedback ring. -/
  | event (k : Nat)
  /-- R75: A LIST_ARM cue arms or disarms another cue list. -/
  | listArm (k : Nat)
  /-- R222: A RECAST_REQ cue requests Recast with reason CUE. -/
  | recastReq (k : Nat)
  /-- R196: A PAGE_START cue binds a sheet to the oldest admitted page and starts it on the stations it names. -/
  | pageStart (k : Nat)
  /-- R75: A write of 1 to CUE.LISTk.ARM checks the range and places the cursor. -/
  | cueListArm (w : Writer) (k : Nat)
  /-- R75: A write of 0 to CUE.LISTk.ARM disarms the list. -/
  | cueListDisarm (w : Writer) (k : Nat)
  /-- R81: A write of a cue entry is checked and applied as one 16-byte update. -/
  | cueEntryWrite (w : Writer) (i sub offset : Nat) (data : List Byte)
  /-- R120: A pending fire event whose position is near enough is issued with its predicted fire time. -/
  | fireIssue (n : Nat)
  /-- R93: A Flask read burst returns, possibly flagged bad, to the row gather. -/
  | flaskReadDone (n line burst : Nat) (late : Bool)
  /-- R95: A write of CHn.TONE_SWAP requests a swap at the first line boundary after it. -/
  | chToneSwap (w : Writer) (n v : Nat)
  /-- R96: DRAINING clears at line L + d_max, and deferred swaps execute in order. -/
  | toneDrainEnd (n : Nat)
  /-- R97: A write of 1 to CHn.TONE_COPY starts copying the live bank into the idle bank. -/
  | toneCopy (w : Writer) (n : Nat)
  /-- R97: The bank copy ends, COPYING clears and a deferred swap may execute. -/
  | toneCopyDone (n : Nat)
  /-- R101: A write of CHn.NOZ_PATCH writes one shadow nozzle entry and sets PENDING. -/
  | nozPatch (w : Writer) (n v : Nat)
  /-- R101: The copy of the new live nozzle table into the shadow ends and RESYNC clears. -/
  | nozResyncDone (n : Nat)
  /-- R110: A write of 1 to CHn.TBL_GO starts loading a table range from DRAM. -/
  | tblLoad (w : Writer) (n : Nat)
  /-- R110: A write of 2 to CHn.TBL_GO starts writing a table range back to DRAM. -/
  | tblReadback (w : Writer) (n : Nat)
  /-- R112: A table load or read-back finishes, or stops on an error, and TBL_STATUS shows 2 or 3. -/
  | tblLoadDone (n : Nat)
  /-- R268: An SRAM scrubber reads a word in an idle cycle and writes back a corrected one. -/
  | sramScrubRead (n table entry flips : Nat)
  /-- R130: No report from a monitored head within TEMP_STALE makes the head hot. -/
  | headTempStale (n h : Nat)
  /-- R160: A TEMP block from a board updates the head temperature and acts under R130. -/
  | temp (m head t sensor : Nat)
  /-- R161: A NOZZLE block writes a record to the nozzle-health ring. -/
  | nozzle (m i value health : Nat)
  /-- R162: A FAULT block from a board raises BOARD_FAULT with the class of its severity. -/
  | fault (m code severity detail : Nat)
  /-- R163: A STATUS block adds its counts to the lane counters, and with SAFE = 1 takes the lane DOWN. -/
  | status (m : Nat) (safe enabled : Bool) (blank late naks invalid : Nat)
  /-- R152: A LINE_NAK resends the frame if no FIRE block of that line has yet been issued, and otherwise loses
  the line. -/
  | lineNak (m line reason : Nat)
  /-- R156: A CTRL_ACK ends a register access or acknowledges a bulk frame. -/
  | ctrlAck (m status addr data : Nat)
  /-- R166: An ECHO_RSP gives one round trip, and after 16 echoes the latency is computed. -/
  | echoRsp (m t1 tau t4 : Nat)
  /-- R165: A TRAIN block received advances the training stages, or takes an UP lane DOWN. -/
  | train (m laneNo stage : Nat)
  /-- R143: An invalid received block is discarded and counted. -/
  | klInvalidBlock (m block : Nat)
  /-- R170: 16 invalid headers within 64 blocks lose block lock and take the lane DOWN. -/
  | klLockLoss (m : Nat)
  /-- R170: No valid return block for 20 µs takes the lane DOWN. -/
  | klSilence (m : Nat)
  /-- R165: After 64 valid return headers the controller gains block lock and checks the echoed lane number. -/
  | klBlockLock (m echo : Nat)
  /-- R165: After both sides have sent stage 1 for 1 ms, the controller sends stage 2. -/
  | klStageTimer (m : Nat)
  /-- R165: A lane whose ENABLE is 1, whose domain is on and whose device is not in SAFE starts training. -/
  | laneTrainStart (m : Nat)
  /-- R165: A lane not UP within TRAIN_TIMEOUT goes to FAILED. -/
  | klTrainTimeout (m : Nat)
  /-- R164: One second after FAILED, a new training attempt starts. -/
  | klRetryTimer (m : Nat)
  /-- R153: Every 64th round, a SYNC block carrying link time is sent on every UP lane. -/
  | klSyncDue
  /-- R168: At least every 4 µs, a KEEPALIVE with the next sequence number and ENABLE is sent. -/
  | keepaliveDue (m : Nat)
  /-- R150: A line frame opens once the fires of line L − 4 have passed and a slot is free. -/
  | lineFrameOpen (m : Nat)
  /-- R156: A write of 1 to KLm.CTRL_GO reads a board register. -/
  | ctrlRead (w : Writer) (m : Nat)
  /-- R156: A write of 2 to KLm.CTRL_GO writes a board register. -/
  | ctrlWrite (w : Writer) (m : Nat)
  /-- R156: An access unanswered within 20 µs is repeated, and fails after the fourth attempt. -/
  | klCtrlTimeout (m : Nat)
  /-- R157: A write of 1 to KLm.BULK_GO starts a bulk copy from DRAM to the board. -/
  | bulkGo (w : Writer) (m : Nat)
  /-- R174: A pulse on SCNn_A or SCNn_B gives a crossing time, and the sweep measurement is updated. -/
  | scanPulse (n : Nat) (sensorB : Bool) (rise fall : Nat)
  /-- R179: A predicted crossing whose window passes with no accepted pulse counts as a miss. -/
  | scanMiss (n : Nat)
  /-- R179: SCAN_MISS_LIMIT consecutive misses raise SCAN_LOST and enter LOST. -/
  | scanLost (n : Nat)
  /-- R182: A write of 1 to CHn.SCAN_ENABLE enters SPINUP. -/
  | scanEnable (w : Writer) (n : Nat)
  /-- R182: A write of 0 to CHn.SCAN_ENABLE takes the scan to OFF. -/
  | scanDisable (w : Writer) (n : Nat)
  /-- R182: Once MIR_SPINUP has elapsed and every beam lane is UP, the scan enters ACQUIRE. -/
  | scanSpinupDone (n : Nat)
  /-- R182: 64 consecutive good sweeps switch to the run page and enter LOCKED. -/
  | scanAcquired (n : Nat)
  /-- R182: ACQUIRE lasting beyond SCAN_ACQ_TIMEOUT raises SCAN_LOST with reason 2. -/
  | scanAcqTimeout (n : Nat)
  /-- R182: After 100 ms in LOST, the scan enters ACQUIRE again. -/
  | scanLostRetry (n : Nat)
  /-- R183: At C(s), sweep s is committed and its SWEEP block issued. -/
  | sweepCommit (n : Nat)
  /-- R192: Once every lane has acknowledged phase 1, the VALID header of the new page is sent. -/
  | scanPagePhase2 (n : Nat)
  /-- R192: Phase 2 not acknowledged on every lane by C(APPLY − 1) raises SCAN_SPLIT. -/
  | scanSplit (n : Nat)
  /-- R187: A write of 1 to CHn.SLT_GO loads the Scan Linearisation Table from DRAM. -/
  | sltLoad (w : Writer) (n : Nat)
  /-- R187: A write of 2 to CHn.SLT_GO writes the table back to DRAM. -/
  | sltReadback (w : Writer) (n : Nat)
  /-- R187: A write of 3 to CHn.SLT_GO fills the table from the arcsine formula. -/
  | sltGenerate (w : Writer) (n : Nat)
  /-- R187: A table load or generation finishes and sets SLT_PENDING. -/
  | sltDone (n : Nat)
  /-- R193: At t_S + APC_SAMPLE, the APC input is converted and offered to the Loop Engine. -/
  | apcSample (n code : Nat)
  /-- R199: A station exposes the last pixel of its page, and the page is PRINTED once every station has finished.
  -/
  | stationFinished (n : Nat)
  /-- R202: The last started station ends its blank lines and the SPOILED record is written. -/
  | pageSpoiledReport (n : Nat)
  /-- R199: A write of 1 to BEAM.PAGE_ABORT spoils the running page with reason 23. -/
  | pageAbort (w : Writer)
  /-- R205: CMD 1 in IDLE checks the Flask, sets the slot size and enters LOADED. -/
  | load (w : Writer) (n : Nat)
  /-- R206: CMD 2 checks the arm conditions, sets LINE_HIGH and enters ARMED. -/
  | arm (w : Writer) (n : Nat)
  /-- R207: CMD 4 discards the queue and aborts the jobs, at once or at the next boundary. -/
  | abort (w : Writer) (n : Nat)
  /-- R207: CMD 5 aborts the queue and enters IDLE. -/
  | unload (w : Writer) (n : Nat)
  /-- R220: A JOB descriptor taken from the ring is placed and admitted, or refused. -/
  | jobDescriptor (n : Nat)
  /-- R208: A BAND descriptor taken from the ring is checked and queued for fetch or for Sprue. -/
  | bandDescriptor (n : Nat)
  /-- R205: A STOP descriptor taken ends the run, so the channel drains after its last job. -/
  | stopDescriptor (n : Nat)
  /-- R213: Once enough intake space is free, a band is placed and its DMA fetch starts. -/
  | bandFetchStart (n : Nat)
  /-- R214: A band fetch ends, the band is verified, and the fetch is retried or the band fails. -/
  | bandFetched (n : Nat) (data : List Byte) (err : Nat)
  /-- R243: Sprue starts a pass over a resident, verified band at START_OFFSET. -/
  | sprueBandStart (n : Nat)
  /-- R243: Sprue decodes one line and writes it to a free Flask slot. -/
  | sprueLine (n : Nat)
  /-- R222: A write of RCST.REQUEST requests Recast with reason 6. -/
  | rcstRequest (w : Writer) (v : Nat)
  /-- R223: At its stop boundary, a channel enters HELD without taking the boundary. -/
  | heldStop (n : Nat)
  /-- R226: The web passing P_CLEAR forward enters phase BACKUP. -/
  | recastBackup
  /-- R226: The web at or below P_BACK enters phase WAIT. -/
  | recastWait
  /-- R226: In WAIT, every ready condition except the synthesiser's holds, and phase APPROACH begins. -/
  | recastApproach
  /-- R228: The forward crossing of P_DECIDE decides GO or NO-GO. -/
  | recastDecide
  /-- R228: At the forward crossing of its B_n after GO, a channel that is still ready takes line S_n and fires
  it. -/
  | channelResume (n : Nat)
  /-- R225: Travel beyond the Reverse window raises RECAST_OVERRUN. -/
  | recastOverrun
  /-- R231: No GO within HOLD_TIMEOUT raises RECAST_FAIL and faults the held channels. -/
  | recastHoldTimeout
  /-- R231: MAX_PASSES NO-GO decisions raise RECAST_FAIL. -/
  | recastPassLimit
  /-- R246: A free compressor takes the oldest complete job of the next ring in round-robin order. -/
  | codecJobStart (u : Nat)
  /-- R252: A compressor job ends and writes its result record. -/
  | codecJobDone (u : Nat)
  /-- R253: A write of CODEC.ABORT ends the running and queued jobs of the rings it names. -/
  | codecAbort (w : Writer) (v : Nat)
  /-- R259: A full or quick DRAM training starts when PD_HUB becomes usable. -/
  | dramTraining
  /-- R259: A training ends, is stored or fails, and HUB.TRAIN_STATE is set. -/
  | dramTrainDone (ok : Bool) (result : Nat)
  /-- R260: The fill with zero data and valid check bits ends, and requests are granted. -/
  | dramFillDone
  /-- R266: A DRAM read burst returns, corrected or flagged bad. -/
  | dramReadReturn (master addr len : Nat) (errs : List (Nat × Nat))
  /-- R267: A partial write at the head of its queue reads, merges and writes the whole burst. -/
  | partialWriteMerge (master addr : Nat) (errs : List (Nat × Nat)) (data : List Byte)
  /-- R268: The scrubber reads the next burst and writes back corrected data. -/
  | scrubRead (errs : List (Nat × Nat))
  /-- R275: A refresh falls due at tREFI, unless a panic postpones it. -/
  | refreshDue (c sub : Nat) (panic : Bool)
  /-- R275: Every 16 ms MR4 is read, and the refresh rate doubles above 85 °C. -/
  | dramTempPoll (c sub : Nat) (hot : Bool)
  /-- R276: Every 128 ms ZQ calibration runs on every rank. -/
  | zqCal (c : Nat)
  /-- R276: Every OSC_PERIOD the DQS interval oscillator is read and write timing moved on drift. -/
  | dqsOscRead (c sub drift : Nat)
  /-- R278: After SR_IDLE without a request, a subchannel enters self-refresh. -/
  | srEntry (c sub : Nat)
  /-- R278: A request to a subchannel in self-refresh wakes it and is granted within 3 µs. -/
  | srExit (c sub : Nat)
  /-- R273: A write of HUB.BIASm takes effect in the age unit in which it is applied. -/
  | hubBiasWrite (w : Writer) (m v : Nat)
  /-- R281: A write of 0 to HUB.FEC_VALID re-arms the first-error capture. -/
  | hubFecRearm (w : Writer)
  /-- R283: A write of HUB.INJECT alters the next full-burst write of a DRAM channel. -/
  | hubInject (w : Writer) (v : Nat)
  /-- R285: Assertion of PERST_N resets the host interface. -/
  | perstNAssert
  /-- R285: A Function Level Reset resets the host interface. -/
  | functionLevelReset
  /-- R285: Link down without PERST_N resets the host interface. -/
  | pcieLinkDown
  /-- R309: An uncorrectable error logged in AER raises PCIE_AER. -/
  | pcieAer (status : Nat)
  /-- R287: A BAR0 or BAR4 write to a register with no row of its own is applied or discarded. -/
  | bar0Write (bar offset size v : Nat)
  /-- R288: A read of the low half of GLB_TIME latches the high half and GLB_POS. -/
  | glbTimeRead
  /-- R289: A BAR2 read reads DRAM and completes, poisoned or all-ones on error. -/
  | bar2Read (x len : Nat)
  /-- R289: A BAR2 write is posted to DRAM, and a poisoned write is discarded. -/
  | bar2Write (x : Nat) (data : List Byte) (poisoned : Bool)
  /-- R290: A write of MBX_REQ_LEN submits the mailbox request and sets REQ_BUSY. -/
  | mbxSubmit (len : Nat)
  /-- R290: A write of MBX_RSP_ACK clears RSP_READY. -/
  | mbxRspAck
  /-- R291: A write setting ENABLE from 0 to 1 resets RING_PROD and RING_CONS. -/
  | ringEnable (k v : Nat)
  /-- R291: A write clearing ENABLE stops the ring at once. -/
  | ringDisable (k : Nat)
  /-- R292: A doorbell carries the host's producer or consumer count. -/
  | ringDb (k v : Nat)
  /-- R293: A host-to-device entry read completes and RING_CONS advances. -/
  | ringEntryRead (k : Nat) (data : List Byte) (err : Nat)
  /-- R296: The moderation count or timer of a ring is reached, and its vector is signalled. -/
  | ringInterruptDue (k : Nat)
  /-- R296: Unmasking a vector with its pending bit set delivers the message. -/
  | msixUnmask (v : Nat)
  /-- R298: START fetches the descriptor at DMA_HEAD and clears the counts. -/
  | dmaStart (c : Nat)
  /-- R298: STOP ends the current descriptor at its next 64-byte boundary. -/
  | dmaStop (c : Nat)
  /-- R298: RESET enters IDLE, clears the kick latch and re-arms the capture. -/
  | dmaReset (c : Nat)
  /-- R298: A write of DMA_HEAD sets the first descriptor address. -/
  | dmaHeadWrite (c v : Nat)
  /-- R304: A kick latches, or in AT_END re-reads the tail's LINK at once. -/
  | dmaKick (c : Nat)
  /-- R304: A descriptor fetch completes, and its LINK is followed unless END is set. -/
  | dmaDescFetched (c : Nat) (desc : List Byte) (err : Nat)
  /-- R304: A LINK re-read completes and continues the chain or returns to AT_END. -/
  | dmaLinkReread (c link err : Nat)
  /-- R302: The half point of a descriptor completes and a HALF record is written. -/
  | dmaHalfPoint (c : Nat) (data : List Byte)
  /-- R302: A descriptor completes, a FULL record is written, and the channel goes on or enters AT_END. -/
  | dmaDescDone (c : Nat) (data : List Byte)
  /-- R298: The writes of a stopped channel complete, and it enters IDLE and writes STOPPED. -/
  | dmaStopped (c upTo : Nat) (data : List Byte)
  /-- R306: A failed access or format error halts the channel and is captured. -/
  | dmaError (c kind typ addr : Nat)
  /-- R333: A complete WOP request is checked for sequence and length, and its items are executed in order. -/
  | wopRequest (transport addr : Nat) (msg : List Byte)
  /-- R336: A UDP datagram or fragment arrives on port 47250 and is reassembled into a message. -/
  | udpDatagram (p addr ident fragOffset : Nat) (more : Bool) (payload : List Byte)
  /-- R336: A reassembly not complete within 100 ms is discarded. -/
  | reassemblyTimeout
  /-- R336: An ARP request for the port's address is answered. -/
  | arpRequest (p ip : Nat)
  /-- R336: An ICMP echo request is answered. -/
  | icmpEcho (p ip : Nat) (payload : List Byte)
  /-- R338: A CAN FD frame on REQ_ID adds one segment to the open message. -/
  | canFrame (c id : Nat) (fd : Bool) (data : List Byte)
  /-- R338: More than SEG_TIMEOUT between frames discards the open message. -/
  | segTimeout (c : Nat)
  /-- R337: Bus-off is recovered by the standard's rule and counted. -/
  | canBusOff (c : Nat)
  /-- R318: A write of 1 to CHn.COMMIT commits channel scope n at its next line boundary. -/
  | chCommit (w : Writer) (n : Nat)
  /-- R318: A write of 1 to DEV.COMMIT commits the device scope and every channel scope. -/
  | devCommitNow (w : Writer)
  /-- R318: A write of 2 to DEV.COMMIT marks the scopes for the next Quadrille COMMIT step. -/
  | devCommitStep (w : Writer)
  /-- R322: A write of DEV.LOCKk.ACQUIRE takes or refreshes lock k, or answers LOCKED. -/
  | lockAcquire (w : Writer) (k : Nat)
  /-- R322: A write of DEV.LOCKk.RELEASE by the owner frees the lock. -/
  | lockRelease (w : Writer) (k : Nat)
  /-- R324: A lease that runs out orphans the lock and discards its withheld values. -/
  | lockLeaseExpiry (k : Nat)
  /-- R325: Operation 1 saves the settings groups to the NOR. -/
  | store (w : Writer)
  /-- R325: Operation 2 returns non-privileged objects to their defaults and discards staged values. -/
  | restoreDefaults (w : Writer)
  /-- R469: Operation 3 checks the staged firmware image. -/
  | imageVerify (w : Writer)
  /-- R470: Operation 4 writes the verified image into the slot that is not running and marks it TRIAL. -/
  | imageCommit (w : Writer)
  /-- R261: Operation 5 retrains every rank and preserves DRAM contents. -/
  | dramRetrain (w : Writer)
  /-- R327: A long operation ends, and its result and an audit entry are written. -/
  | opEnd (ok : Bool) (detail : Nat)
  /-- R327: An operation still running at its maximum duration is ended with result 3. -/
  | opTimeout
  /-- R342: A write of PROF.TARGETa points an alias at a target object. -/
  | profTargetWrite (w : Writer) (a v : Nat)
  /-- R355: A write of 1 to LOOP.SLOTs.ENABLE checks load, lanes and destination and starts the slot. -/
  | slotEnable (w : Writer) (s : Nat)
  /-- R362: A write of 0 stops the slot after any sample in progress, holding its outputs. -/
  | slotDisable (w : Writer) (s : Nat)
  /-- R352: Device time reaching a period instant triggers a slot sample. -/
  | loopPeriodTrigger (s : Nat)
  /-- R349: A waiting sample runs earliest deadline first and computes every lane. -/
  | loopSampleRun
  /-- R354: A sample not begun by its deadline is discarded and counted as a miss. -/
  | loopDeadlineMiss (s : Nat)
  /-- R360: A tone-gain output starts writing the idle bank of each channel in its mask. -/
  | loopToneWrite (s : Nat)
  /-- R360: The tone-bank write completes and COPYING clears. -/
  | loopToneWriteDone (s : Nat)
  /-- R360: A refused write is retried with the latest outputs once the bank is idle. -/
  | loopPendingWrite (s : Nat)
  /-- R356: A write of LOOP.SLOTs.BANK_SWAP swaps coefficient banks at the next sample. -/
  | bankSwap (w : Writer) (s : Nat)
  /-- R357: A write of LOOP.SLOTs.PRESET sets the integrator at the next sample. -/
  | preset (w : Writer) (s v : Nat)
  /-- R368: A write of 1 to MEASj.PUBLISH triggers the slots in mode 4. -/
  | publish (w : Writer) (j : Nat)
  /-- R364: Device time at a multiple of SEQq.PERIOD starts the AIN sequence. -/
  | ainSeqPeriod (q : Nat)
  /-- R364: An AIN sequence completes, writes RESULT and triggers the slots in mode 3. -/
  | ainSeqDone (q : Nat) (codes : List Nat)
  /-- R367: A write of LOOP.GPIO_OUT changes the output pins not owned by Recast. -/
  | gpioOutWrite (w : Writer) (v : Nat)
  /-- R374: A write of TIME.SET steps device time, only in STANDBY or READY. -/
  | timeSet (w : Writer) (v : Nat)
  /-- R380: A received Sync updates the servo offset, and slews or steps device time. -/
  | ptpSyncRx (p : Nat) (m : PtpMsg)
  /-- R378: A Follow_Up completes a two-step Sync. -/
  | ptpFollowUpRx (p : Nat) (m : PtpMsg)
  /-- R380: A Delay_Resp updates the mean path delay. -/
  | ptpDelayRespRx (p : Nat) (m : PtpMsg)
  /-- R378: As master, a Delay_Req is answered with a Delay_Resp. -/
  | ptpDelayReqRx (p : Nat) (m : PtpMsg)
  /-- R378: An Announce feeds the best master clock algorithm. -/
  | ptpAnnounceRx (p : Nat) (m : PtpMsg)
  /-- R378: As master, a Sync and Follow_Up are sent each sync interval. -/
  | ptpSyncTx (p : Nat)
  /-- R378: As slave, a Delay_Req is sent each delay-request interval. -/
  | ptpDelayReqTx (p : Nat)
  /-- R378: As master, an Announce is sent each announce interval. -/
  | ptpAnnounceTx (p : Nat)
  /-- R382: No Announce for announceReceiptTimeout intervals changes the port state. -/
  | ptpAnnounceTimeout (p : Nat)
  /-- R380: No Sync for VALID_HOLD while not MASTER clears TIME_VALID. -/
  | timeValidHold
  /-- R390: Once its conditions hold, device time is snapped to the grid at a comparison edge. -/
  | timeSnap
  /-- R390: A coast longer than COAST_KEEP clears SNAPPED and raises TIME_SNAP_LOST. -/
  | timeSnapLost
  /-- R387: A reference valid for 100 µs starts a lock, with the band search if needed. -/
  | alignAcquire (phase : Int)
  /-- R387: A phase error within 20 ps for LOCK_TIME enters LOCKED. -/
  | alignLocked
  /-- R384: Every 1,024 comparisons, the delay line moves by at most one fine code. -/
  | alignCorrection (phase : Int)
  /-- R389: Loss of a valid reference enters COAST and freezes the delay line. -/
  | alignRefLost (reason : Nat)
  /-- R389: A coast beyond COAST_LIMIT with a channel active raises ALIGN_COAST_LIMIT. -/
  | alignCoastLimit
  /-- R393: A SYNC proposal makes a step with no action. -/
  | qdSync (w : Writer)
  /-- R393: A RAIL proposal moves the rail sequencer to the target at the rise. -/
  | qdRail (w : Writer) (target : Nat)
  /-- R393: An ARM proposal issues CMD 2 on the channels of ARM_MASK at the rise. -/
  | qdArm (w : Writer)
  /-- R393: A START proposal moves an ARMED device to PRINTING at the rise. -/
  | qdStart (w : Writer)
  /-- R393: A RECAST_REQ proposal requests Recast with reason 7 on every other device. -/
  | qdRecastReq
  /-- R393: A RECAST_GO proposal arms GO at the rise. -/
  | qdRecastGo
  /-- R393: A STOP proposal issues CMD 4 on the channels of ARM_MASK at the rise. -/
  | qdStop (w : Writer)
  /-- R393: A COMMIT proposal applies the marked scopes at the rise. -/
  | qdCommit (w : Writer)
  /-- R394: A filtered fall of QUAD_LINE latches T_FALL and P_FALL, and the device holds the line. -/
  | qdLineFall
  /-- R395: A step record from a peer is taken, and the device decides and releases the line when R397 holds. -/
  | qdRecord (p : Nat) (payload : List Byte)
  /-- R394: Every QD.REPEAT while holding, the step record is multicast again. -/
  | qdRepeat
  /-- R394: The filtered rise of QUAD_LINE is the step instant, and every device performs the winning action. -/
  | qdLineRise
  /-- R398: No release within STEP_TIMEOUT raises QD_STEP_FAIL or QD_LINE_STUCK and takes SYNC. -/
  | qdStepTimeout
  /-- R406: The condition of an active fault ends and event 2 is recorded. -/
  | faultConditionEnd (id : Nat)
  /-- R413: After FLT.QUIET with no holding fault, a faulted channel or device recovers. -/
  | scopeRecover (scope : Nat)
  /-- R414: A write of 1 to FLT.CLEAR releases every faulted scope not held by an active fault. -/
  | fltClear (w : Writer)
  /-- R409: A write of FLT.SEL_CLASS sets the class of the selected fault from its next raise. -/
  | fltSelClassWrite (w : Writer) (v : Nat)
  /-- R409: A write of FLT.SEL_STICKY_CLEAR clears the selected fault's sticky bit. -/
  | selStickyClear (w : Writer)
  /-- R407: A write of FLT.STICKY_CLEAR_ALL clears every sticky bit. -/
  | stickyClearAll (w : Writer)
  /-- R416: A write of 1 to FLT.TRIP raises MANUAL_SAFE. -/
  | manualSafe (w : Writer)
  /-- R415: A write of 0 to FLT.FEC_VALID re-arms the configuration-bus capture. -/
  | fltFecRearm (w : Writer)
  /-- R415: A configuration-bus timeout, parity error or undecoded address is captured and raises BUS_ERROR. -/
  | busError (kind addr master typ : Nat)
  /-- R416: An uncorrectable supervisor SRAM word raises SUP_SRAM_UE. -/
  | supSramUe (addr : Nat)
  /-- R412: No watchdog refresh for 10 ms raises SUP_WATCHDOG. -/
  | supWatchdog
  /-- R416: The hottest die sensor reaching DIE_WARN raises DIE_HOT. -/
  | dieHot (sensor t : Nat)
  /-- R416: The hottest die sensor reaching DIE_CRIT raises DIE_CRIT. -/
  | dieCrit (sensor t : Nat)
  /-- R416: VAON below VAON_MIN for 100 µs raises VAON_LOW. -/
  | vaonLow (mv : Nat)
  /-- R421: A write of RAIL.TARGET sets the state toward which the sequencer steps. -/
  | railTargetWrite (w : Writer) (v : Nat)
  /-- R418: A rail of the group in step becomes good, and the next group or SETTLE follows. -/
  | railGood (r : Nat)
  /-- R418: A rail becomes discharged, letting step_up assert or step_down continue. -/
  | railDischarged (r : Nat)
  /-- R419: ON_DELAY after enable expires for a rail of the group. -/
  | railOnDelay (r : Nat)
  /-- R419: SETTLE of a state expires and RAIL.STATE is entered. -/
  | railSettleDone
  /-- R419: A rail not good or not discharged by ON_TIMEOUT fails the step_up. -/
  | railOnTimeout (r : Nat)
  /-- R419: A rail not discharged by OFF_TIMEOUT raises RAIL_OFF_TIMEOUT and the step continues. -/
  | railOffTimeout (r : Nat)
  /-- R420: A rail that is on and not good for GLITCH µs raises RAIL_LOST and moves the state down. -/
  | railLost (r : Nat)
  /-- R426: A log record program or sector erase in the SPI NOR completes. -/
  | railLogProgramDone (ok : Bool)
  /-- R429: RESET_N low holds the device in reset. -/
  | resetNAssert
  /-- R429: A supply outside its range for 2 µs puts the device into reset. -/
  | supplyOutOfRange
  /-- R430: A write of 0x5253 to DEV.RESET resets the device after the response. -/
  | devResetWrite (w : Writer) (v : Nat)
  /-- R432: 1 ms after the reset conditions end, BOOT starts and the boot runs its steps. -/
  | resetEnd
  /-- R432: After the fill, the device enters DEV.BOOT_STATE, FAULT_ALIVE starts and QUAD_LINE is released. -/
  | bootComplete
  /-- R437: A write of 2 to DEV.STATE_REQ moves READY to STANDBY. -/
  | stateReqStandby (w : Writer)
  /-- R437: A write of 3 to DEV.STATE_REQ moves STANDBY to READY and applies DEV.MARK_MODE. -/
  | stateReqReady (w : Writer)
  /-- R437: A write of 5 to DEV.STATE_REQ moves ARMED to PRINTING on a single-device press. -/
  | stateReqPrinting (w : Writer)
  /-- R468: A write of FW.IMAGE stages one 4,096-byte block of a firmware image. -/
  | fwImageWrite (w : Writer) (offset : Nat) (data : List Byte)
  /-- R472: A write of 1 to FW.CONFIRM confirms the TRIAL slot, applies REVOKE and lifts the freeze. -/
  | fwConfirm (w : Writer)
  /-- R31: A raw pulse on ENCn_A, ENCn_B or ENCn_Z shorter than ENCn.FILTER + 1 samples ends without being
  accepted and increments ENCn.GLITCHES. -/
  | encRawPulse (n : Nat)
  /-- R165: In training step 5 the controller sends the next of its 16 ECHO_REQ blocks, one every 10 µs. -/
  | echoReqDue (m : Nat)
  /-- R151: The last block of a line frame leaves on its lane, and FIRE blocks waiting for that frame may now be
  sent. -/
  | lineFrameComplete (m : Nat)
  /-- R284: After PERST_N is released or PD_PCIE comes on, the PCIe link trains, the endpoint leaves Retry Status
  and PCIE.LINK_GEN, PCIE.LINK_WIDTH and DEV.ADM_HOST_LINK are set. -/
  | pcieLinkUp (gen width : Nat)
  /-- R345: The SGMII link of an Ethernet port goes up or down, and WOP.ETHp.LINK follows. -/
  | ethLinkChange (p : Nat) (up : Bool)
  /-- R363: A background conversion of the AIN scan or of a rail input completes every 250 ns and updates
  LOOP.AIN_VALUE and the rail voltage readings. -/
  | ainScanConversion (input code : Nat)
deriving DecidableEq, Repr

end Sys2Proof
end

