-- ==== Sys2Proof/Decode.lean ====
section
/-! DEFINITION. Sys2Proof/Decode.lean: the decoder of the table's words. No row of spec/opcode_table.json gives bits: the
block takes its commands as events and messages, and spells none as a word. -/

namespace Sys2Proof

/-- The command that a word spells by the bits of the opcode table: none, for no row has bits. -/
def decodeTableWord (_nbits _w : Nat) : Option Instr := none

end Sys2Proof
end

