-- ==== Sys2Proof/Config.lean ====
section
/-! DEFINITION. Sys2Proof/Config.lean: the values the spec leaves open, and what one implementation fixes. Each is an
opaque constant without a body: no proof can see a value, so a claim that holds, holds whatever the value is. -/

namespace Sys2Proof.Config

/-- A fresh free value: the n-th undefined value the device produces (log 4). -/
opaque free (n : Nat) : Nat

/-- Whether a quotient whose rounding the spec does not state is rounded up (log 5). -/
opaque roundUp (num : Int) (den : Nat) : Nat

/-- How far the held kp of R62 lies above the smallest value that 24 significant bits allow (log 6). -/
opaque kpSkew (bandwidth damping : Nat) : Nat

/-- How far the held ki of R62 lies above the smallest value that 24 significant bits allow (log 6). -/
opaque kiSkew (bandwidth : Nat) : Nat

/-- The code field of a record to which no chapter gives a code, by source (log 7). -/
opaque recordCode (source : Nat) : Nat

/-- The value of an identity object that is fused into each device, by object key (log 10). -/
opaque identity (key : Nat) : Nat

/-- The rate correction, in parts per billion, that the PTP servo forms of R380 from an offset (2^-16 ns), the time constant
and the correction so far; the rule gives the form of the servo and no coefficients
(log 63). -/
opaque servo (offset : Int) (tc : Nat) (old : Int) : Int

/-- Whether an ECDSA P-256 signature over a SHA-256 digest verifies with key k of the boot ROM (R465, R466); the spec gives
no key (log 13). -/
opaque signatureOk (k digest signature : Nat) : Bool

/-- The RAAIMT of the DRAM devices where their MR58 requires refresh management (R277): a property of the devices fitted
(log 92). -/
opaque raaimt : Option Nat

end Sys2Proof.Config
end

