-- ==== Sys2Proof/Machine/Bits.lean ====
section
/-! DEFINITION. Sys2Proof/Machine/Bits.lean: bit fields, two's complement, byte order and the sparse map that holds the
objects and the memories of the machine. -/

namespace Sys2Proof.Machine

/-- Bits hi to lo of a word. -/
def field (v hi lo : Nat) : Nat := (v >>> lo) % 2 ^ (hi + 1 - lo)

/-- Bit i of a word as 0 or 1. -/
def bitN (v i : Nat) : Nat := (v >>> i) % 2

/-- A Boolean as 0 or 1. -/
def b2n (b : Bool) : Nat := if b then 1 else 0

/-- A word with bit i set to b. -/
def setBit (v i : Nat) (b : Bool) : Nat :=
  if v.testBit i then (if b then v else v - 2 ^ i) else (if b then v + 2 ^ i else v)

/-- The number of set bits among the low w bits. -/
def popcount (w v : Nat) : Nat := (List.range w).foldl (fun (a : Nat) (i : Nat) => a + bitN v i) 0

/-- The bit numbers below w that are set in v, ascending. -/
def bitsOf (w v : Nat) : List Nat := (List.range w).filter fun (i : Nat) => v.testBit i

/-- The integer that the low w bits of v stand for in two's complement (R312). -/
def signed (w v : Nat) : Int :=
  if v % 2 ^ w < 2 ^ (w - 1) then ((v % 2 ^ w : Nat) : Int) else ((v % 2 ^ w : Nat) : Int) - ((2 ^ w : Nat) : Int)

/-- The low w bits of an integer in two's complement. -/
def unsigned (w : Nat) (i : Int) : Nat := (i % ((2 ^ w : Nat) : Int)).toNat

/-- An integer held between two bounds. -/
def clampI (lo hi i : Int) : Int := if i < lo then lo else if hi < i then hi else i

/-- The value saturated at the largest w-bit number. -/
def satU (w v : Nat) : Nat := if v < 2 ^ w then v else 2 ^ w - 1

/-- The integer saturated to the w-bit two's complement range, as a word. -/
def satS (w : Nat) (i : Int) : Nat :=
  unsigned w (clampI (-((2 ^ (w - 1) : Nat) : Int)) (((2 ^ (w - 1) : Nat) : Int) - 1) i)

/-- Quotient rounded up. -/
def ceilDiv (a b : Nat) : Nat := (a + b - 1) / b

/-- Quotient of integers rounded to the nearest, halves away from zero. -/
def roundDiv (a : Int) (b : Nat) : Int :=
  if 0 ≤ a then (2 * a + b) / (2 * (b : Int)) else -((2 * (-a) + b) / (2 * (b : Int)))

/-- The n low bytes of a word, least significant first (R10). -/
def bytesLE : Nat → Nat → List Byte
  | 0, _ => []
  | n + 1, v => BitVec.ofNat 8 v :: bytesLE n (v / 256)

/-- The n low bytes of a word, most significant first (R10, the network). -/
def bytesBE (n v : Nat) : List Byte := (bytesLE n v).reverse

/-- The number that bytes spell, least significant first. -/
def natLE : List Byte → Nat
  | [] => 0
  | b :: r => b.toNat + 256 * natLE r

/-- The number that bytes spell, most significant first. -/
def natBE (l : List Byte) : Nat := natLE l.reverse

/-- The len bytes of a string from offset off, fewer at its end. -/
def slice (l : List Byte) (off len : Nat) : List Byte := (l.drop off).take len

/-- The little-endian number in len bytes from offset off. -/
def leAt (l : List Byte) (off len : Nat) : Nat := natLE (slice l off len)

/-- The big-endian number in len bytes from offset off. -/
def beAt (l : List Byte) (off len : Nat) : Nat := natBE (slice l off len)

/-- A byte string held as a little-endian number, with len bytes from offset off replaced by those of v. -/
def spliceLE (whole off len v : Nat) : Nat :=
  whole % 256 ^ off + (v % 256 ^ len) * 256 ^ off + (whole / 256 ^ (off + len)) * 256 ^ (off + len)

/-- Element i of w bits of a byte string held as a little-endian number. -/
def elemAt (w whole i : Nat) : Nat := (whole >>> (w * i)) % 2 ^ w

/-- The string with element i of w bits replaced. -/
def setElem (w whole i v : Nat) : Nat :=
  whole % 2 ^ (w * i) + (v % 2 ^ w) * 2 ^ (w * i) + (whole / 2 ^ (w * (i + 1))) * 2 ^ (w * (i + 1))

/-- The bytes padded with zeros, or cut, to n bytes. -/
def padTo (n : Nat) (l : List Byte) : List Byte := l.take n ++ List.replicate (n - l.length) 0#8

/-! ### CRC -/

/-- One step of the reflected CRC-32 (polynomial 0xEDB8_8320), as R147 uses it. -/
def crc32Step (c : Nat) : Nat := if c % 2 = 1 then (c / 2) ^^^ 0xEDB88320 else c / 2

/-- A value after n applications of a step. -/
def iter {α : Type} (f : α → α) : Nat → α → α
  | 0, a => a
  | n + 1, a => iter f n (f a)

/-- CRC-32 register after one byte. -/
def crc32Byte (c : Nat) (b : Byte) : Nat := iter crc32Step 8 (c ^^^ b.toNat)

/-- CRC-32 register after bytes, from a given register. -/
def crc32Fold (c : Nat) (l : List Byte) : Nat := l.foldl crc32Byte c

/-- The CRC-32 of a byte string (R147). -/
def crc32 (l : List Byte) : Nat := crc32Fold 0xFFFFFFFF l ^^^ 0xFFFFFFFF

/-- A CRC of w bits, most significant bit first, over the nbits of v, from register init. -/
def crcMsb (w poly init : Nat) : Nat → Nat → Nat
  | 0, _ => init
  | n + 1, v =>
    let c := crcMsb w poly init n (v / 2)
    let top := (c >>> (w - 1)) % 2 ^^^ v % 2
    let s := (c * 2) % 2 ^ w
    if top = 1 then s ^^^ poly else s

/-- The CRC-8 of a byte string (R143, R236): poly 0x07 from 0xFF, bytes in order, each from its bit 7 down. -/
def crc8 (l : List Byte) : Nat := crcMsb 8 0x07 0xFF (8 * l.length) (natBE l)

/-! ### The sparse map -/

/-- The value at a key, or the default where the key is not listed. -/
def sget {α : Type} (d : α) : List (Nat × α) → Nat → α
  | [], _ => d
  | (k, v) :: r, a => if a = k then v else sget d r a

/-- The map with a key inserted before the first larger one. -/
def sins {α : Type} (a : Nat) (v : α) : List (Nat × α) → List (Nat × α)
  | [] => [(a, v)]
  | (k, w) :: r => if a < k then (a, v) :: (k, w) :: r else (k, w) :: sins a v r

/-- The map with a value put at a key; the default is never listed, so equal maps are equal lists. -/
def sput {α : Type} [DecidableEq α] (d : α) (m : List (Nat × α)) (a : Nat) (v : α) : List (Nat × α) :=
  let r := m.filter fun (p : Nat × α) => p.1 != a
  if v = d then r else sins a v r

/-- The map after a run of consecutive keys from a takes the values of a list. -/
def sputs {α : Type} [DecidableEq α] (d : α) (m : List (Nat × α)) (a : Nat) : List α → List (Nat × α)
  | [] => m
  | v :: r => sputs d (sput d m a v) (a + 1) r

/-- The values at n consecutive keys from a. -/
def sgets {α : Type} (d : α) (m : List (Nat × α)) (a n : Nat) : List α :=
  (List.range n).map fun (i : Nat) => sget d m (a + i)

/-- A map holds its canonical form: keys strictly ascending, no default listed. -/
def swf {α : Type} [DecidableEq α] (d : α) : List (Nat × α) → Bool
  | [] => true
  | [(_, v)] => decide (v ≠ d)
  | (k, v) :: (k', v') :: r => decide (v ≠ d) && decide (k < k') && swf d ((k', v') :: r)

/-- An ascending list of numbers with a inserted once: a set of marks. -/
def markIns (a : Nat) : List Nat → List Nat
  | [] => [a]
  | k :: r => if a < k then a :: k :: r else if a = k then k :: r else k :: markIns a r

/-- The set of marks without a. -/
def markDel (a : Nat) (l : List Nat) : List Nat := l.filter fun (k : Nat) => k != a

end Sys2Proof.Machine
end

