-- ==== Sys2Proof/Machine/Keys.lean ====
section
/-! DEFINITION. Sys2Proof/Machine/Keys.lean: the name of every object of the dictionary that holds a value (R311,
R312). An object is named by its index and sub-index; `Obj.key` is index times 256 plus sub-index. Each definition
carries the size of the object in bytes and the default its table gives. A default the tables give as a dash is 0
here (DESIGN CHOICE, log 10). -/

namespace Sys2Proof.Machine

/-- The name of one object: its key, its size in bytes, and the value it holds until something writes it. -/
structure Obj where
  key : Nat
  bytes : Nat
  dflt : Nat
deriving DecidableEq, Repr

namespace K

/-! ### Objects of spec/01_architecture.md, R27 -/

/-- `DEV.PD_ENABLE` -/
def devPdEnable : Obj := ⟨(0x0210) * 256 + 1, 4, 0x1ffff⟩
/-- `DEV.PD_STATUS` -/
def devPdStatus : Obj := ⟨(0x0210) * 256 + 2, 4, 0⟩
/-! ### Objects of spec/02_position_feedback.md, R59 -/

/-- `ENCn.SOURCE` -/
def encSource (n : Nat) : Obj := ⟨(0x0B10 + n) * 256 + 1, 1, 0⟩
/-- `ENCn.FILTER` -/
def encFilter (n : Nat) : Obj := ⟨(0x0B10 + n) * 256 + 2, 1, 2⟩
/-- `ENCn.INVERT` -/
def encInvert (n : Nat) : Obj := ⟨(0x0B10 + n) * 256 + 3, 1, 0⟩
/-- `ENCn.COUNT` -/
def encCount (n : Nat) : Obj := ⟨(0x0B10 + n) * 256 + 4, 8, 0⟩
/-- `ENCn.PRESET` -/
def encPreset (n : Nat) : Obj := ⟨(0x0B10 + n) * 256 + 5, 8, 0⟩
/-- `ENCn.STATUS` -/
def encStatus (n : Nat) : Obj := ⟨(0x0B10 + n) * 256 + 6, 2, 0⟩
/-- `ENCn.INDEX_MODE` -/
def encIndexMode (n : Nat) : Obj := ⟨(0x0B10 + n) * 256 + 7, 1, 0⟩
/-- `ENCn.INDEX_PERIOD` -/
def encIndexPeriod (n : Nat) : Obj := ⟨(0x0B10 + n) * 256 + 8, 4, 0⟩
/-- `ENCn.INDEX_PHASE` -/
def encIndexPhase (n : Nat) : Obj := ⟨(0x0B10 + n) * 256 + 9, 4, 0⟩
/-- `ENCn.INDEX_TOL` -/
def encIndexTol (n : Nat) : Obj := ⟨(0x0B10 + n) * 256 + 10, 2, 4⟩
/-- `ENCn.INDEX_GATE` -/
def encIndexGate (n : Nat) : Obj := ⟨(0x0B10 + n) * 256 + 11, 1, 0⟩
/-- `ENCn.DOUBLE_LIMIT` -/
def encDoubleLimit (n : Nat) : Obj := ⟨(0x0B10 + n) * 256 + 12, 1, 4⟩
/-- `ENCn.DOUBLE_EDGES` -/
def encDoubleEdges (n : Nat) : Obj := ⟨(0x0B10 + n) * 256 + 13, 4, 0⟩
/-- `ENCn.INDEX_MISMATCHES` -/
def encIndexMismatches (n : Nat) : Obj := ⟨(0x0B10 + n) * 256 + 14, 4, 0⟩
/-- `ENCn.INDEX_DISCARDS` -/
def encIndexDiscards (n : Nat) : Obj := ⟨(0x0B10 + n) * 256 + 15, 4, 0⟩
/-- `ENCn.LAST_INDEX_OFFSET` -/
def encLastIndexOffset (n : Nat) : Obj := ⟨(0x0B10 + n) * 256 + 16, 4, 0⟩
/-- `ENCn.GLITCHES` -/
def encGlitches (n : Nat) : Obj := ⟨(0x0B10 + n) * 256 + 17, 4, 0⟩
/-- `ENCn.VELOCITY` -/
def encVelocity (n : Nat) : Obj := ⟨(0x0B10 + n) * 256 + 18, 4, 0⟩
/-- `ENCn.DELAY_COMP` -/
def encDelayComp (n : Nat) : Obj := ⟨(0x0B10 + n) * 256 + 19, 2, 0⟩
/-- `ENCn.REHOME` -/
def encRehome (n : Nat) : Obj := ⟨(0x0B10 + n) * 256 + 20, 1, 0⟩
/-- `SPOSn.ENABLE` -/
def sposEnable (n : Nat) : Obj := ⟨(0x0B20 + n) * 256 + 1, 1, 0⟩
/-- `SPOSn.CLK_FREQ` -/
def sposClkFreq (n : Nat) : Obj := ⟨(0x0B20 + n) * 256 + 2, 4, 0x989680⟩
/-- `SPOSn.POS_BITS` -/
def sposPosBits (n : Nat) : Obj := ⟨(0x0B20 + n) * 256 + 3, 1, 26⟩
/-- `SPOSn.STATUS_BITS` -/
def sposStatusBits (n : Nat) : Obj := ⟨(0x0B20 + n) * 256 + 4, 1, 2⟩
/-- `SPOSn.CRC_SEL` -/
def sposCrcSel (n : Nat) : Obj := ⟨(0x0B20 + n) * 256 + 5, 1, 2⟩
/-- `SPOSn.CRC_INIT` -/
def sposCrcInit (n : Nat) : Obj := ⟨(0x0B20 + n) * 256 + 6, 2, 0⟩
/-- `SPOSn.CRC_INVERT` -/
def sposCrcInvert (n : Nat) : Obj := ⟨(0x0B20 + n) * 256 + 7, 1, 1⟩
/-- `SPOSn.PERIOD` -/
def sposPeriod (n : Nat) : Obj := ⟨(0x0B20 + n) * 256 + 8, 4, 0x4e20⟩
/-- `SPOSn.START_TIMEOUT` -/
def sposStartTimeout (n : Nat) : Obj := ⟨(0x0B20 + n) * 256 + 9, 1, 20⟩
/-- `SPOSn.WORD_TIMEOUT` -/
def sposWordTimeout (n : Nat) : Obj := ⟨(0x0B20 + n) * 256 + 10, 4, 0x3a98⟩
/-- `SPOSn.ERROR_LIMIT` -/
def sposErrorLimit (n : Nat) : Obj := ⟨(0x0B20 + n) * 256 + 11, 1, 3⟩
/-- `SPOSn.MAX_STEP` -/
def sposMaxStep (n : Nat) : Obj := ⟨(0x0B20 + n) * 256 + 12, 4, 0⟩
/-- `SPOSn.ALARM_MASK` -/
def sposAlarmMask (n : Nat) : Obj := ⟨(0x0B20 + n) * 256 + 13, 1, 0⟩
/-- `SPOSn.ALARM_LEVEL` -/
def sposAlarmLevel (n : Nat) : Obj := ⟨(0x0B20 + n) * 256 + 14, 1, 0⟩
/-- `SPOSn.RAW` -/
def sposRaw (n : Nat) : Obj := ⟨(0x0B20 + n) * 256 + 15, 8, 0⟩
/-- `SPOSn.WORD_STATUS` -/
def sposWordStatus (n : Nat) : Obj := ⟨(0x0B20 + n) * 256 + 16, 1, 0⟩
/-- `SPOSn.LINE_DELAY` -/
def sposLineDelay (n : Nat) : Obj := ⟨(0x0B20 + n) * 256 + 17, 2, 0⟩
/-- `SPOSn.CRC_ERRORS` -/
def sposCrcErrors (n : Nat) : Obj := ⟨(0x0B20 + n) * 256 + 18, 4, 0⟩
/-- `SPOSn.TIMEOUTS` -/
def sposTimeouts (n : Nat) : Obj := ⟨(0x0B20 + n) * 256 + 19, 4, 0⟩
/-- `PASSn.MODE` -/
def passMode (n : Nat) : Obj := ⟨(0x0B30 + n) * 256 + 1, 1, 0⟩
/-- `PASSn.SOURCE` -/
def passSource (n : Nat) : Obj := ⟨(0x0B30 + n) * 256 + 2, 1, 0⟩
/-- `PASSn.Z_PERIOD` -/
def passZPeriod (n : Nat) : Obj := ⟨(0x0B30 + n) * 256 + 3, 4, 0⟩
/-- `PASSn.MAX_RATE` -/
def passMaxRate (n : Nat) : Obj := ⟨(0x0B30 + n) * 256 + 4, 4, 0x2faf080⟩
/-- `PASSn.OVERRUNS` -/
def passOverruns (n : Nat) : Obj := ⟨(0x0B30 + n) * 256 + 5, 4, 0⟩
/-- `CMPn.MODE` -/
def cmpMode (n : Nat) : Obj := ⟨(0x0B40 + n) * 256 + 1, 1, 0⟩
/-- `CMPn.CLOCK` -/
def cmpClock (n : Nat) : Obj := ⟨(0x0B40 + n) * 256 + 2, 1, 0⟩
/-- `CMPn.START` -/
def cmpStart (n : Nat) : Obj := ⟨(0x0B40 + n) * 256 + 3, 6, 0⟩
/-- `CMPn.PITCH` -/
def cmpPitch (n : Nat) : Obj := ⟨(0x0B40 + n) * 256 + 4, 4, 0x100⟩
/-- `CMPn.PITCH_FRAC` -/
def cmpPitchFrac (n : Nat) : Obj := ⟨(0x0B40 + n) * 256 + 5, 2, 0⟩
/-- `CMPn.COUNT` -/
def cmpCount (n : Nat) : Obj := ⟨(0x0B40 + n) * 256 + 6, 4, 0⟩
/-- `CMPn.WIDTH` -/
def cmpWidth (n : Nat) : Obj := ⟨(0x0B40 + n) * 256 + 7, 4, 0x3e8⟩
/-- `CMPn.POLARITY` -/
def cmpPolarity (n : Nat) : Obj := ⟨(0x0B40 + n) * 256 + 8, 1, 0⟩
/-- `CMPn.DIR` -/
def cmpDir (n : Nat) : Obj := ⟨(0x0B40 + n) * 256 + 9, 1, 0⟩
/-- `CMPn.LIST_FIRST` -/
def cmpListFirst (n : Nat) : Obj := ⟨(0x0B40 + n) * 256 + 10, 2, 0⟩
/-- `CMPn.LIST_LAST` -/
def cmpListLast (n : Nat) : Obj := ⟨(0x0B40 + n) * 256 + 11, 2, 0⟩
/-- `CMPn.LIST_REPEAT` -/
def cmpListRepeat (n : Nat) : Obj := ⟨(0x0B40 + n) * 256 + 12, 6, 0⟩
/-- `CMPn.ARM` -/
def cmpArm (n : Nat) : Obj := ⟨(0x0B40 + n) * 256 + 13, 1, 0⟩
/-- `CMPn.FIRED` -/
def cmpFired (n : Nat) : Obj := ⟨(0x0B40 + n) * 256 + 14, 4, 0⟩
/-- `CMPn.MERGED` -/
def cmpMerged (n : Nat) : Obj := ⟨(0x0B40 + n) * 256 + 15, 4, 0⟩
/-- `CMPn.NEXT` -/
def cmpNext (n : Nat) : Obj := ⟨(0x0B40 + n) * 256 + 16, 6, 0⟩
/-- `CMPn.CAPT_EDGE` -/
def cmpCaptEdge (n : Nat) : Obj := ⟨(0x0B40 + n) * 256 + 17, 1, 1⟩
/-- `CMPn.CAPT_FILTER` -/
def cmpCaptFilter (n : Nat) : Obj := ⟨(0x0B40 + n) * 256 + 18, 1, 2⟩
/-- `CMPn.CAPT_HOLDOFF` -/
def cmpCaptHoldoff (n : Nat) : Obj := ⟨(0x0B40 + n) * 256 + 19, 4, 0⟩
/-- `CMPn.CAPT_POS` -/
def cmpCaptPos (n : Nat) : Obj := ⟨(0x0B40 + n) * 256 + 20, 6, 0⟩
/-- `CMPn.CAPT_TIME` -/
def cmpCaptTime (n : Nat) : Obj := ⟨(0x0B40 + n) * 256 + 21, 8, 0⟩
/-- `CMPn.RING_CH` -/
def cmpRingCh (n : Nat) : Obj := ⟨(0x0B40 + n) * 256 + 22, 1, 0⟩
/-! ### Objects of spec/03_line_clock_and_cues.md, R84 -/

/-- `LCn.ENABLE` -/
def lcEnable (n : Nat) : Obj := ⟨(0x0B50 + n) * 256 + 1, 1, 0⟩
/-- `LCn.RATIO` -/
def lcRatio (n : Nat) : Obj := ⟨(0x0B50 + n) * 256 + 2, 8, 0x100000000⟩
/-- `LCn.BANDWIDTH` -/
def lcBandwidth (n : Nat) : Obj := ⟨(0x0B50 + n) * 256 + 3, 2, 200⟩
/-- `LCn.DAMPING` -/
def lcDamping (n : Nat) : Obj := ⟨(0x0B50 + n) * 256 + 4, 2, 0x2c3⟩
/-- `LCn.BW_EFF` -/
def lcBwEff (n : Nat) : Obj := ⟨(0x0B50 + n) * 256 + 5, 4, 0⟩
/-- `LCn.SLOW_RATE` -/
def lcSlowRate (n : Nat) : Obj := ⟨(0x0B50 + n) * 256 + 6, 4, 0xfa0⟩
/-- `LCn.STILL_TIME` -/
def lcStillTime (n : Nat) : Obj := ⟨(0x0B50 + n) * 256 + 7, 4, 0x2710⟩
/-- `LCn.LOCK_TOL` -/
def lcLockTol (n : Nat) : Obj := ⟨(0x0B50 + n) * 256 + 8, 2, 2⟩
/-- `LCn.LOCK_TIME` -/
def lcLockTime (n : Nat) : Obj := ⟨(0x0B50 + n) * 256 + 9, 4, 0x2710⟩
/-- `LCn.UNLOCK_TOL` -/
def lcUnlockTol (n : Nat) : Obj := ⟨(0x0B50 + n) * 256 + 10, 2, 64⟩
/-- `LCn.CORR_SLEW` -/
def lcCorrSlew (n : Nat) : Obj := ⟨(0x0B50 + n) * 256 + 11, 2, 4⟩
/-- `LCn.POSITION` -/
def lcPosition (n : Nat) : Obj := ⟨(0x0B50 + n) * 256 + 12, 6, 0⟩
/-- `LCn.VELOCITY` -/
def lcVelocity (n : Nat) : Obj := ⟨(0x0B50 + n) * 256 + 13, 4, 0⟩
/-- `LCn.ERROR` -/
def lcError (n : Nat) : Obj := ⟨(0x0B50 + n) * 256 + 14, 4, 0⟩
/-- `LCn.CORR_PENDING` -/
def lcCorrPending (n : Nat) : Obj := ⟨(0x0B50 + n) * 256 + 15, 4, 0⟩
/-- `LCn.STATUS` -/
def lcStatus (n : Nat) : Obj := ⟨(0x0B50 + n) * 256 + 16, 2, 0⟩
/-- `LCn.HIGH_WATER` -/
def lcHighWater (n : Nat) : Obj := ⟨(0x0B50 + n) * 256 + 17, 6, 0⟩
/-- `LCn.UNLOCKS` -/
def lcUnlocks (n : Nat) : Obj := ⟨(0x0B50 + n) * 256 + 18, 4, 0⟩
/-- `CHn.CLOCK_SRC` -/
def chClockSrc (n : Nat) : Obj := ⟨(0x1010 + 0x100 * n) * 256 + 1, 1, 0⟩
/-- `CHn.BAR_OFFSET` -/
def chBarOffset (n : Nat) : Obj := ⟨(0x1010 + 0x100 * n) * 256 + 2, 6, 0⟩
/-- `CHn.POSITION` -/
def chPosition (n : Nat) : Obj := ⟨(0x1010 + 0x100 * n) * 256 + 3, 6, 0⟩
/-- `CHn.LINE_HIGH` -/
def chLineHigh (n : Nat) : Obj := ⟨(0x1010 + 0x100 * n) * 256 + 4, 8, 0⟩
/-- `CHn.SKIPPED_LINES` -/
def chSkippedLines (n : Nat) : Obj := ⟨(0x1010 + 0x100 * n) * 256 + 5, 4, 0⟩
/-- `CUE.LISTk.FIRST` -/
def cueListFirst (k : Nat) : Obj := ⟨(0x0B60 + k) * 256 + 1, 2, 0⟩
/-- `CUE.LISTk.LAST` -/
def cueListLast (k : Nat) : Obj := ⟨(0x0B60 + k) * 256 + 2, 2, 0⟩
/-- `CUE.LISTk.CLOCK` -/
def cueListClock (k : Nat) : Obj := ⟨(0x0B60 + k) * 256 + 3, 1, 0⟩
/-- `CUE.LISTk.REPEAT` -/
def cueListRepeat (k : Nat) : Obj := ⟨(0x0B60 + k) * 256 + 4, 6, 0⟩
/-- `CUE.LISTk.ARM` -/
def cueListArm (k : Nat) : Obj := ⟨(0x0B60 + k) * 256 + 5, 1, 0⟩
/-- `CUE.LISTk.STATE` -/
def cueListState (k : Nat) : Obj := ⟨(0x0B60 + k) * 256 + 6, 1, 0⟩
/-- `CUE.LISTk.NEXT` -/
def cueListNext (k : Nat) : Obj := ⟨(0x0B60 + k) * 256 + 7, 2, 0⟩
/-- `CUE.LISTk.EXECUTED` -/
def cueListExecuted (k : Nat) : Obj := ⟨(0x0B60 + k) * 256 + 8, 4, 0⟩
/-- `CUE.LISTk.LATE` -/
def cueListLate (k : Nat) : Obj := ⟨(0x0B60 + k) * 256 + 9, 4, 0⟩
/-- `CUE.LISTk.RING_CH` -/
def cueListRingCh (k : Nat) : Obj := ⟨(0x0B60 + k) * 256 + 10, 1, 0⟩
/-- `CUE.ENTRYi` -/
def cueEntry (i : Nat) : Obj := ⟨(0x2000 + i) * 256 + 1, 16, 0⟩
/-- `CUE.ENTRYi.POSITION` -/
def cueEntryPosition (i : Nat) : Obj := ⟨(0x2000 + i) * 256 + 2, 6, 0⟩
/-- `CUE.ENTRYi.ACTION` -/
def cueEntryAction (i : Nat) : Obj := ⟨(0x2000 + i) * 256 + 3, 1, 0⟩
/-- `CUE.ENTRYi.TARGET` -/
def cueEntryTarget (i : Nat) : Obj := ⟨(0x2000 + i) * 256 + 4, 1, 0⟩
/-- `CUE.ENTRYi.FLAGS` -/
def cueEntryFlags (i : Nat) : Obj := ⟨(0x2000 + i) * 256 + 5, 1, 0⟩
/-- `CUE.ENTRYi.ARG` -/
def cueEntryArg (i : Nat) : Obj := ⟨(0x2000 + i) * 256 + 6, 4, 0⟩
/-! ### Objects of spec/04_image_path.md, R116 -/

/-- `CHn.SCALE` -/
def chScale (n : Nat) : Obj := ⟨(0x1020 + 0x100 * n) * 256 + 1, 1, 0⟩
/-- `CHn.WIDTH` -/
def chWidth (n : Nat) : Obj := ⟨(0x1020 + 0x100 * n) * 256 + 2, 4, 0x20000⟩
/-- `CHn.ELEM_DEPTH` -/
def chElemDepth (n : Nat) : Obj := ⟨(0x1020 + 0x100 * n) * 256 + 3, 1, 2⟩
/-- `CHn.SCALE_PHASE` -/
def chScalePhase (n : Nat) : Obj := ⟨(0x1020 + 0x100 * n) * 256 + 4, 1, 0⟩
/-- `CHn.FLASK_BASE` -/
def chFlaskBase (n : Nat) : Obj := ⟨(0x1020 + 0x100 * n) * 256 + 5, 8, 0⟩
/-- `CHn.FLASK_LINES` -/
def chFlaskLines (n : Nat) : Obj := ⟨(0x1020 + 0x100 * n) * 256 + 6, 2, 0x800⟩
/-- `CHn.FLASK_SLOT` -/
def chFlaskSlot (n : Nat) : Obj := ⟨(0x1020 + 0x100 * n) * 256 + 7, 4, 0x10000⟩
/-- `CHn.FETCH_LEAD` -/
def chFetchLead (n : Nat) : Obj := ⟨(0x1020 + 0x100 * n) * 256 + 8, 2, 0x100⟩
/-- `CHn.FLASK_WRITE` -/
def chFlaskWrite (n : Nat) : Obj := ⟨(0x1020 + 0x100 * n) * 256 + 9, 8, 0⟩
/-- `CHn.FLASK_FILL` -/
def chFlaskFill (n : Nat) : Obj := ⟨(0x1020 + 0x100 * n) * 256 + 10, 2, 0⟩
/-- `CHn.FLASK_ECC_ERRORS` -/
def chFlaskEccErrors (n : Nat) : Obj := ⟨(0x1020 + 0x100 * n) * 256 + 11, 4, 0⟩
/-- `CHn.SEGMENTS` -/
def chSegments (n : Nat) : Obj := ⟨(0x1020 + 0x100 * n) * 256 + 12, 256, 0x80000000⟩
/-- `CHn.ROW_DELAYr` -/
def chRowDelay (n r : Nat) : Obj := ⟨(0x1020 + 0x100 * n) * 256 + 16 + r, 2, 0⟩
/-- `CHn.TONE_ORIGIN` -/
def chToneOrigin (n : Nat) : Obj := ⟨(0x1030 + 0x100 * n) * 256 + 1, 4, 0⟩
/-- `CHn.TONE_ZONE_W` -/
def chToneZoneW (n : Nat) : Obj := ⟨(0x1030 + 0x100 * n) * 256 + 2, 2, 0x200⟩
/-- `CHn.TONE_SWAP` -/
def chToneSwap (n : Nat) : Obj := ⟨(0x1030 + 0x100 * n) * 256 + 3, 1, 0⟩
/-- `CHn.TONE_LIVE` -/
def chToneLive (n : Nat) : Obj := ⟨(0x1030 + 0x100 * n) * 256 + 4, 1, 0⟩
/-- `CHn.TONE_STATE` -/
def chToneState (n : Nat) : Obj := ⟨(0x1030 + 0x100 * n) * 256 + 5, 1, 0⟩
/-- `CHn.TONE_COPY` -/
def chToneCopy (n : Nat) : Obj := ⟨(0x1030 + 0x100 * n) * 256 + 6, 1, 0⟩
/-- `CHn.TONE_SWAPS` -/
def chToneSwaps (n : Nat) : Obj := ⟨(0x1030 + 0x100 * n) * 256 + 7, 4, 0⟩
/-- `CHn.TONE_LATE_LINES` -/
def chToneLateLines (n : Nat) : Obj := ⟨(0x1030 + 0x100 * n) * 256 + 8, 4, 0⟩
/-- `CHn.NOZ_PATCH` -/
def chNozPatch (n : Nat) : Obj := ⟨(0x1040 + 0x100 * n) * 256 + 1, 8, 0⟩
/-- `CHn.NOZ_STATE` -/
def chNozState (n : Nat) : Obj := ⟨(0x1040 + 0x100 * n) * 256 + 2, 1, 0⟩
/-- `CHn.NOZ_WSET0` -/
def chNozWset0 (n : Nat) : Obj := ⟨(0x1040 + 0x100 * n) * 256 + 3, 4, 0x404000⟩
/-- `CHn.NOZ_WSET1` -/
def chNozWset1 (n : Nat) : Obj := ⟨(0x1040 + 0x100 * n) * 256 + 4, 4, 0x10303010⟩
/-- `CHn.NOZ_WSET2` -/
def chNozWset2 (n : Nat) : Obj := ⟨(0x1040 + 0x100 * n) * 256 + 5, 4, 0x8000⟩
/-- `CHn.NOZ_WSET3` -/
def chNozWset3 (n : Nat) : Obj := ⟨(0x1040 + 0x100 * n) * 256 + 6, 4, 0x800000⟩
/-- `CHn.NOZ_DEAD` -/
def chNozDead (n : Nat) : Obj := ⟨(0x1040 + 0x100 * n) * 256 + 7, 4, 0⟩
/-- `CHn.TABLE_ECC_ERRORS` -/
def chTableEccErrors (n : Nat) : Obj := ⟨(0x1040 + 0x100 * n) * 256 + 8, 4, 0⟩
/-- `CHn.SCR_W` -/
def chScrW (n : Nat) : Obj := ⟨(0x1050 + 0x100 * n) * 256 + 1, 2, 0x100⟩
/-- `CHn.SCR_H` -/
def chScrH (n : Nat) : Obj := ⟨(0x1050 + 0x100 * n) * 256 + 2, 2, 0x100⟩
/-- `CHn.SCR_X0` -/
def chScrX0 (n : Nat) : Obj := ⟨(0x1050 + 0x100 * n) * 256 + 3, 2, 0⟩
/-- `CHn.SCR_Y0` -/
def chScrY0 (n : Nat) : Obj := ⟨(0x1050 + 0x100 * n) * 256 + 4, 2, 0⟩
/-- `CHn.TBL_ID` -/
def chTblId (n : Nat) : Obj := ⟨(0x1060 + 0x100 * n) * 256 + 1, 1, 1⟩
/-- `CHn.TBL_ADDR` -/
def chTblAddr (n : Nat) : Obj := ⟨(0x1060 + 0x100 * n) * 256 + 2, 8, 0⟩
/-- `CHn.TBL_FIRST` -/
def chTblFirst (n : Nat) : Obj := ⟨(0x1060 + 0x100 * n) * 256 + 3, 4, 0⟩
/-- `CHn.TBL_COUNT` -/
def chTblCount (n : Nat) : Obj := ⟨(0x1060 + 0x100 * n) * 256 + 4, 4, 0⟩
/-- `CHn.TBL_GO` -/
def chTblGo (n : Nat) : Obj := ⟨(0x1060 + 0x100 * n) * 256 + 5, 1, 0⟩
/-- `CHn.TBL_STATUS` -/
def chTblStatus (n : Nat) : Obj := ⟨(0x1060 + 0x100 * n) * 256 + 6, 1, 0⟩
/-! ### Objects of spec/05_firing_and_protection.md, R136 -/

/-- `CHn.MAX_LINE_RATE` -/
def chMaxLineRate (n : Nat) : Obj := ⟨(0x1070 + 0x100 * n) * 256 + 1, 4, 0⟩
/-- `CHn.GROUPS` -/
def chGroups (n : Nat) : Obj := ⟨(0x1070 + 0x100 * n) * 256 + 2, 1, 1⟩
/-- `CHn.GROUP_MAP` -/
def chGroupMap (n : Nat) : Obj := ⟨(0x1070 + 0x100 * n) * 256 + 3, 1, 0⟩
/-- `CHn.GROUP_RUN` -/
def chGroupRun (n : Nat) : Obj := ⟨(0x1070 + 0x100 * n) * 256 + 4, 2, 1⟩
/-- `CHn.GROUP_ROTATE` -/
def chGroupRotate (n : Nat) : Obj := ⟨(0x1070 + 0x100 * n) * 256 + 5, 1, 0⟩
/-- `CHn.FIRE_LEAD` -/
def chFireLead (n : Nat) : Obj := ⟨(0x1070 + 0x100 * n) * 256 + 6, 2, 0x7d0⟩
/-- `CHn.LINK_LATENCY` -/
def chLinkLatency (n : Nat) : Obj := ⟨(0x1070 + 0x100 * n) * 256 + 7, 2, 0⟩
/-- `CHn.GROUP_GAP` -/
def chGroupGap (n : Nat) : Obj := ⟨(0x1070 + 0x100 * n) * 256 + 8, 2, 200⟩
/-- `CHn.LINES_FIRED` -/
def chLinesFired (n : Nat) : Obj := ⟨(0x1070 + 0x100 * n) * 256 + 9, 8, 0⟩
/-- `CHn.FIRES_SPREAD` -/
def chFiresSpread (n : Nat) : Obj := ⟨(0x1070 + 0x100 * n) * 256 + 10, 4, 0⟩
/-- `CHn.FIRES_LATE` -/
def chFiresLate (n : Nat) : Obj := ⟨(0x1070 + 0x100 * n) * 256 + 11, 4, 0⟩
/-- `CHn.FIRES_DROPPED` -/
def chFiresDropped (n : Nat) : Obj := ⟨(0x1070 + 0x100 * n) * 256 + 12, 4, 0⟩
/-- `CHn.FIRE_STATUS` -/
def chFireStatus (n : Nat) : Obj := ⟨(0x1070 + 0x100 * n) * 256 + 13, 1, 0⟩
/-- `CHn.ROW_PHASEr` -/
def chRowPhase (n r : Nat) : Obj := ⟨(0x1070 + 0x100 * n) * 256 + 16 + r, 1, 0⟩
/-- `CHn.ELEM_WIN` -/
def chElemWin (n : Nat) : Obj := ⟨(0x1080 + 0x100 * n) * 256 + 1, 1, 32⟩
/-- `CHn.ELEM_MAX` -/
def chElemMax (n : Nat) : Obj := ⟨(0x1080 + 0x100 * n) * 256 + 2, 1, 0⟩
/-- `CHn.DROP_WEIGHT` -/
def chDropWeight (n : Nat) : Obj := ⟨(0x1080 + 0x100 * n) * 256 + 3, 8, 0xfedcba9876543210⟩
/-- `CHn.HEAD_WIN` -/
def chHeadWin (n : Nat) : Obj := ⟨(0x1080 + 0x100 * n) * 256 + 4, 2, 0x100⟩
/-- `CHn.HEAD_LIMIT` -/
def chHeadLimit (n : Nat) : Obj := ⟨(0x1080 + 0x100 * n) * 256 + 5, 2, 0⟩
/-- `CHn.HEAD_SOFT` -/
def chHeadSoft (n : Nat) : Obj := ⟨(0x1080 + 0x100 * n) * 256 + 6, 2, 0⟩
/-- `CHn.THINNED` -/
def chThinned (n : Nat) : Obj := ⟨(0x1080 + 0x100 * n) * 256 + 7, 8, 0⟩
/-- `CHn.SUPPRESSED` -/
def chSuppressed (n : Nat) : Obj := ⟨(0x1080 + 0x100 * n) * 256 + 8, 8, 0⟩
/-- `CHn.DUTY_GUARD_LINES` -/
def chDutyGuardLines (n : Nat) : Obj := ⟨(0x1080 + 0x100 * n) * 256 + 9, 4, 0⟩
/-- `CHn.HEAD_K` -/
def chHeadK (n : Nat) : Obj := ⟨(0x1080 + 0x100 * n) * 256 + 10, 64, 0x10101010101010101010101010101010101010101010101010101010101010101010101010101010101010101010101010101010101010101010101010101010⟩
/-- `CHn.TEMP_REACTION` -/
def chTempReaction (n : Nat) : Obj := ⟨(0x1090 + 0x100 * n) * 256 + 1, 1, 0⟩
/-- `CHn.TEMP_LIMIT` -/
def chTempLimit (n : Nat) : Obj := ⟨(0x1090 + 0x100 * n) * 256 + 2, 2, 0x258⟩
/-- `CHn.TEMP_HYST` -/
def chTempHyst (n : Nat) : Obj := ⟨(0x1090 + 0x100 * n) * 256 + 3, 2, 20⟩
/-- `CHn.TEMP_THIN` -/
def chTempThin (n : Nat) : Obj := ⟨(0x1090 + 0x100 * n) * 256 + 4, 1, 12⟩
/-- `CHn.TEMP_STALE` -/
def chTempStale (n : Nat) : Obj := ⟨(0x1090 + 0x100 * n) * 256 + 5, 2, 0x1388⟩
/-- `CHn.TEMP_MASK` -/
def chTempMask (n : Nat) : Obj := ⟨(0x1090 + 0x100 * n) * 256 + 6, 8, 0xffffffffffffffff⟩
/-- `CHn.HEAD_HOT_MAP` -/
def chHeadHotMap (n : Nat) : Obj := ⟨(0x1090 + 0x100 * n) * 256 + 7, 8, 0⟩
/-- `CHn.HEAD_TEMP` -/
def chHeadTemp (n : Nat) : Obj := ⟨(0x1090 + 0x100 * n) * 256 + 8, 128, 0⟩
/-- `CHn.HOT_EVENTS` -/
def chHotEvents (n : Nat) : Obj := ⟨(0x1090 + 0x100 * n) * 256 + 9, 4, 0⟩
/-! ### Objects of spec/06_kuntelink.md, R173 -/

/-- `KLm.ENABLE` -/
def klEnable (m : Nat) : Obj := ⟨(0x10B0 + 0x100 * (m / 4) + m % 4) * 256 + 1, 1, 0⟩
/-- `KLm.STATE` -/
def klState (m : Nat) : Obj := ⟨(0x10B0 + 0x100 * (m / 4) + m % 4) * 256 + 2, 1, 0⟩
/-- `KLm.EXPECT_TYPE` -/
def klExpectType (m : Nat) : Obj := ⟨(0x10B0 + 0x100 * (m / 4) + m % 4) * 256 + 3, 4, 0⟩
/-- `KLm.BOARD_TYPE` -/
def klBoardType (m : Nat) : Obj := ⟨(0x10B0 + 0x100 * (m / 4) + m % 4) * 256 + 4, 4, 0⟩
/-- `KLm.BOARD_SERIAL` -/
def klBoardSerial (m : Nat) : Obj := ⟨(0x10B0 + 0x100 * (m / 4) + m % 4) * 256 + 5, 8, 0⟩
/-- `KLm.BOARD_CAPS` -/
def klBoardCaps (m : Nat) : Obj := ⟨(0x10B0 + 0x100 * (m / 4) + m % 4) * 256 + 6, 4, 0⟩
/-- `KLm.LATENCY` -/
def klLatency (m : Nat) : Obj := ⟨(0x10B0 + 0x100 * (m / 4) + m % 4) * 256 + 7, 4, 0⟩
/-- `KLm.TX_AMPL` -/
def klTxAmpl (m : Nat) : Obj := ⟨(0x10B0 + 0x100 * (m / 4) + m % 4) * 256 + 8, 2, 0x384⟩
/-- `KLm.TX_PRE` -/
def klTxPre (m : Nat) : Obj := ⟨(0x10B0 + 0x100 * (m / 4) + m % 4) * 256 + 9, 1, 2⟩
/-- `KLm.TX_POST` -/
def klTxPost (m : Nat) : Obj := ⟨(0x10B0 + 0x100 * (m / 4) + m % 4) * 256 + 10, 1, 8⟩
/-- `KLm.TRAIN_TIMEOUT` -/
def klTrainTimeout (m : Nat) : Obj := ⟨(0x10B0 + 0x100 * (m / 4) + m % 4) * 256 + 11, 2, 100⟩
/-- `KLm.AUTO_RETRAIN` -/
def klAutoRetrain (m : Nat) : Obj := ⟨(0x10B0 + 0x100 * (m / 4) + m % 4) * 256 + 12, 1, 1⟩
/-- `KLm.TEMP_RECORDS` -/
def klTempRecords (m : Nat) : Obj := ⟨(0x10B0 + 0x100 * (m / 4) + m % 4) * 256 + 13, 1, 0⟩
/-- `KLm.CTRL_ADDR` -/
def klCtrlAddr (m : Nat) : Obj := ⟨(0x10B0 + 0x100 * (m / 4) + m % 4) * 256 + 14, 2, 0x100⟩
/-- `KLm.CTRL_DATA` -/
def klCtrlData (m : Nat) : Obj := ⟨(0x10B0 + 0x100 * (m / 4) + m % 4) * 256 + 15, 4, 0⟩
/-- `KLm.CTRL_GO` -/
def klCtrlGo (m : Nat) : Obj := ⟨(0x10B0 + 0x100 * (m / 4) + m % 4) * 256 + 16, 1, 0⟩
/-- `KLm.CTRL_STATUS` -/
def klCtrlStatus (m : Nat) : Obj := ⟨(0x10B0 + 0x100 * (m / 4) + m % 4) * 256 + 17, 1, 0⟩
/-- `KLm.BULK_SRC` -/
def klBulkSrc (m : Nat) : Obj := ⟨(0x10B0 + 0x100 * (m / 4) + m % 4) * 256 + 18, 8, 0⟩
/-- `KLm.BULK_DST` -/
def klBulkDst (m : Nat) : Obj := ⟨(0x10B0 + 0x100 * (m / 4) + m % 4) * 256 + 19, 4, 0⟩
/-- `KLm.BULK_LEN` -/
def klBulkLen (m : Nat) : Obj := ⟨(0x10B0 + 0x100 * (m / 4) + m % 4) * 256 + 20, 4, 0⟩
/-- `KLm.BULK_GO` -/
def klBulkGo (m : Nat) : Obj := ⟨(0x10B0 + 0x100 * (m / 4) + m % 4) * 256 + 21, 1, 0⟩
/-- `KLm.BULK_STATUS` -/
def klBulkStatus (m : Nat) : Obj := ⟨(0x10B0 + 0x100 * (m / 4) + m % 4) * 256 + 22, 1, 0⟩
/-- `KLm.BAD_HEADERS` -/
def klBadHeaders (m : Nat) : Obj := ⟨(0x10B0 + 0x100 * (m / 4) + m % 4) * 256 + 32, 4, 0⟩
/-- `KLm.BAD_BLOCKS` -/
def klBadBlocks (m : Nat) : Obj := ⟨(0x10B0 + 0x100 * (m / 4) + m % 4) * 256 + 33, 4, 0⟩
/-- `KLm.LOCK_LOSSES` -/
def klLockLosses (m : Nat) : Obj := ⟨(0x10B0 + 0x100 * (m / 4) + m % 4) * 256 + 34, 4, 0⟩
/-- `KLm.NAKS` -/
def klNaks (m : Nat) : Obj := ⟨(0x10B0 + 0x100 * (m / 4) + m % 4) * 256 + 35, 4, 0⟩
/-- `KLm.RESENDS` -/
def klResends (m : Nat) : Obj := ⟨(0x10B0 + 0x100 * (m / 4) + m % 4) * 256 + 36, 4, 0⟩
/-- `KLm.LINES_LOST` -/
def klLinesLost (m : Nat) : Obj := ⟨(0x10B0 + 0x100 * (m / 4) + m % 4) * 256 + 37, 4, 0⟩
/-- `KLm.FIRES_LOST` -/
def klFiresLost (m : Nat) : Obj := ⟨(0x10B0 + 0x100 * (m / 4) + m % 4) * 256 + 38, 4, 0⟩
/-- `KLm.CTRL_RETRIES` -/
def klCtrlRetries (m : Nat) : Obj := ⟨(0x10B0 + 0x100 * (m / 4) + m % 4) * 256 + 39, 4, 0⟩
/-- `KLm.BOARD_BAD_BLOCKS` -/
def klBoardBadBlocks (m : Nat) : Obj := ⟨(0x10B0 + 0x100 * (m / 4) + m % 4) * 256 + 40, 4, 0⟩
/-- `KLm.BOARD_LATE_FIRES` -/
def klBoardLateFires (m : Nat) : Obj := ⟨(0x10B0 + 0x100 * (m / 4) + m % 4) * 256 + 41, 4, 0⟩
/-- `KLm.BOARD_BLANK_FIRES` -/
def klBoardBlankFires (m : Nat) : Obj := ⟨(0x10B0 + 0x100 * (m / 4) + m % 4) * 256 + 42, 4, 0⟩
/-- `KLm.TRAININGS` -/
def klTrainings (m : Nat) : Obj := ⟨(0x10B0 + 0x100 * (m / 4) + m % 4) * 256 + 43, 4, 0⟩
/-! ### Objects of spec/07_beam_stations.md, R204 -/

/-- `CHn.SCAN_ENABLE` -/
def chScanEnable (n : Nat) : Obj := ⟨(0x10D0 + 0x100 * n) * 256 + 1, 1, 0⟩
/-- `CHn.SCAN_STATE` -/
def chScanState (n : Nat) : Obj := ⟨(0x10D0 + 0x100 * n) * 256 + 2, 1, 0⟩
/-- `CHn.BEAMS` -/
def chBeams (n : Nat) : Obj := ⟨(0x10D0 + 0x100 * n) * 256 + 3, 1, 32⟩
/-- `CHn.MIR_PWM` -/
def chMirPwm (n : Nat) : Obj := ⟨(0x10D0 + 0x100 * n) * 256 + 4, 1, 255⟩
/-- `CHn.MIR_DAC` -/
def chMirDac (n : Nat) : Obj := ⟨(0x10D0 + 0x100 * n) * 256 + 5, 1, 255⟩
/-- `CHn.MIR_START_LEVEL` -/
def chMirStartLevel (n : Nat) : Obj := ⟨(0x10D0 + 0x100 * n) * 256 + 6, 2, 0x800⟩
/-- `CHn.MIR_SPINUP` -/
def chMirSpinup (n : Nat) : Obj := ⟨(0x10D0 + 0x100 * n) * 256 + 7, 2, 0x1f4⟩
/-- `CHn.MIR_PHASE_NOM` -/
def chMirPhaseNom (n : Nat) : Obj := ⟨(0x10D0 + 0x100 * n) * 256 + 8, 4, 0x15f90⟩
/-- `CHn.SCAN_SPAN` -/
def chScanSpan (n : Nat) : Obj := ⟨(0x10D0 + 0x100 * n) * 256 + 9, 4, 0⟩
/-- `CHn.SCAN_AMPL_SET` -/
def chScanAmplSet (n : Nat) : Obj := ⟨(0x10D0 + 0x100 * n) * 256 + 10, 4, 0⟩
/-- `CHn.SCAN_AMPL_TOL` -/
def chScanAmplTol (n : Nat) : Obj := ⟨(0x10D0 + 0x100 * n) * 256 + 11, 4, 0x280⟩
/-- `CHn.SCAN_AMPL` -/
def chScanAmpl (n : Nat) : Obj := ⟨(0x10D0 + 0x100 * n) * 256 + 12, 4, 0⟩
/-- `CHn.SCAN_CENTRE` -/
def chScanCentre (n : Nat) : Obj := ⟨(0x10D0 + 0x100 * n) * 256 + 13, 4, 0⟩
/-- `CHn.SCAN_CENTRE_TOL` -/
def chScanCentreTol (n : Nat) : Obj := ⟨(0x10D0 + 0x100 * n) * 256 + 14, 4, 0x280⟩
/-- `CHn.SCAN_PHASE` -/
def chScanPhase (n : Nat) : Obj := ⟨(0x10D0 + 0x100 * n) * 256 + 15, 4, 0⟩
/-- `CHn.SCAN_WIN` -/
def chScanWin (n : Nat) : Obj := ⟨(0x10D0 + 0x100 * n) * 256 + 16, 4, 0x7d0⟩
/-- `CHn.SCAN_AVG` -/
def chScanAvg (n : Nat) : Obj := ⟨(0x10D0 + 0x100 * n) * 256 + 17, 1, 8⟩
/-- `CHn.SCAN_MISS_LIMIT` -/
def chScanMissLimit (n : Nat) : Obj := ⟨(0x10D0 + 0x100 * n) * 256 + 18, 1, 4⟩
/-- `CHn.SCAN_ACQ_TIMEOUT` -/
def chScanAcqTimeout (n : Nat) : Obj := ⟨(0x10D0 + 0x100 * n) * 256 + 19, 2, 0x3e8⟩
/-- `CHn.SCAN_MIN_PULSE` -/
def chScanMinPulse (n : Nat) : Obj := ⟨(0x10D0 + 0x100 * n) * 256 + 20, 2, 4⟩
/-- `CHn.SCAN_MISSES` -/
def chScanMisses (n : Nat) : Obj := ⟨(0x10D0 + 0x100 * n) * 256 + 21, 4, 0⟩
/-- `CHn.SWEEP` -/
def chSweep (n : Nat) : Obj := ⟨(0x10D0 + 0x100 * n) * 256 + 22, 8, 0⟩
/-- `CHn.SWEEP_LEAD` -/
def chSweepLead (n : Nat) : Obj := ⟨(0x10D0 + 0x100 * n) * 256 + 23, 4, 0x13880⟩
/-- `CHn.VOLTA_FWD` -/
def chVoltaFwd (n : Nat) : Obj := ⟨(0x10E0 + 0x100 * n) * 256 + 1, 2, 0⟩
/-- `CHn.VOLTA_REV` -/
def chVoltaRev (n : Nat) : Obj := ⟨(0x10E0 + 0x100 * n) * 256 + 2, 2, 0⟩
/-- `CHn.SCAN_X0` -/
def chScanX0 (n : Nat) : Obj := ⟨(0x10E0 + 0x100 * n) * 256 + 3, 4, 0⟩
/-- `CHn.SLT_ADDR` -/
def chSltAddr (n : Nat) : Obj := ⟨(0x10E0 + 0x100 * n) * 256 + 4, 8, 0⟩
/-- `CHn.SLT_GO` -/
def chSltGo (n : Nat) : Obj := ⟨(0x10E0 + 0x100 * n) * 256 + 5, 1, 0⟩
/-- `CHn.SLT_STATUS` -/
def chSltStatus (n : Nat) : Obj := ⟨(0x10E0 + 0x100 * n) * 256 + 6, 1, 0⟩
/-- `CHn.SCAN_APPLY_LEAD` -/
def chScanApplyLead (n : Nat) : Obj := ⟨(0x10E0 + 0x100 * n) * 256 + 7, 2, 16⟩
/-- `CHn.SENSE_BEAM` -/
def chSenseBeam (n : Nat) : Obj := ⟨(0x10E0 + 0x100 * n) * 256 + 8, 1, 0⟩
/-- `CHn.SENSE_T1` -/
def chSenseT1 (n : Nat) : Obj := ⟨(0x10E0 + 0x100 * n) * 256 + 9, 4, 0⟩
/-- `CHn.SENSE_T2` -/
def chSenseT2 (n : Nat) : Obj := ⟨(0x10E0 + 0x100 * n) * 256 + 10, 4, 0⟩
/-- `CHn.SENSE_W` -/
def chSenseW (n : Nat) : Obj := ⟨(0x10E0 + 0x100 * n) * 256 + 11, 4, 0xbb8⟩
/-- `CHn.APC_START` -/
def chApcStart (n : Nat) : Obj := ⟨(0x10E0 + 0x100 * n) * 256 + 12, 4, 0⟩
/-- `CHn.APC_LEN` -/
def chApcLen (n : Nat) : Obj := ⟨(0x10E0 + 0x100 * n) * 256 + 13, 4, 0⟩
/-- `CHn.APC_SAMPLE` -/
def chApcSample (n : Nat) : Obj := ⟨(0x10E0 + 0x100 * n) * 256 + 14, 4, 0⟩
/-- `CHn.APC_AIN` -/
def chApcAin (n : Nat) : Obj := ⟨(0x10E0 + 0x100 * n) * 256 + 15, 1, 255⟩
/-- `CHn.APC_SAMPLES` -/
def chApcSamples (n : Nat) : Obj := ⟨(0x10E0 + 0x100 * n) * 256 + 16, 64, 0⟩
/-- `CHn.BEAM_POWER` -/
def chBeamPower (n : Nat) : Obj := ⟨(0x10E0 + 0x100 * n) * 256 + 17, 64, 0⟩
/-- `CHn.PAGE_STATE` -/
def chPageState (n : Nat) : Obj := ⟨(0x10E0 + 0x100 * n) * 256 + 18, 1, 0⟩
/-- `CHn.PAGES_PRINTED` -/
def chPagesPrinted (n : Nat) : Obj := ⟨(0x10E0 + 0x100 * n) * 256 + 19, 4, 0⟩
/-- `CHn.PAGES_SPOILED` -/
def chPagesSpoiled (n : Nat) : Obj := ⟨(0x10E0 + 0x100 * n) * 256 + 20, 4, 0⟩
/-- `CHn.PAGES_SKIPPED` -/
def chPagesSkipped (n : Nat) : Obj := ⟨(0x10E0 + 0x100 * n) * 256 + 21, 4, 0⟩
/-- `BEAM.SCAN_FREQ` -/
def beamScanFreq : Obj := ⟨(0x0B70) * 256 + 1, 4, 0x2625a0⟩
/-- `BEAM.READY_SLOTS` -/
def beamReadySlots : Obj := ⟨(0x0B70) * 256 + 2, 8, 0xffffffffffffffff⟩
/-- `BEAM.PAGE_ABORT` -/
def beamPageAbort : Obj := ⟨(0x0B70) * 256 + 3, 1, 0⟩
/-! ### Objects of spec/08_jobs_and_recast.md, R235 -/

/-- `CHn.STATE` -/
def chState (n : Nat) : Obj := ⟨(0x1000 + 0x100 * n) * 256 + 1, 1, 0⟩
/-- `CHn.CMD` -/
def chCmd (n : Nat) : Obj := ⟨(0x1000 + 0x100 * n) * 256 + 2, 1, 0⟩
/-- `CHn.JOB_ID` -/
def chJobId (n : Nat) : Obj := ⟨(0x1000 + 0x100 * n) * 256 + 3, 4, 0⟩
/-- `CHn.JOB_FIRST` -/
def chJobFirst (n : Nat) : Obj := ⟨(0x1000 + 0x100 * n) * 256 + 4, 8, 0⟩
/-- `CHn.JOB_END` -/
def chJobEnd (n : Nat) : Obj := ⟨(0x1000 + 0x100 * n) * 256 + 5, 8, 0⟩
/-- `CHn.JOB_CFIRST` -/
def chJobCfirst (n : Nat) : Obj := ⟨(0x1000 + 0x100 * n) * 256 + 6, 8, 0⟩
/-- `CHn.JOBS_QUEUED` -/
def chJobsQueued (n : Nat) : Obj := ⟨(0x1000 + 0x100 * n) * 256 + 7, 1, 0⟩
/-- `CHn.HELD_LINE` -/
def chHeldLine (n : Nat) : Obj := ⟨(0x1000 + 0x100 * n) * 256 + 8, 8, 0⟩
/-- `CHn.RUN_AHEAD` -/
def chRunAhead (n : Nat) : Obj := ⟨(0x1000 + 0x100 * n) * 256 + 9, 4, 0⟩
/-- `CHn.JOBS_REFUSED` -/
def chJobsRefused (n : Nat) : Obj := ⟨(0x1000 + 0x100 * n) * 256 + 10, 4, 0⟩
/-- `CHn.INTAKE_BASE` -/
def chIntakeBase (n : Nat) : Obj := ⟨(0x10A0 + 0x100 * n) * 256 + 1, 8, 0⟩
/-- `CHn.INTAKE_SIZE` -/
def chIntakeSize (n : Nat) : Obj := ⟨(0x10A0 + 0x100 * n) * 256 + 2, 4, 0⟩
/-- `CHn.INTAKE_DMA` -/
def chIntakeDma (n : Nat) : Obj := ⟨(0x10A0 + 0x100 * n) * 256 + 3, 1, 255⟩
/-- `CHn.INTAKE_FILL` -/
def chIntakeFill (n : Nat) : Obj := ⟨(0x10A0 + 0x100 * n) * 256 + 4, 4, 0⟩
/-- `CHn.INTAKE_RETRIES` -/
def chIntakeRetries (n : Nat) : Obj := ⟨(0x10A0 + 0x100 * n) * 256 + 5, 1, 2⟩
/-- `CHn.INTAKE_MEAS` -/
def chIntakeMeas (n : Nat) : Obj := ⟨(0x10A0 + 0x100 * n) * 256 + 6, 4, 0⟩
/-- `CHn.ADM_RAW` -/
def chAdmRaw (n : Nat) : Obj := ⟨(0x10A0 + 0x100 * n) * 256 + 7, 4, 0⟩
/-- `CHn.ADM_FETCH` -/
def chAdmFetch (n : Nat) : Obj := ⟨(0x10A0 + 0x100 * n) * 256 + 8, 4, 0⟩
/-- `CHn.ADM_SPRUE` -/
def chAdmSprue (n : Nat) : Obj := ⟨(0x10A0 + 0x100 * n) * 256 + 9, 4, 0⟩
/-- `CHn.ADM_RATIO` -/
def chAdmRatio (n : Nat) : Obj := ⟨(0x10A0 + 0x100 * n) * 256 + 10, 4, 0⟩
/-- `CHn.BANDS_DONE` -/
def chBandsDone (n : Nat) : Obj := ⟨(0x10A0 + 0x100 * n) * 256 + 11, 4, 0⟩
/-- `CHn.BAND_RETRIES` -/
def chBandRetries (n : Nat) : Obj := ⟨(0x10A0 + 0x100 * n) * 256 + 12, 4, 0⟩
/-- `DEV.ADM_POLICY` -/
def devAdmPolicy : Obj := ⟨(0x0240) * 256 + 1, 1, 0⟩
/-- `DEV.ADM_HOST_BUDGET` -/
def devAdmHostBudget : Obj := ⟨(0x0240) * 256 + 2, 4, 0x6590⟩
/-- `DEV.ADM_HOST_LINK` -/
def devAdmHostLink : Obj := ⟨(0x0240) * 256 + 3, 4, 0⟩
/-- `DEV.ADM_DRAM_BUDGET` -/
def devAdmDramBudget : Obj := ⟨(0x0240) * 256 + 4, 4, 0x274e8⟩
/-- `DEV.ADM_FIXED` -/
def devAdmFixed : Obj := ⟨(0x0240) * 256 + 5, 4, 0x1770⟩
/-- `DEV.ADM_HOST_LOAD` -/
def devAdmHostLoad : Obj := ⟨(0x0240) * 256 + 6, 4, 0⟩
/-- `DEV.ADM_HOST_MARGIN` -/
def devAdmHostMargin : Obj := ⟨(0x0240) * 256 + 7, 4, 0⟩
/-- `DEV.ADM_DRAM_LOAD` -/
def devAdmDramLoad : Obj := ⟨(0x0240) * 256 + 8, 4, 0⟩
/-- `DEV.ADM_DRAM_MARGIN` -/
def devAdmDramMargin : Obj := ⟨(0x0240) * 256 + 9, 4, 0⟩
/-- `DEV.ADM_RATIO_NEED` -/
def devAdmRatioNeed : Obj := ⟨(0x0240) * 256 + 10, 4, 0⟩
/-- `DEV.ADM_RATIO_DECL` -/
def devAdmRatioDecl : Obj := ⟨(0x0240) * 256 + 11, 4, 0⟩
/-- `DEV.ADM_LAST_JOB` -/
def devAdmLastJob : Obj := ⟨(0x0240) * 256 + 12, 4, 0⟩
/-- `DEV.ADM_LAST_VERDICT` -/
def devAdmLastVerdict : Obj := ⟨(0x0240) * 256 + 13, 1, 0⟩
/-- `RCST.REQUEST` -/
def rcstRequest : Obj := ⟨(0x0250) * 256 + 1, 1, 0⟩
/-- `RCST.PHASE` -/
def rcstPhase : Obj := ⟨(0x0250) * 256 + 2, 1, 0⟩
/-- `RCST.LAST_REASON` -/
def rcstLastReason : Obj := ⟨(0x0250) * 256 + 3, 1, 0⟩
/-- `RCST.CLOCK` -/
def rcstClock : Obj := ⟨(0x0250) * 256 + 4, 1, 0⟩
/-- `RCST.P_REQUEST` -/
def rcstPRequest : Obj := ⟨(0x0250) * 256 + 5, 6, 0⟩
/-- `RCST.P_FIRST` -/
def rcstPFirst : Obj := ⟨(0x0250) * 256 + 6, 6, 0⟩
/-- `RCST.P_LAST` -/
def rcstPLast : Obj := ⟨(0x0250) * 256 + 7, 6, 0⟩
/-- `RCST.P_CLEAR` -/
def rcstPClear : Obj := ⟨(0x0250) * 256 + 8, 6, 0⟩
/-- `RCST.P_BACK` -/
def rcstPBack : Obj := ⟨(0x0250) * 256 + 9, 6, 0⟩
/-- `RCST.P_DECIDE` -/
def rcstPDecide : Obj := ⟨(0x0250) * 256 + 10, 6, 0⟩
/-- `RCST.APPROACH` -/
def rcstApproach : Obj := ⟨(0x0250) * 256 + 11, 4, 0xf4240⟩
/-- `RCST.RESUME_SPEED` -/
def rcstResumeSpeed : Obj := ⟨(0x0250) * 256 + 12, 4, 0x5b8d80⟩
/-- `RCST.SETTLE_DIST` -/
def rcstSettleDist : Obj := ⟨(0x0250) * 256 + 13, 4, 0⟩
/-- `RCST.OVERRUN_MAX` -/
def rcstOverrunMax : Obj := ⟨(0x0250) * 256 + 14, 4, 0x16e3600⟩
/-- `RCST.DATA_AHEAD` -/
def rcstDataAhead : Obj := ⟨(0x0250) * 256 + 15, 2, 0x200⟩
/-- `RCST.MAX_PASSES` -/
def rcstMaxPasses : Obj := ⟨(0x0250) * 256 + 16, 1, 3⟩
/-- `RCST.HOLD_TIMEOUT` -/
def rcstHoldTimeout : Obj := ⟨(0x0250) * 256 + 17, 4, 0xea60⟩
/-- `RCST.GPIO_ACTIVE` -/
def rcstGpioActive : Obj := ⟨(0x0250) * 256 + 18, 1, 255⟩
/-- `RCST.GPIO_REVERSE` -/
def rcstGpioReverse : Obj := ⟨(0x0250) * 256 + 19, 1, 255⟩
/-- `RCST.GPIO_READY` -/
def rcstGpioReady : Obj := ⟨(0x0250) * 256 + 20, 1, 255⟩
/-- `RCST.READY_MAP` -/
def rcstReadyMap : Obj := ⟨(0x0250) * 256 + 21, 1, 0⟩
/-- `RCST.PASSES` -/
def rcstPasses : Obj := ⟨(0x0250) * 256 + 22, 4, 0⟩
/-- `RCST.COUNT` -/
def rcstCount : Obj := ⟨(0x0250) * 256 + 23, 4, 0⟩
/-! ### Objects of spec/09_sprue_codec.md, R255 -/

/-- `CHn.SPRUE_STATE` -/
def chSprueState (n : Nat) : Obj := ⟨(0x10F0 + 0x100 * n) * 256 + 1, 1, 0⟩
/-- `CHn.SPRUE_LINES` -/
def chSprueLines (n : Nat) : Obj := ⟨(0x10F0 + 0x100 * n) * 256 + 2, 8, 0⟩
/-- `CHn.SPRUE_BLOCKS` -/
def chSprueBlocks (n : Nat) : Obj := ⟨(0x10F0 + 0x100 * n) * 256 + 3, 4, 0⟩
/-- `CHn.SPRUE_UNCHECKED` -/
def chSprueUnchecked (n : Nat) : Obj := ⟨(0x10F0 + 0x100 * n) * 256 + 4, 4, 0⟩
/-- `CHn.SPRUE_ERRORS` -/
def chSprueErrors (n : Nat) : Obj := ⟨(0x10F0 + 0x100 * n) * 256 + 5, 4, 0⟩
/-- `CHn.SPRUE_LAST_ERR` -/
def chSprueLastErr (n : Nat) : Obj := ⟨(0x10F0 + 0x100 * n) * 256 + 6, 8, 0⟩
/-- `CHn.SPRUE_MODES` -/
def chSprueModes (n : Nat) : Obj := ⟨(0x10F0 + 0x100 * n) * 256 + 7, 16, 0⟩
/-- `CODEC.ABORT` -/
def codecAbort : Obj := ⟨(0x0A00) * 256 + 1, 1, 0⟩
/-- `CODEC.BUSY` -/
def codecBusy : Obj := ⟨(0x0A00) * 256 + 2, 1, 0⟩
/-- `CODEC.UNIT0_TAG` -/
def codecUnit0Tag : Obj := ⟨(0x0A00) * 256 + 3, 2, 0⟩
/-- `CODEC.UNIT1_TAG` -/
def codecUnit1Tag : Obj := ⟨(0x0A00) * 256 + 4, 2, 0⟩
/-- `CODEC.JOBS_OK` -/
def codecJobsOk : Obj := ⟨(0x0A00) * 256 + 5, 4, 0⟩
/-- `CODEC.JOBS_FAILED` -/
def codecJobsFailed : Obj := ⟨(0x0A00) * 256 + 6, 4, 0⟩
/-- `CODEC.NOSHRINKS` -/
def codecNoshrinks : Obj := ⟨(0x0A00) * 256 + 7, 4, 0⟩
/-- `CODEC.BYTES_IN` -/
def codecBytesIn : Obj := ⟨(0x0A00) * 256 + 8, 8, 0⟩
/-- `CODEC.BYTES_OUT` -/
def codecBytesOut : Obj := ⟨(0x0A00) * 256 + 9, 8, 0⟩
/-! ### Objects of spec/10_memory_hub.md, R283 -/

/-- `HUB.SPEED` -/
def hubSpeed : Obj := ⟨(0x0800) * 256 + 1, 2, 0x1c20⟩
/-- `HUB.DEV_WIDTH` -/
def hubDevWidth : Obj := ⟨(0x0800) * 256 + 2, 1, 8⟩
/-- `HUB.DENSITY` -/
def hubDensity : Obj := ⟨(0x0800) * 256 + 3, 1, 16⟩
/-- `HUB.RANKS` -/
def hubRanks : Obj := ⟨(0x0800) * 256 + 4, 1, 1⟩
/-- `HUB.CAPACITY` -/
def hubCapacity : Obj := ⟨(0x0800) * 256 + 5, 4, 0⟩
/-- `HUB.PEAK_BW` -/
def hubPeakBw : Obj := ⟨(0x0800) * 256 + 6, 4, 0⟩
/-- `HUB.PLAN_BW` -/
def hubPlanBw : Obj := ⟨(0x0800) * 256 + 7, 4, 0⟩
/-- `HUB.TRAIN_STATE` -/
def hubTrainState : Obj := ⟨(0x0800) * 256 + 8, 1, 0⟩
/-- `HUB.REFRESH_MODE` -/
def hubRefreshMode : Obj := ⟨(0x0800) * 256 + 9, 1, 0⟩
/-- `HUB.OSC_PERIOD` -/
def hubOscPeriod : Obj := ⟨(0x0800) * 256 + 10, 2, 32⟩
/-- `HUB.HOT_MAP` -/
def hubHotMap : Obj := ⟨(0x0800) * 256 + 11, 1, 0⟩
/-- `HUB.SR_IDLE` -/
def hubSrIdle : Obj := ⟨(0x0800) * 256 + 12, 4, 0⟩
/-- `HUB.SR_STATE` -/
def hubSrState : Obj := ⟨(0x0800) * 256 + 13, 1, 0⟩
/-- `HUB.LOAD` -/
def hubLoad : Obj := ⟨(0x0800) * 256 + 14, 4, 0⟩
/-- `HUB.SCRUB_RATE` -/
def hubScrubRate : Obj := ⟨(0x0810) * 256 + 1, 2, 0x1f4⟩
/-- `HUB.SCRUB_PASSES` -/
def hubScrubPasses : Obj := ⟨(0x0810) * 256 + 2, 4, 0⟩
/-- `HUB.CE_COUNT` -/
def hubCeCount : Obj := ⟨(0x0810) * 256 + 3, 4, 0⟩
/-- `HUB.CE_LIMIT` -/
def hubCeLimit : Obj := ⟨(0x0810) * 256 + 4, 2, 100⟩
/-- `HUB.UE_COUNT` -/
def hubUeCount : Obj := ⟨(0x0810) * 256 + 5, 4, 0⟩
/-- `HUB.ADDR_ERRORS` -/
def hubAddrErrors : Obj := ⟨(0x0810) * 256 + 6, 4, 0⟩
/-- `HUB.REFUSED` -/
def hubRefused : Obj := ⟨(0x0810) * 256 + 7, 4, 0⟩
/-- `HUB.FEC_VALID` -/
def hubFecValid : Obj := ⟨(0x0810) * 256 + 8, 1, 0⟩
/-- `HUB.FEC_KIND` -/
def hubFecKind : Obj := ⟨(0x0810) * 256 + 9, 1, 0⟩
/-- `HUB.FEC_ADDR` -/
def hubFecAddr : Obj := ⟨(0x0810) * 256 + 10, 8, 0⟩
/-- `HUB.FEC_MASTER` -/
def hubFecMaster : Obj := ⟨(0x0810) * 256 + 11, 1, 0⟩
/-- `HUB.FEC_TYPE` -/
def hubFecType : Obj := ⟨(0x0810) * 256 + 12, 1, 0⟩
/-- `HUB.FEC_TIME` -/
def hubFecTime : Obj := ⟨(0x0810) * 256 + 13, 8, 0⟩
/-- `HUB.FEC_SYNDROME` -/
def hubFecSyndrome : Obj := ⟨(0x0810) * 256 + 14, 4, 0⟩
/-- `HUB.INJECT` -/
def hubInject : Obj := ⟨(0x0810) * 256 + 15, 4, 0⟩
/-- `HUB.PANIC_LINES` -/
def hubPanicLines : Obj := ⟨(0x0820) * 256 + 1, 2, 64⟩
/-- `HUB.PANIC_RUNAHEAD` -/
def hubPanicRunahead : Obj := ⟨(0x0820) * 256 + 2, 2, 128⟩
/-- `HUB.PANIC_UNITS` -/
def hubPanicUnits : Obj := ⟨(0x0820) * 256 + 3, 8, 0⟩
/-- `HUB.STARVED` -/
def hubStarved : Obj := ⟨(0x0820) * 256 + 4, 4, 0⟩
/-- `HUB.WQ_HIGH` -/
def hubWqHigh : Obj := ⟨(0x0820) * 256 + 5, 1, 48⟩
/-- `HUB.WQ_LOW` -/
def hubWqLow : Obj := ⟨(0x0820) * 256 + 6, 1, 16⟩
/-- `HUB.RAW_WAITS` -/
def hubRawWaits : Obj := ⟨(0x0820) * 256 + 7, 8, 0⟩
/-- `HUB.ACT_THROTTLE` -/
def hubActThrottle : Obj := ⟨(0x0820) * 256 + 8, 2, 48⟩
/-- `HUB.ACT_SPACING` -/
def hubActSpacing : Obj := ⟨(0x0820) * 256 + 9, 2, 100⟩
/-- `HUB.THROTTLE_EVENTS` -/
def hubThrottleEvents : Obj := ⟨(0x0820) * 256 + 10, 4, 0⟩
/-- `HUB.BIASm` -/
def hubBias (r : Nat) : Obj := ⟨(0x0820) * 256 + 64 + r, 2, if r = 0x3B then 0xFF00 else 0⟩
/-! ### Objects of spec/11_host_and_dma.md, R310 -/

/-- `PCIE.LINK_GEN` -/
def pcieLinkGen : Obj := ⟨(0x0740) * 256 + 1, 1, 0⟩
/-- `PCIE.LINK_WIDTH` -/
def pcieLinkWidth : Obj := ⟨(0x0740) * 256 + 2, 1, 0⟩
/-- `PCIE.MAX_GEN` -/
def pcieMaxGen : Obj := ⟨(0x0740) * 256 + 3, 1, 5⟩
/-- `PCIE.SUBSYSTEM` -/
def pcieSubsystem : Obj := ⟨(0x0740) * 256 + 4, 4, 0x8160⟩
/-- `PCIE.BAR2_BASE` -/
def pcieBar2Base : Obj := ⟨(0x0740) * 256 + 5, 8, 0⟩
/-- `PCIE.RESETS` -/
def pcieResets : Obj := ⟨(0x0740) * 256 + 6, 4, 0⟩
/-- `PCIE.CORR_ERRORS` -/
def pcieCorrErrors : Obj := ⟨(0x0740) * 256 + 7, 4, 0⟩
/-- `PCIE.UNCORR_ERRORS` -/
def pcieUncorrErrors : Obj := ⟨(0x0740) * 256 + 8, 4, 0⟩
/-- `PCIE.MBX_DISCARDS` -/
def pcieMbxDiscards : Obj := ⟨(0x0740) * 256 + 9, 4, 0⟩
/-- `DMA.ACTIVE_MAP` -/
def dmaActiveMap : Obj := ⟨(0x0900) * 256 + 1, 2, 0⟩
/-- `DMA.OWNED_MAP` -/
def dmaOwnedMap : Obj := ⟨(0x0900) * 256 + 2, 2, 0⟩
/-- `DMA.BAD_WRITES` -/
def dmaBadWrites : Obj := ⟨(0x0900) * 256 + 3, 4, 0⟩
/-- `DMA.HALTS` -/
def dmaHalts : Obj := ⟨(0x0900) * 256 + 4, 4, 0⟩
/-- `DMA.LOOPS` -/
def dmaLoops : Obj := ⟨(0x0900) * 256 + 5, 4, 0⟩
/-- `DMA.RESET_ABORTS` -/
def dmaResetAborts : Obj := ⟨(0x0900) * 256 + 6, 4, 0⟩
/-- `DMA.BYTES` -/
def dmaBytes : Obj := ⟨(0x0900) * 256 + 7, 8, 0⟩
/-! ### Objects of spec/12_object_dictionary.md, R345 -/

/-- `DEV.STATE` -/
def devState : Obj := ⟨(0x0200) * 256 + 1, 1, 0⟩
/-- `DEV.STATE_REQ` -/
def devStateReq : Obj := ⟨(0x0200) * 256 + 2, 1, 0⟩
/-- `DEV.MARK_MODE` -/
def devMarkMode : Obj := ⟨(0x0200) * 256 + 3, 1, 0⟩
/-- `DEV.STAMP_CLOCK` -/
def devStampClock : Obj := ⟨(0x0200) * 256 + 4, 1, 0⟩
/-- `DEV.LOCKk.ACQUIRE` -/
def devLockAcquire (k : Nat) : Obj := ⟨(0x0220 + k) * 256 + 1, 1, 0⟩
/-- `DEV.LOCKk.RELEASE` -/
def devLockRelease (k : Nat) : Obj := ⟨(0x0220 + k) * 256 + 2, 1, 0⟩
/-- `DEV.LOCKk.OWNER` -/
def devLockOwner (k : Nat) : Obj := ⟨(0x0220 + k) * 256 + 3, 4, 0⟩
/-- `DEV.LOCKk.LEASE` -/
def devLockLease (k : Nat) : Obj := ⟨(0x0220 + k) * 256 + 4, 4, 0x1388⟩
/-- `DEV.LOCKk.REMAINING` -/
def devLockRemaining (k : Nat) : Obj := ⟨(0x0220 + k) * 256 + 5, 4, 0⟩
/-- `DEV.LOCKk.ORPHANS` -/
def devLockOrphans (k : Nat) : Obj := ⟨(0x0220 + k) * 256 + 6, 4, 0⟩
/-- `DEV.COMMIT` -/
def devCommit : Obj := ⟨(0x0230) * 256 + 1, 1, 0⟩
/-- `DEV.STAGED` -/
def devStaged : Obj := ⟨(0x0230) * 256 + 2, 2, 0⟩
/-- `DEV.COMMITS` -/
def devCommits : Obj := ⟨(0x0230) * 256 + 3, 4, 0⟩
/-- `DEV.COMMIT_FAILS` -/
def devCommitFails : Obj := ⟨(0x0230) * 256 + 4, 4, 0⟩
/-- `CHn.COMMIT` -/
def chCommit (n : Nat) : Obj := ⟨(0x1000 + 0x100 * n) * 256 + 16, 1, 0⟩
/-- `CHn.STAGED` -/
def chStaged (n : Nat) : Obj := ⟨(0x1000 + 0x100 * n) * 256 + 17, 2, 0⟩
/-- `CHn.LAST_COMMIT_LINE` -/
def chLastCommitLine (n : Nat) : Obj := ⟨(0x1000 + 0x100 * n) * 256 + 18, 8, 0⟩
/-- `CHn.COMMITS` -/
def chCommits (n : Nat) : Obj := ⟨(0x1000 + 0x100 * n) * 256 + 19, 4, 0⟩
/-- `DEV.OP_START` -/
def devOpStart : Obj := ⟨(0x0260) * 256 + 1, 1, 0⟩
/-- `DEV.OP_LAST` -/
def devOpLast : Obj := ⟨(0x0260) * 256 + 2, 1, 0⟩
/-- `DEV.OP_RESULT` -/
def devOpResult : Obj := ⟨(0x0260) * 256 + 3, 1, 0⟩
/-- `DEV.OP_DETAIL` -/
def devOpDetail : Obj := ⟨(0x0260) * 256 + 4, 4, 0⟩
/-- `DEV.OP_END` -/
def devOpEnd : Obj := ⟨(0x0260) * 256 + 5, 8, 0⟩
/-- `AUDIT.NEXT` -/
def auditNext : Obj := ⟨(0x0270) * 256 + 1, 4, 0⟩
/-- `AUDIT.OLDEST` -/
def auditOldest : Obj := ⟨(0x0270) * 256 + 2, 4, 0⟩
/-- `AUDIT.FROM` -/
def auditFrom : Obj := ⟨(0x0270) * 256 + 3, 4, 0⟩
/-- `AUDIT.WINDOW` -/
def auditWindow : Obj := ⟨(0x0270) * 256 + 4, 4096, 0⟩
/-- `WOP.REQUESTS` -/
def wopRequests : Obj := ⟨(0x0700) * 256 + 1, 4, 0⟩
/-- `WOP.CRC_ERRORS` -/
def wopCrcErrors : Obj := ⟨(0x0700) * 256 + 2, 4, 0⟩
/-- `WOP.DUPLICATES` -/
def wopDuplicates : Obj := ⟨(0x0700) * 256 + 3, 4, 0⟩
/-- `WOP.SEQ_ERRORS` -/
def wopSeqErrors : Obj := ⟨(0x0700) * 256 + 4, 4, 0⟩
/-- `WOP.BUSY_ANSWERS` -/
def wopBusyAnswers : Obj := ⟨(0x0700) * 256 + 5, 4, 0⟩
/-- `WOP.CLIENTS` -/
def wopClients : Obj := ⟨(0x0700) * 256 + 6, 1, 0⟩
/-- `WOP.RESPONSE_MAX` -/
def wopResponseMax : Obj := ⟨(0x0700) * 256 + 7, 4, 0⟩
/-- `WOP.ETHp.ENABLE` -/
def wopEthEnable (p : Nat) : Obj := ⟨(0x0710 + p) * 256 + 1, 1, 1⟩
/-- `WOP.ETHp.IP_ADDR` -/
def wopEthIpAddr (p : Nat) : Obj := ⟨(0x0710 + p) * 256 + 2, 4, if p = 0 then 0xC0A85050 else 0xC0A85150⟩
/-- `WOP.ETHp.NETMASK` -/
def wopEthNetmask (p : Nat) : Obj := ⟨(0x0710 + p) * 256 + 3, 4, 0xffffff00⟩
/-- `WOP.ETHp.GATEWAY` -/
def wopEthGateway (p : Nat) : Obj := ⟨(0x0710 + p) * 256 + 4, 4, 0⟩
/-- `WOP.ETHp.LINK` -/
def wopEthLink (p : Nat) : Obj := ⟨(0x0710 + p) * 256 + 5, 1, 0⟩
/-- `WOP.ETHp.REASSEMBLY_FAILS` -/
def wopEthReassemblyFails (p : Nat) : Obj := ⟨(0x0710 + p) * 256 + 6, 4, 0⟩
/-- `WOP.ETHp.DROPPED` -/
def wopEthDropped (p : Nat) : Obj := ⟨(0x0710 + p) * 256 + 7, 4, 0⟩
/-- `WOP.CANc.ENABLE` -/
def wopCanEnable (c : Nat) : Obj := ⟨(0x0720 + c) * 256 + 1, 1, 0⟩
/-- `WOP.CANc.REQ_ID` -/
def wopCanReqId (c : Nat) : Obj := ⟨(0x0720 + c) * 256 + 2, 2, 0x321⟩
/-- `WOP.CANc.RSP_ID` -/
def wopCanRspId (c : Nat) : Obj := ⟨(0x0720 + c) * 256 + 3, 2, 0x361⟩
/-- `WOP.CANc.NOM_RATE` -/
def wopCanNomRate (c : Nat) : Obj := ⟨(0x0720 + c) * 256 + 4, 4, 0xf4240⟩
/-- `WOP.CANc.DATA_RATE` -/
def wopCanDataRate (c : Nat) : Obj := ⟨(0x0720 + c) * 256 + 5, 4, 0x4c4b40⟩
/-- `WOP.CANc.SEG_TIMEOUT` -/
def wopCanSegTimeout (c : Nat) : Obj := ⟨(0x0720 + c) * 256 + 6, 2, 50⟩
/-- `WOP.CANc.SEG_ERRORS` -/
def wopCanSegErrors (c : Nat) : Obj := ⟨(0x0720 + c) * 256 + 7, 4, 0⟩
/-- `WOP.CANc.BUS_OFFS` -/
def wopCanBusOffs (c : Nat) : Obj := ⟨(0x0720 + c) * 256 + 8, 4, 0⟩
/-- `WOP.CANc.STATE` -/
def wopCanState (c : Nat) : Obj := ⟨(0x0720 + c) * 256 + 9, 1, 0⟩
/-- `PROF.TARGETa` -/
def profTarget (a : Nat) : Obj := ⟨(0x4000 + a) * 256 + 2, 4, 0⟩
/-- `PROF.SNAPSHOT` -/
def profSnapshot : Obj := ⟨(0x4400) * 256 + 1, 128, 0⟩
/-! ### Objects of spec/13_loop_engine.md, R371 -/

/-- `LOOP.SLOTs.ENABLE` -/
def loopSlotEnable (s : Nat) : Obj := ⟨(0x0C40 + s) * 256 + 1, 1, 0⟩
/-- `LOOP.SLOTs.STATUS` -/
def loopSlotStatus (s : Nat) : Obj := ⟨(0x0C40 + s) * 256 + 2, 2, 0⟩
/-- `LOOP.SLOTs.TRIGGER` -/
def loopSlotTrigger (s : Nat) : Obj := ⟨(0x0C40 + s) * 256 + 3, 2, 1⟩
/-- `LOOP.SLOTs.PERIOD` -/
def loopSlotPeriod (s : Nat) : Obj := ⟨(0x0C40 + s) * 256 + 4, 4, 0x3e8⟩
/-- `LOOP.SLOTs.PHASE` -/
def loopSlotPhase (s : Nat) : Obj := ⟨(0x0C40 + s) * 256 + 5, 4, 0⟩
/-- `LOOP.SLOTs.MAX_RATE` -/
def loopSlotMaxRate (s : Nat) : Obj := ⟨(0x0C40 + s) * 256 + 6, 4, 0x3e8⟩
/-- `LOOP.SLOTs.DEADLINE` -/
def loopSlotDeadline (s : Nat) : Obj := ⟨(0x0C40 + s) * 256 + 7, 4, 0⟩
/-- `LOOP.SLOTs.LANES` -/
def loopSlotLanes (s : Nat) : Obj := ⟨(0x0C40 + s) * 256 + 8, 2, 1⟩
/-- `LOOP.SLOTs.SRC_X` -/
def loopSlotSrcX (s : Nat) : Obj := ⟨(0x0C40 + s) * 256 + 9, 4, 0⟩
/-- `LOOP.SLOTs.SRC_R` -/
def loopSlotSrcR (s : Nat) : Obj := ⟨(0x0C40 + s) * 256 + 10, 4, 0x9000000⟩
/-- `LOOP.SLOTs.SRC_FF` -/
def loopSlotSrcFf (s : Nat) : Obj := ⟨(0x0C40 + s) * 256 + 11, 4, 0⟩
/-- `LOOP.SLOTs.SRC_GAIN` -/
def loopSlotSrcGain (s : Nat) : Obj := ⟨(0x0C40 + s) * 256 + 12, 4, 0x1400000⟩
/-- `LOOP.SLOTs.SRC_OFFSET` -/
def loopSlotSrcOffset (s : Nat) : Obj := ⟨(0x0C40 + s) * 256 + 13, 4, 0⟩
/-- `LOOP.SLOTs.EXP` -/
def loopSlotExp (s : Nat) : Obj := ⟨(0x0C40 + s) * 256 + 14, 8, 0x1717171717171717⟩
/-- `LOOP.SLOTs.FLAGS` -/
def loopSlotFlags (s : Nat) : Obj := ⟨(0x0C40 + s) * 256 + 15, 1, 5⟩
/-- `LOOP.SLOTs.BANK_A` -/
def loopSlotBankA (s : Nat) : Obj := ⟨(0x0C40 + s) * 256 + 16, 60, 0x1400000000000000000000000000000000000000140000000000000000000000000000000000000⟩
/-- `LOOP.SLOTs.BANK_B` -/
def loopSlotBankB (s : Nat) : Obj := ⟨(0x0C40 + s) * 256 + 17, 60, 0x1400000000000000000000000000000000000000140000000000000000000000000000000000000⟩
/-- `LOOP.SLOTs.BANK_SWAP` -/
def loopSlotBankSwap (s : Nat) : Obj := ⟨(0x0C40 + s) * 256 + 18, 1, 0⟩
/-- `LOOP.SLOTs.PRESET` -/
def loopSlotPreset (s : Nat) : Obj := ⟨(0x0C40 + s) * 256 + 19, 4, 0⟩
/-- `LOOP.SLOTs.OUT_MIN` -/
def loopSlotOutMin (s : Nat) : Obj := ⟨(0x0C40 + s) * 256 + 20, 4, 0x1c00000⟩
/-- `LOOP.SLOTs.OUT_MAX` -/
def loopSlotOutMax (s : Nat) : Obj := ⟨(0x0C40 + s) * 256 + 21, 4, 0x1400000⟩
/-- `LOOP.SLOTs.DEST` -/
def loopSlotDest (s : Nat) : Obj := ⟨(0x0C40 + s) * 256 + 22, 4, 0⟩
/-- `LOOP.SLOTs.OUT_GAIN` -/
def loopSlotOutGain (s : Nat) : Obj := ⟨(0x0C40 + s) * 256 + 23, 4, 0x1400000⟩
/-- `LOOP.SLOTs.OUT_BASE` -/
def loopSlotOutBase (s : Nat) : Obj := ⟨(0x0C40 + s) * 256 + 24, 4, 0⟩
/-- `LOOP.SLOTs.TONE_REF` -/
def loopSlotToneRef (s : Nat) : Obj := ⟨(0x0C40 + s) * 256 + 25, 8, 0⟩
/-- `LOOP.SLOTs.SP` -/
def loopSlotSp (s : Nat) : Obj := ⟨(0x0C40 + s) * 256 + 26, 1024, 0⟩
/-- `LOOP.SLOTs.OUTPUT` -/
def loopSlotOutput (s : Nat) : Obj := ⟨(0x0C40 + s) * 256 + 27, 1024, 0⟩
/-- `LOOP.SLOTs.INTEGRATOR` -/
def loopSlotIntegrator (s : Nat) : Obj := ⟨(0x0C40 + s) * 256 + 28, 2048, 0⟩
/-- `LOOP.SLOTs.BAND` -/
def loopSlotBand (s : Nat) : Obj := ⟨(0x0C40 + s) * 256 + 29, 4, 0⟩
/-- `LOOP.SLOTs.BAND_COUNT` -/
def loopSlotBandCount (s : Nat) : Obj := ⟨(0x0C40 + s) * 256 + 30, 2, 10⟩
/-- `LOOP.SLOTs.RING` -/
def loopSlotRing (s : Nat) : Obj := ⟨(0x0C40 + s) * 256 + 31, 1, 255⟩
/-- `LOOP.SLOTs.REC_LANE` -/
def loopSlotRecLane (s : Nat) : Obj := ⟨(0x0C40 + s) * 256 + 32, 2, 0⟩
/-- `LOOP.SLOTs.SAMPLES` -/
def loopSlotSamples (s : Nat) : Obj := ⟨(0x0C40 + s) * 256 + 33, 8, 0⟩
/-- `LOOP.SLOTs.WRAPS` -/
def loopSlotWraps (s : Nat) : Obj := ⟨(0x0C40 + s) * 256 + 34, 4, 0⟩
/-- `LOOP.SLOTs.MISSES` -/
def loopSlotMisses (s : Nat) : Obj := ⟨(0x0C40 + s) * 256 + 35, 4, 0⟩
/-- `LOOP.SLOTs.OVERRUNS` -/
def loopSlotOverruns (s : Nat) : Obj := ⟨(0x0C40 + s) * 256 + 36, 4, 0⟩
/-- `LOOP.SLOTs.REFUSED` -/
def loopSlotRefused (s : Nat) : Obj := ⟨(0x0C40 + s) * 256 + 37, 4, 0⟩
/-- `LOOP.LOAD` -/
def loopLoad : Obj := ⟨(0x0C00) * 256 + 1, 4, 0⟩
/-- `LOOP.LOAD_LIMIT` -/
def loopLoadLimit : Obj := ⟨(0x0C00) * 256 + 2, 1, 80⟩
/-- `LOOP.LANES_USED` -/
def loopLanesUsed : Obj := ⟨(0x0C00) * 256 + 3, 2, 0⟩
/-- `LOOP.SEQq.INPUTS` -/
def loopSeqInputs (q : Nat) : Obj := ⟨(0x0C08 + q) * 256 + 1, 8, 0xffffffffffffffff⟩
/-- `LOOP.SEQq.PERIOD` -/
def loopSeqPeriod (q : Nat) : Obj := ⟨(0x0C08 + q) * 256 + 2, 4, 0⟩
/-- `LOOP.SEQq.RESULT` -/
def loopSeqResult (q : Nat) : Obj := ⟨(0x0C08 + q) * 256 + 3, 16, 0⟩
/-- `LOOP.AIN_VALUE` -/
def loopAinValue : Obj := ⟨(0x0C10) * 256 + 1, 50, 0⟩
/-- `LOOP.AIN_SCAN` -/
def loopAinScan : Obj := ⟨(0x0C10) * 256 + 2, 4, 0x1ffffff⟩
/-- `LOOP.AIN_LATE` -/
def loopAinLate : Obj := ⟨(0x0C10) * 256 + 3, 4, 0⟩
/-- `LOOP.PWM_ENABLE` -/
def loopPwmEnable : Obj := ⟨(0x0C11) * 256 + 1, 4, 0⟩
/-- `LOOP.PWM_PRESCALE` -/
def loopPwmPrescale : Obj := ⟨(0x0C11) * 256 + 2, 64, 0x10001000100010001000100010001000100010001000100010001000100010001000100010001000100010001000100010001000100010001000100010001⟩
/-- `LOOP.PWM_PERIOD` -/
def loopPwmPeriod : Obj := ⟨(0x0C11) * 256 + 3, 64, 0xc800c800c800c800c800c800c800c800c800c800c800c800c800c800c800c800c800c800c800c800c800c800c800c800c800c800c800c800c800c800c800c8⟩
/-- `LOOP.PWM_DUTY` -/
def loopPwmDuty : Obj := ⟨(0x0C11) * 256 + 4, 64, 0⟩
/-- `LOOP.PWM_SAFE` -/
def loopPwmSafe : Obj := ⟨(0x0C11) * 256 + 5, 8, 0⟩
/-- `LOOP.DAC_ENABLE` -/
def loopDacEnable : Obj := ⟨(0x0C12) * 256 + 1, 1, 0⟩
/-- `LOOP.DAC_CODE` -/
def loopDacCode : Obj := ⟨(0x0C12) * 256 + 2, 16, 0⟩
/-- `LOOP.DAC_SAFE` -/
def loopDacSafe : Obj := ⟨(0x0C12) * 256 + 3, 16, 0xffffffffffffffffffffffffffffffff⟩
/-- `LOOP.GPIO_DIR` -/
def loopGpioDir : Obj := ⟨(0x0C13) * 256 + 1, 4, 0⟩
/-- `LOOP.GPIO_OUT` -/
def loopGpioOut : Obj := ⟨(0x0C13) * 256 + 2, 4, 0⟩
/-- `LOOP.GPIO_IN` -/
def loopGpioIn : Obj := ⟨(0x0C13) * 256 + 3, 4, 0⟩
/-- `LOOP.GPIO_SAFE` -/
def loopGpioSafe : Obj := ⟨(0x0C13) * 256 + 4, 8, 0⟩
/-- `LOOP.MEASj.DATA` -/
def loopMeasData (j : Nat) : Obj := ⟨(0x0C20 + j) * 256 + 1, 1024, 0⟩
/-- `LOOP.MEASj.PUBLISH` -/
def loopMeasPublish (j : Nat) : Obj := ⟨(0x0C20 + j) * 256 + 2, 1, 0⟩
/-- `LOOP.MEASj.PUBLISHES` -/
def loopMeasPublishes (j : Nat) : Obj := ⟨(0x0C20 + j) * 256 + 3, 4, 0⟩
/-! ### Objects of spec/14_time_and_quadrille.md, R404 -/

/-- `TIME.NOW` -/
def timeNow : Obj := ⟨(0x0300) * 256 + 1, 8, 0⟩
/-- `TIME.MODE` -/
def timeMode : Obj := ⟨(0x0300) * 256 + 2, 1, 0⟩
/-- `TIME.SET` -/
def timeSet : Obj := ⟨(0x0300) * 256 + 3, 8, 0⟩
/-- `TIME.STATUS` -/
def timeStatus : Obj := ⟨(0x0300) * 256 + 4, 1, 0⟩
/-- `TIME.OFFSET` -/
def timeOffset : Obj := ⟨(0x0300) * 256 + 5, 4, 0⟩
/-- `TIME.PATH_DELAY` -/
def timePathDelay : Obj := ⟨(0x0300) * 256 + 6, 4, 0⟩
/-- `TIME.RATE` -/
def timeRate : Obj := ⟨(0x0300) * 256 + 7, 4, 0⟩
/-- `TIME.STEP_THRESH` -/
def timeStepThresh : Obj := ⟨(0x0300) * 256 + 8, 4, 0x3e8⟩
/-- `TIME.SLEW_MAX` -/
def timeSlewMax : Obj := ⟨(0x0300) * 256 + 9, 4, 0x2710⟩
/-- `TIME.VALID_TOL` -/
def timeValidTol : Obj := ⟨(0x0300) * 256 + 10, 4, 0x3e8⟩
/-- `TIME.VALID_HOLD` -/
def timeValidHold : Obj := ⟨(0x0300) * 256 + 11, 4, 60⟩
/-- `TIME.SNAP_MODE` -/
def timeSnapMode : Obj := ⟨(0x0300) * 256 + 12, 1, 0⟩
/-- `TIME.SNAP_GRID` -/
def timeSnapGrid : Obj := ⟨(0x0300) * 256 + 13, 4, 0x2710⟩
/-- `TIME.SNAP_TOL` -/
def timeSnapTol : Obj := ⟨(0x0300) * 256 + 14, 4, 0x7d0⟩
/-- `TIME.STEPS` -/
def timeSteps : Obj := ⟨(0x0300) * 256 + 15, 4, 0⟩
/-- `TIME.LAST_STEP` -/
def timeLastStep : Obj := ⟨(0x0300) * 256 + 16, 8, 0⟩
/-- `TIME.PTP_PORT` -/
def timePtpPort : Obj := ⟨(0x0310) * 256 + 1, 1, 0⟩
/-- `TIME.PTP_DOMAIN` -/
def timePtpDomain : Obj := ⟨(0x0310) * 256 + 2, 1, 0⟩
/-- `TIME.PTP_PRIORITY1` -/
def timePtpPriority1 : Obj := ⟨(0x0310) * 256 + 3, 1, 128⟩
/-- `TIME.PTP_PRIORITY2` -/
def timePtpPriority2 : Obj := ⟨(0x0310) * 256 + 4, 1, 128⟩
/-- `TIME.PTP_CLASS` -/
def timePtpClass : Obj := ⟨(0x0310) * 256 + 5, 1, 248⟩
/-- `TIME.PTP_LOG_ANNOUNCE` -/
def timePtpLogAnnounce : Obj := ⟨(0x0310) * 256 + 6, 2, 1⟩
/-- `TIME.PTP_LOG_SYNC` -/
def timePtpLogSync : Obj := ⟨(0x0310) * 256 + 7, 2, 0⟩
/-- `TIME.PTP_LOG_DELAYREQ` -/
def timePtpLogDelayreq : Obj := ⟨(0x0310) * 256 + 8, 2, 0⟩
/-- `TIME.PTP_ANNOUNCE_TIMEOUT` -/
def timePtpAnnounceTimeout : Obj := ⟨(0x0310) * 256 + 9, 1, 3⟩
/-- `TIME.PTP_RX_LAT` -/
def timePtpRxLat : Obj := ⟨(0x0310) * 256 + 10, 2, 0⟩
/-- `TIME.PTP_TX_LAT` -/
def timePtpTxLat : Obj := ⟨(0x0310) * 256 + 11, 2, 0⟩
/-- `TIME.PTP_STATE` -/
def timePtpState : Obj := ⟨(0x0310) * 256 + 12, 1, 1⟩
/-- `TIME.PTP_GM_ID` -/
def timePtpGmId : Obj := ⟨(0x0310) * 256 + 13, 8, 0⟩
/-- `TIME.PTP_UTC_OFFSET` -/
def timePtpUtcOffset : Obj := ⟨(0x0310) * 256 + 14, 2, 37⟩
/-- `TIME.PTP_TC` -/
def timePtpTc : Obj := ⟨(0x0310) * 256 + 15, 2, 16⟩
/-- `TIME.PTP_SYNCS` -/
def timePtpSyncs : Obj := ⟨(0x0310) * 256 + 16, 4, 0⟩
/-- `ALIGN.REF_FREQ` -/
def alignRefFreq : Obj := ⟨(0x0D00) * 256 + 1, 1, 0⟩
/-- `ALIGN.REF_SCALE` -/
def alignRefScale : Obj := ⟨(0x0D00) * 256 + 2, 1, 0⟩
/-- `ALIGN.TABLE_MODE` -/
def alignTableMode : Obj := ⟨(0x0D00) * 256 + 3, 1, 0⟩
/-- `ALIGN.BAND_TABLE` -/
def alignBandTable : Obj := ⟨(0x0D00) * 256 + 4, 256, 0⟩
/-- `ALIGN.REF_DELAY` -/
def alignRefDelay : Obj := ⟨(0x0D00) * 256 + 5, 4, 0⟩
/-- `ALIGN.STATE` -/
def alignState : Obj := ⟨(0x0D00) * 256 + 6, 1, 0⟩
/-- `ALIGN.PHASE_ERR` -/
def alignPhaseErr : Obj := ⟨(0x0D00) * 256 + 7, 2, 0⟩
/-- `ALIGN.BAND` -/
def alignBand : Obj := ⟨(0x0D00) * 256 + 8, 1, 0⟩
/-- `ALIGN.FINE` -/
def alignFine : Obj := ⟨(0x0D00) * 256 + 9, 2, 0⟩
/-- `ALIGN.LOCK_TIME` -/
def alignLockTime : Obj := ⟨(0x0D00) * 256 + 10, 4, 0x3e8⟩
/-- `ALIGN.COAST_LIMIT` -/
def alignCoastLimit : Obj := ⟨(0x0D00) * 256 + 11, 4, 0x2710⟩
/-- `ALIGN.COAST_KEEP` -/
def alignCoastKeep : Obj := ⟨(0x0D00) * 256 + 12, 4, 200⟩
/-- `ALIGN.REF_MEAS` -/
def alignRefMeas : Obj := ⟨(0x0D00) * 256 + 13, 4, 0⟩
/-- `ALIGN.COAST_TIME` -/
def alignCoastTime : Obj := ⟨(0x0D00) * 256 + 14, 4, 0⟩
/-- `ALIGN.LOCKS` -/
def alignLocks : Obj := ⟨(0x0D00) * 256 + 15, 4, 0⟩
/-- `ALIGN.COASTS` -/
def alignCoasts : Obj := ⟨(0x0D00) * 256 + 16, 4, 0⟩
/-- `QD.ENABLE` -/
def qdEnable : Obj := ⟨(0x0E00) * 256 + 1, 1, 0⟩
/-- `QD.ADDR` -/
def qdAddr : Obj := ⟨(0x0E00) * 256 + 2, 1, 0⟩
/-- `QD.PEERS` -/
def qdPeers : Obj := ⟨(0x0E00) * 256 + 3, 1, 1⟩
/-- `QD.PORT` -/
def qdPort : Obj := ⟨(0x0E00) * 256 + 4, 1, 0⟩
/-- `QD.GROUP` -/
def qdGroup : Obj := ⟨(0x0E00) * 256 + 5, 4, 0xefff5144⟩
/-- `QD.FILTER` -/
def qdFilter : Obj := ⟨(0x0E00) * 256 + 6, 1, 20⟩
/-- `QD.TIME_TOL` -/
def qdTimeTol : Obj := ⟨(0x0E00) * 256 + 7, 4, 0x3e8⟩
/-- `QD.STEP_TIMEOUT` -/
def qdStepTimeout : Obj := ⟨(0x0E00) * 256 + 8, 4, 100⟩
/-- `QD.REPEAT` -/
def qdRepeat : Obj := ⟨(0x0E00) * 256 + 9, 2, 0x3e8⟩
/-- `QD.STEP` -/
def qdStep : Obj := ⟨(0x0E00) * 256 + 10, 4, 0⟩
/-- `QD.STATE` -/
def qdState : Obj := ⟨(0x0E00) * 256 + 11, 1, 0⟩
/-- `QD.STEP_NO` -/
def qdStepNo : Obj := ⟨(0x0E00) * 256 + 12, 4, 0⟩
/-- `QD.LINE` -/
def qdLine : Obj := ⟨(0x0E00) * 256 + 13, 1, 0⟩
/-- `QD.LAST_RESULT` -/
def qdLastResult : Obj := ⟨(0x0E00) * 256 + 14, 1, 0⟩
/-- `QD.ARM_MASK` -/
def qdArmMask : Obj := ⟨(0x0E00) * 256 + 15, 1, 255⟩
/-- `QD.SHARED_LIST` -/
def qdSharedList : Obj := ⟨(0x0E00) * 256 + 16, 256, 0⟩
/-- `QD.DIGEST` -/
def qdDigest : Obj := ⟨(0x0E00) * 256 + 17, 8, 0⟩
/-- `QD.DIFF` -/
def qdDiff : Obj := ⟨(0x0E00) * 256 + 18, 8, 0⟩
/-- `QD.PEER_OFFSET` -/
def qdPeerOffset : Obj := ⟨(0x0E00) * 256 + 19, 32, 0⟩
/-- `QD.T_RISE` -/
def qdTRise : Obj := ⟨(0x0E00) * 256 + 20, 8, 0⟩
/-- `QD.FAILS` -/
def qdFails : Obj := ⟨(0x0E00) * 256 + 21, 4, 0⟩
/-- `QD.STRAYS` -/
def qdStrays : Obj := ⟨(0x0E00) * 256 + 22, 4, 0⟩
/-! ### Objects of spec/15_faults_and_rails.md, R428 -/

/-- `FLT.HIGHEST` -/
def fltHighest : Obj := ⟨(0x0400) * 256 + 1, 1, 0⟩
/-- `FLT.ALIVE_FREQ` -/
def fltAliveFreq : Obj := ⟨(0x0400) * 256 + 2, 4, 0x3e8⟩
/-- `FLT.QUIET` -/
def fltQuiet : Obj := ⟨(0x0400) * 256 + 3, 4, 0x3e8⟩
/-- `FLT.RECOVERY_LIMIT` -/
def fltRecoveryLimit : Obj := ⟨(0x0400) * 256 + 4, 1, 5⟩
/-- `FLT.RECOVERIES` -/
def fltRecoveries : Obj := ⟨(0x0400) * 256 + 5, 4, 0⟩
/-- `FLT.LATCHED` -/
def fltLatched : Obj := ⟨(0x0400) * 256 + 6, 2, 0⟩
/-- `FLT.CLEAR` -/
def fltClear : Obj := ⟨(0x0400) * 256 + 7, 1, 0⟩
/-- `FLT.CLEARS` -/
def fltClears : Obj := ⟨(0x0400) * 256 + 8, 4, 0⟩
/-- `FLT.STOP_RAIL` -/
def fltStopRail : Obj := ⟨(0x0400) * 256 + 9, 1, 15⟩
/-- `FLT.SAFE_RAIL` -/
def fltSafeRail : Obj := ⟨(0x0400) * 256 + 10, 1, 0⟩
/-- `FLT.TRIP` -/
def fltTrip : Obj := ⟨(0x0400) * 256 + 11, 1, 0⟩
/-- `FLT.DIE_WARN` -/
def fltDieWarn : Obj := ⟨(0x0400) * 256 + 12, 2, 0x3e8⟩
/-- `FLT.DIE_CRIT` -/
def fltDieCrit : Obj := ⟨(0x0400) * 256 + 13, 2, 0x47e⟩
/-- `FLT.DIE_TEMP` -/
def fltDieTemp : Obj := ⟨(0x0400) * 256 + 14, 16, 0⟩
/-- `FLT.ACTIVE_LIST` -/
def fltActiveList : Obj := ⟨(0x0400) * 256 + 15, 1024, 0⟩
/-- `FLT.STICKY_LIST` -/
def fltStickyList : Obj := ⟨(0x0400) * 256 + 16, 2048, 0⟩
/-- `FLT.STICKY_CLEAR_ALL` -/
def fltStickyClearAll : Obj := ⟨(0x0400) * 256 + 17, 1, 0⟩
/-- `FLT.VAON_MIN` -/
def fltVaonMin : Obj := ⟨(0x0400) * 256 + 18, 2, 0x6ae⟩
/-- `FLT.SEL` -/
def fltSel : Obj := ⟨(0x0410) * 256 + 1, 4, 0⟩
/-- `FLT.SEL_CLASS` -/
def fltSelClass : Obj := ⟨(0x0410) * 256 + 2, 1, 0⟩
/-- `FLT.SEL_DEFAULT` -/
def fltSelDefault : Obj := ⟨(0x0410) * 256 + 3, 1, 0⟩
/-- `FLT.SEL_MIN` -/
def fltSelMin : Obj := ⟨(0x0410) * 256 + 4, 1, 0⟩
/-- `FLT.SEL_STATE` -/
def fltSelState : Obj := ⟨(0x0410) * 256 + 5, 1, 0⟩
/-- `FLT.SEL_COUNT` -/
def fltSelCount : Obj := ⟨(0x0410) * 256 + 6, 4, 0⟩
/-- `FLT.SEL_LAST_TIME` -/
def fltSelLastTime : Obj := ⟨(0x0410) * 256 + 7, 8, 0⟩
/-- `FLT.SEL_LAST_PAYLOAD` -/
def fltSelLastPayload : Obj := ⟨(0x0410) * 256 + 8, 8, 0⟩
/-- `FLT.SEL_STICKY_CLEAR` -/
def fltSelStickyClear : Obj := ⟨(0x0410) * 256 + 9, 1, 0⟩
/-- `FLT.FEC_VALID` -/
def fltFecValid : Obj := ⟨(0x0420) * 256 + 1, 1, 0⟩
/-- `FLT.FEC_KIND` -/
def fltFecKind : Obj := ⟨(0x0420) * 256 + 2, 1, 0⟩
/-- `FLT.FEC_ADDR` -/
def fltFecAddr : Obj := ⟨(0x0420) * 256 + 3, 4, 0⟩
/-- `FLT.FEC_MASTER` -/
def fltFecMaster : Obj := ⟨(0x0420) * 256 + 4, 1, 0⟩
/-- `FLT.FEC_TYPE` -/
def fltFecType : Obj := ⟨(0x0420) * 256 + 5, 1, 0⟩
/-- `FLT.FEC_TIME` -/
def fltFecTime : Obj := ⟨(0x0420) * 256 + 6, 8, 0⟩
/-- `RAIL.STATE` -/
def railState : Obj := ⟨(0x0500) * 256 + 1, 1, 0⟩
/-- `RAIL.TARGET` -/
def railTarget : Obj := ⟨(0x0500) * 256 + 2, 1, 0⟩
/-- `RAIL.STEP` -/
def railStep : Obj := ⟨(0x0500) * 256 + 3, 1, 0⟩
/-- `RAIL.ARM_STATE` -/
def railArmState : Obj := ⟨(0x0500) * 256 + 4, 1, 15⟩
/-- `RAIL.VAON` -/
def railVaon : Obj := ⟨(0x0500) * 256 + 5, 2, 0⟩
/-- `RAIL.PG_IN` -/
def railPgIn : Obj := ⟨(0x0500) * 256 + 6, 4, 0⟩
/-- `RAIL.EN_OUT` -/
def railEnOut : Obj := ⟨(0x0500) * 256 + 7, 4, 0⟩
/-- `RAIL.FAILED_MAP` -/
def railFailedMap : Obj := ⟨(0x0500) * 256 + 8, 4, 0⟩
/-- `RAIL.LOG_NEXT` -/
def railLogNext : Obj := ⟨(0x0510) * 256 + 1, 4, 0⟩
/-- `RAIL.LOG_OLDEST` -/
def railLogOldest : Obj := ⟨(0x0510) * 256 + 2, 4, 0⟩
/-- `RAIL.LOG_CAPACITY` -/
def railLogCapacity : Obj := ⟨(0x0510) * 256 + 3, 4, 0⟩
/-- `RAIL.LOG_FROM` -/
def railLogFrom : Obj := ⟨(0x0510) * 256 + 4, 4, 0⟩
/-- `RAIL.LOG_WINDOW` -/
def railLogWindow : Obj := ⟨(0x0510) * 256 + 5, 1024, 0⟩
/-- `RAIL.LOG_REPEAT` -/
def railLogRepeat : Obj := ⟨(0x0510) * 256 + 6, 4, 0x3e8⟩
/-- `RAIL.LOG_TORN` -/
def railLogTorn : Obj := ⟨(0x0510) * 256 + 7, 4, 0⟩
/-- `RAIL.LOG_DROPPED` -/
def railLogDropped : Obj := ⟨(0x0510) * 256 + 8, 4, 0⟩
/-- `RAILr.ON_STATE` -/
def railOnState (r : Nat) : Obj := ⟨(0x0520 + r) * 256 + 1, 1, 0⟩
/-- `RAILr.ORDER` -/
def railOrder (r : Nat) : Obj := ⟨(0x0520 + r) * 256 + 2, 1, 0⟩
/-- `RAILr.EN_POL` -/
def railEnPol (r : Nat) : Obj := ⟨(0x0520 + r) * 256 + 3, 1, 0⟩
/-- `RAILr.PG_MODE` -/
def railPgMode (r : Nat) : Obj := ⟨(0x0520 + r) * 256 + 4, 1, 0⟩
/-- `RAILr.V_AIN` -/
def railVAin (r : Nat) : Obj := ⟨(0x0520 + r) * 256 + 5, 1, 255⟩
/-- `RAILr.V_SCALE` -/
def railVScale (r : Nat) : Obj := ⟨(0x0520 + r) * 256 + 6, 4, 0x1b7⟩
/-- `RAILr.V_MIN` -/
def railVMin (r : Nat) : Obj := ⟨(0x0520 + r) * 256 + 7, 2, 0⟩
/-- `RAILr.V_MAX` -/
def railVMax (r : Nat) : Obj := ⟨(0x0520 + r) * 256 + 8, 2, 0xffff⟩
/-- `RAILr.V_DISCHARGE` -/
def railVDischarge (r : Nat) : Obj := ⟨(0x0520 + r) * 256 + 9, 2, 0⟩
/-- `RAILr.I_AIN` -/
def railIAin (r : Nat) : Obj := ⟨(0x0520 + r) * 256 + 10, 1, 255⟩
/-- `RAILr.I_SCALE` -/
def railIScale (r : Nat) : Obj := ⟨(0x0520 + r) * 256 + 11, 4, 0⟩
/-- `RAILr.I_SLOT` -/
def railISlot (r : Nat) : Obj := ⟨(0x0520 + r) * 256 + 12, 1, 255⟩
/-- `RAILr.ON_DELAY` -/
def railOnDelay (r : Nat) : Obj := ⟨(0x0520 + r) * 256 + 13, 4, 0x3e8⟩
/-- `RAILr.ON_TIMEOUT` -/
def railOnTimeout (r : Nat) : Obj := ⟨(0x0520 + r) * 256 + 14, 4, 0x4e20⟩
/-- `RAILr.OFF_TIMEOUT` -/
def railOffTimeout (r : Nat) : Obj := ⟨(0x0520 + r) * 256 + 15, 4, 0xc350⟩
/-- `RAILr.GLITCH` -/
def railGlitch (r : Nat) : Obj := ⟨(0x0520 + r) * 256 + 16, 2, 100⟩
/-- `RAILr.FLAGS` -/
def railFlags (r : Nat) : Obj := ⟨(0x0520 + r) * 256 + 17, 1, 0⟩
/-- `RAILr.STATUS` -/
def railStatus (r : Nat) : Obj := ⟨(0x0520 + r) * 256 + 18, 1, 0⟩
/-- `RAILr.VOLTAGE` -/
def railVoltage (r : Nat) : Obj := ⟨(0x0520 + r) * 256 + 19, 2, 0⟩
/-- `RAILr.CURRENT` -/
def railCurrent (r : Nat) : Obj := ⟨(0x0520 + r) * 256 + 20, 2, 0⟩
/-- `RAIL.Ss.SETTLE` -/
def railSSettle (s : Nat) : Obj := ⟨(0x0580 + s) * 256 + 1, 4, 0⟩
/-- `RAIL.Ss.RAILS` -/
def railSRails (s : Nat) : Obj := ⟨(0x0580 + s) * 256 + 2, 4, 0⟩
/-! ### Objects of spec/16_startup_and_power_states.md, R442 -/

/-- `DEV.BOOT_STATE` -/
def devBootState : Obj := ⟨(0x0200) * 256 + 5, 1, 2⟩
/-- `DEV.RESET` -/
def devReset : Obj := ⟨(0x0200) * 256 + 6, 2, 0⟩
/-- `DEV.RESET_CAUSE` -/
def devResetCause : Obj := ⟨(0x0200) * 256 + 7, 1, 0⟩
/-- `DEV.BOOT_TIME` -/
def devBootTime : Obj := ⟨(0x0200) * 256 + 8, 4, 0⟩
/-- `DEV.BOOT_RESULT` -/
def devBootResult : Obj := ⟨(0x0200) * 256 + 9, 1, 0⟩
/-- `DEV.BOOT_BUS` -/
def devBootBus : Obj := ⟨(0x0200) * 256 + 10, 1, 0⟩
/-- `DEV.BOOTS` -/
def devBoots : Obj := ⟨(0x0200) * 256 + 11, 4, 0⟩
/-! ### Objects of spec/18_firmware_and_identity.md, R479 -/

/-- `DEV.HW_TYPE` -/
def devHwType : Obj := ⟨(0x0100) * 256 + 1, 2, 0x8160⟩
/-- `DEV.STEPPING` -/
def devStepping : Obj := ⟨(0x0100) * 256 + 2, 1, 178⟩
/-- `DEV.VARIANT` -/
def devVariant : Obj := ⟨(0x0100) * 256 + 3, 1, 0⟩
/-- `DEV.UNIT_SERIAL` -/
def devUnitSerial : Obj := ⟨(0x0100) * 256 + 4, 8, 0⟩
/-- `DEV.VENDOR_ID` -/
def devVendorId : Obj := ⟨(0x0100) * 256 + 5, 2, 0x1fa8⟩
/-- `DEV.LOT` -/
def devLot : Obj := ⟨(0x0100) * 256 + 6, 4, 0⟩
/-- `DEV.TEST_DATE` -/
def devTestDate : Obj := ⟨(0x0100) * 256 + 7, 4, 0⟩
/-- `DEV.MAC0` -/
def devMac0 : Obj := ⟨(0x0100) * 256 + 8, 8, 0⟩
/-- `DEV.MAC1` -/
def devMac1 : Obj := ⟨(0x0100) * 256 + 9, 8, 0⟩
/-- `DEV.KEY_REVOKED` -/
def devKeyRevoked : Obj := ⟨(0x0100) * 256 + 10, 1, 0⟩
/-- `DEV.FW_VERSION` -/
def devFwVersion : Obj := ⟨(0x0100) * 256 + 11, 4, 0⟩
/-- `DEV.TAG` -/
def devTag : Obj := ⟨(0x0110) * 256 + 1, 512, 0⟩
/-- `FW.IMAGE` -/
def fwImage : Obj := ⟨(0x0600) * 256 + 1, 4194304, 0⟩
/-- `FW.STAGED_STATE` -/
def fwStagedState : Obj := ⟨(0x0600) * 256 + 2, 1, 0⟩
/-- `FW.STAGED_BLOCKS` -/
def fwStagedBlocks : Obj := ⟨(0x0600) * 256 + 3, 2, 0⟩
/-- `FW.STAGED_VERSION` -/
def fwStagedVersion : Obj := ⟨(0x0600) * 256 + 4, 4, 0⟩
/-- `FW.CONFIRM` -/
def fwConfirm : Obj := ⟨(0x0600) * 256 + 5, 1, 0⟩
/-- `FW.RUNNING` -/
def fwRunning : Obj := ⟨(0x0600) * 256 + 6, 1, 0⟩
/-- `FW.SLOTA_STATE` -/
def fwSlotaState : Obj := ⟨(0x0600) * 256 + 7, 1, 0⟩
/-- `FW.SLOTB_STATE` -/
def fwSlotbState : Obj := ⟨(0x0600) * 256 + 8, 1, 0⟩
/-- `FW.SLOTA_VERSION` -/
def fwSlotaVersion : Obj := ⟨(0x0600) * 256 + 9, 4, 0⟩
/-- `FW.SLOTB_VERSION` -/
def fwSlotbVersion : Obj := ⟨(0x0600) * 256 + 10, 4, 0⟩
/-- `FW.TRIALS` -/
def fwTrials : Obj := ⟨(0x0600) * 256 + 11, 1, 0⟩
/-- `FW.RECOVERY` -/
def fwRecovery : Obj := ⟨(0x0600) * 256 + 12, 1, 0⟩
/-- `FW.SETTINGS_BANK` -/
def fwSettingsBank : Obj := ⟨(0x0600) * 256 + 13, 1, 0⟩
/-- `FW.FROZEN_BANK` -/
def fwFrozenBank : Obj := ⟨(0x0600) * 256 + 14, 1, 255⟩
/-- `FW.GROUP_FORMATS` -/
def fwGroupFormats : Obj := ⟨(0x0600) * 256 + 15, 32, 0⟩
/-- `FW.NOR_SIZE` -/
def fwNorSize : Obj := ⟨(0x0600) * 256 + 16, 2, 0⟩

end K

end Sys2Proof.Machine
end

