-- ==== Sys2Proof/Machine/Dictionary.lean ====
section
/-! DEFINITION. Sys2Proof/Machine/Dictionary.lean: the object dictionary, one row for each object of the tables of
spec/ (R311 to R314): its type code (R312), its access right (R314), the range its table states, and whether it is a
counter in the sense of R59. The conditions that involve other objects are in `Machine/Checks.lean`. -/

namespace Sys2Proof.Machine

/-- The access rights of R314. -/
inductive Acc where
  | ro | rw | wo | rws | rwi | rwl
deriving DecidableEq, Repr

/-- A range an object table states. -/
inductive Rng where
  | any
  | span (lo hi : Int)
  | spans (l : List (Int × Int))
  | oneOf (l : List Int)
  | stepped (lo hi step : Int)
deriving DecidableEq, Repr

/-- One row of an object table. -/
structure Desc where
  obj : Obj
  typ : Nat
  acc : Acc
  rng : Rng
  counter : Bool
deriving DecidableEq, Repr

/-- Whether a value lies in the stated range (R315, status RANGE). -/
def rngOk (r : Rng) (v : Int) : Bool :=
  match r with
  | .any => true
  | .span lo hi => decide (lo ≤ v) && decide (v ≤ hi)
  | .spans l => l.any fun (p : Int × Int) => decide (p.1 ≤ v) && decide (v ≤ p.2)
  | .oneOf l => l.any fun (x : Int) => decide (x = v)
  | .stepped lo hi st => decide (lo ≤ v) && decide (v ≤ hi) && decide (v % st = 0)

/-- The objects at index 0x0210 (spec/01_architecture.md, R27). -/
def rows0210 : List Desc :=
  [⟨K.devPdEnable, 3, .rw, .any, false⟩,
   ⟨K.devPdStatus, 3, .ro, .any, false⟩]

/-- The objects at index 0x0B10 + n (spec/02_position_feedback.md, R59). -/
def rows0B10N (n : Nat) : List Desc :=
  [⟨K.encSource n, 1, .rwi, .oneOf [0, 1], false⟩,
   ⟨K.encFilter n, 1, .rwi, .span 0 7, false⟩,
   ⟨K.encInvert n, 1, .rwi, .any, false⟩,
   ⟨K.encCount n, 4, .ro, .any, false⟩,
   ⟨K.encPreset n, 4, .wo, .any, false⟩,
   ⟨K.encStatus n, 2, .ro, .any, false⟩,
   ⟨K.encIndexMode n, 1, .rwi, .oneOf [0, 1, 2], false⟩,
   ⟨K.encIndexPeriod n, 3, .rwi, .any, false⟩,
   ⟨K.encIndexPhase n, 3, .rwi, .any, false⟩,
   ⟨K.encIndexTol n, 2, .rw, .any, false⟩,
   ⟨K.encIndexGate n, 1, .rwi, .span 0 4, false⟩,
   ⟨K.encDoubleLimit n, 1, .rw, .span 0 255, false⟩,
   ⟨K.encDoubleEdges n, 3, .rw, .any, true⟩,
   ⟨K.encIndexMismatches n, 3, .rw, .any, true⟩,
   ⟨K.encIndexDiscards n, 3, .rw, .any, true⟩,
   ⟨K.encLastIndexOffset n, 6, .ro, .any, false⟩,
   ⟨K.encGlitches n, 3, .rw, .any, true⟩,
   ⟨K.encVelocity n, 6, .ro, .any, false⟩,
   ⟨K.encDelayComp n, 2, .rw, .any, false⟩,
   ⟨K.encRehome n, 1, .wo, .oneOf [1], false⟩]

/-- The objects at index 0x0B20 + n (spec/02_position_feedback.md, R59). -/
def rows0B20N (n : Nat) : List Desc :=
  [⟨K.sposEnable n, 1, .rwi, .oneOf [0, 1], false⟩,
   ⟨K.sposClkFreq n, 3, .rwi, .span 100000 10000000, false⟩,
   ⟨K.sposPosBits n, 1, .rwi, .span 8 40, false⟩,
   ⟨K.sposStatusBits n, 1, .rwi, .span 0 4, false⟩,
   ⟨K.sposCrcSel n, 1, .rwi, .span 0 4, false⟩,
   ⟨K.sposCrcInit n, 2, .rwi, .any, false⟩,
   ⟨K.sposCrcInvert n, 1, .rwi, .oneOf [0, 1], false⟩,
   ⟨K.sposPeriod n, 3, .rwi, .span 2000 1000000, false⟩,
   ⟨K.sposStartTimeout n, 1, .rwi, .span 2 64, false⟩,
   ⟨K.sposWordTimeout n, 3, .rwi, .any, false⟩,
   ⟨K.sposErrorLimit n, 1, .rw, .span 1 16, false⟩,
   ⟨K.sposMaxStep n, 3, .rw, .any, false⟩,
   ⟨K.sposAlarmMask n, 1, .rw, .any, false⟩,
   ⟨K.sposAlarmLevel n, 1, .rw, .any, false⟩,
   ⟨K.sposRaw n, 4, .ro, .any, false⟩,
   ⟨K.sposWordStatus n, 1, .ro, .any, false⟩,
   ⟨K.sposLineDelay n, 2, .ro, .any, false⟩,
   ⟨K.sposCrcErrors n, 3, .rw, .any, true⟩,
   ⟨K.sposTimeouts n, 3, .rw, .any, true⟩]

/-- The objects at index 0x0B30 + n (spec/02_position_feedback.md, R59). -/
def rows0B30N (n : Nat) : List Desc :=
  [⟨K.passMode n, 1, .rwi, .oneOf [0, 1, 2], false⟩,
   ⟨K.passSource n, 1, .rwi, .span 0 3, false⟩,
   ⟨K.passZPeriod n, 3, .rwi, .any, false⟩,
   ⟨K.passMaxRate n, 3, .rwi, .any, false⟩,
   ⟨K.passOverruns n, 3, .rw, .any, true⟩]

/-- The objects at index 0x0B40 + n (spec/02_position_feedback.md, R59). -/
def rows0B40N (n : Nat) : List Desc :=
  [⟨K.cmpMode n, 1, .rwi, .oneOf [0, 1, 2, 3], false⟩,
   ⟨K.cmpClock n, 1, .rwi, .spans [(0, 3), (0x10, 0x17)], false⟩,
   ⟨K.cmpStart n, 8, .rws, .any, false⟩,
   ⟨K.cmpPitch n, 3, .rws, .span 1 4294967295, false⟩,
   ⟨K.cmpPitchFrac n, 2, .rws, .any, false⟩,
   ⟨K.cmpCount n, 3, .rws, .any, false⟩,
   ⟨K.cmpWidth n, 3, .rw, .span 10 1000000, false⟩,
   ⟨K.cmpPolarity n, 1, .rw, .oneOf [0, 1], false⟩,
   ⟨K.cmpDir n, 1, .rws, .span 0 2, false⟩,
   ⟨K.cmpListFirst n, 2, .rws, .span 0 4095, false⟩,
   ⟨K.cmpListLast n, 2, .rws, .span 0 4095, false⟩,
   ⟨K.cmpListRepeat n, 8, .rws, .any, false⟩,
   ⟨K.cmpArm n, 1, .wo, .oneOf [0, 1], false⟩,
   ⟨K.cmpFired n, 3, .ro, .any, false⟩,
   ⟨K.cmpMerged n, 3, .rw, .any, true⟩,
   ⟨K.cmpNext n, 8, .ro, .any, false⟩,
   ⟨K.cmpCaptEdge n, 1, .rw, .oneOf [1, 2, 3], false⟩,
   ⟨K.cmpCaptFilter n, 1, .rw, .span 0 255, false⟩,
   ⟨K.cmpCaptHoldoff n, 3, .rw, .any, false⟩,
   ⟨K.cmpCaptPos n, 8, .ro, .any, false⟩,
   ⟨K.cmpCaptTime n, 9, .ro, .any, false⟩,
   ⟨K.cmpRingCh n, 1, .rw, .span 0 7, false⟩]

/-- The objects at index 0x0B50 + n (spec/03_line_clock_and_cues.md, R84). -/
def rows0B50N (n : Nat) : List Desc :=
  [⟨K.lcEnable n, 1, .rwi, .oneOf [0, 1], false⟩,
   ⟨K.lcRatio n, 4, .rwi, .any, false⟩,
   ⟨K.lcBandwidth n, 2, .rwi, .span 1 2000, false⟩,
   ⟨K.lcDamping n, 2, .rwi, .span 500 2000, false⟩,
   ⟨K.lcBwEff n, 3, .ro, .any, false⟩,
   ⟨K.lcSlowRate n, 3, .rwi, .span 1 10000000, false⟩,
   ⟨K.lcStillTime n, 3, .rw, .span 100 1000000, false⟩,
   ⟨K.lcLockTol n, 2, .rw, .span 1 1000, false⟩,
   ⟨K.lcLockTime n, 3, .rw, .span 100 1000000, false⟩,
   ⟨K.lcUnlockTol n, 2, .rw, .span 2 65535, false⟩,
   ⟨K.lcCorrSlew n, 2, .rw, .span 1 64, false⟩,
   ⟨K.lcPosition n, 8, .ro, .any, false⟩,
   ⟨K.lcVelocity n, 6, .ro, .any, false⟩,
   ⟨K.lcError n, 6, .ro, .any, false⟩,
   ⟨K.lcCorrPending n, 6, .ro, .any, false⟩,
   ⟨K.lcStatus n, 2, .ro, .any, false⟩,
   ⟨K.lcHighWater n, 8, .ro, .any, false⟩,
   ⟨K.lcUnlocks n, 3, .rw, .any, true⟩]

/-- The objects at index 0x1010 + 0x100 * n (spec/03_line_clock_and_cues.md, R84). -/
def rows1010 (n : Nat) : List Desc :=
  [⟨K.chClockSrc n, 1, .rwi, .span 0 3, false⟩,
   ⟨K.chBarOffset n, 8, .rws, .any, false⟩,
   ⟨K.chPosition n, 8, .ro, .any, false⟩,
   ⟨K.chLineHigh n, 4, .ro, .any, false⟩,
   ⟨K.chSkippedLines n, 3, .rw, .any, true⟩]

/-- The objects at index 0x0B60 + k (spec/03_line_clock_and_cues.md, R84). -/
def rows0B60K (k : Nat) : List Desc :=
  [⟨K.cueListFirst k, 2, .rw, .span 0 4095, false⟩,
   ⟨K.cueListLast k, 2, .rw, .span 0 4095, false⟩,
   ⟨K.cueListClock k, 1, .rw, .spans [(0, 3), (0x10, 0x17), (0x20, 0x27)], false⟩,
   ⟨K.cueListRepeat k, 8, .rw, .any, false⟩,
   ⟨K.cueListArm k, 1, .wo, .oneOf [0, 1], false⟩,
   ⟨K.cueListState k, 1, .ro, .any, false⟩,
   ⟨K.cueListNext k, 2, .ro, .any, false⟩,
   ⟨K.cueListExecuted k, 3, .rw, .any, true⟩,
   ⟨K.cueListLate k, 3, .rw, .any, true⟩,
   ⟨K.cueListRingCh k, 1, .rw, .span 0 7, false⟩]

/-- The objects at index 0x2000 + i (spec/03_line_clock_and_cues.md, R84). -/
def rows2000I (i : Nat) : List Desc :=
  [⟨K.cueEntry i, 10, .rw, .any, false⟩,
   ⟨K.cueEntryPosition i, 8, .rw, .any, false⟩,
   ⟨K.cueEntryAction i, 1, .rw, .any, false⟩,
   ⟨K.cueEntryTarget i, 1, .rw, .any, false⟩,
   ⟨K.cueEntryFlags i, 1, .rw, .any, false⟩,
   ⟨K.cueEntryArg i, 3, .rw, .any, false⟩]

/-- The objects at index 0x1020 + 0x100 * n (spec/04_image_path.md, R116). -/
def rows1020 (n : Nat) : List Desc :=
  [⟨K.chScale n, 1, .rwi, .oneOf [0, 1, 2], false⟩,
   ⟨K.chWidth n, 3, .rwi, .stepped 128 131072 128, false⟩,
   ⟨K.chElemDepth n, 1, .rwi, .oneOf [1, 2, 4], false⟩,
   ⟨K.chScalePhase n, 1, .rwi, .any, false⟩,
   ⟨K.chFlaskBase n, 4, .rwi, .stepped 0 0xFFFFFFFFFFFFFFFF 65536, false⟩,
   ⟨K.chFlaskLines n, 2, .rwi, .span 64 2048, false⟩,
   ⟨K.chFlaskSlot n, 3, .ro, .any, false⟩,
   ⟨K.chFetchLead n, 2, .rwi, .span 16 1024, false⟩,
   ⟨K.chFlaskWrite n, 4, .ro, .any, false⟩,
   ⟨K.chFlaskFill n, 2, .ro, .any, false⟩,
   ⟨K.chFlaskEccErrors n, 3, .rw, .any, true⟩,
   ⟨K.chSegments n, 10, .rwi, .any, false⟩] ++
  (List.range 8).map fun (r : Nat) => ⟨K.chRowDelay n r, 2, .rwi, .span 0 4095, false⟩

/-- The objects at index 0x1030 + 0x100 * n (spec/04_image_path.md, R116). -/
def rows1030 (n : Nat) : List Desc :=
  [⟨K.chToneOrigin n, 3, .rwi, .span 0 131071, false⟩,
   ⟨K.chToneZoneW n, 2, .rwi, .span 1 1024, false⟩,
   ⟨K.chToneSwap n, 1, .wo, .oneOf [0, 1, 2], false⟩,
   ⟨K.chToneLive n, 1, .ro, .any, false⟩,
   ⟨K.chToneState n, 1, .ro, .any, false⟩,
   ⟨K.chToneCopy n, 1, .wo, .oneOf [1], false⟩,
   ⟨K.chToneSwaps n, 3, .rw, .any, true⟩,
   ⟨K.chToneLateLines n, 3, .rw, .any, true⟩]

/-- The objects at index 0x1040 + 0x100 * n (spec/04_image_path.md, R116). -/
def rows1040 (n : Nat) : List Desc :=
  [⟨K.chNozPatch n, 4, .wo, .any, false⟩,
   ⟨K.chNozState n, 1, .ro, .any, false⟩,
   ⟨K.chNozWset0 n, 3, .rws, .any, false⟩,
   ⟨K.chNozWset1 n, 3, .rws, .any, false⟩,
   ⟨K.chNozWset2 n, 3, .rws, .any, false⟩,
   ⟨K.chNozWset3 n, 3, .rws, .any, false⟩,
   ⟨K.chNozDead n, 3, .ro, .any, false⟩,
   ⟨K.chTableEccErrors n, 3, .rw, .any, true⟩]

/-- The objects at index 0x1050 + 0x100 * n (spec/04_image_path.md, R116). -/
def rows1050 (n : Nat) : List Desc :=
  [⟨K.chScrW n, 2, .rwi, .span 1 256, false⟩,
   ⟨K.chScrH n, 2, .rwi, .span 1 256, false⟩,
   ⟨K.chScrX0 n, 2, .rws, .any, false⟩,
   ⟨K.chScrY0 n, 2, .rws, .any, false⟩]

/-- The objects at index 0x1060 + 0x100 * n (spec/04_image_path.md, R116). -/
def rows1060 (n : Nat) : List Desc :=
  [⟨K.chTblId n, 1, .rw, .span 1 4, false⟩,
   ⟨K.chTblAddr n, 4, .rw, .stepped 0 0xFFFFFFFFFFFFFFFF 64, false⟩,
   ⟨K.chTblFirst n, 3, .rw, .any, false⟩,
   ⟨K.chTblCount n, 3, .rw, .any, false⟩,
   ⟨K.chTblGo n, 1, .wo, .oneOf [1, 2], false⟩,
   ⟨K.chTblStatus n, 1, .ro, .any, false⟩]

/-- The objects at index 0x1070 + 0x100 * n (spec/05_firing_and_protection.md, R136). -/
def rows1070 (n : Nat) : List Desc :=
  [⟨K.chMaxLineRate n, 3, .ro, .any, false⟩,
   ⟨K.chGroups n, 1, .rwi, .oneOf [1, 2, 3, 4, 6, 8], false⟩,
   ⟨K.chGroupMap n, 1, .rwi, .oneOf [0, 1], false⟩,
   ⟨K.chGroupRun n, 2, .rwi, .span 1 4096, false⟩,
   ⟨K.chGroupRotate n, 1, .rwi, .oneOf [0, 1], false⟩,
   ⟨K.chFireLead n, 2, .rwi, .span 500 8000, false⟩,
   ⟨K.chLinkLatency n, 2, .ro, .any, false⟩,
   ⟨K.chGroupGap n, 2, .rw, .span 0 5000, false⟩,
   ⟨K.chLinesFired n, 4, .ro, .any, false⟩,
   ⟨K.chFiresSpread n, 3, .rw, .any, true⟩,
   ⟨K.chFiresLate n, 3, .rw, .any, true⟩,
   ⟨K.chFiresDropped n, 3, .rw, .any, true⟩,
   ⟨K.chFireStatus n, 1, .ro, .any, false⟩] ++
  (List.range 8).map fun (r : Nat) => ⟨K.chRowPhase n r, 1, .rws, .span 0 255, false⟩

/-- The objects at index 0x1080 + 0x100 * n (spec/05_firing_and_protection.md, R136). -/
def rows1080 (n : Nat) : List Desc :=
  [⟨K.chElemWin n, 1, .rwi, .span 2 32, false⟩,
   ⟨K.chElemMax n, 1, .rws, .span 0 31, false⟩,
   ⟨K.chDropWeight n, 4, .rwi, .any, false⟩,
   ⟨K.chHeadWin n, 2, .rwi, .span 16 4096, false⟩,
   ⟨K.chHeadLimit n, 2, .rws, .any, false⟩,
   ⟨K.chHeadSoft n, 2, .rws, .any, false⟩,
   ⟨K.chThinned n, 4, .rw, .any, true⟩,
   ⟨K.chSuppressed n, 4, .rw, .any, true⟩,
   ⟨K.chDutyGuardLines n, 3, .rw, .any, true⟩,
   ⟨K.chHeadK n, 10, .ro, .any, false⟩]

/-- The objects at index 0x1090 + 0x100 * n (spec/05_firing_and_protection.md, R136). -/
def rows1090 (n : Nat) : List Desc :=
  [⟨K.chTempReaction n, 1, .rw, .oneOf [0, 1, 2], false⟩,
   ⟨K.chTempLimit n, 5, .rw, .any, false⟩,
   ⟨K.chTempHyst n, 2, .rw, .span 1 500, false⟩,
   ⟨K.chTempThin n, 1, .rw, .span 1 15, false⟩,
   ⟨K.chTempStale n, 2, .rw, .span 2000 60000, false⟩,
   ⟨K.chTempMask n, 4, .rw, .any, false⟩,
   ⟨K.chHeadHotMap n, 4, .ro, .any, false⟩,
   ⟨K.chHeadTemp n, 10, .ro, .any, false⟩,
   ⟨K.chHotEvents n, 3, .rw, .any, true⟩]

/-- The objects at index 0x10B0 + 0x100 * (m / 4) + m % 4 (spec/06_kuntelink.md, R173). -/
def rows10B0 (m : Nat) : List Desc :=
  [⟨K.klEnable m, 1, .rwi, .oneOf [0, 1], false⟩,
   ⟨K.klState m, 1, .ro, .any, false⟩,
   ⟨K.klExpectType m, 3, .rwi, .any, false⟩,
   ⟨K.klBoardType m, 3, .ro, .any, false⟩,
   ⟨K.klBoardSerial m, 4, .ro, .any, false⟩,
   ⟨K.klBoardCaps m, 3, .ro, .any, false⟩,
   ⟨K.klLatency m, 3, .ro, .any, false⟩,
   ⟨K.klTxAmpl m, 2, .rwi, .span 400 1200, false⟩,
   ⟨K.klTxPre m, 1, .rwi, .span 0 15, false⟩,
   ⟨K.klTxPost m, 1, .rwi, .span 0 31, false⟩,
   ⟨K.klTrainTimeout m, 2, .rw, .span 10 10000, false⟩,
   ⟨K.klAutoRetrain m, 1, .rw, .oneOf [0, 1], false⟩,
   ⟨K.klTempRecords m, 1, .rw, .oneOf [0, 1], false⟩,
   ⟨K.klCtrlAddr m, 2, .rw, .span 0 0x3FFE, false⟩,
   ⟨K.klCtrlData m, 3, .rw, .any, false⟩,
   ⟨K.klCtrlGo m, 1, .wo, .oneOf [1, 2], false⟩,
   ⟨K.klCtrlStatus m, 1, .ro, .any, false⟩,
   ⟨K.klBulkSrc m, 4, .rw, .stepped 0 0xFFFFFFFFFFFFFFFF 64, false⟩,
   ⟨K.klBulkDst m, 3, .rw, .stepped 0 0xFFFFFFFF 8, false⟩,
   ⟨K.klBulkLen m, 3, .rw, .stepped 8 16777216 8, false⟩,
   ⟨K.klBulkGo m, 1, .wo, .oneOf [1], false⟩,
   ⟨K.klBulkStatus m, 1, .ro, .any, false⟩,
   ⟨K.klBadHeaders m, 3, .rw, .any, true⟩,
   ⟨K.klBadBlocks m, 3, .rw, .any, true⟩] ++
  [⟨K.klLockLosses m, 3, .rw, .any, true⟩,
   ⟨K.klNaks m, 3, .rw, .any, true⟩,
   ⟨K.klResends m, 3, .rw, .any, true⟩,
   ⟨K.klLinesLost m, 3, .rw, .any, true⟩,
   ⟨K.klFiresLost m, 3, .rw, .any, true⟩,
   ⟨K.klCtrlRetries m, 3, .rw, .any, true⟩,
   ⟨K.klBoardBadBlocks m, 3, .rw, .any, true⟩,
   ⟨K.klBoardLateFires m, 3, .rw, .any, true⟩,
   ⟨K.klBoardBlankFires m, 3, .rw, .any, true⟩,
   ⟨K.klTrainings m, 3, .rw, .any, true⟩]

/-- The objects at index 0x10D0 + 0x100 * n (spec/07_beam_stations.md, R204). -/
def rows10D0 (n : Nat) : List Desc :=
  [⟨K.chScanEnable n, 1, .rw, .oneOf [0, 1], false⟩,
   ⟨K.chScanState n, 1, .ro, .any, false⟩,
   ⟨K.chBeams n, 1, .rwi, .stepped 4 32 4, false⟩,
   ⟨K.chMirPwm n, 1, .rwi, .spans [(0, 31), (255, 255)], false⟩,
   ⟨K.chMirDac n, 1, .rwi, .spans [(0, 7), (255, 255)], false⟩,
   ⟨K.chMirStartLevel n, 2, .rwi, .span 0 4095, false⟩,
   ⟨K.chMirSpinup n, 2, .rwi, .span 10 10000, false⟩,
   ⟨K.chMirPhaseNom n, 6, .rwi, .span (-180000) 180000, false⟩,
   ⟨K.chScanSpan n, 3, .rwi, .any, false⟩,
   ⟨K.chScanAmplSet n, 3, .rws, .any, false⟩,
   ⟨K.chScanAmplTol n, 3, .rw, .any, false⟩,
   ⟨K.chScanAmpl n, 3, .ro, .any, false⟩,
   ⟨K.chScanCentre n, 6, .ro, .any, false⟩,
   ⟨K.chScanCentreTol n, 3, .rw, .any, false⟩,
   ⟨K.chScanPhase n, 6, .ro, .any, false⟩,
   ⟨K.chScanWin n, 3, .rw, .span 10 50000, false⟩,
   ⟨K.chScanAvg n, 1, .rw, .span 1 64, false⟩,
   ⟨K.chScanMissLimit n, 1, .rw, .span 1 64, false⟩,
   ⟨K.chScanAcqTimeout n, 2, .rw, .span 10 60000, false⟩,
   ⟨K.chScanMinPulse n, 2, .rw, .span 1 1000, false⟩,
   ⟨K.chScanMisses n, 3, .rw, .any, true⟩,
   ⟨K.chSweep n, 4, .ro, .any, false⟩,
   ⟨K.chSweepLead n, 3, .rwi, .any, false⟩]

/-- The objects at index 0x10E0 + 0x100 * n (spec/07_beam_stations.md, R204). -/
def rows10E0 (n : Nat) : List Desc :=
  [⟨K.chVoltaFwd n, 5, .rws, .any, false⟩,
   ⟨K.chVoltaRev n, 5, .rws, .any, false⟩,
   ⟨K.chScanX0 n, 6, .rws, .any, false⟩,
   ⟨K.chSltAddr n, 4, .rw, .stepped 0 0xFFFFFFFFFFFFFFFF 64, false⟩,
   ⟨K.chSltGo n, 1, .wo, .oneOf [1, 2, 3], false⟩,
   ⟨K.chSltStatus n, 1, .ro, .any, false⟩,
   ⟨K.chScanApplyLead n, 2, .rw, .span 4 1024, false⟩,
   ⟨K.chSenseBeam n, 1, .rwi, .span 0 31, false⟩,
   ⟨K.chSenseT1 n, 3, .rws, .any, false⟩,
   ⟨K.chSenseT2 n, 3, .rws, .any, false⟩,
   ⟨K.chSenseW n, 3, .rws, .any, false⟩,
   ⟨K.chApcStart n, 6, .rws, .any, false⟩,
   ⟨K.chApcLen n, 3, .rws, .any, false⟩,
   ⟨K.chApcSample n, 6, .rws, .any, false⟩,
   ⟨K.chApcAin n, 1, .rwi, .spans [(0, 23), (255, 255)], false⟩,
   ⟨K.chApcSamples n, 10, .ro, .any, false⟩,
   ⟨K.chBeamPower n, 10, .rw, .any, false⟩,
   ⟨K.chPageState n, 1, .ro, .any, false⟩,
   ⟨K.chPagesPrinted n, 3, .rw, .any, true⟩,
   ⟨K.chPagesSpoiled n, 3, .rw, .any, true⟩,
   ⟨K.chPagesSkipped n, 3, .rw, .any, true⟩]

/-- The objects at index 0x0B70 (spec/07_beam_stations.md, R204). -/
def rows0B70 : List Desc :=
  [⟨K.beamScanFreq, 3, .rwi, .span 100000 10000000, false⟩,
   ⟨K.beamReadySlots, 10, .rw, .any, false⟩,
   ⟨K.beamPageAbort, 1, .wo, .oneOf [1], false⟩]

/-- The objects at index 0x1000 + 0x100 * n (spec/08_jobs_and_recast.md, R235). -/
def rows1000 (n : Nat) : List Desc :=
  [⟨K.chState n, 1, .ro, .any, false⟩,
   ⟨K.chCmd n, 1, .wo, .oneOf [1, 2, 4, 5], false⟩,
   ⟨K.chJobId n, 3, .ro, .any, false⟩,
   ⟨K.chJobFirst n, 4, .ro, .any, false⟩,
   ⟨K.chJobEnd n, 4, .ro, .any, false⟩,
   ⟨K.chJobCfirst n, 4, .ro, .any, false⟩,
   ⟨K.chJobsQueued n, 1, .ro, .any, false⟩,
   ⟨K.chHeldLine n, 4, .ro, .any, false⟩,
   ⟨K.chRunAhead n, 6, .ro, .any, false⟩,
   ⟨K.chJobsRefused n, 3, .rw, .any, true⟩,
   ⟨K.chCommit n, 1, .wo, .oneOf [1], false⟩,
   ⟨K.chStaged n, 2, .ro, .any, false⟩,
   ⟨K.chLastCommitLine n, 4, .ro, .any, false⟩,
   ⟨K.chCommits n, 3, .rw, .any, true⟩]

/-- The objects at index 0x10A0 + 0x100 * n (spec/08_jobs_and_recast.md, R235). -/
def rows10A0 (n : Nat) : List Desc :=
  [⟨K.chIntakeBase n, 4, .rwi, .stepped 0 0xFFFFFFFFFFFFFFFF 65536, false⟩,
   ⟨K.chIntakeSize n, 3, .rwi, .stepped 0 0xFFFFFFFF 65536, false⟩,
   ⟨K.chIntakeDma n, 1, .rwi, .spans [(0, 15), (255, 255)], false⟩,
   ⟨K.chIntakeFill n, 3, .ro, .any, false⟩,
   ⟨K.chIntakeRetries n, 1, .rw, .span 0 8, false⟩,
   ⟨K.chIntakeMeas n, 3, .ro, .any, false⟩,
   ⟨K.chAdmRaw n, 3, .ro, .any, false⟩,
   ⟨K.chAdmFetch n, 3, .ro, .any, false⟩,
   ⟨K.chAdmSprue n, 3, .ro, .any, false⟩,
   ⟨K.chAdmRatio n, 3, .ro, .any, false⟩,
   ⟨K.chBandsDone n, 3, .rw, .any, true⟩,
   ⟨K.chBandRetries n, 3, .rw, .any, true⟩]

/-- The objects at index 0x0240 (spec/08_jobs_and_recast.md, R235). -/
def rows0240 : List Desc :=
  [⟨K.devAdmPolicy, 1, .rw, .oneOf [0, 1], false⟩,
   ⟨K.devAdmHostBudget, 3, .rw, .any, false⟩,
   ⟨K.devAdmHostLink, 3, .ro, .any, false⟩,
   ⟨K.devAdmDramBudget, 3, .rw, .any, false⟩,
   ⟨K.devAdmFixed, 3, .rw, .any, false⟩,
   ⟨K.devAdmHostLoad, 3, .ro, .any, false⟩,
   ⟨K.devAdmHostMargin, 6, .ro, .any, false⟩,
   ⟨K.devAdmDramLoad, 3, .ro, .any, false⟩,
   ⟨K.devAdmDramMargin, 6, .ro, .any, false⟩,
   ⟨K.devAdmRatioNeed, 3, .ro, .any, false⟩,
   ⟨K.devAdmRatioDecl, 3, .ro, .any, false⟩,
   ⟨K.devAdmLastJob, 3, .ro, .any, false⟩,
   ⟨K.devAdmLastVerdict, 1, .ro, .any, false⟩]

/-- The objects at index 0x0250 (spec/08_jobs_and_recast.md, R235). -/
def rows0250 : List Desc :=
  [⟨K.rcstRequest, 1, .wo, .oneOf [1], false⟩,
   ⟨K.rcstPhase, 1, .ro, .any, false⟩,
   ⟨K.rcstLastReason, 1, .ro, .any, false⟩,
   ⟨K.rcstClock, 1, .rwi, .span 0 3, false⟩,
   ⟨K.rcstPRequest, 8, .ro, .any, false⟩,
   ⟨K.rcstPFirst, 8, .ro, .any, false⟩,
   ⟨K.rcstPLast, 8, .ro, .any, false⟩,
   ⟨K.rcstPClear, 8, .ro, .any, false⟩,
   ⟨K.rcstPBack, 8, .ro, .any, false⟩,
   ⟨K.rcstPDecide, 8, .ro, .any, false⟩,
   ⟨K.rcstApproach, 3, .rw, .any, false⟩,
   ⟨K.rcstResumeSpeed, 3, .rw, .any, false⟩,
   ⟨K.rcstSettleDist, 3, .ro, .any, false⟩,
   ⟨K.rcstOverrunMax, 3, .rw, .any, false⟩,
   ⟨K.rcstDataAhead, 2, .rw, .span 0 4096, false⟩,
   ⟨K.rcstMaxPasses, 1, .rw, .span 1 16, false⟩,
   ⟨K.rcstHoldTimeout, 3, .rw, .span 1000 3600000, false⟩,
   ⟨K.rcstGpioActive, 1, .rw, .spans [(0, 31), (255, 255)], false⟩,
   ⟨K.rcstGpioReverse, 1, .rw, .spans [(0, 31), (255, 255)], false⟩,
   ⟨K.rcstGpioReady, 1, .rw, .spans [(0, 31), (255, 255)], false⟩,
   ⟨K.rcstReadyMap, 1, .ro, .any, false⟩,
   ⟨K.rcstPasses, 3, .rw, .any, true⟩,
   ⟨K.rcstCount, 3, .rw, .any, true⟩]

/-- The objects at index 0x10F0 + 0x100 * n (spec/09_sprue_codec.md, R255). -/
def rows10F0 (n : Nat) : List Desc :=
  [⟨K.chSprueState n, 1, .ro, .any, false⟩,
   ⟨K.chSprueLines n, 4, .ro, .any, false⟩,
   ⟨K.chSprueBlocks n, 3, .rw, .any, true⟩,
   ⟨K.chSprueUnchecked n, 3, .rw, .any, true⟩,
   ⟨K.chSprueErrors n, 3, .rw, .any, true⟩,
   ⟨K.chSprueLastErr n, 4, .ro, .any, false⟩,
   ⟨K.chSprueModes n, 10, .ro, .any, false⟩]

/-- The objects at index 0x0A00 (spec/09_sprue_codec.md, R255). -/
def rows0A00 : List Desc :=
  [⟨K.codecAbort, 1, .wo, .any, false⟩,
   ⟨K.codecBusy, 1, .ro, .any, false⟩,
   ⟨K.codecUnit0Tag, 2, .ro, .any, false⟩,
   ⟨K.codecUnit1Tag, 2, .ro, .any, false⟩,
   ⟨K.codecJobsOk, 3, .rw, .any, true⟩,
   ⟨K.codecJobsFailed, 3, .rw, .any, true⟩,
   ⟨K.codecNoshrinks, 3, .rw, .any, true⟩,
   ⟨K.codecBytesIn, 4, .rw, .any, true⟩,
   ⟨K.codecBytesOut, 4, .rw, .any, true⟩]

/-- The objects at index 0x0800 (spec/10_memory_hub.md, R283). -/
def rows0800 : List Desc :=
  [⟨K.hubSpeed, 2, .rw, .oneOf [4800, 5600, 6400, 7200], false⟩,
   ⟨K.hubDevWidth, 1, .rw, .oneOf [8, 16], false⟩,
   ⟨K.hubDensity, 1, .rw, .oneOf [8, 16, 24, 32], false⟩,
   ⟨K.hubRanks, 1, .rw, .oneOf [1, 2], false⟩,
   ⟨K.hubCapacity, 3, .ro, .any, false⟩,
   ⟨K.hubPeakBw, 3, .ro, .any, false⟩,
   ⟨K.hubPlanBw, 3, .ro, .any, false⟩,
   ⟨K.hubTrainState, 1, .ro, .any, false⟩,
   ⟨K.hubRefreshMode, 1, .rw, .span 0 2, false⟩,
   ⟨K.hubOscPeriod, 2, .rw, .span 4 1000, false⟩,
   ⟨K.hubHotMap, 1, .ro, .any, false⟩,
   ⟨K.hubSrIdle, 3, .rw, .any, false⟩,
   ⟨K.hubSrState, 1, .ro, .any, false⟩,
   ⟨K.hubLoad, 3, .ro, .any, false⟩]

/-- The objects at index 0x0810 (spec/10_memory_hub.md, R283). -/
def rows0810 : List Desc :=
  [⟨K.hubScrubRate, 2, .rw, .span 100 2000, false⟩,
   ⟨K.hubScrubPasses, 3, .rw, .any, true⟩,
   ⟨K.hubCeCount, 3, .rw, .any, true⟩,
   ⟨K.hubCeLimit, 2, .rw, .span 1 65535, false⟩,
   ⟨K.hubUeCount, 3, .rw, .any, true⟩,
   ⟨K.hubAddrErrors, 3, .rw, .any, true⟩,
   ⟨K.hubRefused, 3, .rw, .any, true⟩,
   ⟨K.hubFecValid, 1, .rw, .oneOf [0], false⟩,
   ⟨K.hubFecKind, 1, .ro, .any, false⟩,
   ⟨K.hubFecAddr, 4, .ro, .any, false⟩,
   ⟨K.hubFecMaster, 1, .ro, .any, false⟩,
   ⟨K.hubFecType, 1, .ro, .any, false⟩,
   ⟨K.hubFecTime, 9, .ro, .any, false⟩,
   ⟨K.hubFecSyndrome, 3, .ro, .any, false⟩,
   ⟨K.hubInject, 3, .wo, .any, false⟩]

/-- The objects at index 0x0820 (spec/10_memory_hub.md, R283). -/
def rows0820 : List Desc :=
  [⟨K.hubPanicLines, 2, .rw, .span 1 1024, false⟩,
   ⟨K.hubPanicRunahead, 2, .rw, .span 1 4096, false⟩,
   ⟨K.hubPanicUnits, 4, .rw, .any, true⟩,
   ⟨K.hubStarved, 3, .rw, .any, true⟩,
   ⟨K.hubWqHigh, 1, .rw, .span 2 64, false⟩,
   ⟨K.hubWqLow, 1, .rw, .span 0 63, false⟩,
   ⟨K.hubRawWaits, 4, .rw, .any, true⟩,
   ⟨K.hubActThrottle, 2, .rw, .span 8 255, false⟩,
   ⟨K.hubActSpacing, 2, .rw, .span 50 1000, false⟩,
   ⟨K.hubThrottleEvents, 3, .rw, .any, true⟩] ++
  (List.range 64).map fun (r : Nat) => ⟨K.hubBias r, 5, .rw, .span (-2048) 2047, false⟩

/-- The objects at index 0x0740 (spec/11_host_and_dma.md, R310). -/
def rows0740 : List Desc :=
  [⟨K.pcieLinkGen, 1, .ro, .any, false⟩,
   ⟨K.pcieLinkWidth, 1, .ro, .any, false⟩,
   ⟨K.pcieMaxGen, 1, .rw, .span 3 5, false⟩,
   ⟨K.pcieSubsystem, 3, .rw, .any, false⟩,
   ⟨K.pcieBar2Base, 4, .rw, .stepped 0 0xFFFFFFFFFFFFFFFF 0x4000000, false⟩,
   ⟨K.pcieResets, 3, .rw, .any, true⟩,
   ⟨K.pcieCorrErrors, 3, .rw, .any, true⟩,
   ⟨K.pcieUncorrErrors, 3, .rw, .any, true⟩,
   ⟨K.pcieMbxDiscards, 3, .rw, .any, true⟩]

/-- The objects at index 0x0900 (spec/11_host_and_dma.md, R310). -/
def rows0900 : List Desc :=
  [⟨K.dmaActiveMap, 2, .ro, .any, false⟩,
   ⟨K.dmaOwnedMap, 2, .ro, .any, false⟩,
   ⟨K.dmaBadWrites, 3, .rw, .any, true⟩,
   ⟨K.dmaHalts, 3, .rw, .any, true⟩,
   ⟨K.dmaLoops, 3, .rw, .any, true⟩,
   ⟨K.dmaResetAborts, 3, .rw, .any, true⟩,
   ⟨K.dmaBytes, 4, .ro, .any, false⟩]

/-- The objects at index 0x0200 (spec/12_object_dictionary.md, R345). -/
def rows0200 : List Desc :=
  [⟨K.devState, 1, .ro, .any, false⟩,
   ⟨K.devStateReq, 1, .wo, .oneOf [2, 3, 5], false⟩,
   ⟨K.devMarkMode, 1, .rw, .oneOf [0, 1], false⟩,
   ⟨K.devStampClock, 1, .rw, .span 0 3, false⟩,
   ⟨K.devBootState, 1, .rw, .oneOf [2, 3], false⟩,
   ⟨K.devReset, 2, .wo, .oneOf [0x5253], false⟩,
   ⟨K.devResetCause, 1, .ro, .any, false⟩,
   ⟨K.devBootTime, 3, .ro, .any, false⟩,
   ⟨K.devBootResult, 1, .ro, .any, false⟩,
   ⟨K.devBootBus, 1, .ro, .any, false⟩,
   ⟨K.devBoots, 3, .rw, .any, true⟩]

/-- The objects at index 0x0220 + k (spec/12_object_dictionary.md, R345). -/
def rows0220K (k : Nat) : List Desc :=
  [⟨K.devLockAcquire k, 1, .wo, .oneOf [1], false⟩,
   ⟨K.devLockRelease k, 1, .wo, .oneOf [1], false⟩,
   ⟨K.devLockOwner k, 3, .ro, .any, false⟩,
   ⟨K.devLockLease k, 3, .rw, .span 100 60000, false⟩,
   ⟨K.devLockRemaining k, 3, .ro, .any, false⟩,
   ⟨K.devLockOrphans k, 3, .rw, .any, true⟩]

/-- The objects at index 0x0230 (spec/12_object_dictionary.md, R345). -/
def rows0230 : List Desc :=
  [⟨K.devCommit, 1, .wo, .oneOf [1, 2], false⟩,
   ⟨K.devStaged, 2, .ro, .any, false⟩,
   ⟨K.devCommits, 3, .rw, .any, true⟩,
   ⟨K.devCommitFails, 3, .rw, .any, true⟩]

/-- The objects at index 0x0260 (spec/12_object_dictionary.md, R345). -/
def rows0260 : List Desc :=
  [⟨K.devOpStart, 1, .wo, .span 1 5, false⟩,
   ⟨K.devOpLast, 1, .ro, .any, false⟩,
   ⟨K.devOpResult, 1, .ro, .any, false⟩,
   ⟨K.devOpDetail, 3, .ro, .any, false⟩,
   ⟨K.devOpEnd, 9, .ro, .any, false⟩]

/-- The objects at index 0x0270 (spec/12_object_dictionary.md, R345). -/
def rows0270 : List Desc :=
  [⟨K.auditNext, 3, .ro, .any, false⟩,
   ⟨K.auditOldest, 3, .ro, .any, false⟩,
   ⟨K.auditFrom, 3, .rw, .any, false⟩,
   ⟨K.auditWindow, 10, .ro, .any, false⟩]

/-- The objects at index 0x0700 (spec/12_object_dictionary.md, R345). -/
def rows0700 : List Desc :=
  [⟨K.wopRequests, 3, .rw, .any, true⟩,
   ⟨K.wopCrcErrors, 3, .rw, .any, true⟩,
   ⟨K.wopDuplicates, 3, .rw, .any, true⟩,
   ⟨K.wopSeqErrors, 3, .rw, .any, true⟩,
   ⟨K.wopBusyAnswers, 3, .rw, .any, true⟩,
   ⟨K.wopClients, 1, .ro, .any, false⟩,
   ⟨K.wopResponseMax, 3, .rw, .any, true⟩]

/-- The objects at index 0x0710 + p (spec/12_object_dictionary.md, R345). -/
def rows0710P (p : Nat) : List Desc :=
  [⟨K.wopEthEnable p, 1, .rw, .oneOf [0, 1], false⟩,
   ⟨K.wopEthIpAddr p, 3, .rw, .any, false⟩,
   ⟨K.wopEthNetmask p, 3, .rw, .any, false⟩,
   ⟨K.wopEthGateway p, 3, .rw, .any, false⟩,
   ⟨K.wopEthLink p, 1, .ro, .any, false⟩,
   ⟨K.wopEthReassemblyFails p, 3, .rw, .any, true⟩,
   ⟨K.wopEthDropped p, 3, .rw, .any, true⟩]

/-- The objects at index 0x0720 + c (spec/12_object_dictionary.md, R345). -/
def rows0720C (c : Nat) : List Desc :=
  [⟨K.wopCanEnable c, 1, .rw, .oneOf [0, 1], false⟩,
   ⟨K.wopCanReqId c, 2, .rw, .span 1 0x7FF, false⟩,
   ⟨K.wopCanRspId c, 2, .rw, .span 1 0x7FF, false⟩,
   ⟨K.wopCanNomRate c, 3, .rw, .span 125000 1000000, false⟩,
   ⟨K.wopCanDataRate c, 3, .rw, .span 125000 5000000, false⟩,
   ⟨K.wopCanSegTimeout c, 2, .rw, .span 5 1000, false⟩,
   ⟨K.wopCanSegErrors c, 3, .rw, .any, true⟩,
   ⟨K.wopCanBusOffs c, 3, .rw, .any, true⟩,
   ⟨K.wopCanState c, 1, .ro, .any, false⟩]

/-- The objects at index 0x4000 + a (spec/12_object_dictionary.md, R345). -/
def rows4000A (a : Nat) : List Desc :=
  [⟨K.profTarget a, 3, .rwi, .span 0 0xFFFFFF, false⟩]

/-- The objects at index 0x4400 (spec/12_object_dictionary.md, R345). -/
def rows4400 : List Desc :=
  [⟨K.profSnapshot, 10, .ro, .any, false⟩]

/-- The objects at index 0x0C40 + s (spec/13_loop_engine.md, R371). -/
def rows0C40S (s : Nat) : List Desc :=
  [⟨K.loopSlotEnable s, 1, .rw, .oneOf [0, 1], false⟩,
   ⟨K.loopSlotStatus s, 2, .ro, .any, false⟩,
   ⟨K.loopSlotTrigger s, 2, .rw, .any, false⟩,
   ⟨K.loopSlotPeriod s, 3, .rw, .span 10 10000000, false⟩,
   ⟨K.loopSlotPhase s, 3, .rw, .any, false⟩,
   ⟨K.loopSlotMaxRate s, 3, .rw, .span 1 1000000, false⟩,
   ⟨K.loopSlotDeadline s, 3, .rw, .any, false⟩,
   ⟨K.loopSlotLanes s, 2, .rw, .span 1 256, false⟩,
   ⟨K.loopSlotSrcX s, 3, .rw, .any, false⟩,
   ⟨K.loopSlotSrcR s, 3, .rw, .any, false⟩,
   ⟨K.loopSlotSrcFf s, 3, .rw, .any, false⟩,
   ⟨K.loopSlotSrcGain s, 7, .rw, .any, false⟩,
   ⟨K.loopSlotSrcOffset s, 6, .rw, .any, false⟩,
   ⟨K.loopSlotExp s, 10, .rw, .any, false⟩,
   ⟨K.loopSlotFlags s, 1, .rw, .span 0 31, false⟩,
   ⟨K.loopSlotBankA s, 10, .rw, .any, false⟩,
   ⟨K.loopSlotBankB s, 10, .rw, .any, false⟩,
   ⟨K.loopSlotBankSwap s, 1, .wo, .oneOf [1], false⟩,
   ⟨K.loopSlotPreset s, 7, .wo, .any, false⟩,
   ⟨K.loopSlotOutMin s, 7, .rw, .any, false⟩,
   ⟨K.loopSlotOutMax s, 7, .rw, .any, false⟩,
   ⟨K.loopSlotDest s, 3, .rw, .any, false⟩,
   ⟨K.loopSlotOutGain s, 7, .rw, .any, false⟩,
   ⟨K.loopSlotOutBase s, 6, .rw, .any, false⟩] ++
  [⟨K.loopSlotToneRef s, 4, .rw, .stepped 0 0xFFFFFFFFFFFFFFFF 64, false⟩,
   ⟨K.loopSlotSp s, 10, .rw, .any, false⟩,
   ⟨K.loopSlotOutput s, 10, .ro, .any, false⟩,
   ⟨K.loopSlotIntegrator s, 10, .ro, .any, false⟩,
   ⟨K.loopSlotBand s, 7, .rw, .any, false⟩,
   ⟨K.loopSlotBandCount s, 2, .rw, .span 1 65535, false⟩,
   ⟨K.loopSlotRing s, 1, .rw, .spans [(0, 3), (0xFF, 0xFF)], false⟩,
   ⟨K.loopSlotRecLane s, 2, .rw, .any, false⟩,
   ⟨K.loopSlotSamples s, 4, .ro, .any, false⟩,
   ⟨K.loopSlotWraps s, 3, .rw, .any, true⟩,
   ⟨K.loopSlotMisses s, 3, .rw, .any, true⟩,
   ⟨K.loopSlotOverruns s, 3, .rw, .any, true⟩,
   ⟨K.loopSlotRefused s, 3, .rw, .any, true⟩]

/-- The objects at index 0x0C00 (spec/13_loop_engine.md, R371). -/
def rows0C00 : List Desc :=
  [⟨K.loopLoad, 3, .ro, .any, false⟩,
   ⟨K.loopLoadLimit, 1, .rw, .span 10 95, false⟩,
   ⟨K.loopLanesUsed, 2, .ro, .any, false⟩]

/-- The objects at index 0x0C08 + q (spec/13_loop_engine.md, R371). -/
def rows0C08Q (q : Nat) : List Desc :=
  [⟨K.loopSeqInputs q, 10, .rw, .any, false⟩,
   ⟨K.loopSeqPeriod q, 3, .rw, .any, false⟩,
   ⟨K.loopSeqResult q, 10, .ro, .any, false⟩]

/-- The objects at index 0x0C10 (spec/13_loop_engine.md, R371). -/
def rows0C10 : List Desc :=
  [⟨K.loopAinValue, 10, .ro, .any, false⟩,
   ⟨K.loopAinScan, 3, .rw, .any, false⟩,
   ⟨K.loopAinLate, 3, .rw, .any, true⟩]

/-- The objects at index 0x0C11 (spec/13_loop_engine.md, R371). -/
def rows0C11 : List Desc :=
  [⟨K.loopPwmEnable, 3, .rw, .any, false⟩,
   ⟨K.loopPwmPrescale, 10, .rw, .any, false⟩,
   ⟨K.loopPwmPeriod, 10, .rw, .any, false⟩,
   ⟨K.loopPwmDuty, 10, .rw, .any, false⟩,
   ⟨K.loopPwmSafe, 4, .rw, .any, false⟩]

/-- The objects at index 0x0C12 (spec/13_loop_engine.md, R371). -/
def rows0C12 : List Desc :=
  [⟨K.loopDacEnable, 1, .rw, .any, false⟩,
   ⟨K.loopDacCode, 10, .rw, .any, false⟩,
   ⟨K.loopDacSafe, 10, .rw, .any, false⟩]

/-- The objects at index 0x0C13 (spec/13_loop_engine.md, R371). -/
def rows0C13 : List Desc :=
  [⟨K.loopGpioDir, 3, .rw, .any, false⟩,
   ⟨K.loopGpioOut, 3, .rw, .any, false⟩,
   ⟨K.loopGpioIn, 3, .ro, .any, false⟩,
   ⟨K.loopGpioSafe, 4, .rw, .any, false⟩]

/-- The objects at index 0x0C20 + j (spec/13_loop_engine.md, R371). -/
def rows0C20J (j : Nat) : List Desc :=
  [⟨K.loopMeasData j, 10, .rw, .any, false⟩,
   ⟨K.loopMeasPublish j, 1, .wo, .oneOf [1], false⟩,
   ⟨K.loopMeasPublishes j, 3, .rw, .any, true⟩]

/-- The objects at index 0x0300 (spec/14_time_and_quadrille.md, R404). -/
def rows0300 : List Desc :=
  [⟨K.timeNow, 9, .ro, .any, false⟩,
   ⟨K.timeMode, 1, .rw, .span 0 3, false⟩,
   ⟨K.timeSet, 9, .wo, .any, false⟩,
   ⟨K.timeStatus, 1, .ro, .any, false⟩,
   ⟨K.timeOffset, 6, .ro, .any, false⟩,
   ⟨K.timePathDelay, 3, .ro, .any, false⟩,
   ⟨K.timeRate, 6, .ro, .any, false⟩,
   ⟨K.timeStepThresh, 3, .rw, .span 100 1000000000, false⟩,
   ⟨K.timeSlewMax, 3, .rw, .span 1000 100000, false⟩,
   ⟨K.timeValidTol, 3, .rw, .span 10 1000000, false⟩,
   ⟨K.timeValidHold, 3, .rw, .span 1 86400, false⟩,
   ⟨K.timeSnapMode, 1, .rw, .oneOf [0, 1], false⟩,
   ⟨K.timeSnapGrid, 3, .rw, .span 1000 1000000, false⟩,
   ⟨K.timeSnapTol, 3, .rw, .any, false⟩,
   ⟨K.timeSteps, 3, .rw, .any, true⟩,
   ⟨K.timeLastStep, 4, .ro, .any, false⟩]

/-- The objects at index 0x0310 (spec/14_time_and_quadrille.md, R404). -/
def rows0310 : List Desc :=
  [⟨K.timePtpPort, 1, .rw, .oneOf [0, 1], false⟩,
   ⟨K.timePtpDomain, 1, .rw, .span 0 127, false⟩,
   ⟨K.timePtpPriority1, 1, .rw, .any, false⟩,
   ⟨K.timePtpPriority2, 1, .rw, .any, false⟩,
   ⟨K.timePtpClass, 1, .rw, .any, false⟩,
   ⟨K.timePtpLogAnnounce, 5, .rw, .span 0 4, false⟩,
   ⟨K.timePtpLogSync, 5, .rw, .span (-4) 1, false⟩,
   ⟨K.timePtpLogDelayreq, 5, .rw, .span (-4) 5, false⟩,
   ⟨K.timePtpAnnounceTimeout, 1, .rw, .span 2 255, false⟩,
   ⟨K.timePtpRxLat, 2, .rw, .any, false⟩,
   ⟨K.timePtpTxLat, 2, .rw, .any, false⟩,
   ⟨K.timePtpState, 1, .ro, .any, false⟩,
   ⟨K.timePtpGmId, 4, .ro, .any, false⟩,
   ⟨K.timePtpUtcOffset, 5, .rw, .any, false⟩,
   ⟨K.timePtpTc, 2, .rw, .span 2 1000, false⟩,
   ⟨K.timePtpSyncs, 3, .rw, .any, true⟩]

/-- The objects at index 0x0D00 (spec/14_time_and_quadrille.md, R404). -/
def rows0D00 : List Desc :=
  [⟨K.alignRefFreq, 1, .rw, .oneOf [0, 1, 2], false⟩,
   ⟨K.alignRefScale, 1, .rw, .oneOf [0, 1, 2], false⟩,
   ⟨K.alignTableMode, 1, .rw, .oneOf [0, 1], false⟩,
   ⟨K.alignBandTable, 10, .rw, .any, false⟩,
   ⟨K.alignRefDelay, 3, .rw, .span 0 1000000, false⟩,
   ⟨K.alignState, 1, .ro, .any, false⟩,
   ⟨K.alignPhaseErr, 5, .ro, .any, false⟩,
   ⟨K.alignBand, 1, .ro, .any, false⟩,
   ⟨K.alignFine, 2, .ro, .any, false⟩,
   ⟨K.alignLockTime, 3, .rw, .span 100 100000, false⟩,
   ⟨K.alignCoastLimit, 3, .rw, .span 10 3600000, false⟩,
   ⟨K.alignCoastKeep, 3, .rw, .span 1 400, false⟩,
   ⟨K.alignRefMeas, 6, .ro, .any, false⟩,
   ⟨K.alignCoastTime, 3, .ro, .any, false⟩,
   ⟨K.alignLocks, 3, .rw, .any, true⟩,
   ⟨K.alignCoasts, 3, .rw, .any, true⟩]

/-- The objects at index 0x0E00 (spec/14_time_and_quadrille.md, R404). -/
def rows0E00 : List Desc :=
  [⟨K.qdEnable, 1, .rw, .oneOf [0, 1], false⟩,
   ⟨K.qdAddr, 1, .rw, .span 0 7, false⟩,
   ⟨K.qdPeers, 1, .rw, .any, false⟩,
   ⟨K.qdPort, 1, .rw, .oneOf [0, 1], false⟩,
   ⟨K.qdGroup, 3, .rw, .any, false⟩,
   ⟨K.qdFilter, 1, .rw, .span 2 255, false⟩,
   ⟨K.qdTimeTol, 3, .rw, .span 10 1000000, false⟩,
   ⟨K.qdStepTimeout, 3, .rw, .span 10 10000, false⟩,
   ⟨K.qdRepeat, 2, .rw, .span 100 10000, false⟩,
   ⟨K.qdStep, 3, .wo, .any, false⟩,
   ⟨K.qdState, 1, .ro, .any, false⟩,
   ⟨K.qdStepNo, 3, .ro, .any, false⟩,
   ⟨K.qdLine, 1, .ro, .any, false⟩,
   ⟨K.qdLastResult, 1, .ro, .any, false⟩,
   ⟨K.qdArmMask, 1, .rw, .any, false⟩,
   ⟨K.qdSharedList, 10, .rw, .any, false⟩,
   ⟨K.qdDigest, 4, .ro, .any, false⟩,
   ⟨K.qdDiff, 10, .ro, .any, false⟩,
   ⟨K.qdPeerOffset, 10, .ro, .any, false⟩,
   ⟨K.qdTRise, 9, .ro, .any, false⟩,
   ⟨K.qdFails, 3, .rw, .any, true⟩,
   ⟨K.qdStrays, 3, .rw, .any, true⟩]

/-- The objects at index 0x0400 (spec/15_faults_and_rails.md, R428). -/
def rows0400 : List Desc :=
  [⟨K.fltHighest, 1, .ro, .any, false⟩,
   ⟨K.fltAliveFreq, 3, .rw, .span 500 10000, false⟩,
   ⟨K.fltQuiet, 3, .rw, .span 1 60000, false⟩,
   ⟨K.fltRecoveryLimit, 1, .rw, .any, false⟩,
   ⟨K.fltRecoveries, 3, .rw, .any, true⟩,
   ⟨K.fltLatched, 2, .ro, .any, false⟩,
   ⟨K.fltClear, 1, .wo, .oneOf [1], false⟩,
   ⟨K.fltClears, 3, .rw, .any, true⟩,
   ⟨K.fltStopRail, 1, .rw, .span 0 15, false⟩,
   ⟨K.fltSafeRail, 1, .rw, .span 0 15, false⟩,
   ⟨K.fltTrip, 1, .wo, .oneOf [1], false⟩,
   ⟨K.fltDieWarn, 5, .rw, .any, false⟩,
   ⟨K.fltDieCrit, 5, .rw, .span (-32768) 1250, false⟩,
   ⟨K.fltDieTemp, 10, .ro, .any, false⟩,
   ⟨K.fltActiveList, 10, .ro, .any, false⟩,
   ⟨K.fltStickyList, 10, .ro, .any, false⟩,
   ⟨K.fltStickyClearAll, 1, .wo, .oneOf [1], false⟩,
   ⟨K.fltVaonMin, 2, .rw, .span 1710 3500, false⟩]

/-- The objects at index 0x0410 (spec/15_faults_and_rails.md, R428). -/
def rows0410 : List Desc :=
  [⟨K.fltSel, 3, .rw, .any, false⟩,
   ⟨K.fltSelClass, 1, .rw, .span 1 6, false⟩,
   ⟨K.fltSelDefault, 1, .ro, .any, false⟩,
   ⟨K.fltSelMin, 1, .ro, .any, false⟩,
   ⟨K.fltSelState, 1, .ro, .any, false⟩,
   ⟨K.fltSelCount, 3, .rw, .any, true⟩,
   ⟨K.fltSelLastTime, 9, .ro, .any, false⟩,
   ⟨K.fltSelLastPayload, 4, .ro, .any, false⟩,
   ⟨K.fltSelStickyClear, 1, .wo, .oneOf [1], false⟩]

/-- The objects at index 0x0420 (spec/15_faults_and_rails.md, R428). -/
def rows0420 : List Desc :=
  [⟨K.fltFecValid, 1, .rw, .oneOf [0], false⟩,
   ⟨K.fltFecKind, 1, .ro, .any, false⟩,
   ⟨K.fltFecAddr, 3, .ro, .any, false⟩,
   ⟨K.fltFecMaster, 1, .ro, .any, false⟩,
   ⟨K.fltFecType, 1, .ro, .any, false⟩,
   ⟨K.fltFecTime, 9, .ro, .any, false⟩]

/-- The objects at index 0x0500 (spec/15_faults_and_rails.md, R428). -/
def rows0500 : List Desc :=
  [⟨K.railState, 1, .ro, .any, false⟩,
   ⟨K.railTarget, 1, .rw, .span 0 15, false⟩,
   ⟨K.railStep, 1, .ro, .any, false⟩,
   ⟨K.railArmState, 1, .rw, .span 1 15, false⟩,
   ⟨K.railVaon, 2, .ro, .any, false⟩,
   ⟨K.railPgIn, 3, .ro, .any, false⟩,
   ⟨K.railEnOut, 3, .ro, .any, false⟩,
   ⟨K.railFailedMap, 3, .ro, .any, false⟩]

/-- The objects at index 0x0510 (spec/15_faults_and_rails.md, R428). -/
def rows0510 : List Desc :=
  [⟨K.railLogNext, 3, .ro, .any, false⟩,
   ⟨K.railLogOldest, 3, .ro, .any, false⟩,
   ⟨K.railLogCapacity, 3, .ro, .any, false⟩,
   ⟨K.railLogFrom, 3, .rw, .any, false⟩,
   ⟨K.railLogWindow, 10, .ro, .any, false⟩,
   ⟨K.railLogRepeat, 3, .rw, .span 0 60000, false⟩,
   ⟨K.railLogTorn, 3, .rw, .any, true⟩,
   ⟨K.railLogDropped, 3, .rw, .any, true⟩]

/-- The objects at index 0x0520 + r (spec/15_faults_and_rails.md, R428). -/
def rows0520R (r : Nat) : List Desc :=
  [⟨K.railOnState r, 1, .rw, .spans [(0, 0), (1, 15)], false⟩,
   ⟨K.railOrder r, 1, .rw, .span 0 255, false⟩,
   ⟨K.railEnPol r, 1, .rw, .oneOf [0, 1], false⟩,
   ⟨K.railPgMode r, 1, .rw, .oneOf [0, 1, 2], false⟩,
   ⟨K.railVAin r, 1, .rw, .spans [(0, 23), (0xFF, 0xFF)], false⟩,
   ⟨K.railVScale r, 3, .rw, .any, false⟩,
   ⟨K.railVMin r, 2, .rw, .any, false⟩,
   ⟨K.railVMax r, 2, .rw, .any, false⟩,
   ⟨K.railVDischarge r, 2, .rw, .any, false⟩,
   ⟨K.railIAin r, 1, .rw, .spans [(0, 23), (255, 255)], false⟩,
   ⟨K.railIScale r, 3, .rw, .any, false⟩,
   ⟨K.railISlot r, 1, .rw, .spans [(0, 7), (255, 255)], false⟩,
   ⟨K.railOnDelay r, 3, .rw, .span 0 10000000, false⟩,
   ⟨K.railOnTimeout r, 3, .rw, .span 100 10000000, false⟩,
   ⟨K.railOffTimeout r, 3, .rw, .span 100 10000000, false⟩,
   ⟨K.railGlitch r, 2, .rw, .span 20 65535, false⟩,
   ⟨K.railFlags r, 1, .rw, .span 0 1, false⟩,
   ⟨K.railStatus r, 1, .ro, .any, false⟩,
   ⟨K.railVoltage r, 2, .ro, .any, false⟩,
   ⟨K.railCurrent r, 2, .ro, .any, false⟩]

/-- The objects at index 0x0580 + s (spec/15_faults_and_rails.md, R428). -/
def rows0580S (s : Nat) : List Desc :=
  [⟨K.railSSettle s, 3, .rw, .span 0 10000000, false⟩,
   ⟨K.railSRails s, 3, .ro, .any, false⟩]

/-- The objects at index 0x0100 (spec/18_firmware_and_identity.md, R479). -/
def rows0100 : List Desc :=
  [⟨K.devHwType, 2, .ro, .any, false⟩,
   ⟨K.devStepping, 1, .ro, .any, false⟩,
   ⟨K.devVariant, 1, .ro, .any, false⟩,
   ⟨K.devUnitSerial, 4, .ro, .any, false⟩,
   ⟨K.devVendorId, 2, .ro, .any, false⟩,
   ⟨K.devLot, 3, .ro, .any, false⟩,
   ⟨K.devTestDate, 3, .ro, .any, false⟩,
   ⟨K.devMac0, 4, .ro, .any, false⟩,
   ⟨K.devMac1, 4, .ro, .any, false⟩,
   ⟨K.devKeyRevoked, 1, .ro, .any, false⟩,
   ⟨K.devFwVersion, 3, .ro, .any, false⟩]

/-- The objects at index 0x0110 (spec/18_firmware_and_identity.md, R479). -/
def rows0110 : List Desc :=
  [⟨K.devTag, 10, .rw, .any, false⟩]

/-- The objects at index 0x0600 (spec/18_firmware_and_identity.md, R479). -/
def rows0600 : List Desc :=
  [⟨K.fwImage, 10, .rw, .any, false⟩,
   ⟨K.fwStagedState, 1, .ro, .any, false⟩,
   ⟨K.fwStagedBlocks, 2, .ro, .any, false⟩,
   ⟨K.fwStagedVersion, 3, .ro, .any, false⟩,
   ⟨K.fwConfirm, 1, .wo, .oneOf [1], false⟩,
   ⟨K.fwRunning, 1, .ro, .any, false⟩,
   ⟨K.fwSlotaState, 1, .ro, .any, false⟩,
   ⟨K.fwSlotbState, 1, .ro, .any, false⟩,
   ⟨K.fwSlotaVersion, 3, .ro, .any, false⟩,
   ⟨K.fwSlotbVersion, 3, .ro, .any, false⟩,
   ⟨K.fwTrials, 1, .ro, .any, false⟩,
   ⟨K.fwRecovery, 1, .ro, .any, false⟩,
   ⟨K.fwSettingsBank, 1, .ro, .any, false⟩,
   ⟨K.fwFrozenBank, 1, .ro, .any, false⟩,
   ⟨K.fwGroupFormats, 10, .ro, .any, false⟩,
   ⟨K.fwNorSize, 2, .ro, .any, false⟩]

/-- The rows at an index, or none where the index is not allocated (R311, R341). -/
def rowsAt (index : Nat) : List Desc :=
  if index = 0x0210 then rows0210
  else if 0x0B10 ≤ index ∧ index < 0x0B10 + 4 then rows0B10N (index - 0x0B10)
  else if 0x0B20 ≤ index ∧ index < 0x0B20 + 4 then rows0B20N (index - 0x0B20)
  else if 0x0B30 ≤ index ∧ index < 0x0B30 + 2 then rows0B30N (index - 0x0B30)
  else if 0x0B40 ≤ index ∧ index < 0x0B40 + 8 then rows0B40N (index - 0x0B40)
  else if 0x0B50 ≤ index ∧ index < 0x0B50 + 4 then rows0B50N (index - 0x0B50)
  else if 0x0B60 ≤ index ∧ index < 0x0B60 + 16 then rows0B60K (index - 0x0B60)
  else if 0x2000 ≤ index ∧ index < 0x2000 + 4096 then rows2000I (index - 0x2000)
  else if index = 0x0B70 then rows0B70
  else if index = 0x0240 then rows0240
  else if index = 0x0250 then rows0250
  else if index = 0x0A00 then rows0A00
  else if index = 0x0800 then rows0800
  else if index = 0x0810 then rows0810
  else if index = 0x0820 then rows0820
  else if index = 0x0740 then rows0740
  else if index = 0x0900 then rows0900
  else if index = 0x0200 then rows0200
  else if 0x0220 ≤ index ∧ index < 0x0220 + 10 then rows0220K (index - 0x0220)
  else if index = 0x0230 then rows0230
  else if index = 0x0260 then rows0260
  else if index = 0x0270 then rows0270
  else if index = 0x0700 then rows0700
  else if 0x0710 ≤ index ∧ index < 0x0710 + 2 then rows0710P (index - 0x0710)
  else if 0x0720 ≤ index ∧ index < 0x0720 + 2 then rows0720C (index - 0x0720)
  else if 0x4000 ≤ index ∧ index < 0x4000 + 1024 then rows4000A (index - 0x4000)
  else if index = 0x4400 then rows4400
  else if 0x0C40 ≤ index ∧ index < 0x0C40 + 64 then rows0C40S (index - 0x0C40)
  else if index = 0x0C00 then rows0C00
  else if 0x0C08 ≤ index ∧ index < 0x0C08 + 8 then rows0C08Q (index - 0x0C08)
  else if index = 0x0C10 then rows0C10
  else if index = 0x0C11 then rows0C11
  else if index = 0x0C12 then rows0C12
  else if index = 0x0C13 then rows0C13
  else if 0x0C20 ≤ index ∧ index < 0x0C20 + 16 then rows0C20J (index - 0x0C20)
  else if index = 0x0300 then rows0300
  else if index = 0x0310 then rows0310
  else if index = 0x0D00 then rows0D00
  else if index = 0x0E00 then rows0E00
  else if index = 0x0400 then rows0400
  else if index = 0x0410 then rows0410
  else if index = 0x0420 then rows0420
  else if index = 0x0500 then rows0500
  else if index = 0x0510 then rows0510
  else if 0x0520 ≤ index ∧ index < 0x0520 + 24 then rows0520R (index - 0x0520)
  else if 0x0580 ≤ index ∧ index < 0x0580 + 16 then rows0580S (index - 0x0580)
  else if index = 0x0100 then rows0100
  else if index = 0x0110 then rows0110
  else if index = 0x0600 then rows0600
  else if 0x1000 ≤ index ∧ index < 0x1800 then
    let n := (index - 0x1000) / 256
    let o := index % 256
    if o = 0x10 then rows1010 n
    else if o = 0x20 then rows1020 n
    else if o = 0x30 then rows1030 n
    else if o = 0x40 then rows1040 n
    else if o = 0x50 then rows1050 n
    else if o = 0x60 then rows1060 n
    else if o = 0x70 then rows1070 n
    else if o = 0x80 then rows1080 n
    else if o = 0x90 then rows1090 n
    else if 0xB0 ≤ o ∧ o < 0xB4 then rows10B0 (4 * n + (o - 0xB0))
    else if o = 0xD0 then rows10D0 n
    else if o = 0xE0 then rows10E0 n
    else if o = 0x00 then rows1000 n
    else if o = 0xA0 then rows10A0 n
    else if o = 0xF0 then rows10F0 n
    else []
  else []

/-- The row of an object (R311). Sub-index 0 of an allocated index is a U8, RO object that gives the highest sub-index;
its value is its default here. -/
def descOf (index sub : Nat) : Option Desc :=
  let rs := rowsAt index
  if rs.isEmpty then none
  else if sub = 0 then
    some ⟨⟨index * 256, 1, rs.foldl (fun (h : Nat) (d : Desc) => max h (d.obj.key % 256)) 0⟩, 1, .ro, .any, false⟩
  else rs.find? fun (d : Desc) => d.obj.key % 256 == sub

end Sys2Proof.Machine
end

