-- ==== Sys2Proof/Machine/State.lean ====
section
/-! DEFINITION. Sys2Proof/Machine/State.lean: everything the spec gives the machine, as plain data. Objects of the
dictionary that hold a value are in one sparse map (`Core.objs`); state the spec describes without an object is in the
structures below, each with the rule that names it. -/

namespace Sys2Proof.Machine

/-- Reasons for which the machine stops with a fault. -/
inductive Fault where
  /-- A command names a unit, lane, list, channel or entry that the hardware does not have. Raised by the meanings of
  commands whose operand is out of range. Safe: nothing the hardware does is left out. -/
  | noSuchUnit
deriving DecidableEq, Repr

/-- Reasons for which the machine has no meaning for a command. -/
inductive Refusal where
  /-- The command has no meaning in the model yet. Raised by `exec` only. Safe. -/
  | notModelled (mnemonic : String)
deriving DecidableEq, Repr

/-- What the device answered to the last object access: status (R315) and INFO (R332). The model's own field; a reply
is also part of the response of a message. -/
structure Reply where
  status : Nat := 0
  info : Nat := 0
deriving DecidableEq, Repr, Inhabited

/-- A fault raised in this command and not yet processed by the collector: source and kind (R405), payload, and
whether it stays active until its condition ends (R406); or the end of such a condition. The list of these is empty
between commands. -/
structure Raise where
  src : Nat
  kind : Nat
  payload : Nat
  held : Bool := false
  ended : Bool := false
deriving DecidableEq, Repr, Inhabited

/-- The 32-byte event record of R376. -/
structure EvRec where
  time : Nat
  pos : Nat
  src : Nat
  seq : Nat
  code : Nat
  payload : Nat
deriving DecidableEq, Repr, Inhabited

/-- What the device sent out, newest first: the model's own log, so that statements can speak of it. -/
inductive Out where
  /-- A record written to host memory at an address by a ring (R294). -/
  | record (ring addr : Nat) (r : EvRec)
  /-- A count written to a RING_SHADOW address (R293, R294). -/
  | shadow (addr value : Nat)
  /-- An MSI-X message (R296). -/
  | msix (vector addr data : Nat)
  /-- Bytes written to host memory by the DMA engine or a compressor. -/
  | hostWrite (addr : Nat) (data : List Byte)
  /-- A read request to host memory: who asks (ring k as k, DMA channel c as 64 + c), where and how many bytes. -/
  | hostRead (who addr len : Nat)
  /-- A completion of a host read: BAR, offset, data; poisoned as R289 states. -/
  | completion (bar offset : Nat) (data : List Byte) (poisoned : Bool)
  /-- A 66-bit block that left on a Kuntelink lane: the sync header and the scrambled payload, bit t of which is the t-th bit
  sent after the header (R142). -/
  | wire (lane header payload : Nat)
  /-- An IP packet with a UDP datagram or a fragment of one, sent on an Ethernet port: source and destination address, next
  hop, identification, fragment offset, more fragments, IP payload (R336). -/
  | udp (port src dst hop ident off : Nat) (more : Bool) (data : List Byte)
  /-- An ARP reply sent on an Ethernet port for an address. -/
  | arp (port ip : Nat)
  /-- An ICMP echo reply. -/
  | icmp (port dst : Nat) (payload : List Byte)
  /-- A CAN FD frame sent: controller, identifier, data. -/
  | can (c id : Nat) (data : List Byte)
  /-- A PTP message sent to a group: port, group, UDP port, message type, fields, timeSource (R378). -/
  | ptp (port group udpPort typ : Nat) (m : PtpMsg) (timeSource : Nat)
  /-- A change of an output pin: name of the pin group, number, level. -/
  | pin (group : String) (i level : Nat)
  /-- A compare pulse of unit u that began, and its length in cycles (R51). -/
  | pulse (u cycles : Nat)
  /-- A fire instant of a channel: line, row, group, fire time in ns of device time (R120). -/
  | fire (n line row group time : Nat)
deriving DecidableEq, Repr, Inhabited

/-- Quadrature input n (R31 to R38, R480): filtered levels, direction, double edges, index handling. -/
structure Enc where
  a : Bool := false
  b : Bool := false
  z : Bool := false
  /-- Sample numbers of the last 256 double edges, newest first (R34). -/
  doubles : List Nat := []
  /-- Sample of the last count change; none before the first after reset. -/
  lastChange : Option Nat := none
  /-- Count values over the last millisecond with their samples, newest first (VELOCITY). -/
  history : List (Nat × Int) := [(0, 0)]
  /-- Z must return to 0 before the next index. -/
  zUsed : Bool := false
  /-- The next index homes the count (R37). -/
  homeAwait : Bool := false
  /-- Sample of the last change of the filtered pair AB, and of the last change of the filtered Z. -/
  abAt : Option Nat := none
  zAt : Option Nat := none
  /-- A change of Z, or of AB under a gate, has still to be judged with what else changes in this sample (R38, R480). -/
  due : Bool := false
deriving DecidableEq, Repr, Inhabited

/-- Serial absolute port n (R40 to R46). -/
structure Spos where
  /-- Last good position; none before the first good word after enable. -/
  last : Option Nat := none
  badRun : Nat := 0
  lostRaised : Bool := false
  /-- Sample and clock (ns) of the request edge of the word in progress, and the device time of that edge (R46). -/
  req : Option (Nat × Nat) := none
  reqTime : Nat := 0
  /-- The stamp of the last good word: device time (ns) and sample of its request edge (R46). -/
  stamp : Option (Nat × Nat) := none
  /-- Level of SPOSn_CLK, the edges it still has to make for the word in progress, and the sample of the next one (R40). -/
  clk : Bool := true
  edges : Nat := 0
  edgeAt : Nat := 0
  /-- The word of this request has been taken; its timeout has been reported. -/
  wordDone : Bool := false
  timeoutDone : Bool := false
  /-- Sample at which the next period begins. -/
  nextReq : Nat := 0
deriving DecidableEq, Repr, Inhabited

/-- Pass-through output p (R48, R49). -/
structure Pass where
  a : Bool := false
  b : Bool := false
  z : Bool := false
  /-- Levels on their way to the pins in copy mode (A, B, Z). -/
  stage : Bool × Bool × Bool := (false, false, false)
  /-- Emulated count, and counts still to be sent out, signed. -/
  count : Int := 0
  left : Int := 0
  /-- Counts of the present window, its first sample, and its length in samples. -/
  total : Nat := 0
  start : Nat := 0
  len : Nat := 0
  lastEdge : Nat := 0
  overrunDone : Bool := true
deriving DecidableEq, Repr, Inhabited

/-- Compare unit n (R51 to R56). -/
structure Cmp where
  armed : Bool := false
  /-- Index of the next target in forward order; over the passes of a list in list mode. -/
  k : Nat := 0
  /-- Highest followed position reached since arm (R54, R55). -/
  high : Nat := 0
  /-- Sample at which the pulse in progress ends. -/
  pulseEnd : Option Nat := none
  /-- Committed values that wait for the end of the pulse (R55): key and value. -/
  deferred : List (Nat × Nat) := []
  /-- A capture has been taken since the mode was written. -/
  captured : Bool := false
  /-- Followed positions, device times and positions of channel RING_CH of the last 256 samples, newest first, in capture mode
  (R56, R57). -/
  history : List (Nat × Nat × Nat) := []
deriving DecidableEq, Repr, Inhabited

/-- Line clock synthesiser n (R61 to R67). Positions and errors are in units of 2^-32 tick, the velocity in units of
2^-64 tick per sample. -/
structure Lc where
  y : Int := 0
  v : Int := 0
  e : Int := 0
  pend : Int := 0
  /-- Direction in which track mode was entered: true when reverse. -/
  dirNeg : Bool := false
  /-- Sample and size of the last five count changes, newest first (R63). -/
  changes : List (Nat × Int) := []
  /-- Sample of enable, and of the last count change since. -/
  enabledAt : Nat := 0
  lastChange : Nat := 0
  /-- Sample since which the error has stayed within LOCK_TOL without a break (R64). -/
  okSince : Option Nat := none
  /-- Part of the correction slew not yet applied, in 2^-40 tick (R67). -/
  slewRest : Nat := 0
  /-- Web position delivered in the sample before this one. -/
  prevP : Nat := 0
deriving DecidableEq, Repr, Inhabited

/-- Cue list k (R74 to R77). -/
structure CueList where
  /-- Entry under the cursor, and base added to every position. -/
  cursor : Nat := 0
  base : Nat := 0
  /-- A list on a capture clock: captured positions waiting, oldest first, and whether a walk is in progress. -/
  captures : List Nat := []
  walking : Bool := false
  /-- The walk in progress is a repeat pass or a capture walk, so that an entry can be late (R76). -/
  repeated : Bool := false
  /-- The entry under the cursor had been reached in a cycle before the cursor arrived at it (R76). -/
  late : Bool := false
  /-- The entry under the cursor as the list read it when the cursor arrived at it (R81). -/
  entry : Nat := 0
deriving DecidableEq, Repr, Inhabited
/-- A cue action of a synthesiser or capture list that waits for the next line boundary of a channel (R78): entry, list,
action code and ARG. -/
structure DueCue where
  entry : Nat
  list : Nat
  action : Nat
  arg : Nat
deriving DecidableEq, Repr, Inhabited

/-- The line state of channel n (R69 to R71, R78). -/
structure ChLine where
  /-- Line position in beam mode (R16). -/
  linePos : Nat := 0
  /-- Sample of the boundary of the last line fired (R71). -/
  lastFired : Option Nat := none
  /-- OVERSPEED is active. -/
  overspeed : Bool := false
  /-- Sample in which the last line boundary was taken: one is taken in a cycle (R69). -/
  boundAt : Option Nat := none
  /-- Cue actions that wait for the next boundary (R78). -/
  due : List DueCue := []
  /-- The bar offset toward which a Loop Engine slot moves the channel (R361). -/
  trim : Option Nat := none
deriving DecidableEq, Repr, Inhabited

/-- A table load or read-back in progress (R110): the operands as they stood when it was started. -/
structure TblJob where
  load : Bool
  id : Nat
  addr : Nat
  first : Nat
  count : Nat
deriving DecidableEq, Repr, Inhabited

/-- The levels of a channel line after duty limiting: only elements with a level above 0, ascending. -/
structure LineBuf where
  line : Nat
  levels : List (Nat × Nat)
deriving DecidableEq, Repr, Inhabited

/-- The samples that a row of the row gather holds at 2:1 for the second element line of a pair (R91, R114): their contone line,
the line's bytes, and its bursts that came back bad. -/
structure RowHold where
  line : Nat
  data : List Byte
  bad : List Nat
deriving DecidableEq, Repr, Inhabited

/-- The image path of channel n (R85 to R114). Tables hold only the entries that differ from their default. -/
structure ChImg where
  /-- Tone banks A and B: entry 256 zone + sample (R94), held as the difference (exclusive or) from the entry's default,
  and the entries that hold an uncorrectable word (R113). -/
  toneA : List (Nat × Nat) := []
  toneB : List (Nat × Nat) := []
  badA : List Nat := []
  badB : List Nat := []
  /-- Live and shadow nozzle copies (R99, R101), and their bad entries. -/
  nozLive : List (Nat × Nat) := []
  nozShadow : List (Nat × Nat) := []
  badLive : List Nat := []
  badShadow : List Nat := []
  /-- Screen store (R104) and its bad entries. -/
  screen : List (Nat × Nat) := []
  badScreen : List Nat := []
  /-- Bank that each row uses (R95), and the line of the swap in progress. -/
  rowBank : List Nat := List.replicate 8 0
  swapLine : Nat := 0
  /-- Swaps deferred under R96, in order: operand and the line from which their deferral counts. -/
  deferred : List (Nat × Nat) := []
  /-- Swaps written to CHn.TONE_SWAP that wait for the next boundary (R95). -/
  requested : List Nat := []
  tbl : Option TblJob := none
  /-- Sample at which the nozzle resync (R101) and the bank copy (R97) end. -/
  resyncEnd : Nat := 0
  copyEnd : Nat := 0
  /-- The bank copy runs; Loop Engine slots whose tone write to this channel runs (R97, R360). -/
  copyRun : Bool := false
  loopWrites : List Nat := []
  /-- Flask bursts that came back bad: contone line and burst of 64 bytes (R93). -/
  flaskBad : List (Nat × Nat) := []
  /-- The 2:1 hold values of each row. -/
  hold : List (Option RowHold) := List.replicate 8 none
  /-- Levels of the last lines, newest first. -/
  bufs : List LineBuf := []
deriving DecidableEq, Repr, Inhabited
/-- A page that has been started on a channel in beam mode (R196 to R200): its number, its job there, its first image line, its first contone line
counted from the arm, its contone lines, whether it is spoiled and whether the station has finished it. -/
structure PageRun where
  page : Nat
  job : Nat
  l0 : Nat
  c0 : Nat
  lines : Nat
  spoiled : Bool := false
  finished : Bool := false
deriving DecidableEq, Repr, Inhabited

/-- A fire event that waits for its position (R117, R119). -/
structure FireEv where
  line : Nat
  row : Nat
  group : Nat
  /-- Fire position in ticks of P_n. -/
  pos : Nat
  /-- Fire time in 0.25 ns that it takes from the cycle R120 names, once that cycle has come. -/
  due : Option Int := none
deriving DecidableEq, Repr, Inhabited

/-- Firing and protection of channel n (R117 to R134). -/
structure ChFire where
  /-- Fire events not yet issued, in order of position. -/
  pending : List FireEv := []
  /-- t_F of the last event of each row, in 0.25 ns of device time (R122). -/
  rowLast : List (Option Nat) := List.replicate 8 none
  /-- For each element that fired lately, the lines in which it fired: bit j is the line j lines before `histLine`, the channel
  line recorded last (R124). -/
  hist : List (Nat × Nat) := []
  histLine : Nat := 0
  /-- For each head, the lines of its window with a weight above 0: line and weight (R126). -/
  heads : List (List (Nat × Nat)) := List.replicate 64 []
  /-- Device time in ns of the last temperature report of each head (R130), and of the arm. -/
  reports : List Nat := List.replicate 64 0
  armTime : Nat := 0
  /-- Heads that are hot only through staleness, heads without a recent report (R136), and heads that became hot under
  TEMP_REACTION 1, which thins them while they stay hot (R131, R409): bit h of each. -/
  stale : Nat := 0
  old : Nat := 0
  thinned : Nat := 0
  /-- Lines whose fires have been issued in part or in whole on some lane, newest first (R152). -/
  issued : List Nat := []
  /-- t_F in 0.25 ns of the last fire event of each of the last lines, newest first (R150). -/
  lastFire : List (Nat × Nat) := []
deriving DecidableEq, Repr, Inhabited

/-- A register access outstanding on a lane (R156), for the host or for bring-up (R165). -/
structure CtrlAcc where
  write : Bool
  addr : Nat
  data : Nat
  attempts : Nat
  sentAt : Nat
  host : Bool
deriving DecidableEq, Repr, Inhabited

/-- A bulk transfer in progress on a lane (R157): for the host (kind 0), the body of a scan parameter page (1), its header
(2) or a power block (3). The bytes still to be acknowledged of the last three are held here; those of the first are read
from DRAM frame by frame. -/
structure BulkJob where
  kind : Nat
  src : Nat
  dst : Nat
  len : Nat
  done : Nat
  attempts : Nat
  sentAt : Nat
  data : List Byte
deriving DecidableEq, Repr, Inhabited

/-- Lane m (R142 to R171). Times are device times in ns. -/
structure Lane where
  /-- Stage the controller sends, stage last received, block lock, and when both sides had sent stage 1. -/
  txStage : Nat := 0
  rxStage : Nat := 0
  locked : Bool := false
  bothSince : Option Nat := none
  /-- Start of the training attempt, and of the wait in FAILED. -/
  trainStart : Nat := 0
  failedAt : Nat := 0
  /-- Echoes sent and round trips T4 - T1 - tau received in this step 5, in 0.25 ns, and its attempt (R166). -/
  echoSent : Nat := 0
  echoAt : Nat := 0
  trips : List Nat := []
  echoTry : Nat := 0
  /-- Board registers 0x0000 to 0x0006 read in step 6 (R165): address and value. -/
  board : List (Nat × Nat) := []
  /-- Register accesses of bring-up or of an arm still to be made: write, address, data. -/
  todo : List (Bool × Nat × Nat) := []
  ctrl : Option CtrlAcc := none
  bulk : Option BulkJob := none
  /-- Forward latency in 0.25 ns (R166). -/
  lambda : Nat := 0
  keepSeq : Nat := 0
  keepAt : Nat := 0
  /-- Time of the last valid return block (R170). -/
  rxAt : Nat := 0
  /-- Control blocks that wait to be sent, oldest first: type and F (R145). -/
  ctl : List (Nat × Nat) := []
  /-- Blocks of the open line frame and of the bulk frame still to be sent: sync header and payload; and whether the bulk
  frame has been opened (R145, R147, R157). -/
  lineQ : List (Nat × Nat) := []
  bulkQ : List (Nat × Nat) := []
  bulkOpen : Bool := false
  /-- The last 58 bits that the scrambler sent, the newest in bit 0 (R142); the start value is a choice (log 80). -/
  scr : Nat := 0
  /-- The KEEPALIVE with SAFE that an OFF lane has still to send in its next slot 0 (R171). -/
  lastKeep : Option Nat := none
  /-- Frame in progress, and lines whose frames are complete, newest first (R150, R151). -/
  openLine : Option Nat := none
  framed : List Nat := []
  /-- Lines to be sent again, ahead of new frames (R152). -/
  resend : List Nat := []
  /-- Times of the last 16 invalid headers, newest first (R170). -/
  badHeaders : List Nat := []
  /-- Bulk transfers of the controller's own that wait for the lane, oldest first (R192, R194). -/
  queue : List BulkJob := []
deriving DecidableEq, Repr, Inhabited

/-- A return block in a channel's link-return queue: its lane, its type and the stamps of its arrival (R17, R159). -/
structure RetBlock where
  lane : Nat
  typ : Nat
  time : Nat
  pos : Nat
deriving DecidableEq, Repr, Inhabited

/-- What a scan parameter page of a channel holds, the same on every lane but for the sense beam (R190): shifts, sense windows
and APC window in 1/64 ns, and knots, those not listed being 0. -/
structure PageVals where
  fwd : Int := 0
  rev : Int := 0
  t1 : Nat := 0
  t2 : Nat := 0
  w : Nat := 0
  apcStart : Int := 0
  apcLen : Nat := 0
  knots : List (Nat × Nat) := []
deriving DecidableEq, Repr, Inhabited

/-- A page switch of channel n in progress (R192): sweep at which the page applies, lanes that have still to acknowledge
phase 1 and phase 2, whether phase 2 has begun, and what the switch is for: 0 acquisition page at the entry to ACQUIRE, 1 run
page at the entry to LOCKED, 2 a commit in LOCKED, 3 a commit in ACQUIRE. -/
structure PageSwitch where
  apply : Nat
  left1 : List Nat
  left2 : List Nat
  phase2 : Bool
  kind : Nat
  /-- The switch carries the table that SLT_PENDING announced. -/
  slt : Bool
  vals : PageVals := {}
  splitRaised : Bool := false
  /-- Objects that the commit changed: key, default, value before and value after; a failed phase 1 takes them back. -/
  undo : List (Nat × Nat × Nat × Nat) := []
deriving DecidableEq, Repr, Inhabited

/-- The scanner of channel n (R174 to R194). Times are device times in 2^-32 ns unless said otherwise. -/
structure Scan where
  /-- Times in ns of the entry to SPINUP, to ACQUIRE and to LOST. -/
  spinAt : Nat := 0
  acqAt : Nat := 0
  lostAt : Nat := 0
  /-- Number of the drive's rising edge from which sweep 0 is counted (R177). -/
  edge0 : Nat := 0
  /-- Last accepted crossing on A and on B: sweep and time. -/
  lastA : Option (Nat × Int) := none
  lastB : Option (Nat × Int) := none
  /-- dA and dB of R178; none before the first. -/
  dA : Option Int := none
  dB : Option Int := none
  /-- Values ts_meas(k) - k / (2 f) of the last 64 measured sweeps, newest first (R180). -/
  phis : List Int := []
  /-- The last sweep measured, consecutive misses, and consecutive measured sweeps within SCAN_AMPL_TOL. -/
  lastMeas : Option Nat := none
  missRun : Nat := 0
  goodRun : Nat := 0
  /-- Number of the first sweep not yet judged for misses; sweeps above it with an accepted pulse on A and on B; sweeps that
  were missed lately, newest first. -/
  judged : Nat := 0
  seenA : List Nat := []
  seenB : List Nat := []
  missed : List Nat := []
  /-- A sweep has been committed since the entry to ACQUIRE; C(s - 1) and C(s). -/
  any : Bool := false
  cPrev : Int := 0
  cLast : Int := 0
  /-- Lines of the committed sweep already crossed, and whether its lines are consumed (R184). -/
  linesDone : Nat := 0
  consume : Bool := false
  /-- Scan parameter page in use on the boards, 0 or 1, and what it holds. -/
  page : Nat := 0
  vals : PageVals := {}
  /-- 64 good sweeps have been seen in ACQUIRE; setpoints that wait go out before the run page (R182, R194). -/
  runDue : Bool := false
  /-- Sweeps whose SWEEP block was not sent on the lane of the beam that APC lights, newest first (R193). -/
  dark : List Nat := []
  switch : Option PageSwitch := none
  /-- A commit that changed the run page while another switch was in progress: its switch is still to come, with the objects
  that it changed. -/
  again : Option (List (Nat × Nat × Nat × Nat)) := none
  /-- The table: knots as 32-bit words; knots not listed are 0 (R187). -/
  knots : List (Nat × Nat) := []
  /-- SLT operation in progress, 1 load, 2 read back, 3 generate, with its DRAM address. -/
  slt : Option (Nat × Nat) := none
  /-- Setpoints last sent to each lane, and the sweep at which a power block was last sent (R194). -/
  power : List Nat := List.replicate 4 0
  powerAt : List (Option Nat) := List.replicate 4 none
  /-- Sweep of the last APC sample. -/
  apcDone : Option Nat := none
  ampl : Bool := false
  centre : Bool := false
deriving DecidableEq, Repr, Inhabited

/-- A page known to the device (R196 to R202, R217). -/
structure Page where
  num : Nat
  mask : Nat
  /-- Every band taken, placed and verified on every channel of the mask. -/
  admitted : Bool := false
  /-- Bound to a sheet; stations that have had their PAGE_START, that have started it, and that have finished it. -/
  bound : Bool := false
  cued : Nat := 0
  started : Nat := 0
  finished : Nat := 0
  /-- Spoil reason and channel of the first cause; 0 while not spoiled. -/
  reason : Nat := 0
  cause : Nat := 0xFF
deriving DecidableEq, Repr, Inhabited

/-- A sheet (R196): its capture (unit and position), if it has one, and the page bound to it. -/
structure Sheet where
  capture : Option (Nat × Nat)
  page : Option Nat
deriving DecidableEq, Repr, Inhabited

/-- A job taken on a channel since its LOAD (R208 to R212). -/
structure Job where
  uid : Nat
  id : Nat
  /-- State of R212, and the status its bands complete with once it is refused or aborted. -/
  state : Nat
  status : Nat := 0
  mode : Nat := 0
  /-- First image line (R87, R210); known once placed. -/
  lJ : Nat := 0
  placed : Bool := true
  /-- Contone lines of its bands so far, how many of them have been written to the Flask, and whether JOB_END has been
  taken. -/
  lines : Nat := 0
  written : Nat := 0
  final : Bool := false
  verifyAll : Bool := false
  declBytes : Nat := 0
  declFetch : Nat := 0
  declLines : Nat := 0
  rate : Nat := 0
  /-- Bytes fetched, and bytes Sprue has read, so far (R221). -/
  fetched : Nat := 0
  sprueBytes : Nat := 0
  /-- The run for which its contone lines are numbered is over (R91, R210); it was taken before the last LOAD. -/
  past : Bool := false
  unloaded : Bool := false
  /-- JOB_DECL has put the actual figures in place of the declared ones. -/
  actual : Bool := false
deriving DecidableEq, Repr, Inhabited

/-- A band taken on a channel and not yet completed (R208 to R217). -/
structure Band where
  uid : Nat
  job : Nat
  seq : Nat
  raw : Bool
  src : Nat
  length : Nat
  crc : Nat
  start : Nat
  lines : Nat
  repeats : Nat
  pageMask : Nat
  page : Nat
  quiet : Bool
  pageEnd : Bool
  jobEnd : Bool
  verify : Bool
  resident : Bool
  /-- DRAM address once placed, bytes of intake space it holds, whether its fetch runs, whether it is all there, and
  whether it has passed verification or needs none. -/
  addr : Nat := 0
  space : Nat := 0
  placed : Bool := false
  fetching : Bool := false
  landed : Bool := false
  passed : Bool := false
  retries : Nat := 0
  /-- Sprue has taken its last line of its last pass; contone line, counted since LOAD, that its first line became. -/
  decoded : Bool := false
  c0 : Option Nat := none
deriving DecidableEq, Repr, Inhabited

/-- Jobs, bands and intake of channel n (R205 to R221). -/
structure ChJob where
  /-- Descriptors read from the ring and not yet taken, oldest first. -/
  entries : List (List Byte) := []
  jobs : List Job := []
  bands : List Band := []
  nextUid : Nat := 1
  /-- A STOP descriptor has been taken; the ones behind it wait (R208). -/
  stopTaken : Bool := false
  /-- CMD 4 waits for the next line boundary (R207). -/
  abortReq : Bool := false
  /-- An accepted CMD 2 waits for the acknowledgements of the board registers written again (R167). -/
  arming : Bool := false
  /-- A Recast asks the channel to hold at its next boundary; the state it was in when it held (R223). -/
  holdReq : Bool := false
  heldFrom : Nat := 0
  /-- Write point of the intake region, and the spaces in use in order of placement: offset, bytes, freed (R213). -/
  writePoint : Nat := 0
  spaces : List (Nat × Nat × Nat × Bool) := []
  /-- Bytes fetched with their times in ns, over the last 100 ms (INTAKE_MEAS). -/
  meas : List (Nat × Nat) := []
  /-- Channel line whose fetch raised DATA_LATE and is to be made again (R223). -/
  lateLine : Option Nat := none
deriving DecidableEq, Repr, Inhabited

/-- Recast (R222 to R232). -/
structure Rcst where
  /-- Device time in ns of the request, and NO-GO decisions since. -/
  requestAt : Nat := 0
  passes : Nat := 0
  /-- Some channel has resumed since the request. -/
  resumed : Bool := false
  /-- The web has been seen past the reverse window in this Recast (R225). -/
  overrun : Bool := false
  /-- A RECAST_GO step has armed GO (R401). -/
  goArmed : Bool := false
  /-- A request is still to be proposed to the other devices of the press (R232), and so is GO (R401). -/
  tellPeers : Bool := false
  tellGo : Bool := false
  /-- The web has been below P_DECIDE since the last decision (R228). -/
  below : Bool := false
  /-- Sample in which a RECAST_REQ cue in beam mode raised its HOLD (R201). -/
  cueHold : Option Nat := none
  /-- ARG of the last RECAST_REQ cue, which goes with its request (R73). -/
  cueArg : Nat := 0
  /-- DEV.STATE from which the Recast began: ARMED or PRINTING (R436). -/
  fromState : Nat := 4
deriving DecidableEq, Repr, Inhabited

/-- Where Sprue stands in a band (R243): pass and line of the pass, next bit of the band, block header of the open
block, lines taken of the block, previous line, and Rice state. -/
structure SprueCur where
  band : Nat
  pass : Nat
  line : Nat
  /-- Next bit to read, counted from the band's first byte; most significant bit of a byte first. -/
  bit : Nat
  /-- A header is due at `bit`; otherwise the block began at byte `block`. -/
  atHeader : Bool
  block : Nat
  blockLines : Nat
  prev : List Nat
  a : Nat
  n : Nat
deriving DecidableEq, Repr, Inhabited

/-- A compressor job descriptor in a job ring (R247), as its 64 bytes. -/
structure CodecUnit where
  /-- Ring it serves, and the descriptors of its job; none when free. -/
  ring : Nat := 0
  job : List (List Byte) := []
  running : Bool := false
  /-- Ring it last served (R246). -/
  last : Nat := 3
deriving DecidableEq, Repr, Inhabited

/-- Bursts that a requester still has to present to one arbiter (R272): those of [next, stop) that lie on its DRAM channel,
the first of them its head there when no earlier ones wait. -/
structure HubReq where
  arbiter : Nat
  master : Nat
  write : Bool
  next : Nat
  stop : Nat
  /-- Age stamp of the head: the age unit in which it became the head. -/
  since : Nat
deriving DecidableEq, Repr, Inhabited

/-- A burst in a queue of a subchannel, with its place in the order of all grants (R269, R270). -/
structure HubEntry where
  burst : Nat
  master : Nat
  order : Nat
deriving DecidableEq, Repr, Inhabited

/-- Why a subchannel issues writes (R271): the write queue was high, the read queue empty, or the head read, granted at that
place in the order, waits for a write. -/
inductive WriteWhy where
  | high
  | empty
  | forRead (order : Nat)
deriving DecidableEq, Repr, Inhabited

/-- A bank of a subchannel (R277): its open row, the refresh interval in which its activates are counted, their number, the
time of the last, whether it has been throttled in the interval, and the rolling count of refresh management. -/
structure HubBank where
  row : Option Nat := none
  window : Nat := 0
  count : Nat := 0
  lastAt : Nat := 0
  hit : Bool := false
  rolling : Nat := 0
  /-- Same-bank refresh-management commands issued. -/
  rfms : Nat := 0
deriving DecidableEq, Repr, Inhabited

/-- The queues of a subchannel (R269 to R271), oldest first. -/
structure HubQueue where
  reads : List HubEntry := []
  writes : List HubEntry := []
  /-- Writes are issued, and why; none while reads are. -/
  why : Option WriteWhy := none
  /-- Age unit from which the next burst may issue. -/
  freeAt : Nat := 0
  /-- The head read has been counted as waiting for a write (R270). -/
  waited : Bool := false
  /-- Banks that have been used, by 32 rank + 4 bank group + bank. -/
  banks : List (Nat × HubBank) := []
deriving DecidableEq, Repr, Inhabited

/-- The memory hub (R256 to R281). A burst is named by its address divided by 64; errors are held as differences from
the correct 40-bit beats (32 data, 7 check, 1 parity bit), so that the code's syndromes follow from them. -/
structure Hub where
  /-- Bursts that hold wrong bits: burst, and for each wrong beat its difference. -/
  flips : List (Nat × List (Nat × Nat)) := []
  /-- Requests are granted: a training and the fill have ended (R260). -/
  granted : Bool := false
  /-- Configuration in force: speed, device width, density, ranks (R257). -/
  cfg : Nat × Nat × Nat × Nat := (7200, 8, 16, 1)
  /-- Settings group DRAM_TRAIN: the configuration its results belong to; none when missing or invalid (R259). -/
  stored : Option (Nat × Nat × Nat × Nat) := none
  /-- The training in progress is a quick one; a fill follows it. -/
  quick : Bool := false
  /-- A training is due: PD_HUB has come on, or the boot has reached step 6 (R259, R279, R432). -/
  trainDue : Bool := false
  fillNext : Bool := false
  /-- Contents survive: the array was put in self-refresh before PD_HUB went off (R279). -/
  kept : Bool := false
  /-- DRAM_RETRAIN runs (R280). -/
  retrain : Bool := false
  /-- Injection that waits for the next full-burst write, by DRAM channel (R283). -/
  inject : List (Option Nat) := List.replicate 4 none
  /-- Corrected errors of the last second by DRAM channel: time in ns and number (R266). -/
  ce : List (List (Nat × Nat)) := List.replicate 4 []
  /-- For each subchannel 2c + sub: time of the last request, in idle self-refresh, time of the last refresh, refreshes
  postponed (R275, R278). -/
  lastReq : List Nat := List.replicate 8 0
  idleSr : List Bool := List.replicate 8 false
  refreshAt : List Nat := List.replicate 8 0
  postponed : List Nat := List.replicate 8 0
  /-- Next burst the scrubber reads (R268). -/
  scrub : Nat := 0
  /-- Time of the last scrub read (R268). -/
  scrubAt : Nat := 0
  /-- Time of the last MR4 read by subchannel (R275); of the last ZQ calibration by rank of a DRAM channel, 2c + rank; of the
  last oscillator read, and the write timing moves made, by rank of a subchannel, 4c + 2 sub + rank (R276). -/
  tempAt : List Nat := List.replicate 8 0
  zqAt : List Nat := List.replicate 8 0
  oscAt : List Nat := List.replicate 16 0
  moves : List Int := List.replicate 16 0
  /-- Bytes moved with their times in ns, over the last 100 ms (HUB.LOAD). -/
  moved : List (Nat × Nat) := []
  /-- Requests that wait for the arbiters, oldest first, and the queues of the subchannels 2c + sub (R269, R272). -/
  waits : List HubReq := []
  queues : List HubQueue := List.replicate 8 {}
  /-- The present age unit, its fraction in 1/8,000, and the grants made (R272). -/
  unit : Nat := 0
  unitPart : Nat := 0
  grants : Nat := 0
  /-- For each channel whether its row gather and its Sprue panic (R274). -/
  panics : List (Bool × Bool) := List.replicate 8 (false, true)
deriving DecidableEq, Repr, Inhabited

/-- The registers and hidden state of host ring k (R291 to R296). -/
structure Ring where
  base : Nat := 0
  enable : Bool := false
  /-- Log2 of the number of entries; 0 at reset (DESIGN CHOICE, log 45). -/
  size : Nat := 0
  vec : Nat := 0xFF
  prod : Nat := 0
  cons : Nat := 0
  shadow : Nat := 0
  modTimer : Nat := 0
  modCount : Nat := 1
  dropped : Nat := 0
  seq : Nat := 0
  dbErrs : Nat := 0
  /-- A record has been dropped since the ring last had room (R295). -/
  overflowed : Bool := false
  /-- Records written since the last interrupt, and the time of the first of them in ns (R296). -/
  since : Nat := 0
  firstAt : Nat := 0
  /-- The read of the entry at RING_CONS failed, and waits for a doorbell (R293). -/
  readFailed : Bool := false
deriving DecidableEq, Repr, Inhabited

/-- One entry of the MSI-X table (R296); masked at reset (PRESUMED, log 14). -/
structure Vector where
  addr : Nat := 0
  data : Nat := 0
  masked : Bool := true
  pending : Bool := false
deriving DecidableEq, Repr, Inhabited

/-- A descriptor in the internal chain of a DMA channel (R304): where it came from, its 64 bytes, and an error of its fetch
or its format that takes effect when it reaches the front: kind, access type, address and time (R306). -/
structure DmaDesc where
  addr : Nat
  bytes : List Byte
  err : Nat := 0
  errType : Nat := 0
  errAddr : Nat := 0
  errTime : Nat := 0
deriving DecidableEq, Repr, Inhabited

/-- DMA channel c (R297 to R307). An address carries its SPACE bit as bit 1, as DMA_HEAD does. -/
structure Dma where
  head : Nat := 0
  state : Nat := 0
  kick : Bool := false
  cur : Nat := 0
  hops : Nat := 0
  hopLimit : Nat := 65535
  vec : Nat := 0xFF
  bytes : Nat := 0
  errAddr : Nat := 0
  errInfo : Nat := 0
  errTime : Nat := 0
  /-- The capture holds an error since the last RESET. -/
  captured : Bool := false
  /-- Fetched descriptors, the one in progress first; the address of the next to fetch. -/
  chain : List DmaDesc := []
  next : Option Nat := none
  /-- A LINK re-read is outstanding: address of the descriptor, and whether a kick in AT_END caused it (R304). -/
  reread : Option (Nat × Bool) := none
  /-- Destination bytes of the descriptor in progress that are written; its HALF record is out. -/
  moved : Nat := 0
  halfDone : Bool := false
  /-- Index entries of the descriptor in progress that have been read, from its first on (R300). -/
  idxs : List Nat := []
  /-- Destination bytes of the descriptor in progress whose host data has been requested, and the requests outstanding, each
  as the destination byte at which its data ends (R308). -/
  asked : Nat := 0
  reads : List Nat := []
  /-- TAG of the tail that completed last. -/
  tag : Nat := 0
  /-- The chain is the intake's, for this marking channel (R307). -/
  intake : Option Nat := none
deriving DecidableEq, Repr, Inhabited

/-- A BAR2 access that waits for the hub: a read of len bytes at an offset, or a write. -/
inductive BarWait where
  | read (off len : Nat)
  | write (off : Nat) (data : List Byte)
deriving DecidableEq, Repr, Inhabited

/-- The mailbox and the global registers of BAR0 (R288, R290). -/
structure Pcie where
  /-- MBX_REQ: bytes other than 0, by offset. -/
  req : List (Nat × Byte) := []
  reqLen : Nat := 0
  reqBusy : Bool := false
  rspReady : Bool := false
  rsp : List Byte := []
  mbxVec : Nat := 80
  scratch : Nat := 0
  /-- High half of GLB_TIME and GLB_POS as latched. -/
  timeHi : Nat := 0
  pos : Nat := 0
  /-- BAR2 accesses that arrived while the hub granted none, oldest first (R260, R289). -/
  waits : List BarWait := []
deriving DecidableEq, Repr, Inhabited

/-- The registers of the endpoint's configuration space that host software writes or that change (R284 to R286, R309, R310);
the others are constants (Core.cfgWord). -/
structure PcieCfg where
  /-- Configuration requests are answered with Retry Status: from PERST_N until the link is up (R285). -/
  retry : Bool := true
  /-- The Command register; the base addresses of BAR0, BAR2 and BAR4. -/
  command : Nat := 0
  bar0 : Nat := 0
  bar2 : Nat := 0
  bar4 : Nat := 0
  /-- PowerState: 0 D0, 3 D3hot. -/
  power : Nat := 0
  /-- MSI-X Enable and Function Mask. -/
  msixOn : Bool := false
  msixMask : Bool := false
  /-- Max_Payload_Size and Max_Read_Request_Size as coded: 128 × 2^code bytes. -/
  payload : Nat := 0
  readReq : Nat := 2
  /-- AER Uncorrectable and Correctable Error Status. -/
  aerUncorr : Nat := 0
  aerCorr : Nat := 0
  /-- PCIE.SUBSYSTEM as latched by PERST_N (R310). -/
  subsystem : Nat := 0x8160
deriving DecidableEq, Repr, Inhabited

/-- A client of the object server (R334): where it comes from, its CLIENT number, the last SEQ executed, the response sent
to it and when it was last heard (ns). -/
structure Client where
  transport : Nat
  addr : Nat
  client : Nat
  seq : Nat
  rsp : List Byte
  at_ : Nat
deriving DecidableEq, Repr, Inhabited

/-- A staged value (R316): the key of its object, the value, who wrote it (none: the controller staged it again, R192),
whether a lock's owner withholds it (R323), and the cycle in which it was accepted (R80). -/
structure StagedVal where
  key : Nat
  value : Nat
  by_ : Option Writer := none
  withheld : Bool := false
  at_ : Nat := 0
deriving DecidableEq, Repr, Inhabited

/-- A commit of a channel scope that waits for a line boundary (R318): its trigger of R320, who wrote it, and the cycle in which
it was accepted (R80). -/
structure CommitReq where
  trigger : Nat
  writers : List Writer
  at_ : Nat
deriving DecidableEq, Repr, Inhabited

/-- Sequence lock k (R321 to R324): its owner, and when its lease runs out (ns of the clock). -/
structure Lock where
  owner : Option Writer := none
  ends : Nat := 0
deriving DecidableEq, Repr, Inhabited

/-- A reassembly of IP fragments in progress (R336): source address, identification, first arrival, offset and bytes of its
fragments, and its length once the last fragment is in. -/
structure Reasm where
  addr : Nat
  ident : Nat
  at_ : Nat
  frags : List (Nat × List Byte)
  total : Option Nat
deriving DecidableEq, Repr, Inhabited

/-- The message that a CAN FD controller receives (R338): bytes and segments so far, none when no message is open, and
when the last frame came. -/
structure CanRx where
  msg : Option (List Byte × Nat) := none
  at_ : Nat := 0
deriving DecidableEq, Repr, Inhabited

/-- A lane of a Loop Engine slot (R347 to R358). Mantissas are at the exponent of their stage. -/
structure LoopLane where
  /-- No sample has been computed since enable. -/
  first : Bool := true
  /-- Integrator (40 bits, signed), and x, e and d of the previous computed sample. -/
  i : Int := 0
  x : Int := 0
  e : Int := 0
  d : Int := 0
  /-- Two previous inputs and two previous outputs of biquad 1 and of biquad 2. -/
  in1 : Int × Int := (0, 0)
  out1 : Int × Int := (0, 0)
  in2 : Int × Int := (0, 0)
  out2 : Int × Int := (0, 0)
  /-- Output y as a mantissa and a power of two. -/
  y : Int := 0
  yExp : Int := 0
  hi : Bool := false
  lo : Bool := false
  held : Bool := false
  /-- Consecutive computed samples within the band. -/
  band : Nat := 0
deriving DecidableEq, Repr, Inhabited

/-- A sample of a slot that has been triggered and has not run (R350 to R354): device time of its trigger in ns, cycle of
its trigger, the position and the flags that its records carry, the mark of its freshness (R351), the sources of each lane as
mantissa and power of two, and the lanes whose X element is not fresh. -/
structure LoopWait where
  time : Nat
  cycle : Nat
  pos : Nat := 0
  flags : Nat := 0
  mark : Nat := 0
  x : List (Int × Int)
  r : List (Int × Int)
  ff : List (Int × Int)
  stale : List Bool
deriving DecidableEq, Repr, Inhabited

/-- Slot s of the Loop Engine (R349 to R362). -/
structure LoopSlot where
  lanes : List LoopLane := []
  /-- Bank B is live; a swap, and a preset (a BF24 word), wait for the next sample. -/
  bankB : Bool := false
  swap : Bool := false
  preset : Option Nat := none
  /-- Cycle of the last accepted trigger; mark of the last sample that ran (R351); last period instant taken, in ns (R352,
  R375). -/
  lastCycle : Option Nat := none
  mark : Nat := 0
  instant : Nat := 0
  wait : Option LoopWait := none
  /-- Base of each channel of a bar-trim output (R361). -/
  bases : List (Nat × Nat) := []
  /-- A tone write is still to come; channels whose write was refused and waits; writes that run: channel and G per zone
  (R360). -/
  toneDue : Bool := false
  tonePend : Nat := 0
  toneRuns : List (Nat × List Nat) := []
deriving DecidableEq, Repr, Inhabited

/-- AIN sequence q (R364): running, and the last period instant taken in ns. -/
structure AinSeq where
  running : Bool := false
  instant : Nat := 0
deriving DecidableEq, Repr, Inhabited

/-- The counter of PWM pin k (R365): prescaler and period counts, and the duty in use this period. -/
structure Pwm where
  pre : Nat := 0
  count : Nat := 0
  duty : Nat := 0
deriving DecidableEq, Repr, Inhabited

/-- A foreign master heard on the PTP port (R378): its identity and port, the dataset it advertises (priority1, class,
accuracy, variance, priority2, grandmaster, steps removed), and when its last two Announce messages arrived. -/
structure Foreign where
  srcId : Nat
  srcPort : Nat
  data : List Nat
  times : List Nat
deriving DecidableEq, Repr, Inhabited

/-- The PTP port (R378 to R382). Times are in ns of the clock; differences of stamps in 2^-16 ns. -/
structure Ptp where
  /-- PTP runs: the boot has reached step 9 (R432). -/
  run : Bool := false
  foreign : List Foreign := []
  /-- The master followed, when its last Announce and its last Sync arrived, and when TIME_VALID was last set. -/
  parent : Option (Nat × Nat) := none
  announceAt : Nat := 0
  syncAt : Nat := 0
  validAt : Nat := 0
  /-- A two-step Sync that waits for its Follow_Up: sequence, receive stamp and correction. -/
  waiting : Option (Nat × Int × Int) := none
  /-- Receive stamp less origin of the last Sync, and the last eight path delays, newest first. -/
  dms : Option Int := none
  delays : List Int := []
  /-- Delay_Req outstanding: sequence and stamp; sequence numbers and times of the messages sent. -/
  req : Option (Nat × Int) := none
  reqSeq : Nat := 0
  reqAt : Nat := 0
  syncSeq : Nat := 0
  syncTx : Nat := 0
  announceSeq : Nat := 0
  announceTx : Nat := 0
  /-- Consecutive Syncs within VALID_TOL; TIME.SET has been written since reset. -/
  good : Nat := 0
  setDone : Bool := false
deriving DecidableEq, Repr, Inhabited

/-- The reference aligner (R383 to R389). Times are in ns of the clock. -/
structure Align where
  /-- Cycle that stands at a comparison edge (R387 step 4), and time of the last correction (R384). -/
  origin : Nat := 0
  corrAt : Nat := 0
  /-- The phase error has been within 20 ps since then. -/
  okSince : Option Nat := none
  /-- Entry to COAST. -/
  coastAt : Nat := 0
deriving DecidableEq, Repr, Inhabited

/-- A step record of the Quadrille (R395). -/
structure QdRec where
  addr : Nat
  stepNo : Nat
  rev : Nat
  state : Nat
  flags : Nat
  prop : Nat
  step : Nat
  fw : Nat
  serial : Nat
  digest : Nat
  tFall : Nat
  tRisePrev : Nat
  pFall : Nat
deriving DecidableEq, Repr, Inhabited

/-- A proposal of this device that is pending (R393): its word, whether it came from a write of QD.STEP, and whether it is
always ready (R399). -/
structure QdProp where
  word : Nat
  written : Bool
  force : Bool := false
deriving DecidableEq, Repr, Inhabited

/-- The Quadrille (R391 to R401). Times are in ns of the clock but for the stamps. -/
structure Qd where
  /-- Filtered level of the line, and whether this device holds it low. In reset it holds (R391). -/
  high : Bool := false
  holds : Bool := true
  /-- One step has been completed since reset (R400). -/
  joined : Bool := false
  /-- A step is in progress since the filtered fall; the stamps of it. -/
  busy : Bool := false
  fallAt : Nat := 0
  tFall : Nat := 0
  pFall : Nat := 0
  /-- Pending proposals of this device, highest rank first and then oldest. -/
  props : List QdProp := []
  /-- The record last sent in this step, and when. -/
  sent : Option QdRec := none
  sentAt : Nat := 0
  /-- Records held of the peers, and serial numbers seen by address. -/
  recs : List QdRec := []
  serials : List (Nat × Nat) := []
  /-- The step has timed out and SYNC is taken (R398). -/
  failed : Bool := false
  /-- Flags of each peer for which QD_DISAGREE has been raised in this step. -/
  told : List Nat := List.replicate 8 0
  /-- Scopes marked by a write of 2 to DEV.COMMIT: bit 0 device, bit n + 1 channel n; and who marked them (R318). -/
  marked : Nat := 0
  markers : List Writer := []
deriving DecidableEq, Repr, Inhabited

/-- What the collector keeps of one fault that has been raised, or whose class has been chosen (R405 to R409): its
identity (source times 256 plus kind), the class chosen (0: its default), the class under which it is active (0: not
active) and, for one that is active only in the cycle of its raise, that cycle, sticky bit, count, last time (ns) and
payload, and for the log the time of its last snapshot and the raises merged since (R424). -/
structure FaultEntry where
  id : Nat
  cls : Nat := 0
  active : Nat := 0
  cycle : Option Nat := none
  sticky : Bool := false
  count : Nat := 0
  time : Nat := 0
  payload : Nat := 0
  snapAt : Option Nat := none
  repeats : Nat := 0
deriving DecidableEq, Repr, Inhabited

/-- A scope of R413: the device (place 0) or channel n (place n + 1). The fault that put it into its fault state, and the
time in ns of the last raise of a fault that holds it. -/
structure Scope where
  id : Nat := 0
  cls : Nat := 0
  holdAt : Option Nat := none
deriving DecidableEq, Repr, Inhabited

/-- The step that the rail sequencer runs (R419, R422). Times are in ns of the clock. -/
structure RailStep where
  /-- Upward into state s, or downward out of it. -/
  up : Bool
  s : Nat
  /-- Groups (values of ORDER) still to be done, the present one first; groups of an upward step already begun. -/
  orders : List Nat
  done : List Nat := []
  /-- 0 the group is to begin, 1 waiting for its FULL_DISCHARGE rails, 2 waiting until it is good, 3 SETTLE, 4 waiting until
  it is discharged. -/
  phase : Nat := 0
  /-- t0 or te of R419, the removal, or the start of SETTLE; rails that have passed their OFF_TIMEOUT. -/
  t : Nat := 0
  passed : List Nat := []
  /-- It undoes a step_up that failed or was abandoned: the state does not change. -/
  undo : Bool := false
  /-- Cycle in which the enables of the present group were removed. -/
  cutAt : Nat := 0
deriving DecidableEq, Repr, Inhabited

/-- A record of the rail log in the SPI NOR (R425 to R427): place in the region, sequence number, its 128 bytes, torn. -/
structure LogRec where
  slot : Nat
  seq : Nat
  bytes : List Byte
  torn : Bool := false
deriving DecidableEq, Repr, Inhabited

/-- The rail sequencer and the snapshot log (R417 to R427). -/
structure Rail where
  /-- The RAIL_EN pins are driven (R417), and which rails are enabled. -/
  driven : Bool := false
  on : Nat := 0
  step : Option RailStep := none
  /-- State toward which the sequencer may move now: the target with QD.ENABLE = 0, else that of the last RAIL step. -/
  goal : Nat := 0
  /-- A fault move in progress: its target (R399, R422). -/
  fault : Option Nat := none
  /-- When each rail that is on stopped being good (R420). -/
  badSince : List (Option Nat) := List.replicate 24 none
  /-- Snapshots that wait to be programmed: sequence number and bytes; an erase runs. -/
  queue : List (Nat × List Byte) := []
  erasing : Bool := false
  /-- Next sequence number. -/
  next : Nat := 0
deriving DecidableEq, Repr, Inhabited

/-- Reset, boot and power domains (R28, R429 to R437). Times are in ns of the clock, which starts at the end of reset. -/
structure Boot where
  /-- Held in reset; RESET_N low; a supply outside its range. -/
  inReset : Bool := true
  resetLow : Bool := false
  supplyBad : Bool := false
  /-- Step of R432 reached: 0 before reset ends, 6 after RESET_END, 7 when training has ended, 8 after the fill, 9 at the end. -/
  step : Nat := 0
  /-- Cause of the last reset (R431), and a fall-back of R471 or a settings reset of R476 to be raised at the end of boot. -/
  cause : Nat := 1
  raises : List Raise := []
  /-- Domains that are switching: those to come off, and on, in order (R28). -/
  offs : List Nat := []
  ons : List Nat := []
  /-- DEV.RESET has been accepted and its response not yet sent (R430). -/
  resetAsked : Bool := false
  /-- Level of FAULT_ALIVE, the phase of its half period in units of one cycle of 1 Hz, and its frequency in use (R410). -/
  aliveHigh : Bool := false
  alivePhase : Nat := 0
  aliveFreq : Nat := 1000
deriving DecidableEq, Repr, Inhabited

/-- What the boot code and the server know of a firmware slot or image (R465 to R471): state, trial boots, FW_VERSION,
formats of the 16 groups, signing key, keys to revoke, bound unit, hardware type, and whether its body hashes to BODY_HASH
and its signature verifies. -/
structure FwSlot where
  state : Nat := 0
  trials : Nat := 0
  version : Nat := 0
  formats : List Nat := List.replicate 16 0
  keyIndex : Nat := 0
  revoke : Nat := 0
  unit : Nat := 0
  hwType : Nat := 0x8160
  passes : Bool := true
deriving DecidableEq, Repr, Inhabited

/-- A settings group saved in a bank (R474, R475): group, format, FW_VERSION of its writer, whether its CRC matches, the
objects and fault classes saved, and the tables of channels 0 to 7. -/
structure Group where
  id : Nat
  format : Nat := 0
  version : Nat := 0
  ok : Bool := true
  objs : List (Nat × Nat) := []
  classes : List (Nat × Nat) := []
  tables : List (List (Nat × Nat)) := []
  tablesB : List (List (Nat × Nat)) := []
deriving DecidableEq, Repr, Inhabited

/-- A settings bank (R475). -/
structure Bank where
  seq : Nat := 0
  complete : Bool := false
  groups : List Group := []
deriving DecidableEq, Repr, Inhabited

/-- The SPI NOR and the one-time fuses: what a reset keeps (R431, R464, R466). The contents of a new device are a DESIGN
CHOICE (log 20). -/
structure Nor where
  /-- Density in MiB, and the erase, bus and density that SFDP shows are supported (R463). -/
  mib : Nat := 64
  supported : Bool := true
  octal : Bool := true
  slotA : FwSlot := { state := 2 }
  slotB : FwSlot := {}
  /-- Slot running: true for B. -/
  runB : Bool := false
  banks : List Bank := List.replicate 2 {}
  /-- Bank frozen while a trial runs (R477). -/
  frozen : Option Nat := none
  tag : Nat := 0
  boots : Nat := 0
  revoked : Nat := 0
  /-- The rail log, ascending, and the slot programmed next. -/
  log : List LogRec := []
  logSlot : Nat := 0
deriving DecidableEq, Repr, Inhabited

/-- Firmware staged in DRAM, and the long operation that runs (R325 to R327, R468). -/
structure Fw where
  /-- Staged blocks: number and bytes. -/
  blocks : List (Nat × List Byte) := []
  /-- Code of the long operation, 0 none; when it began (ns of the clock). -/
  op : Nat := 0
  opAt : Nat := 0
  /-- Bank that a STORE writes. -/
  bank : Nat := 0
  /-- Groups of channels whose tables wait for PD_MCn (R474): bit n. -/
  tablesDue : Nat := 0
deriving DecidableEq, Repr, Inhabited

/-- Everything but the queue of commands and the contents of DRAM. -/
structure Core where
  /-- Objects that hold a value other than their default: key and value (R311, R314). -/
  objs : List (Nat × Nat) := []
  /-- Device time in units of 2^-32 ns (R372). -/
  time : Nat := 0
  /-- Number of the present 200 MHz cycle since reset (R33, R34). -/
  sample : Nat := 0
  /-- Marking mode in effect (R1): true in beam mode. -/
  beam : Bool := false
  /-- The reply to the last object access (the model's own). -/
  reply : Reply := {}
  /-- Faults raised and not yet processed; empty between commands (the model's own). -/
  raises : List Raise := []
  /-- Everything sent out so far, newest first (the model's own). -/
  out : List Out := []
  /-- Counter that makes each free value a fresh one (the model's own; DESIGN CHOICE, log 4). -/
  fresh : Nat := 0
  /-- Quadrature inputs 0 to 3. -/
  encs : List Enc := List.replicate 4 {}
  /-- Serial absolute ports 0 to 3. -/
  sposs : List Spos := List.replicate 4 {}
  /-- Pass-through outputs 0 and 1. -/
  passes : List Pass := List.replicate 2 {}
  /-- Compare units 0 to 7. -/
  cmps : List Cmp := List.replicate 8 {}
  /-- Line state of channels 0 to 7. -/
  lines : List ChLine := List.replicate 8 {}
  /-- Line clock synthesisers 0 to 3. -/
  lcs : List Lc := List.replicate 4 {}
  /-- Cue lists 0 to 15. -/
  lists : List CueList := List.replicate 16 {}
  /-- Image paths of channels 0 to 7. -/
  imgs : List ChImg := List.replicate 8 {}
  /-- Pages started on channels 0 to 7, oldest first (beam mode). -/
  runs : List (List PageRun) := List.replicate 8 []
  /-- Firing state of channels 0 to 7. -/
  fires : List ChFire := List.replicate 8 {}
  /-- Lanes 0 to 31. -/
  lanes : List Lane := List.replicate 32 {}
  /-- The link-return queues of channels 0 to 7, oldest block first (R25, R159). -/
  returns : List (List RetBlock) := List.replicate 8 []
  /-- Device time in ns at which SYNC was last sent (R153). -/
  syncAt : Nat := 0
  /-- Sweep or line frames are drained in rounds; count of SYNC rounds sent so far. -/
  syncs : Nat := 0
  /-- Scanners of channels 0 to 7. -/
  scans : List Scan := List.replicate 8 {}
  /-- Pages declared and not yet consumed, in order of declaration. -/
  pages : List Page := []
  /-- The last sheets, newest first. -/
  sheets : List Sheet := []
  /-- Phase accumulator of the mirror drives at 200 MHz, 48 bits, and the number of its rising edges so far (R176). -/
  drivePhase : Nat := 0
  driveCount : Nat := 0
  /-- Jobs of channels 0 to 7. -/
  jobs : List ChJob := List.replicate 8 {}
  rcst : Rcst := {}
  /-- Sprue of channels 0 to 7. -/
  sprues : List (Option SprueCur) := List.replicate 8 none
  /-- The two compressors. -/
  codecs : List CodecUnit := List.replicate 2 {}
  /-- Descriptors read from job rings 48 to 51 and not yet given to a compressor, and the ring served last (R246). -/
  codecQueue : List (List (List Byte)) := List.replicate 4 []
  /-- Per codec ring the entries that were in it, unread, at the last CODEC.ABORT (R253). -/
  codecAborts : List Nat := List.replicate 4 0
  hub : Hub := {}
  /-- Host rings 0 to 63. -/
  rings : List Ring := (List.range 64).map fun (k : Nat) => { vec := k }
  /-- The MSI-X table, 128 vectors. -/
  vectors : List Vector := List.replicate 128 {}
  /-- DMA channels 0 to 15. -/
  dmas : List Dma := (List.range 16).map fun (k : Nat) => { vec := 64 + k }
  pcie : Pcie := {}
  pcieCfg : PcieCfg := {}
  /-- DMA channel that made the last read request (R308). -/
  dmaLast : Nat := 15
  /-- Clients of the object server, at most 32. -/
  clients : List Client := []
  /-- Staged values, ascending by key (R316). -/
  staged : List StagedVal := []
  /-- Commits of channel scopes 0 to 7 that wait for a line boundary, oldest first; they apply together (R318). -/
  commits : List (List CommitReq) := List.replicate 8 []
  /-- Locks 0 to 9. -/
  locks : List Lock := List.replicate 10 {}
  /-- The audit ring, newest first, at most 65,536 entries, and the next sequence number (R328 to R330). -/
  audit : List (List Byte) := []
  auditNext : Nat := 0
  /-- Reassemblies on Ethernet ports 0 and 1, at most four each, oldest first. -/
  reasms : List (List Reasm) := List.replicate 2 []
  /-- Receivers of CAN controllers 0 and 1. -/
  cans : List CanRx := List.replicate 2 {}
  /-- Loop Engine slots 0 to 63. -/
  slots : List LoopSlot := List.replicate 64 {}
  /-- Marks that order updates of elements of sources 5 to 7 and samples (R351): the present mark, and the mark of the
  last update of each element, by 65,536 times code plus 256 times unit plus element. -/
  loopMark : Nat := 0
  loopMarks : List (Nat × Nat) := []
  /-- AIN sequences 0 to 7, and the cycle of the last timed AIN sample (R363). -/
  ainSeqs : List AinSeq := List.replicate 8 {}
  ainTimed : Option Nat := none
  /-- The engine computes a sample until this time, in half ns of the device's own clock (R355): of slot `loopAt`. -/
  loopFree : Nat := 0
  loopAt : Nat := 0
  /-- Levels of the GPIO pins in the last sample, and those that GPIO_IN shows: two samples alike (R367). -/
  gpioSeen : Nat := 0
  gpioIn : Nat := 0
  /-- PWM pins 0 to 31. -/
  pwms : List Pwm := List.replicate 32 {}
  ptp : Ptp := {}
  align : Align := {}
  qd : Qd := {}
  /-- Faults the collector knows, by identity, ascending. -/
  faults : List FaultEntry := []
  /-- The device and channels 0 to 7 as scopes (R413). -/
  scopes : List Scope := List.replicate 9 {}
  /-- Times in ns of the recoveries of the last hour (R414), and the cycle in which the last one was counted. -/
  recoveries : List Nat := []
  recoverAt : Option Nat := none
  rail : Rail := {}
  boot : Boot := {}
  nor : Nor := {}
  fw : Fw := {}
deriving DecidableEq, Repr

/-- The machine. -/
structure State where
  /-- Commands that wait, first in, first out. -/
  pending : List Instr
  core : Core
  /-- The bytes of DRAM that differ from 0, by address, ascending (R260: the fill leaves zeros). -/
  dram : List Host.Cell
deriving DecidableEq, Repr

/-- The machine held in reset (R429): every object at its default, nothing running, no command waiting. -/
def State.reset : State := { pending := [], core := {}, dram := [] }

end Sys2Proof.Machine
end

