-- ==== Sys2Proof/Machine/Ops.lean ====
section
/-! DEFINITION. Sys2Proof/Machine/Ops.lean: the named operations every family uses: reading and writing an object,
counters, units of a list, positions and times, free values, fault raises, and records written to host rings. -/

namespace Sys2Proof.Machine

/-! ### Objects -/

/-- The value an object holds. -/
def Core.get (c : Core) (o : Obj) : Nat := sget o.dflt c.objs o.key

/-- The machine with an object set, its value cut to the object's size. -/
def Core.set (c : Core) (o : Obj) (v : Nat) : Core :=
  { c with objs := sput o.dflt c.objs o.key (v % 256 ^ o.bytes) }

/-- The value of an object read in two's complement. -/
def Core.geti (c : Core) (o : Obj) : Int := signed (8 * o.bytes) (c.get o)

/-- An object set to an integer in two's complement. -/
def Core.seti (c : Core) (o : Obj) (v : Int) : Core := c.set o (unsigned (8 * o.bytes) v)

/-- An object set to an integer, saturated to its type. -/
def Core.satI (c : Core) (o : Obj) (v : Int) : Core := c.set o (satS (8 * o.bytes) v)

/-- An object set to a number, saturated at its largest value. -/
def Core.satN (c : Core) (o : Obj) (v : Nat) : Core := c.set o (satU (8 * o.bytes) v)

/-- A counter increased by n; it saturates at its largest value (R59). -/
def Core.addTo (c : Core) (o : Obj) (n : Nat) : Core := c.satN o (c.get o + n)

/-- A counter increased by one (R59). -/
def Core.bump (c : Core) (o : Obj) : Core := c.addTo o 1

/-- One bit of an object set or cleared. -/
def Core.setBitOf (c : Core) (o : Obj) (i : Nat) (b : Bool) : Core := c.set o (setBit (c.get o) i b)

/-- One bit of an object. -/
def Core.bitOf (c : Core) (o : Obj) (i : Nat) : Bool := (c.get o).testBit i

/-! ### Staged values -/

/-- The staged value of an object, if one is pending (R316). -/
def Core.stagedOf (c : Core) (key : Nat) : Option StagedVal := c.staged.find? fun (x : StagedVal) => x.key = key

/-- The staging copy with a value in the place of any staged earlier for the object. -/
def stagePut (x : StagedVal) : List StagedVal → List StagedVal
  | [] => [x]
  | y :: r => if x.key < y.key then x :: y :: r else if y.key = x.key then x :: r else y :: stagePut x r

/-- The value of an object: the staged one where one is pending, the live one otherwise (R316). -/
def Core.getStaged (c : Core) (o : Obj) : Nat :=
  match c.stagedOf o.key with
  | some x => x.value
  | none => c.get o

/-! ### Units -/

/-- The unit at place i of a list, or a fresh one where there is none. -/
def nth {α : Type} [Inhabited α] (l : List α) (i : Nat) : α := l.getD i default

/-- The list with the unit at place i changed. -/
def upd {α : Type} (l : List α) (i : Nat) (f : α → α) : List α := l.modify i f

/-! ### Free values -/

/-- A fresh free value of w bits, and the machine that will give another one next (log 4). -/
def Core.freeVal (c : Core) (w : Nat) : Nat × Core :=
  (Config.free c.fresh % 2 ^ w, { c with fresh := c.fresh + 1 })

/-- The quotient, exact where it is a whole number; where it is not, one of the two neighbours, free (log 5). -/
def roundFree (num : Int) (den : Nat) : Int :=
  if num % (den : Int) = 0 then num / (den : Int)
  else num / (den : Int) + ((Config.roundUp num den % 2 : Nat) : Int)

/-- The quotient rounded to the nearest whole number; exactly halfway, one of the two neighbours, free (log 5). -/
def roundNear (num : Int) (den : Nat) : Int :=
  if 2 * (num % (den : Int)) = (den : Int) then num / (den : Int) + ((Config.roundUp num den % 2 : Nat) : Int)
  else (2 * num + (den : Int)) / (2 * (den : Int))

/-! ### Times and positions -/

/-- Device time in whole ns (R372). -/
def Core.now (c : Core) : Nat := c.time / 2 ^ 32

/-- Device time that passes in one 200 MHz cycle: 5 ns times 1 + r (R372). -/
def Core.cycleTime (c : Core) : Int := 5 * 2 ^ 32 + roundFree (5 * 2 ^ 32 * c.geti K.timeRate) 1000000000

/-- Time since reset in ns by the device's own 200 MHz clock: durations are measured with it, so that a step of device time
(R374) changes none. -/
def Core.clock (c : Core) : Nat := 5 * c.sample

/-- Modulus of a position (POS48). -/
def posMod : Nat := 2 ^ 48

/-- Whether position p has reached target t: (p - t) mod 2^48 < 2^47 (R51). -/
def reached (p t : Nat) : Bool := decide ((p + (posMod - t % posMod)) % posMod < 2 ^ 47)

/-- Difference p - t of two positions as a signed number. -/
def posDiff (p t : Nat) : Int := signed 48 (p + (posMod - t % posMod))

/-- Whether position p lies in the half-open window of len ticks from s (R68). -/
def inWindow (p s len : Nat) : Bool := decide ((p + (posMod - s % posMod)) % posMod < len)

/-- A position moved by a signed number of ticks. -/
def posAdd (p : Nat) (d : Int) : Nat := unsigned 48 ((p : Int) + d)

/-- Web position of synthesiser i (R60). -/
def Core.webPos (c : Core) (i : Nat) : Nat := c.get (K.lcPosition i)

/-- Position in the sheet or web of channel n: that of its synthesiser less the bar offset (R14). -/
def Core.sheetPos (c : Core) (n : Nat) : Nat :=
  (c.webPos (c.get (K.chClockSrc n)) + (posMod - c.get (K.chBarOffset n))) % posMod

/-- Web position of the synthesiser named in DEV.STAMP_CLOCK (R17). -/
def Core.stampPos (c : Core) : Nat := c.webPos (c.get K.devStampClock)

/-! ### Faults -/

/-- A fault that is active only in the cycle of its raise (R406), put on the collector's list. -/
def Core.raise (c : Core) (src kind payload : Nat) : Core :=
  { c with raises := c.raises ++ [{ src := src, kind := kind, payload := payload % 2 ^ 64 }] }

/-- A fault that stays active until its condition ends (R406), put on the collector's list. -/
def Core.raiseHeld (c : Core) (src kind payload : Nat) : Core :=
  { c with raises := c.raises ++ [{ src := src, kind := kind, payload := payload % 2 ^ 64, held := true }] }

/-- The condition of a fault ends (R406), put on the collector's list; nothing happens if the fault is not active. -/
def Core.endFault (c : Core) (src kind : Nat) : Core :=
  { c with raises := c.raises ++ [{ src := src, kind := kind, payload := 0, ended := true }] }

/-! ### Fresh inputs of the Loop Engine -/

/-- An element of a Loop Engine source of code 5, 6 or 7 has been updated (R351). -/
def Core.markFresh (c : Core) (code unit elem : Nat) : Core :=
  { c with loopMark := c.loopMark + 1,
           loopMarks := sput 0 c.loopMarks (65536 * code + 256 * unit + elem) (c.loopMark + 1) }

/-! ### Output -/

/-- The level of an output pin. -/
inductive PinLevel where
  | z | low | high
deriving DecidableEq, Repr

/-- A driven pin at a logic level. -/
def PinLevel.of (b : Bool) : PinLevel := if b then .high else .low

/-- Something sent out. -/
def Core.emit (c : Core) (o : Out) : Core := { c with out := o :: c.out }

/-- The bytes of an event record (R376). -/
def EvRec.bytes (r : EvRec) : List Byte :=
  bytesLE 8 r.time ++ bytesLE 6 r.pos ++ bytesLE 2 r.src ++ bytesLE 4 r.seq ++ bytesLE 4 r.code ++ bytesLE 8 r.payload

/-- Signals an MSI-X vector: delivered, or marked pending while masked (R296). Vector numbers above 127 name none. -/
def Core.signal (c : Core) (v : Nat) : Core :=
  if v < 128 then
    let e := nth c.vectors v
    if e.masked || c.pcieCfg.msixMask then { c with vectors := upd c.vectors v fun (x : Vector) => { x with pending := true } }
    else c.emit (.msix v e.addr e.data)
  else c

end Sys2Proof.Machine
end

