-- ==== Sys2Proof/Machine/Net.lean ====
section
/-! DEFINITION. Sys2Proof/Machine/Net.lean: datagrams that the device sends on its Ethernet ports (R336, R395). -/

namespace Sys2Proof.Machine

/-- The sum of 16-bit big-endian words, for the checksum of the Internet protocols. -/
def sum16 : List Byte → Nat
  | [] => 0
  | [a] => 256 * a.toNat
  | a :: b :: r => 256 * a.toNat + b.toNat + sum16 r

/-- The sum of 16-bit words folded into 16 bits with end-around carry. -/
def fold16 (s : Nat) : Nat := let t := s % 65536 + s / 65536; t % 65536 + t / 65536

/-- The sum over a UDP datagram and the pseudo header of IPv4, folded. -/
def udpSum (src dst : Nat) (d : List Byte) : Nat :=
  fold16 (sum16 (bytesBE 4 src ++ bytesBE 4 dst ++ bytesBE 2 17 ++ bytesBE 2 d.length ++ d))

/-- A UDP datagram with its checksum, which is never sent as 0 (R336). -/
def udpBytes (src dst srcPort dstPort : Nat) (payload : List Byte) : List Byte :=
  let head := bytesBE 2 srcPort ++ bytesBE 2 dstPort ++ bytesBE 2 (8 + payload.length)
  let sum := 65535 - udpSum src dst (head ++ bytesBE 2 0 ++ payload)
  head ++ bytesBE 2 (if sum = 0 then 65535 else sum) ++ payload

/-- The address from which a datagram goes and the next hop: its destination where that is on the port's net or a group, else
the gateway (R336). -/
structure Route where
  src : Nat
  hop : Nat
deriving DecidableEq, Repr, Inhabited

/-- The route of a datagram from port p. -/
def Core.route (c : Core) (p dst : Nat) : Route :=
  let ip := c.get (K.wopEthIpAddr p)
  let mask := c.get (K.wopEthNetmask p)
  { src := ip, hop := if dst &&& mask = ip &&& mask || 0xE0000000 ≤ dst then dst else c.get (K.wopEthGateway p) }

/-- A datagram is sent from port p, in fragments where it exceeds 1,500 bytes of IP packet (R336). The identification of IPv4
is a free value (log 101). -/
def udpSend (p : Nat) (r : Route) (dst srcPort dstPort : Nat) (payload : List Byte) (c : Core) : Core :=
  let d := udpBytes r.src dst srcPort dstPort payload
  let (ident, c) := c.freeVal 16
  (List.range (ceilDiv d.length 1480)).foldl (fun (c : Core) (i : Nat) =>
    c.emit (.udp p r.src dst r.hop ident (1480 * i) (decide (1480 * (i + 1) < d.length)) (slice d (1480 * i) 1480))) c

end Sys2Proof.Machine
end

