-- ==== Sys2Proof/Machine/Rings.lean ====
section
/-! DEFINITION. Sys2Proof/Machine/Rings.lean: event records (R17, R376) and the device-to-host rings they go to
(R294 to R296). -/

namespace Sys2Proof.Machine

/-- The flag bits [31:28] of a record's CODE field (R376) for a position of synthesiser i. -/
def Core.codeFlags (c : Core) (i : Nat) : Nat :=
  let st := c.get K.timeStatus
  let inp := c.get (K.encStatus i)
  2 ^ 31 * bitN st 0 + 2 ^ 30 * (if c.get K.alignState = 4 then 1 else 0) + 2 ^ 29 * bitN st 2 + 2 ^ 28 * bitN inp 1

/-- The ring's interrupt, when the records since the last one have reached the count of RING_MOD (R296). -/
def Core.ringDue (c : Core) (k : Nat) : Core :=
  let r := nth c.rings k
  if max 1 r.modCount ≤ r.since then
    (({ c with rings := upd c.rings k fun (x : Ring) => { x with since := 0 } }).signal r.vec)
  else c

/-- The new count of a ring written to its shadow address, if one is set (R293, R294). -/
def Core.ringShadow (c : Core) (k : Nat) (count : Nat) : Core :=
  let r := nth c.rings k
  if r.shadow = 0 then c else c.emit (.shadow r.shadow count)

/-- The payload bits that a record's table marks reserved, so that their value is undefined (R11): the records of compare
units, cue lists, channels, lanes, DMA channels and Loop Engine slots. -/
def reservedBits (ring src code : Nat) : Nat :=
  let sub := ring % 6
  if ring < 48 then
    if sub = 5 then (if src < 0x0B60 then 2 ^ 56 - 2 ^ 50 else 2 ^ 64 - 2 ^ 60)
    else if sub = 1 then (if code = 1 then 2 ^ 56 - 2 ^ 32 else 2 ^ 48 - 2 ^ 32)
    else if sub = 2 then
      (if code = 3 then 2 ^ 64 - 2 ^ 56 + (2 ^ 48 - 2 ^ 32) else if code = 5 || code = 6 then 2 ^ 56 - 2 ^ 40
       else if code = 7 then 2 ^ 48 - 2 ^ 40 else 0)
    else if sub = 3 then 2 ^ 64 - 2 ^ 56 + (2 ^ 48 - 2 ^ 32) + (2 ^ 16 - 2 ^ 8)
    else if sub = 4 then 2 ^ 64 - 2 ^ 56 + (2 ^ 24 - 2 ^ 17)
    else 0
  else if ring = 56 || ring = 57 then 2 ^ 48 - 2 ^ 32
  else if 60 ≤ ring then 2 ^ 52 - 2 ^ 48
  else 0

/-- The record with the reserved bits of its CODE (R376) and of its payload free. -/
def EvRec.filled (e : EvRec) (ring v : Nat) : EvRec :=
  let mask := reservedBits ring e.src (e.code % 2 ^ 16)
  { e with code := e.code ||| 2 ^ 16 * (v % 2 ^ 12), payload := e.payload ||| (mask &&& (v / 2 ^ 12)) }

/-- A record whose place, code and stamps are known is written to device-to-host ring k, or dropped (R294, R295). -/
def Core.putRecord (c : Core) (k : Nat) (e : EvRec) : Core :=
  let r := nth c.rings k
  let (v, c) := c.freeVal 76
  let e := { e.filled k v with seq := r.seq }
  let seq' := (r.seq + 1) % 2 ^ 32
  if r.enable && decide ((r.prod + (2 ^ 32 - r.cons)) % 2 ^ 32 < 2 ^ r.size) then
    let addr := r.base + r.prod % 2 ^ r.size * 32
    let prod' := (r.prod + 1) % 2 ^ 32
    let c := { c with rings := upd c.rings k fun (x : Ring) =>
      { x with prod := prod', seq := seq', overflowed := false, since := x.since + 1,
               firstAt := if x.since = 0 then c.clock else x.firstAt } }
    ((c.emit (.record k addr e)).ringShadow k prod').ringDue k
  else
    let c' := { c with rings := upd c.rings k fun (x : Ring) =>
      { x with seq := seq', dropped := satU 32 (x.dropped + 1), overflowed := true } }
    if r.overflowed then c' else c'.raise 0x0742 1 (2 ^ 56 * k + satU 32 (r.dropped + 1))

/-- Position of channel n: the line position in beam mode, the web position less the offset in nozzle mode (R14, R16). -/
def Core.chPos (c : Core) (n : Nat) : Nat := if c.beam then (nth c.lines n).linePos else c.sheetPos n

/-- A record of channel n, which carries P_n (R17), with a time and a position of its own. -/
def Core.recordChAt (c : Core) (k n src code payload time pos : Nat) : Core :=
  c.putRecord k { time := time, pos := pos, src := src, seq := 0,
                  code := c.codeFlags (c.get (K.chClockSrc n)) + code % 2 ^ 16, payload := payload % 2 ^ 64 }

/-- A record of channel n stamped now. -/
def Core.recordCh (c : Core) (k n src code payload : Nat) : Core := c.recordChAt k n src code payload c.now (c.chPos n)

/-- A record that carries the web position of DEV.STAMP_CLOCK (R17). -/
def Core.recordDev (c : Core) (k src code payload : Nat) : Core :=
  c.putRecord k { time := c.now, pos := c.stampPos, src := src, seq := 0,
                  code := c.codeFlags (c.get K.devStampClock) + code % 2 ^ 16, payload := payload % 2 ^ 64 }

end Sys2Proof.Machine
end

