-- ==== Sys2Proof/Machine/Dram.lean ====
section
/-! DEFINITION. Sys2Proof/Machine/Dram.lean: DRAM as the requesters see it: the address map (R262, R263), the SECDED code
and the address parity (R264, R265), reads and writes with their refusals and the first-error capture (R266, R267, R280,
R281). What a request does to data and counters of errors is served in one step; its bursts then wait for the arbiters and pass the
queues (R269 to R274; Arbiter.lean, log 11). -/

namespace Sys2Proof.Machine

/-- The byte of DRAM at an address: one that nothing has written since the fill is 0 (R260). -/
def dramByte (m : List Host.Cell) (a : Nat) : Byte := sget 0#8 m a

/-- n bytes of DRAM from an address. -/
def dramBytes (m : List Host.Cell) (a n : Nat) : List Byte := sgets 0#8 m a n

/-- DRAM with bytes stored from an address. -/
def dramPut (m : List Host.Cell) (a : Nat) (l : List Byte) : List Host.Cell := sputs 0#8 m a l

/-- DRAM has its canonical form: addresses strictly rising, and no entry equal to what an unlisted address reads as. -/
def Memory.wf (m : List Host.Cell) : Bool := swf 0#8 m

/-! ### Configuration and address map -/

/-- Capacity in MiB of a configuration (width, density, ranks), or none where R256 has none. -/
def capacityMiB (width density ranks : Nat) : Option Nat :=
  let one := if width = 16 then 2048 * density else if width = 8 then 4096 * density else 0
  if one = 0 || !(density = 8 || density = 16 || density = 24 || density = 32) then none
  else if ranks = 1 then some one
  else if ranks = 2 then (if 131072 < 2 * one then none else some (2 * one))
  else none

/-- HUB.CAPACITY in MiB: that of the configuration in force. -/
def Core.capMiB (c : Core) : Nat := (capacityMiB c.hub.cfg.2.1 c.hub.cfg.2.2.1 c.hub.cfg.2.2.2).getD 0

/-- HUB.CAPACITY in bytes. -/
def Core.capBytes (c : Core) : Nat := c.capMiB * 2 ^ 20

/-- HUB.PEAK_BW: 32 bytes a transfer over four channels of two subchannels, in MB/s (R257). -/
def Core.peakBw (c : Core) : Nat := c.hub.cfg.1 * 32

/-- HUB.PLAN_BW, 70 % of the peak (R257). -/
def Core.planBw (c : Core) : Nat := c.peakBw * 70 / 100

/-- DRAM channel of an address (R262). -/
def dramChannel (a : Nat) : Nat := field a 13 12 ^^^ field a 21 20 ^^^ field a 29 28 ^^^ field a 37 36

/-- Channel-local address (R262). -/
def dramLocal (a : Nat) : Nat := a / 16384 * 4096 + a % 4096

/-- Log2 of the bank groups and of the banks per group (R256). -/
def bankShape (width density : Nat) : Nat × Nat :=
  (if width = 8 then 3 else 2, if density = 8 then 1 else 2)

/-- Where a burst lies: subchannel, column, bank group, bank, rank, row (R263). -/
structure DramPlace where
  sub : Nat
  col : Nat
  bg : Nat
  bank : Nat
  rank : Nat
  row : Nat
deriving DecidableEq, Repr, Inhabited

/-- The place of an address (R263). -/
def Core.dramPlace (c : Core) (addr : Nat) : DramPlace :=
  let a := dramLocal addr
  let (g, b) := bankShape c.hub.cfg.2.1 c.hub.cfg.2.2.1
  let rows := c.capBytes / 8 / max 1 c.hub.cfg.2.2.2 / (4096 * 2 ^ (g + b))
  let u := a / 8192
  { sub := a / 64 % 2, col := 16 * (a / 128 % 64), bg := u % 2 ^ g, bank := u / 2 ^ g % 2 ^ b,
    rank := u / (2 ^ (g + b) * max 1 rows), row := u / 2 ^ (g + b) % max 1 rows }

/-- Subchannel number 2c + sub of an address. -/
def Core.subOf (c : Core) (a : Nat) : Nat := 2 * dramChannel a + (c.dramPlace a).sub

/-! ### SECDED and parity -/

/-- The columns h(0) to h(31): the 32 smallest 7-bit values of weight 3 (R264). -/
def secdedCols : List Nat :=
  ((List.range 128).filter fun (v : Nat) => popcount 7 v = 3).take 32

/-- The check bits of a 32-bit word (R264). -/
def secdedCheck (data : Nat) : Nat :=
  (List.range 32).foldl (fun (s i : Nat) => if data.testBit i then s ^^^ secdedCols.getD i 0 else s) 0

/-- The syndrome of a beat that differs by d from the correct one: data bits 0 to 31, check bits 32 to 38. -/
def syndromeOf (d : Nat) : Nat := secdedCheck (d % 2 ^ 32) ^^^ field d 38 32

/-- What a syndrome means (R264): no error, a corrected error with the data bits it inverts, or uncorrectable. -/
inductive Secded where
  | clean
  | corrected (invert : Nat)
  | uncorrectable
deriving DecidableEq, Repr

/-- The result of a syndrome (R264). -/
def secdedResult (s : Nat) : Secded :=
  if s = 0 then .clean
  else if popcount 7 s = 1 then .corrected 0
  else match secdedCols.findIdx? (fun (h : Nat) => h = s) with
    | some i => .corrected (2 ^ i)
    | none => .uncorrectable

/-- What reading one burst finds: beats with a parity mismatch, beats corrected, beats uncorrectable with the syndrome of
the first, for each beat the data bits that come out wrong although nothing was reported, and the beats that the capture
names with the syndrome of the first of them (R281). -/
structure BurstRead where
  parity : Nat
  corrected : Nat
  badBeats : Nat
  syndrome : Nat
  residue : List (Nat × Nat)
  affected : Nat := 0
  affectedSyndrome : Nat := 0
deriving DecidableEq, Repr, Inhabited

/-- The read of a burst with the given wrong beats (R264, R265). A beat whose only fault is its parity bit is one
corrected error; with 12 or more mismatches the burst is an address error and nothing is corrected. -/
def burstRead (l : List (Nat × Nat)) : BurstRead :=
  let par := (l.filter fun (p : Nat × Nat) => p.2.testBit 39).length
  let r := l.foldl (fun (r : BurstRead) (p : Nat × Nat) =>
    let s := syndromeOf p.2
    match secdedResult s with
    | .clean => { r with residue := if p.2 % 2 ^ 32 = 0 then r.residue else r.residue ++ [(p.1, p.2 % 2 ^ 32)] }
    | .corrected inv =>
      let rest := (p.2 % 2 ^ 32) ^^^ inv
      { r with corrected := r.corrected + 1, residue := if rest = 0 then r.residue else r.residue ++ [(p.1, rest)] }
    | .uncorrectable =>
      { r with badBeats := setBit r.badBeats p.1 true, syndrome := if r.badBeats = 0 then s else r.syndrome })
    { parity := par, corrected := 0, badBeats := 0, syndrome := 0, residue := [] }
  if 12 ≤ par then
    let hit := l.filter fun (p : Nat × Nat) => p.2.testBit 39 || secdedResult (syndromeOf p.2) = .uncorrectable
    { r with corrected := 0, affected := hit.foldl (fun (a : Nat) (p : Nat × Nat) => setBit a p.1 true) 0,
             affectedSyndrome := (hit.head?.map fun (p : Nat × Nat) => syndromeOf p.2).getD 0 }
  else { r with corrected := r.corrected + par, affected := r.badBeats, affectedSyndrome := r.syndrome }

/-- Whether the read delivers the burst flagged bad. -/
def BurstRead.bad (r : BurstRead) : Bool := r.badBeats != 0 || decide (12 ≤ r.parity)

/-- The wrong beats of a burst. -/
def Core.flipsOf (c : Core) (burst : Nat) : List (Nat × Nat) := sget [] c.hub.flips burst

/-- The wrong beats of a burst set. -/
def Core.setFlips (c : Core) (burst : Nat) (l : List (Nat × Nat)) : Core :=
  { c with hub := { c.hub with flips := sput [] c.hub.flips burst l } }

/-- Further wrong bits appear in a burst. -/
def Core.addFlips (c : Core) (burst : Nat) (l : List (Nat × Nat)) : Core :=
  c.setFlips burst (l.foldl (fun (m : List (Nat × Nat)) (p : Nat × Nat) =>
    if p.1 < 16 then sput 0 m p.1 (sget 0 m p.1 ^^^ (p.2 % 2 ^ 40)) else m) (c.flipsOf burst))

/-! ### Refusals, errors and capture -/

/-- The first-error capture (R281). -/
def Core.hubCapture (c : Core) (kind addr master typ syndrome : Nat) : Core :=
  if c.get K.hubFecValid = 0 then
    ((((((c.set K.hubFecValid 1).set K.hubFecKind kind).set K.hubFecAddr addr).set K.hubFecMaster master).set
      K.hubFecType typ).set K.hubFecTime c.now).set K.hubFecSyndrome syndrome
  else c

/-- Whether the hub refuses a burst (R280). -/
def Core.refuses (c : Core) (burst : Nat) : Bool :=
  decide (c.capBytes ≤ burst * 64) || !(c.bitOf K.devPdStatus 2) || c.hub.retrain

/-- A refused burst counts, raises and is captured (R280, R281). -/
def Core.refuse (c : Core) (burst master typ : Nat) : Core :=
  let a := burst * 64
  ((c.bump K.hubRefused).raise 0x0821 1 (2 ^ 56 * master + a % 2 ^ 48)).hubCapture 3 a master typ 0

/-- Corrected errors of a DRAM channel are counted; DRAM_CE is raised when more than CE_LIMIT fall in one second. -/
def Core.countCe (c : Core) (ch n : Nat) : Core :=
  if n = 0 then c
  else
    let old := (nth c.hub.ce ch).filter fun (p : Nat × Nat) => decide (c.clock < p.1 + 1000000000)
    let before := old.foldl (fun (s : Nat) (p : Nat × Nat) => s + p.2) 0
    let c := c.addTo K.hubCeCount n
    let c := { c with hub := { c.hub with ce := upd c.hub.ce ch fun (_ : List (Nat × Nat)) => (c.clock, n) :: old } }
    let lim := c.get K.hubCeLimit
    if lim < before + n && decide (before ≤ lim) then c.raise (0x0810 + ch) 1 (satU 32 (before + n)) else c

/-- An uncorrectable burst counts and raises DRAM_UE (R266). -/
def Core.burstUe (c : Core) (burst master : Nat) : Core :=
  (c.bump K.hubUeCount).raise (0x0814 + dramChannel (burst * 64)) 1 (2 ^ 56 * master + burst * 64 % 2 ^ 48)

/-- The consequences of what the read of a burst found: counters, faults and capture (R265, R266). -/
def Core.burstFound (c : Core) (burst master typ : Nat) (r : BurstRead) : Core :=
  let a := burst * 64
  let c := c.countCe (dramChannel a) r.corrected
  if 12 ≤ r.parity then
    let c := (c.bump K.hubAddrErrors).raise (0x0818 + dramChannel a) 1 (2 ^ 56 * master + a % 2 ^ 48)
    let c := if r.badBeats = 0 then c else c.burstUe burst master
    c.hubCapture 2 a master typ (r.affected * 2 ^ 16 + r.affectedSyndrome)
  else if r.badBeats != 0 then
    (c.burstUe burst master).hubCapture 1 a master typ (r.affected * 2 ^ 16 + r.affectedSyndrome)
  else c

/-- The first burst at or behind b that lies on DRAM channel ch (R262). -/
def nextOn (ch b : Nat) : Nat :=
  if dramChannel (64 * b) = ch then b
  else match (List.range 8).find? fun (i : Nat) => dramChannel (4096 * (b / 64 + 1 + i)) = ch with
    | some i => 64 * (b / 64 + 1 + i)
    | none => b

/-- A requester's bursts [b0, b0 + n) are presented to the arbiters (R272). -/
def Core.hubAsk (c : Core) (master : Nat) (write : Bool) (b0 n : Nat) : Core :=
  let add := (List.range 4).filterMap fun (ch : Nat) =>
    let b := nextOn ch b0
    if b < b0 + n then some ({ arbiter := ch, master := master, write := write, next := b, stop := b0 + n,
                               since := c.hub.unit } : HubReq) else none
  { c with hub := { c.hub with waits := c.hub.waits ++ add } }

/-- Subchannels that the bursts [b0, b0 + n) lie in: all of them from 512 on. -/
def Core.subsOf (c : Core) (b0 n : Nat) : List Nat :=
  if 512 ≤ n then List.range 8 else ((List.range n).map fun (i : Nat) => c.subOf (64 * (b0 + i))).eraseDups

/-- Bursts are moved: they count for HUB.LOAD, a partial write with its merge read, and go to the arbiters (R267, R283). -/
def Core.hubMove (c : Core) (master : Nat) (write : Bool) (b0 n merges : Nat) : Core :=
  if n = 0 then c
  else
    let h := { c.hub with
      moved := (c.clock, 64 * (n + merges)) :: c.hub.moved.filter fun (p : Nat × Nat) => decide (c.clock < p.1 + 100000000) }
    { c with hub := h }.hubAsk master write b0 n

/-- A request of bursts reaches the subchannels they lie in, and wakes them (R278). -/
def Core.hubTouch (c : Core) (master : Nat) (write : Bool) (b0 n merges : Nat) : Core :=
  let subs := c.subsOf b0 n
  let h := { c.hub with
    lastReq := subs.foldl (fun (l : List Nat) (s : Nat) => l.set s c.clock) c.hub.lastReq,
    idleSr := subs.foldl (fun (l : List Bool) (s : Nat) => l.set s false) c.hub.idleSr }
  let c := { c with hub := h }
  let c := if c.get K.hubSrState = 1 && h.idleSr.all fun (b : Bool) => !b then c.set K.hubSrState 0 else c
  c.hubMove master write b0 n merges

/-- HUB.LOAD: data moved, in MB/s, mean over 100 ms; while PD_HUB is off the value last reported (R311). -/
def Core.hubLoadNow (c : Core) : Nat :=
  if c.bitOf K.devPdStatus 2 then
    let b := c.hub.moved.foldl (fun (a : Nat) (p : Nat × Nat) => if c.clock < p.1 + 100000000 then a + p.2 else a) 0
    (roundFree (b : Int) 100000).toNat
  else c.get K.hubLoad

/-- Requests wait: PD_HUB is on and the hub has not granted any since its training began (R260). -/
def Core.hubWaits (c : Core) : Bool := c.bitOf K.devPdStatus 2 && !c.hub.granted && !c.hub.retrain

/-- Bursts that a range of bytes touches: the first, and how many. -/
def burstsOf (a len : Nat) : Nat × Nat := if len = 0 then (a / 64, 0) else (a / 64, (a + len - 1) / 64 + 1 - a / 64)

/-- The bursts of a run that are refused, ascending. -/
def Core.refusedIn (c : Core) (b0 n : Nat) : List Nat :=
  if c.refuses b0 then (List.range n).map fun (i : Nat) => b0 + i
  else
    let cap := c.capBytes / 64
    if b0 + n ≤ cap then [] else (List.range (b0 + n - cap)).map fun (i : Nat) => cap + i

/-- The first of two optional bursts. -/
def firstBurst (a b : Option Nat) : Option Nat :=
  match a, b with
  | some x, some y => some (min x y)
  | some x, none => some x
  | none, o => o

/-- The read of a range by a requester: what the hub reports of it, and the first burst that comes back bad, if any
(R266, R280). -/
def Core.hubRead (c : Core) (master typ a len : Nat) : Option Nat × Core :=
  let (b0, n) := burstsOf a len
  let ref := c.refusedIn b0 n
  let c := c.hubTouch master false b0 (n - ref.length) 0
  let c := ref.foldl (fun (c : Core) (b : Nat) => c.refuse b master typ) c
  if c.refuses b0 && n != 0 then (some b0, c)
  else
    let hit := c.hub.flips.filter fun (p : Nat × List (Nat × Nat)) =>
      decide (b0 ≤ p.1) && decide (p.1 < b0 + n) && decide (p.1 * 64 < c.capBytes)
    let bad := (hit.find? fun (p : Nat × List (Nat × Nat)) => (burstRead p.2).bad).map fun (p : Nat × List (Nat × Nat)) => p.1
    let c := hit.foldl (fun (c : Core) (p : Nat × List (Nat × Nat)) => c.burstFound p.1 master typ (burstRead p.2)) c
    (firstBurst bad ref.head?, c)

/-- The first burst of a range that would be refused or come back bad now. -/
def Core.firstBad (c : Core) (a len : Nat) : Option Nat :=
  let (b0, n) := burstsOf a len
  let hit := c.hub.flips.find? fun (p : Nat × List (Nat × Nat)) =>
    decide (b0 ≤ p.1) && decide (p.1 < b0 + n) && (burstRead p.2).bad
  firstBurst (hit.map fun (p : Nat × List (Nat × Nat)) => p.1) (c.refusedIn b0 n).head?

/-- A read of a range by a requester that stops at the first burst that comes back bad or is refused (R112): no later burst is
requested. -/
def Core.hubReadStop (c : Core) (master a len : Nat) : Option Nat × Core :=
  match c.firstBad a len with
  | none => c.hubRead master 0 a len
  | some b => c.hubRead master 0 a (min len ((b + 1) * 64 - a))

/-- The bytes a read delivers: those stored, with the data bits that come out wrong unreported (a syndrome that points
at another bit) inverted. -/
def Core.readBytes (c : Core) (m : List Host.Cell) (a len : Nat) : List Byte :=
  let (b0, n) := burstsOf a len
  let hit := c.hub.flips.filter fun (p : Nat × List (Nat × Nat)) => decide (b0 ≤ p.1) && decide (p.1 < b0 + n)
  if hit.isEmpty then dramBytes m a len
  else (List.range len).map fun (i : Nat) =>
    let x := a + i
    let res := (burstRead (c.flipsOf (x / 64))).residue
    dramByte m x ^^^ BitVec.ofNat 8 (sget 0 res (x % 64 / 4) >>> (8 * (x % 4)))

/-- The data bits of beat j of a burst at byte lo that a write of bytes [a, a + len) leaves as they were. -/
def keptBits (lo a len j : Nat) : Nat :=
  (List.range 4).foldl (fun (s i : Nat) =>
    let x := lo + 4 * j + i
    if a ≤ x && decide (x < a + len) then s else s + 0xFF * 2 ^ (8 * i)) 0

/-- After a write of bytes [a, a + len) to a burst, its wrong beats (R267): a beat written whole is right again. In a partial
write the rest of each beat is written back as it was read. One found uncorrectable gets the complement of its check bits, so
that its syndrome is 0x7F; any other gets valid check bits, with whatever data the code let pass for right. -/
def flipsAfter (l : List (Nat × Nat)) (burst a len : Nat) : List (Nat × Nat) :=
  let lo := burst * 64
  if a ≤ lo && decide (lo + 64 ≤ a + len) then []
  else
    let r := burstRead l
    (List.range 16).filterMap fun (j : Nat) =>
      let kept := keptBits lo a len j
      let d := sget 0 l j
      if kept = 0 then none
      else if decide (12 ≤ r.parity) || secdedResult (syndromeOf d) = .uncorrectable then
        let x := d % 2 ^ 32 &&& kept
        some (j, x + (secdedCheck x ^^^ 0x7F) * 2 ^ 32)
      else
        let x := sget 0 r.residue j &&& kept
        if x = 0 then none else some (j, x + secdedCheck x * 2 ^ 32)

/-- The difference that an injection writes into a burst (R283). -/
def injected (v : Nat) : List (Nat × Nat) :=
  let b0 := 2 ^ (field v 7 0) ^^^ (if v.testBit 16 then 2 ^ (field v 15 8) else 0)
  if v.testBit 17 then (List.range 16).map fun (j : Nat) => (j, 2 ^ 39 ^^^ (if j = 0 then b0 else 0))
  else if b0 = 0 then [] else [(0, b0)]

/-- The first full burst of a write that falls on DRAM channel ch, if any. -/
def fullBurstOn (ch a len : Nat) : Option Nat :=
  let b0 := ceilDiv a 64
  let n := (a + len) / 64 - b0
  (List.range (min n 1024)).findSome? fun (i : Nat) => if dramChannel ((b0 + i) * 64) = ch then some (b0 + i) else none

/-- Injections that wait are applied to a write's full bursts (R283). -/
def Core.applyInject (c : Core) (a len : Nat) : Core :=
  (List.range 4).foldl (fun (c : Core) (ch : Nat) =>
    match nth c.hub.inject ch with
    | none => c
    | some v =>
      match fullBurstOn ch a len with
      | none => c
      | some b =>
        let c := { c with hub := { c.hub with inject := c.hub.inject.set ch none } }
        c.addFlips b (injected v)) c

/-- The wrong beats of every burst after a write of [a, a + len). -/
def flipsWritten (m : List (Nat × List (Nat × Nat))) (a len : Nat) : List (Nat × List (Nat × Nat)) :=
  let (b0, n) := burstsOf a len
  m.filterMap fun (p : Nat × List (Nat × Nat)) =>
    if decide (b0 ≤ p.1) && decide (p.1 < b0 + n) then
      let q := flipsAfter p.2 p.1 a len
      if q = [] then none else some (p.1, q)
    else some p

/-- The bursts of which a write of bytes [a, a + len) covers a part (R267). -/
def partialsOf (a len : Nat) : List Nat :=
  ((if a % 64 = 0 then [] else [a / 64]) ++ (if (a + len) % 64 = 0 then [] else [(a + len) / 64])).eraseDups

/-- The write of bytes by a requester: refused bursts are discarded, the others stored; partial bursts are merged
(R267, R270, R280). Answers the first refused burst, if any, the machine and DRAM. -/
def Core.hubWrite (c : Core) (m : List Host.Cell) (master a : Nat) (l : List Byte) :
    Option Nat × Core × List Host.Cell :=
  let len := l.length
  let (b0, n) := burstsOf a len
  let ref := c.refusedIn b0 n
  let c := c.hubTouch master true b0 (n - ref.length)
    ((partialsOf a len).filter fun (b : Nat) => decide (b < b0 + (n - ref.length))).length
  let c := ref.foldl (fun (c : Core) (b : Nat) => c.refuse b master 1) c
  if n = 0 then (none, c, m)
  else if c.refuses b0 then (some b0, c, m)
  else
    let fit := match ref with
      | [] => len
      | b :: _ => b * 64 - a
    let partials := (partialsOf a fit).filter fun (b : Nat) => (c.flipsOf b) != []
    let c := partials.foldl (fun (c : Core) (b : Nat) => c.burstFound b master 3 (burstRead (c.flipsOf b))) c
    let c := { c with hub := { c.hub with flips := flipsWritten c.hub.flips a fit } }
    (ref.head?, c.applyInject a fit, dramPut m a (l.take fit))

/-- A write by a requester that stops at the first refused burst (R112): no later burst is requested. -/
def Core.hubWriteStop (c : Core) (m : List Host.Cell) (master a : Nat) (l : List Byte) : Option Nat × Core × List Host.Cell :=
  let (b0, n) := burstsOf a l.length
  match (c.refusedIn b0 n).head? with
  | none => c.hubWrite m master a l
  | some b => c.hubWrite m master a (l.take ((b + 1) * 64 - a))

end Sys2Proof.Machine
end

