-- ==== Sys2Proof/Machine/FaultTable.lean ====
section
/-! DEFINITION. Sys2Proof/Machine/FaultTable.lean: the faults of the chapters' tables with their default and minimum
classes (R405, R408, R409), and what the collector knows of a fault. Classes are numbered as R407 numbers them: 1 NOTE,
2 DEGRADE, 3 HOLD, 4 STOP_CHANNEL, 5 STOP_DEVICE, 6 SAFE; 0 stands for no fault. -/

namespace Sys2Proof.Machine

/-- The default class of a fault of a channel, by the low byte of its source (R83, R115, R135, R172, R203, R234, R254), and
of kind 1. HEAD_HOT, HEAD_TEMP_STALE and BOARD_FAULT follow their owning objects; 7 marks them here. -/
def chDefault (low : Nat) : Nat :=
  if low = 0x00 then 1
  else if low = 0x10 || low = 0x20 || low = 0x40 then 3
  else if low = 0x21 || low = 0x30 || low = 0x41 then 2
  else if low = 0x60 || low = 0x70 || low = 0x80 || low = 0xA2 || low = 0xD1 || low = 0xF0 then 1
  else if low = 0x71 then 2
  else if low = 0x90 || low = 0x91 then 7
  else if low = 0xA0 || low = 0xA1 || low = 0xD0 || low = 0xD5 then 4
  else if 0xB0 ≤ low && low < 0xB4 then 3
  else if 0xB4 ≤ low && low < 0xC0 then 2
  else if 0xC0 ≤ low && low < 0xC4 then 7
  else if low = 0xD2 || low = 0xD6 then 3
  else if low = 0xD3 || low = 0xD4 then 2
  else 0

/-- Device faults of one source number each, with their default class. -/
def devDefaults : List (Nat × Nat) :=
  [(0x0200, 1), (0x0201, 1), (0x0230, 2), (0x0240, 2), (0x0250, 1), (0x0251, 1), (0x0252, 1), (0x0253, 5), (0x0260, 1),
   (0x0300, 1), (0x0301, 2), (0x0302, 2), (0x0303, 2), (0x0310, 1), (0x0400, 2), (0x0401, 6), (0x0402, 6), (0x0403, 2),
   (0x0404, 6), (0x0405, 5), (0x0407, 6), (0x0510, 1), (0x0511, 2), (0x0600, 1), (0x0601, 2), (0x0602, 1), (0x0740, 1),
   (0x0741, 1), (0x0742, 1), (0x0743, 1), (0x0744, 2), (0x0820, 5), (0x0821, 1), (0x0D00, 2), (0x0D01, 3), (0x0D02, 1),
   (0x0D03, 2), (0x0E00, 1), (0x0E01, 1), (0x0E02, 3), (0x0E03, 3), (0x0E04, 5)]

/-- Device faults whose source number counts units: first source, number of units, default class. -/
def devRanges : List (Nat × Nat × Nat) :=
  [(0x0220, 16, 1), (0x0520, 24, 5), (0x0540, 24, 2), (0x0560, 24, 2), (0x0810, 4, 1), (0x0814, 4, 2), (0x0818, 4, 5),
   (0x081C, 4, 2), (0x0900, 16, 1), (0x0910, 16, 2), (0x0A50, 2, 1), (0x0B30, 2, 1), (0x0B50, 4, 3), (0x0C40, 64, 2),
   (0x0C80, 64, 2), (0x0CC0, 64, 1)]

/-- Faults that share a source number, by kind (R58, R83). -/
def sharedDefault (src kind : Nat) : Nat :=
  if 0x0B10 ≤ src && src < 0x0B14 then ([1, 5, 1, 2].getD (kind - 1) 0)
  else if 0x0B20 ≤ src && src < 0x0B24 then ([1, 1, 2, 2, 5].getD (kind - 1) 0)
  else if 0x0B60 ≤ src && src < 0x0B70 then ([2, 2].getD (kind - 1) 0)
  else 0

/-- The default class of a fault, 7 for one that follows an owning object, 0 where no fault has this identity. -/
def faultDefault (src kind : Nat) : Nat :=
  if kind = 0 then 0
  else if 0x1000 ≤ src && src < 0x1800 then (if kind = 1 then chDefault (src % 256) else 0)
  else
    let s := sharedDefault src kind
    if s != 0 then s
    else if kind != 1 then 0
    else match devDefaults.find? fun (p : Nat × Nat) => p.1 = src with
      | some p => p.2
      | none => match devRanges.find? fun (p : Nat × Nat × Nat) => decide (p.1 ≤ src) && decide (src < p.1 + p.2.1) with
        | some p => p.2.2
        | none => 0

/-- The minimum class of a fault (R409). -/
def faultMin (src kind : Nat) : Nat :=
  let d := faultDefault src kind
  if d = 5 || d = 6 then d
  else if 0x1000 ≤ src && src < 0x1800 && src % 256 = 0x20 then 3
  else 1

/-- The channel of a fault; none for a device fault (R408). -/
def faultCh (src : Nat) : Option Nat := if 0x1000 ≤ src && src < 0x1800 then some ((src - 0x1000) / 256) else none

/-- The identity of a fault as one number (R405). -/
def faultId (src kind : Nat) : Nat := 256 * src + kind

/-- The class of HEAD_HOT and HEAD_TEMP_STALE under R131. -/
def Core.hotClass (c : Core) (n : Nat) : Nat :=
  let r := c.get (K.chTempReaction n)
  if r = 0 then 3 else if r = 1 then 2 else 4

/-- What the collector keeps of a fault. -/
def Core.faultOf (c : Core) (id : Nat) : FaultEntry := (c.faults.find? fun (f : FaultEntry) => f.id = id).getD { id := id }

/-- An entry put in its place. -/
def faultPut (x : FaultEntry) : List FaultEntry → List FaultEntry
  | [] => [x]
  | f :: r => if x.id < f.id then x :: f :: r else if f.id = x.id then x :: r else f :: faultPut x r

/-- What the collector keeps of a fault changed. -/
def Core.updFault (c : Core) (id : Nat) (f : FaultEntry → FaultEntry) : Core :=
  { c with faults := faultPut (f (c.faultOf id)) c.faults }

/-- The class a fault would have at a raise now with this payload (R131, R162, R409). -/
def Core.classOf (c : Core) (src kind payload : Nat) : Nat :=
  let d := faultDefault src kind
  if d = 7 then
    (if src % 256 < 0xC0 then c.hotClass ((src - 0x1000) / 256) else [1, 2, 3, 4].getD (field payload 47 46) 1)
  else
    let x := (c.faultOf (faultId src kind)).cls
    if x = 0 then d else x

/-- The class under which a fault is active now, 0 while it is not (R406). -/
def Core.activeNow (c : Core) (f : FaultEntry) : Nat :=
  match f.cycle with
  | none => f.active
  | some t => if t = c.sample then f.active else 0

/-- Whether a fault is active (R406). -/
def Core.faultActive (c : Core) (src kind : Nat) : Bool := c.activeNow (c.faultOf (faultId src kind)) != 0

/-- The highest class among active faults, FLT.HIGHEST (R406). -/
def Core.highest (c : Core) : Nat := c.faults.foldl (fun (a : Nat) (f : FaultEntry) => max a (c.activeNow f)) 0

/-- Whether a fault of at least this class is active on channel n or on the device (R227). -/
def Core.activeOn (c : Core) (n cls : Nat) : Bool :=
  c.faults.any fun (f : FaultEntry) =>
    decide (cls ≤ c.activeNow f) && (match faultCh (f.id / 256) with
      | some k => k = n
      | none => true)

/-- Whether an active fault of channel n has at least this class. -/
def Core.activeCh (c : Core) (n cls : Nat) : Bool :=
  c.faults.any fun (f : FaultEntry) => decide (cls ≤ c.activeNow f) && faultCh (f.id / 256) = some n

/-- Whether an active fault of at least this class is a device fault. -/
def Core.activeDev (c : Core) (cls : Nat) : Bool :=
  c.faults.any fun (f : FaultEntry) => decide (cls ≤ c.activeNow f) && (faultCh (f.id / 256)).isNone

/-- Whether a fault of this class holds a scope (R413): place 0 is the device, place n + 1 channel n. -/
def holdsScope (src cls place : Nat) : Bool :=
  decide (5 ≤ cls) || (cls = 4 && place != 0 && (match faultCh src with
    | some k => k + 1 = place
    | none => true))

/-- Whether a scope is held by an active fault. -/
def Core.scopeHeld (c : Core) (place : Nat) : Bool :=
  c.faults.any fun (f : FaultEntry) => holdsScope (f.id / 256) (c.activeNow f) place

end Sys2Proof.Machine
end

