-- ==== Sys2Proof/Machine/Hub.lean ====
section
/-! DEFINITION. Sys2Proof/Machine/Hub.lean: the memory hub's own events (R256 to R283): training and fill, reads that
come back, merges of partial writes, the scrubber, refresh and calibration, self-refresh, the switch of PD_HUB. What a
block reads and writes in DRAM is in Dram.lean. -/

namespace Sys2Proof.Machine

/-- A change of the hub's state. -/
def Core.updHub (c : Core) (f : Hub → Hub) : Core := { c with hub := f c.hub }

/-- PD_HUB is usable (R28). -/
def Core.hubOn (c : Core) : Bool := c.bitOf K.devPdStatus 2

/-- The configuration objects (R257). -/
def Core.hubPresent (c : Core) : Nat × Nat × Nat × Nat :=
  (c.get K.hubSpeed, c.get K.hubDevWidth, c.get K.hubDensity, c.get K.hubRanks)

/-- The configuration in force becomes that of the objects, and CAPACITY, PEAK_BW and PLAN_BW follow; the admission
budget never exceeds PLAN_BW (R257, R258). -/
def hubConfigure (c : Core) : Core :=
  let c := c.updHub fun (h : Hub) => { h with cfg := c.hubPresent }
  if c.planBw < c.get K.devAdmDramBudget then c.set K.devAdmDramBudget c.planBw else c

/-- Whether the training that is due resumes from self-refresh with the stored results (R279). -/
def Core.resumes (c : Core) : Bool := c.hub.kept && c.hub.stored.isSome

/-- DRAM_TRAINING: a training begins once PD_HUB is usable (R259). From cold it is a quick one when the stored results
are valid for the present configuration objects (R260); after a switch of PD_HUB it resumes from self-refresh (R279). -/
def dramTraining (c : Core) : Core :=
  if !(c.hubOn && c.hub.trainDue) then c
  else
    let resume := c.resumes
    let quick := resume || decide (c.hub.stored = some c.hubPresent)
    let c := if resume then c else hubConfigure c
    let c := c.updHub fun (h : Hub) => { h with trainDue := false, quick := quick, fillNext := !resume, granted := false }
    (c.set K.hubTrainState 1).set K.hubSrState 0

/-- DRAM_TRAIN_DONE: the training ends. A quick one that fails is followed by a full one at once (R260, R279); a full one
that fails stores nothing and raises DRAM_TRAIN_FAIL with the subchannel and step in `result` (R259). -/
def dramTrainDone (ok : Bool) (result : Nat) (c : Core) : Core :=
  if c.get K.hubTrainState != 1 then c
  else if ok then
    if c.hub.quick then
      let resume := !c.hub.fillNext
      (c.updHub fun (h : Hub) => { h with granted := resume, kept := false }).set K.hubTrainState 3
    else (c.updHub fun (h : Hub) => { h with stored := some h.cfg, kept := false }).set K.hubTrainState 2
  else if c.hub.quick then
    hubConfigure (c.updHub fun (h : Hub) => { h with quick := false, fillNext := true, kept := false })
  else
    ((c.updHub fun (h : Hub) => { h with stored := none, fillNext := false, kept := false }).set K.hubTrainState 4).raise
      0x0820 1 (result % 2 ^ 16)

/-- DRAM_FILL_DONE: every burst holds zero data with valid check and parity bits, and requests are granted (R260). -/
def dramFillDone (c : Core) (m : List Host.Cell) : Core × List Host.Cell :=
  if c.hub.fillNext && (c.get K.hubTrainState = 2 || c.get K.hubTrainState = 3) && c.hubOn then
    (c.updHub fun (h : Hub) => { h with fillNext := false, granted := true, flips := [] }, [])
  else (c, m)

/-- PD_HUB is about to go off: the queues drain, and an array that is trained and filled is put in self-refresh (R279). -/
def hubOff (c : Core) : Core :=
  ((c.updHub fun (h : Hub) => { h with
    kept := h.granted, granted := false, fillNext := false, trainDue := false, retrain := false,
    idleSr := List.replicate 8 false, postponed := List.replicate 8 0, waits := [],
    queues := h.queues.map fun (q : HubQueue) => { freeAt := q.freeAt : HubQueue } }).set K.hubLoad c.hubLoadNow).set
    K.hubSrState 2

/-- PD_HUB has come on: a training is due (R259, R279). -/
def hubStart (c : Core) : Core := c.updHub fun (h : Hub) => { h with trainDue := true }

/-- DRAM_RETRAIN ends (R261): the results are stored; a step that fails ends it as a failed training (R259). -/
def retrainEnd (ok : Bool) (detail : Nat) (c : Core) : Core :=
  let c := c.updHub fun (h : Hub) => { h with retrain := false }
  if ok then c.updHub fun (h : Hub) => { h with stored := some h.cfg }
  else ((c.updHub fun (h : Hub) => { h with stored := none, granted := false }).set K.hubTrainState 4).raise
    0x0820 1 (detail % 2 ^ 16)

/-- DRAM_READ_RETURN: a burst comes back, corrected or flagged bad (R264 to R266); `errs` are bits that have changed in
the array since the burst was written: beat and difference. -/
def dramReadReturn (master addr len : Nat) (errs : List (Nat × Nat)) (c : Core) : Core :=
  if c.hubWaits then c
  else
    let c := if c.refuses (addr / 64) then c else c.addFlips (addr / 64) errs
    (c.hubRead master 0 addr len).2

/-- PARTIAL_WRITE_MERGE: a write of part of a burst reads it, merges and writes it (R267). -/
def partialWriteMerge (master addr : Nat) (errs : List (Nat × Nat)) (data : List Byte) (c : Core) (m : List Host.Cell) :
    Core × List Host.Cell :=
  if c.hubWaits || data.isEmpty || decide (64 ≤ data.length) ||
      decide (64 < addr % 64 + data.length) then (c, m)
  else
    let c := if c.refuses (addr / 64) then c else c.addFlips (addr / 64) errs
    (c.hubWrite m master addr data).2

/-- The scrubber's next burst (R268). -/
def scrubNext (c : Core) : Core :=
  let b := c.hub.scrub + 1
  if c.capBytes ≤ 64 * b then (c.updHub fun (h : Hub) => { h with scrub := 0 }).bump K.hubScrubPasses
  else c.updHub fun (h : Hub) => { h with scrub := b }

/-- A burst written back as its corrected read gave it: every beat has valid check bits again. -/
def scrubBack (r : BurstRead) : List (Nat × Nat) :=
  r.residue.map fun (p : Nat × Nat) => (p.1, p.2 + secdedCheck p.2 * 2 ^ 32)

/-- The time between two scrub reads, in ns: 64 bytes at HUB.SCRUB_RATE (R268). -/
def Core.scrubNs (c : Core) : Nat := ceilDiv 64000 (max 1 (c.get K.hubScrubRate))

/-- SCRUB_READ: the scrubber reads the next burst when that is due, writes back corrected data, and reports what it cannot
correct (R268). It rests while the subchannel is in self-refresh, and does not keep a subchannel out of it (log 93). -/
def scrubRead (errs : List (Nat × Nat)) (c : Core) : Core :=
  let b := c.hub.scrub
  if !c.hubOn || c.hubWaits || nth c.hub.idleSr (c.subOf (64 * b)) || decide (c.clock < c.hub.scrubAt + c.scrubNs) then c
  else
    let c := c.updHub fun (h : Hub) => { h with scrubAt := c.clock }
    if c.refuses b then scrubNext (c.refuse b 0x3B 2)
    else
      let c := (c.addFlips b errs).hubMove 0x3B false b 1 0
      let r := burstRead (c.flipsOf b)
      let c := c.burstFound b 0x3B 2 r
      scrubNext (if r.bad || r.corrected = 0 then c else (c.setFlips b (scrubBack r)).hubMove 0x3B true b 1 0)

/-- The refresh interval of a subchannel in ns: tREFI of the mode, halved above 85 °C (R275). -/
def Core.refreshNs (c : Core) (s : Nat) : Nat :=
  (if c.get K.hubRefreshMode = 0 then 3900 else 1950) / (if c.bitOf K.hubHotMap s then 2 else 1)

/-- A request of a requester panics (R274). -/
def Core.masterPanics (c : Core) (m : Nat) : Bool :=
  let p := nth c.hub.panics (m / 4)
  decide (m < 32) && (if m % 4 = 0 then p.1 else m % 4 != 3 && p.2)

/-- The head of a queue of subchannel s is a panicking request (R275). -/
def Core.headPanics (c : Core) (s : Nat) : Bool :=
  let q := nth c.hub.queues s
  [q.reads.head?, q.writes.head?].any fun (e : Option HubEntry) =>
    match e with
    | some e => c.masterPanics e.master
    | none => false

/-- A refresh closes the rows of a subchannel, and takes RAAIMT off the rolling counts of refresh management (log 92). -/
def HubQueue.refreshed (q : HubQueue) : HubQueue :=
  { q with banks := q.banks.map fun (p : Nat × HubBank) =>
      (p.1, { p.2 with row := none, rolling := p.2.rolling - Config.raaimt.getD 0 }) }

/-- The refreshes that subchannel s has to make are issued (R275). -/
def refreshIssue (s : Nat) (c : Core) : Core :=
  c.updHub fun (h : Hub) => { h with postponed := h.postponed.set s 0, queues := upd h.queues s HubQueue.refreshed }

/-- REFRESH_DUE: a refresh falls due; while the head of a queue panics up to four are postponed, and they are issued with the
fifth, or as soon as the panic clears (R275). The command says whether a head panics; one that says otherwise than the queues
do does not come (log 91). -/
def refreshDue (ch sub : Nat) (panic : Bool) (c : Core) : Core :=
  let s := 2 * ch + sub
  if !(c.hubOn && c.hub.granted) || panic != c.headPanics s || nth c.hub.idleSr s || c.clock < nth c.hub.refreshAt s + c.refreshNs s then c
  else
    let c := c.updHub fun (h : Hub) => { h with refreshAt := h.refreshAt.set s c.clock }
    if panic && decide (nth c.hub.postponed s < 4) then
      c.updHub fun (h : Hub) => { h with postponed := h.postponed.set s (nth h.postponed s + 1) }
    else refreshIssue s c

/-- DRAM_TEMP_POLL: MR4 is read every 16 ms; above 85 °C the refresh rate doubles, HOT_MAP shows it and DRAM_HOT is
raised (R275). -/
def dramTempPoll (ch sub : Nat) (hot : Bool) (c : Core) : Core :=
  let s := 2 * ch + sub
  if !(c.hubOn && c.hub.granted) || c.clock < nth c.hub.tempAt s + 16000000 then c
  else
    let was := c.bitOf K.hubHotMap s
    let c := c.updHub fun (h : Hub) => { h with tempAt := h.tempAt.set s c.clock }
    let c := c.setBitOf K.hubHotMap s hot
    if hot && !was then c.raiseHeld (0x081C + ch) 1 s
    else if was && !hot && !c.bitOf K.hubHotMap (2 * ch) && !c.bitOf K.hubHotMap (2 * ch + 1) then c.endFault (0x081C + ch) 1
    else c

/-- Ranks of the configuration in force. -/
def Core.rankCount (c : Core) : Nat := c.hub.cfg.2.2.2

/-- ZQ_CAL: ZQ calibration of every rank of a DRAM channel, every 128 ms (R276). -/
def zqCal (ch : Nat) (c : Core) : Core :=
  if !(c.hubOn && c.hub.granted) then c
  else
    c.updHub fun (h : Hub) => { h with zqAt := (List.range (min 2 c.rankCount)).foldl (fun (l : List Nat) (r : Nat) =>
      if c.clock < nth l (2 * ch + r) + 128000000 then l else l.set (2 * ch + r) c.clock) h.zqAt }

/-- The rank of subchannel s whose oscillator is due to be read, the lower one first (R276). -/
def Core.oscDue (c : Core) (s : Nat) : Option Nat :=
  (List.range (min 2 c.rankCount)).find? fun (r : Nat) =>
    decide (nth c.hub.oscAt (2 * s + r) + c.get K.hubOscPeriod * 1000000 ≤ c.clock)

/-- DQS_OSC_READ: every OSC_PERIOD the interval oscillator of a rank is read, and a drift above 1/64 unit interval moves that
rank's write timing (R276). The drift is a signed number of 1/1,024 unit interval. -/
def dqsOscRead (ch sub drift : Nat) (c : Core) : Core :=
  let s := 2 * ch + sub
  if !(c.hubOn && c.hub.granted) then c
  else match c.oscDue s with
    | none => c
    | some r =>
      let d := signed 16 drift
      c.updHub fun (h : Hub) => { h with
        oscAt := h.oscAt.set (2 * s + r) c.clock,
        moves := if 16 < d.natAbs then h.moves.set (2 * s + r) (nth h.moves (2 * s + r) + d) else h.moves }

/-- SR_ENTRY: after SR_IDLE without a request a subchannel enters self-refresh (R278). -/
def srEntry (ch sub : Nat) (c : Core) : Core :=
  let s := 2 * ch + sub
  let idle := c.get K.hubSrIdle
  let quiet := (List.range 8).all fun (n : Nat) => c.get (K.chState n) = 0
  if c.hubOn && c.hub.granted && idle != 0 && (c.get K.devState = 2 || c.get K.devState = 3) && quiet &&
      !nth c.hub.idleSr s && decide (nth c.hub.lastReq s + idle * 1000 ≤ c.clock) then
    (c.updHub fun (h : Hub) => { h with idleSr := h.idleSr.set s true }).set K.hubSrState 1
  else c

/-- SR_EXIT: a request wakes a subchannel, and is granted (R278). -/
def srExit (ch sub : Nat) (c : Core) : Core :=
  let s := 2 * ch + sub
  if !(c.hubOn && c.hub.granted && nth c.hub.idleSr s) then c
  else
    let c := c.updHub fun (h : Hub) => { h with idleSr := h.idleSr.set s false, lastReq := h.lastReq.set s c.clock }
    if c.hub.idleSr.all fun (b : Bool) => !b then c.set K.hubSrState 0 else c

/-- HUB_INJECT: the next full-burst write of the named DRAM channel is altered (R283). -/
def hubInject (v : Nat) (c : Core) : Core :=
  c.updHub fun (h : Hub) => { h with inject := h.inject.set (field v 19 18) (some v) }

end Sys2Proof.Machine
end

