-- ==== Sys2Proof/Machine/Dma.lean ====
section
/-! DEFINITION. Sys2Proof/Machine/Dma.lean: the DMA engine (R297 to R309). Bytes that come from host memory are operands of
the commands; a descriptor, an index or data in DRAM is read through the memory hub. -/

namespace Sys2Proof.Machine

/-- A DMA channel changed. -/
def Core.updDma (c : Core) (k : Nat) (f : Dma → Dma) : Core := { c with dmas := upd c.dmas k f }

/-- The SPACE bit of an address: true for DRAM (R297). -/
def dmaSpace (a : Nat) : Bool := a.testBit 1

/-- The address proper of a descriptor. -/
def dmaAddr (a : Nat) : Nat := a / 64 * 64

/-- Whether the intake owns DMA channel k (R307). -/
def Core.dmaOwned (c : Core) (k : Nat) : Bool :=
  (List.range 8).any fun (n : Nat) => c.get (K.chState n) != 0 && c.get (K.chIntakeDma n) = k

/-- Fill level of the internal chain of DMA channel k: the descriptors it holds, at most four (R25, R304). -/
def Core.dmaFill (c : Core) (k : Nat) : Nat := (nth c.dmas k).chain.length

/-! ### Descriptors -/

/-- Fields of a descriptor (R299). -/
def dType (d : List Byte) : Nat := leAt d 0 1
def dFlags (d : List Byte) : Nat := leAt d 1 1
def dElem (d : List Byte) : Nat := leAt d 2 1
def dTag (d : List Byte) : Nat := leAt d 4 4
def dSrc (d : List Byte) : Nat := leAt d 8 8
def dDst (d : List Byte) : Nat := leAt d 16 8
def dCount (d : List Byte) : Nat := leAt d 24 4
def dRows (d : List Byte) : Nat := leAt d 28 4
def dSrcStride (d : List Byte) : Nat := leAt d 32 4
def dDstStride (d : List Byte) : Nat := leAt d 36 4
def dIdx (d : List Byte) : Nat := leAt d 40 8
def dLink (d : List Byte) : Nat := leAt d 56 8
def dHalf (d : List Byte) : Bool := (dFlags d).testBit 0
def dFull (d : List Byte) : Bool := (dFlags d).testBit 1
def dSrcDram (d : List Byte) : Bool := (dFlags d).testBit 2
def dDstDram (d : List Byte) : Bool := (dFlags d).testBit 3
def dIdxDram (d : List Byte) : Bool := (dFlags d).testBit 4
def dEnd (d : List Byte) : Bool := (dLink d).testBit 0

/-- Whether the type uses an index table. -/
def dIndexed (d : List Byte) : Bool := dType d = 3 || dType d = 4

/-- A descriptor that is not executed (R301). -/
def dBad (d : List Byte) : Bool :=
  let t := dType d
  t = 0 || decide (4 < t) || field (dFlags d) 7 5 != 0 || leAt d 3 1 != 0 || leAt d 48 8 != 0 ||
    field (dLink d) 5 2 != 0 || dCount d = 0 ||
    (if dIndexed d then dElem d = 0 || decide (64 < dElem d) else dElem d != 0) ||
    (if t = 2 then dRows d = 0 || decide (16777216 < dRows d)
      else dRows d != 0 || dSrcStride d != 0 || dDstStride d != 0) ||
    (!dSrcDram d && !dDstDram d)

/-- Bytes of one unit of the procedure of R300: all of a linear copy, a row, an element; and how many units there are. -/
def dUnit (d : List Byte) : Nat := if dIndexed d then dElem d else dCount d
def dUnits (d : List Byte) : Nat := if dType d = 2 then dRows d else if dIndexed d then dCount d else 1

/-- Destination bytes of the whole descriptor, and of its part below the half point (R302). -/
def dTotal (d : List Byte) : Nat := dUnit d * dUnits d
def dHalfBytes (d : List Byte) : Nat :=
  if dType d = 1 then dCount d / 2 else if dType d = 2 then dRows d / 2 * dCount d else dCount d / 2 * dElem d

/-- Source and destination address of unit u, given its index entry (R300). -/
def dUnitSrc (d : List Byte) (u idx : Nat) : Nat :=
  if dType d = 2 then dSrc d + u * dSrcStride d else if dType d = 3 then dSrc d + idx
  else if dType d = 4 then dSrc d + u * dElem d else dSrc d
def dUnitDst (d : List Byte) (u idx : Nat) : Nat :=
  if dType d = 2 then dDst d + u * dDstStride d else if dType d = 3 then dDst d + u * dElem d
  else if dType d = 4 then dDst d + idx else dDst d

/-- The stretches (unit, offset in it, length) that destination bytes lo to hi - 1 take, in order. -/
def dStretches (d : List Byte) (lo hi : Nat) : List (Nat × Nat × Nat) :=
  let w := max 1 (dUnit d)
  if hi ≤ lo then []
  else (List.range ((hi - 1) / w - lo / w + 1)).map fun (i : Nat) =>
    let u := lo / w + i
    let a := max lo (u * w)
    let b := min hi ((u + 1) * w)
    (u, a - u * w, b - a)

/-! ### Host requests (R308) -/

/-- The requests that len bytes from a take, none larger than size and none over a multiple of 4 KiB; fuel bounds their
number. -/
def hostParts (size : Nat) : Nat → Nat → Nat → List (Nat × Nat)
  | 0, _, _ => []
  | fuel + 1, a, len =>
    if len = 0 then []
    else
      let n := min len (min (max 1 size) (4096 - a % 4096))
      (a, n) :: hostParts size fuel (a + n) (len - n)

/-- Host reads that DMA channel k makes, each of up to Max_Read_Request_Size. -/
def hostReads (k a len : Nat) (c : Core) : Core :=
  (hostParts (128 * 2 ^ c.pcieCfg.readReq) len a len).foldl
    (fun (c : Core) (p : Nat × Nat) => c.emit (.hostRead (64 + k) p.1 p.2)) c

/-- Posted writes to the host, split into TLPs of up to Max_Payload_Size, which is at most 512 (R284). -/
def hostWrites (a : Nat) (l : List Byte) (c : Core) : Core :=
  (hostParts (128 * 2 ^ min 2 c.pcieCfg.payload) l.length a l.length).foldl
    (fun (c : Core) (p : Nat × Nat) => c.emit (.hostWrite p.1 (slice l (p.1 - a) p.2))) c

/-! ### Records and halts -/

/-- A DMA record (R303), in ring 56 or 57. -/
def dmaRecord (k code kind tag : Nat) (c : Core) : Core :=
  c.recordDev (if k < 8 then 56 else 57) (0x0900 + k) code (2 ^ 56 * k + 2 ^ 48 * kind + tag % 2 ^ 32)

/-- A record that also signals DMA_VEC at once (R303). -/
def dmaRecordVec (k code kind tag : Nat) (c : Core) : Core :=
  (dmaRecord k code kind tag c).signal (nth c.dmas k).vec

/-- The channel halts (R306): capture, HALTED record, DMA_HALT, and DMA_LOOP for kind 8 (R305). -/
def dmaHalt (k kind typ addr time tag cur : Nat) (c : Core) : Core :=
  let d := nth c.dmas k
  let c := c.updDma k fun (x : Dma) =>
    { x with state := 4, kick := false, chain := [], next := none, reread := none, moved := 0, idxs := [], asked := 0, reads := [], halfDone := false, cur := cur }
  let c := if d.captured then c else c.updDma k fun (x : Dma) =>
    { x with captured := true, errAddr := addr, errInfo := 2 ^ 24 * kind + 2 ^ 16 * typ + 0x20 + k, errTime := time }
  let c := dmaRecordVec k 3 kind tag (c.bump K.dmaHalts)
  let c := c.raise (0x0900 + k) 1 (2 ^ 56 * kind + 2 ^ 48 * typ + addr % 2 ^ 48)
  if kind = 8 then (c.bump K.dmaLoops).raise (0x0910 + k) 1 d.hops else c

/-- The descriptor at the front takes effect with an error of its fetch or format, if it has one (R306). -/
def dmaFront (k : Nat) (c : Core) : Core :=
  match (nth c.dmas k).chain with
  | x :: _ =>
    if x.err = 0 then c.updDma k fun (d : Dma) => { d with cur := x.addr }
    else dmaHalt k x.err x.errType x.errAddr x.errTime (if x.err = 7 then dTag x.bytes else 0) x.addr c
  | [] => c

/-- The next descriptor to fetch is known (R304 rule 2); beyond the hop limit the fetch is not made (R305). -/
def dmaFetchNext (k addr : Nat) (c : Core) : Core :=
  let d := nth c.dmas k
  let a := addr / 64 * 64 + 2 * b2n (dmaSpace addr)
  if d.hopLimit ≤ d.hops then
    let e : DmaDesc := { addr := a, bytes := [], err := 8, errType := 0, errAddr := dmaAddr a, errTime := c.now }
    let c := c.updDma k fun (x : Dma) => { x with chain := x.chain ++ [e], next := none }
    if d.chain = [] then dmaFront k c else c
  else
    let c := c.updDma k fun (x : Dma) => { x with next := some a }
    if dmaSpace a then c else c.emit (.hostRead (64 + k) (dmaAddr a) 64)

/-! ### Register writes -/

/-- A write that is not accepted is counted (R298). -/
def dmaBadWrite (c : Core) : Core := c.bump K.dmaBadWrites

/-- START without the ownership check. -/
def dmaBegin (k : Nat) (c : Core) : Core :=
  let c := c.updDma k fun (x : Dma) =>
    { x with hops := 0, bytes := 0, kick := false, state := 1, chain := [], next := none, reread := none, moved := 0,
             idxs := [], asked := 0, reads := [], halfDone := false, intake := none }
  dmaFetchNext k (nth c.dmas k).head c

/-- DMA_START (R298). -/
def dmaStart (k : Nat) (c : Core) : Core :=
  let s := (nth c.dmas k).state
  if c.dmaOwned k || !(s = 0 || s = 2) then dmaBadWrite c else dmaBegin k c

/-- DMA_STOP (R298). -/
def dmaStop (k : Nat) (c : Core) : Core :=
  let s := (nth c.dmas k).state
  if c.dmaOwned k || !(s = 1 || s = 2) then dmaBadWrite c
  else c.updDma k fun (x : Dma) => { x with state := 3, next := none, reread := none }

/-- DMA_RESET (R298). -/
def dmaReset (k : Nat) (c : Core) : Core :=
  let s := (nth c.dmas k).state
  if c.dmaOwned k || !(s = 0 || s = 4) then dmaBadWrite c
  else c.updDma k fun (x : Dma) =>
    { x with state := 0, kick := false, captured := false }

/-- A write of DMA_CTRL, judged as a whole (R298). -/
def dmaCtrl (k v : Nat) (c : Core) : Core :=
  if v % 8 = 1 then dmaStart k c else if v % 8 = 2 then dmaStop k c else if v % 8 = 4 then dmaReset k c
  else if v % 8 = 0 then c else dmaBadWrite c

/-- DMA_HEAD_WRITE (R298). -/
def dmaHeadWrite (k v : Nat) (c : Core) : Core :=
  let s := (nth c.dmas k).state
  if c.dmaOwned k || !(s = 0 || s = 2 || s = 4) then dmaBadWrite c
  else c.updDma k fun (x : Dma) => { x with head := v % 2 ^ 64 }

/-- A write of DMA_HOP_LIMIT (R297, R298). -/
def dmaHopLimit (k v : Nat) (c : Core) : Core :=
  if c.dmaOwned k || v = 0 then dmaBadWrite c else c.updDma k fun (x : Dma) => { x with hopLimit := v % 2 ^ 32 }

/-- A write of DMA_VEC (R296, R298). -/
def dmaVec (k v : Nat) (c : Core) : Core :=
  let v := v % 256
  if c.dmaOwned k || (decide (128 ≤ v) && decide (v ≤ 254)) then dmaBadWrite c
  else c.updDma k fun (x : Dma) => { x with vec := v }

/-- The LINK word of the tail is read once more (R304). -/
def dmaReread (k : Nat) (fromKick : Bool) (c : Core) : Core :=
  let cur := (nth c.dmas k).cur
  let c := c.updDma k fun (x : Dma) => { x with kick := false, state := 1, reread := some (cur, fromKick) }
  if dmaSpace cur then c else c.emit (.hostRead (64 + k) (dmaAddr cur + 56) 8)

/-- DMA_KICK (R298, R304). -/
def dmaKick (k : Nat) (c : Core) : Core :=
  let s := (nth c.dmas k).state
  if c.dmaOwned k || s = 0 || s = 4 then dmaBadWrite c
  else if s = 2 then dmaReread k true c
  else c.updDma k fun (x : Dma) => { x with kick := true }

/-! ### The chain -/

/-- The bytes of a descriptor or LINK word in DRAM, or the kind of error its read meets (R306). -/
def dmaDramRead (mem : List Host.Cell) (k a len : Nat) (c : Core) : List Byte × Nat × Core :=
  let ref := c.refuses (a / 64)
  let (bad, c) := c.hubRead (0x20 + k) 0 a len
  match bad with
  | none => (c.readBytes mem a len, 0, c)
  | some _ => ([], if ref then 5 else 6, c)

/-- DMA_DESC_FETCHED: the outstanding descriptor fetch completes (R304); err is the kind 1 to 4 of a failed host read. -/
def dmaDescFetched (mem : List Host.Cell) (k : Nat) (desc : List Byte) (err : Nat) (c : Core) : Core :=
  let d := nth c.dmas k
  match d.next with
  | none => c
  | some a =>
    if d.state != 1 || decide (4 ≤ d.chain.length) || (dmaSpace a && c.hubWaits) then c
    else
      let (bytes, kind, c) := if dmaSpace a then dmaDramRead mem k (dmaAddr a) 64 c
        else (padTo 64 desc, if err = 0 then 0 else min err 4, c)
      let kind' := if kind = 0 && dBad bytes then 7 else kind
      let e : DmaDesc := { addr := a, bytes := bytes, err := kind', errType := 0, errAddr := dmaAddr a, errTime := c.now }
      let c := c.updDma k fun (x : Dma) => { x with hops := x.hops + 1, chain := x.chain ++ [e], next := none }
      let c := if kind' = 0 && !dEnd bytes then dmaFetchNext k (dLink bytes) c else c
      if d.chain = [] then dmaFront k c else c

/-- The channel enters AT_END (R304), with a record unless a kick in AT_END led here (R303). -/
def dmaAtEnd (k : Nat) (quiet : Bool) (c : Core) : Core :=
  let c := c.updDma k fun (x : Dma) => { x with state := 2, reread := none }
  if quiet then c else dmaRecord k 4 0 (nth c.dmas k).tag c

/-- DMA_LINK_REREAD: the re-read completes (R304). -/
def dmaLinkReread (mem : List Host.Cell) (k link err : Nat) (c : Core) : Core :=
  let d := nth c.dmas k
  match d.reread with
  | none => c
  | some (a, fromKick) =>
    if d.state != 1 || (dmaSpace a && c.hubWaits) then c
    else
      let (bytes, kind, c) := if dmaSpace a then dmaDramRead mem k (dmaAddr a + 56) 8 c
        else (bytesLE 8 link, if err = 0 then 0 else min err 4, c)
      let link := natLE bytes
      if kind != 0 then dmaHalt k kind 1 (dmaAddr a + 56) c.now d.tag a c
      else if link.testBit 0 then dmaAtEnd k fromKick c
      else dmaFetchNext k link (c.updDma k fun (x : Dma) => { x with reread := none })

/-- The front descriptor has completed: the chain goes on, or ends (R304). -/
def dmaAdvance (k : Nat) (c : Core) : Core :=
  let d := nth c.dmas k
  match d.chain with
  | [] => c
  | x :: rest =>
    let c := c.updDma k fun (y : Dma) =>
      { y with chain := rest, moved := 0, idxs := [], asked := 0, reads := [], halfDone := false, cur := x.addr, tag := dTag x.bytes }
    if dEnd x.bytes then (if d.kick then dmaReread k false c else dmaAtEnd k false c)
    else dmaFront k c

/-! ### Moving data -/

/-- n free bytes (log 4). -/
def freeBytes : Nat → Core → List Byte × Core
  | 0, c => ([], c)
  | n + 1, c =>
    let (v, c) := c.freeVal 8
    let (l, c) := freeBytes n c
    (BitVec.ofNat 8 v :: l, c)

/-- How the move of some destination bytes ended: an error (kind, access type, address) or none; host bytes left. -/
structure Moved where
  err : Option (Nat × Nat × Nat)
  core : Core
  mem : List Host.Cell
  host : List Byte

/-- n more destination bytes of the descriptor in progress are written. -/
def Dma.movedOn (n : Nat) (x : Dma) : Dma :=
  { x with bytes := x.bytes + n, moved := x.moved + n,
           reads := x.reads.filter fun (e : Nat) => decide (x.moved + n < e) }

/-- What of the next len bytes of the descriptor in progress, which lie from src on, has not been requested from the host is
requested. -/
def dmaAskRest (k src len : Nat) (c : Core) : Core :=
  let d := nth c.dmas k
  let have_ := min len (d.asked - d.moved)
  (hostReads k (src + have_) (len - have_) c).updDma k fun (x : Dma) => { x with asked := max x.asked (x.moved + len) }

/-- Host read requests of channel k that are outstanding (R308). -/
def Core.dmaOpenReads (c : Core) (k : Nat) : Nat :=
  let d := nth c.dmas k
  d.reads.length + b2n (match d.next with
    | some a => !dmaSpace a
    | none => false) + b2n (match d.reread with
    | some (a, _) => !dmaSpace a
    | none => false)

/-- The next data request of channel k, when its descriptor in progress reads host data at addresses that need no index table:
where, how many bytes. -/
def Core.dmaNextRead (c : Core) (k : Nat) : Option (Nat × Nat) :=
  let d := nth c.dmas k
  match d.chain with
  | [] => none
  | x :: _ =>
    if d.state != 1 || x.err != 0 || dSrcDram x.bytes || dType x.bytes = 3 || decide (dTotal x.bytes ≤ d.asked) ||
        decide (256 ≤ c.dmaOpenReads k) then none
    else
      let w := max 1 (dUnit x.bytes)
      let src := dUnitSrc x.bytes (d.asked / w) 0 + d.asked % w
      if 2 ^ 64 ≤ src then none
      else (hostParts (128 * 2 ^ c.pcieCfg.readReq) 1 src (w - d.asked % w)).head?

/-- The turn of the DMA channels in a cycle (R308): the next one in round-robin order that has host data to request makes one
request, while fewer than 512 are outstanding (log 97). -/
def dmaTurn (c : Core) : Core :=
  if 512 ≤ (List.range 16).foldl (fun (a k : Nat) => a + c.dmaOpenReads k) 0 then c
  else
    match ((List.range 16).map fun (i : Nat) => (c.dmaLast + 1 + i) % 16).findSome? fun (k : Nat) =>
        (c.dmaNextRead k).map fun (r : Nat × Nat) => (k, r) with
    | none => c
    | some (k, a, n) =>
      ({ c with dmaLast := k }.updDma k fun (x : Dma) =>
        { x with asked := x.asked + n, reads := x.reads ++ [x.asked + n] }).emit (.hostRead (64 + k) a n)

/-- One stretch of len bytes from src to dst (R306). Data up to a bad or refused burst of the source is good; of it the
channel writes the whole bursts of the destination, not the one for which it met the bad data. -/
def dmaStretch (k : Nat) (d : List Byte) (src dst len : Nat) (s : Moved) : Moved :=
  let c := s.core
  if (!dSrcDram d && decide (2 ^ 64 < src + len)) then { s with err := some (5, 3, src) }
  else if (!dDstDram d && decide (2 ^ 64 < dst + len)) then { s with err := some (5, 4, dst) }
  else
    let (bytes, err, c, host) :=
      if dSrcDram d then
        let ref := c.refusedIn (burstsOf src len).1 (burstsOf src len).2
        let (bad, c) := c.hubReadStop (0x20 + k) src len
        match bad with
        | none => (c.readBytes s.mem src len, none, c, s.host)
        | some b => (c.readBytes s.mem src ((dst + (b * 64 - src)) / 64 * 64 - dst),
            some ((if ref.contains b then 5 else 6), 3, b * 64), c, s.host)
      else (padTo len s.host, none, dmaAskRest k src len c, s.host.drop len)
    let count := fun (c : Core) (n : Nat) => (c.updDma k (Dma.movedOn n)).addTo K.dmaBytes n
    if dDstDram d then
      let (bad, c, mem) := c.hubWriteStop s.mem (0x20 + k) dst bytes
      match bad with
      | none => { err := err, core := count c bytes.length, mem := mem, host := host }
      | some b => { err := some (5, 4, b * 64), core := count c (b * 64 - dst), mem := mem, host := host }
    else { err := err, core := count (hostWrites dst bytes c) bytes.length, mem := s.mem, host := host }

/-- The stretches of a descriptor, in order, until the first error. idx holds the index entries from unit u0 on. -/
def dmaStretches (k : Nat) (d : List Byte) (u0 : Nat) (idx : List Nat) : List (Nat × Nat × Nat) → Moved → Moved
  | [], s => s
  | (u, off, len) :: r, s =>
    match s.err with
    | some _ => s
    | none =>
      let i := idx.getD (u - u0) 0
      dmaStretches k d u0 idx r (dmaStretch k d (dUnitSrc d u i + off) (dUnitDst d u i + off) len s)

/-- The 32-bit entries that bytes spell. -/
def entries32 : List Byte → List Nat
  | a :: b :: c :: d :: r => natLE [a, b, c, d] :: entries32 r
  | _ => []

/-- Whether address a lies in one of the stretches, on the source or destination side. -/
def inStretches (l : List (Nat × Nat)) (a : Nat) : Bool :=
  l.any fun (p : Nat × Nat) => decide (p.1 ≤ a) && decide (a < p.1 + p.2)

/-- Destination bytes in DRAM take free values: the ones given by start and length. -/
def freeRanges : List (Nat × Nat) → Core → List Host.Cell → Core × List Host.Cell
  | [], c, m => (c, m)
  | (a, n) :: r, c, m =>
    let (l, c) := freeBytes n c
    freeRanges r c (dramPut m a l)

/-- Destination bytes that are also source bytes of the descriptor have no stated value: they take free values (R300). -/
def dmaOverlap (d : List Byte) (src dst : List (Nat × Nat)) (c : Core) (m : List Host.Cell) : Core × List Host.Cell :=
  if dSrcDram d && dDstDram d then
    let hit := dst.flatMap fun (p : Nat × Nat) =>
      if src.any fun (q : Nat × Nat) => decide (q.1 < p.1 + p.2) && decide (p.1 < q.1 + q.2) then
        ((List.range p.2).map fun (i : Nat) => p.1 + i).filter fun (a : Nat) => inStretches src a
      else []
    freeRanges (hit.map fun (a : Nat) => (a, 1)) c m
  else (c, m)

/-- The index entries of units u0 to u0 + n - 1 of a descriptor, or the error that their read meets (R300, R306); host holds the
bytes that come from host memory. What is left of host is answered too. -/
def dmaIndex (k : Nat) (d : List Byte) (u0 n : Nat) (host : List Byte) (c : Core) (m : List Host.Cell) :
    List Nat × Option (Nat × Nat × Nat) × Core × List Byte :=
  let ia := dIdx d + 4 * u0
  if !dIndexed d || n = 0 then ([], none, c, host)
  else if dIdxDram d then
    let ref := c.refusedIn (burstsOf ia (4 * n)).1 (burstsOf ia (4 * n)).2
    let (bad, c) := c.hubReadStop (0x20 + k) ia (4 * n)
    match bad with
    | none => (entries32 (c.readBytes m ia (4 * n)), none, c, host)
    | some b => ([], some ((if ref.contains b then 5 else 6), 2, b * 64), c, host)
  else if 2 ^ 64 < ia + 4 * n then ([], some (5, 2, ia), c, host)
  else (entries32 (host.take (4 * n)), none, hostReads k ia (4 * n) c, host.drop (4 * n))

/-- The stretches of destination bytes lo to hi - 1 as addresses: f is the address of a unit given its index entry. -/
def dmaSpans (d : List Byte) (idxs : List Nat) (f : Nat → Nat → Nat) (lo hi : Nat) : List (Nat × Nat) :=
  (dStretches d lo hi).map fun (p : Nat × Nat × Nat) => (f p.1 (idxs.getD p.1 0) + p.2.1, p.2.2)

/-- Destination bytes lo to hi - 1 of descriptor d of channel k are moved; host holds the bytes that come from host memory,
the index entries first where the table lies there. The bytes written so far that the descriptor also reads, of an indexed
one in the units reached, take free values (R300). -/
def dmaMove (k : Nat) (d : List Byte) (lo hi : Nat) (host : List Byte) (c : Core) (m : List Host.Cell) : Moved :=
  let st := dStretches d lo hi
  let known := (nth c.dmas k).idxs
  let units := if hi ≤ lo then 0 else (hi - 1) / max 1 (dUnit d) + 1
  let (idx, err, c, host) := dmaIndex k d known.length (units - known.length) host c m
  let idxs := known ++ idx
  let c := c.updDma k fun (x : Dma) => { x with idxs := idxs }
  let s := dmaStretches k d 0 idxs st { err := err, core := c, mem := m, host := host }
  let src := dmaSpans d idxs (dUnitSrc d) 0 (if dIndexed d then hi else dTotal d)
  let (c, m) := dmaOverlap d src (dmaSpans d idxs (dUnitDst d) 0 ((nth s.core.dmas k).moved)) s.core s.mem
  { s with core := c, mem := m }

/-- The parts of some ranges that lie below the capacity. -/
def Core.inDram (c : Core) (l : List (Nat × Nat)) : List (Nat × Nat) :=
  l.filterMap fun (p : Nat × Nat) => if p.1 < c.capBytes then some (p.1, min p.2 (c.capBytes - p.1)) else none

/-- A descriptor fails: the rest of its destination is undefined (R306), so that its bytes in DRAM take free values; then the
channel halts. Of a scatter they lie where the index table says, as far as the table lies in DRAM or has been read. -/
def dmaFailed (k : Nat) (x : DmaDesc) (e : Nat × Nat × Nat) (c : Core) (m : List Host.Cell) : Core × List Host.Cell :=
  let d := x.bytes
  let idxs := if dIndexed d && dIdxDram d then entries32 (c.readBytes m (dIdx d) (4 * dUnits d)) else (nth c.dmas k).idxs
  let stop := if dType d = 4 then min (dTotal d) (dUnit d * idxs.length) else dTotal d
  let rest := if dDstDram d then dmaSpans d idxs (dUnitDst d) (nth c.dmas k).moved stop else []
  let (c, m) := freeRanges (c.inDram rest) c m
  (dmaHalt k e.1 e.2.1 e.2.2 c.now (dTag d) x.addr c, m)

/-- Moves the front descriptor of channel k up to destination byte hi, then goes on with f; on an error the channel
halts. -/
def dmaUpTo (k hi : Nat) (host : List Byte) (f : DmaDesc → Core → Core) (c : Core) (m : List Host.Cell) :
    Core × List Host.Cell :=
  match (nth c.dmas k).chain with
  | [] => (c, m)
  | x :: _ =>
    let s := dmaMove k x.bytes (nth c.dmas k).moved hi host c m
    match s.err with
    | some e => dmaFailed k x e s.core s.mem
    | none => (f x s.core, s.mem)

/-- The HALF record of the front descriptor. -/
def dmaHalfRec (k : Nat) (x : DmaDesc) (c : Core) : Core :=
  dmaRecordVec k 1 0 (dTag x.bytes) (c.updDma k fun (y : Dma) => { y with halfDone := true })

/-- DMA_HALF_POINT: every unit below the half point is complete at its destination (R302). -/
def dmaHalfPoint (k : Nat) (data : List Byte) (c : Core) (m : List Host.Cell) : Core × List Host.Cell :=
  let d := nth c.dmas k
  match d.chain with
  | x :: _ =>
    if d.state = 1 && x.err = 0 && dHalf x.bytes && !d.halfDone then
      dmaUpTo k (dHalfBytes x.bytes) data (dmaHalfRec k) c m
    else (c, m)
  | [] => (c, m)

/-- The front descriptor is complete: FULL record, and the chain goes on. -/
def dmaFullRec (k : Nat) (x : DmaDesc) (c : Core) : Core :=
  dmaAdvance k (if dFull x.bytes then dmaRecordVec k 2 0 (dTag x.bytes) c else c)

/-- DMA_DESC_DONE: the front descriptor completes (R302, R304). -/
def dmaDescDone (k : Nat) (data : List Byte) (c : Core) (m : List Host.Cell) : Core × List Host.Cell :=
  let d := nth c.dmas k
  match d.chain with
  | x :: _ =>
    if d.state = 1 && d.intake.isNone && x.err = 0 && (!dHalf x.bytes || d.halfDone) then
      dmaUpTo k (dTotal x.bytes) data (dmaFullRec k) c m
    else (c, m)
  | [] => (c, m)

/-- The stopped channel enters IDLE and writes STOPPED (R298). -/
def dmaStopRec (k tag : Nat) (c : Core) : Core :=
  let c := c.updDma k fun (y : Dma) =>
    { y with state := 0, chain := [], next := none, reread := none, moved := 0, idxs := [], asked := 0, reads := [], halfDone := false, tag := tag }
  dmaRecord k 5 0 tag c

/-- Whether destination byte p of a descriptor lies on a 64-byte boundary of its destination, or is its end. -/
def dAligned (d : List Byte) (p : Nat) : Bool :=
  p = dTotal d || (dUnitDst d (p / max 1 (dUnit d)) 0 + p % max 1 (dUnit d)) % 64 = 0

/-- The descriptor in progress has ended at byte upTo: the HALF and FULL records of what is complete (R302), then STOPPED. -/
def dmaStopEnd (k upTo : Nat) (x : DmaDesc) (c : Core) : Core :=
  let c := if dHalf x.bytes && !(nth c.dmas k).halfDone && decide (dHalfBytes x.bytes ≤ upTo) then dmaHalfRec k x c else c
  let c := if dFull x.bytes && upTo = dTotal x.bytes then dmaRecordVec k 2 0 (dTag x.bytes) c else c
  dmaStopRec k (dTag x.bytes) c

/-- DMA_STOPPED: the writes of a stopping channel complete. upTo is the destination byte at which the descriptor ended: its
next 64-byte boundary of destination (R298); the boundaries of a scatter depend on its index table. -/
def dmaStopped (k upTo : Nat) (data : List Byte) (c : Core) (m : List Host.Cell) : Core × List Host.Cell :=
  let d := nth c.dmas k
  if d.state != 3 then (c, m)
  else match d.chain with
    | [] => (dmaStopRec k d.tag c, m)
    | x :: _ =>
      if x.err != 0 then (dmaStopRec k (dTag x.bytes) c, m)
      else if decide (d.moved ≤ upTo) && decide (upTo ≤ dTotal x.bytes) &&
          (dType x.bytes = 4 || dAligned x.bytes upTo) then
        dmaUpTo k upTo data (dmaStopEnd k upTo) c m
      else (c, m)

/-- DMA_ERROR: a host read of the descriptor in progress fails with kind 1 to 4; typ is 2 for its index table and 3 for its
data (R306). -/
def dmaError (k kind typ addr : Nat) (c : Core) (m : List Host.Cell) : Core × List Host.Cell :=
  let d := nth c.dmas k
  match d.chain with
  | x :: _ =>
    let fits := if typ = 2 then dIndexed x.bytes && !dIdxDram x.bytes else decide (typ = 3) && !dSrcDram x.bytes
    if (d.state = 1 || d.state = 3) && x.err = 0 && fits && decide (1 ≤ kind) && decide (kind ≤ 4) then
      dmaFailed k x (kind, typ, addr) c m
    else (c, m)
  | [] => (c, m)

/-! ### The intake's transfers -/

/-- The descriptor of the intake's own chain for a band fetch (R307): linear, HALF and FULL, to DRAM, at its end. -/
def intakeDesc (src dst len tag : Nat) : List Byte :=
  bytesLE 1 1 ++ bytesLE 1 11 ++ bytesLE 2 0 ++ bytesLE 4 tag ++ bytesLE 8 src ++ bytesLE 8 dst ++ bytesLE 4 len ++
    bytesLE 28 0 ++ bytesLE 8 1

/-- The intake of marking channel n starts a transfer on DMA channel k (R307). -/
def dmaIntake (k n src dst len tag : Nat) (c : Core) : Core :=
  let x : DmaDesc := { addr := 0, bytes := intakeDesc src dst len tag }
  let c := c.updDma k fun (d : Dma) =>
    { d with hops := 0, bytes := 0, kick := false, state := 1, chain := [x], next := none, reread := none, moved := 0,
             idxs := [], asked := 0, reads := [], halfDone := false, intake := some n }
  c

/-- The intake's transfer completes: both records and AT_END. Answers whether it met an error. -/
def dmaIntakeDone (k : Nat) (data : List Byte) (c : Core) (m : List Host.Cell) : Bool × Core × List Host.Cell :=
  match (nth c.dmas k).chain with
  | [] => (false, c, m)
  | x :: _ =>
    let f := fun (x : DmaDesc) (c : Core) =>
      dmaFullRec k x (if (nth c.dmas k).halfDone then c else dmaHalfRec k x c)
    let (c, m) := dmaUpTo k (dTotal x.bytes) data f c m
    ((nth c.dmas k).state = 4, c, m)

/-- The intake gives its transfer up: nothing more is moved. -/
def dmaIntakeEnd (k : Nat) (c : Core) : Core :=
  c.updDma k fun (d : Dma) =>
    if d.intake.isSome then { d with state := if d.state = 1 then 0 else d.state, chain := [], moved := 0, idxs := [], asked := 0, reads := [], halfDone := false,
                                     intake := none }
    else d

end Sys2Proof.Machine
end

