-- ==== Sys2Proof/Machine/ImagePath.lean ====
section
/-! DEFINITION. Sys2Proof/Machine/ImagePath.lean: the image path (spec/04): segments, job extents, the Flask, tone, gain,
screening, nozzle-out compensation, tone swaps, table loads and errors in the tables. -/

namespace Sys2Proof.Machine

/-! ### Geometry of a channel -/

/-- A valid entry of CHn.SEGMENTS: elements from lo up to hi, and the row that serves them (R86). -/
structure Seg where
  lo : Nat
  hi : Nat
  row : Nat
deriving DecidableEq, Repr, Inhabited

/-- The valid entries of a segment table as (START, ROW): entries after the first invalid one are ignored (R86). -/
def segEntries (blob : Nat) : List (Nat × Nat) :=
  (((List.range 64).map fun (s : Nat) => elemAt 32 blob s).takeWhile fun (e : Nat) => e.testBit 31).map
    fun (e : Nat) => (field e 9 0, field e 18 16)

/-- The segments that a list of entries describes, up to element w. -/
def segsFrom (w : Nat) : List (Nat × Nat) → List Seg
  | [] => []
  | [(st, r)] => [{ lo := 128 * st, hi := w, row := r }]
  | (st, r) :: (st', r') :: t => { lo := 128 * st, hi := 128 * st', row := r } :: segsFrom w ((st', r') :: t)

/-- The segments of channel n: those of its table; a single row in beam mode (R20). -/
def Core.segs (c : Core) (n : Nat) : List Seg :=
  if c.beam then [{ lo := 0, hi := c.get (K.chWidth n), row := 0 }]
  else segsFrom (c.get (K.chWidth n)) (segEntries (c.get (K.chSegments n)))

/-- Delay d_r of a row (R87); 0 in beam mode (R20). -/
def Core.rowDelay (c : Core) (n r : Nat) : Nat := if c.beam then 0 else c.get (K.chRowDelay n r)

/-- d_max: the largest delay of the rows named by valid segments (R87). -/
def Core.dMax (c : Core) (n : Nat) : Nat :=
  (c.segs n).foldl (fun (a : Nat) (s : Seg) => max a (c.rowDelay n s.row)) 0

/-- The rows named by valid segments, ascending. -/
def Core.rowsOf (c : Core) (n : Nat) : List Nat :=
  (List.range 8).filter fun (r : Nat) => (c.segs n).any fun (s : Seg) => s.row = r

/-- s of R87: image lines to a contone line. -/
def Core.scaleOf (c : Core) (n : Nat) : Nat := if c.get (K.chScale n) = 0 then 2 else 1

/-- phi_x and phi_y, which act at 2:1 only (R87, R98). -/
def Core.phiX (c : Core) (n : Nat) : Nat := if c.scaleOf n = 2 then bitN (c.get (K.chScalePhase n)) 0 else 0
def Core.phiY (c : Core) (n : Nat) : Nat := if c.scaleOf n = 2 then bitN (c.get (K.chScalePhase n)) 1 else 0

/-- Bytes of a contone line, or of an element line in bypass (R88). -/
def Core.lineBytes (c : Core) (n : Nat) : Nat :=
  let w := c.get (K.chWidth n)
  if c.get (K.chScale n) = 0 then (w + c.phiX n + 1) / 2
  else if c.get (K.chScale n) = 1 then w
  else w * c.get (K.chElemDepth n) / 8

/-- The slot size that the line size calls for (R88). -/
def slotFor (bytes : Nat) : Nat := if bytes ≤ 65536 then 65536 else 131072

/-- Address of contone line cl in the Flask (R88). -/
def Core.flaskAddr (c : Core) (n cl : Nat) : Nat :=
  c.get (K.chFlaskBase n) + cl % max 1 (c.get (K.chFlaskLines n)) * c.get (K.chFlaskSlot n)

/-! ### Extents -/

/-- First contone line C_J of the job at place k: the contone lines of the jobs before it since the arm (R210). -/
def cJOf (jobs : List Job) (k : Nat) : Nat := (jobs.take k).foldl (fun (a : Nat) (j : Job) => a + (if j.past then 0 else j.lines)) 0

/-- The end of a job's extent, l_J + s N - phi (R210). -/
def Core.jobEnd (c : Core) (n : Nat) (j : Job) : Nat := j.lJ + c.scaleOf n * j.lines - (if j.lines = 0 then 0 else c.phiY n)

/-- A stretch of image lines with data: first image line, first contone line, end, and whether its lines are blank. -/
structure Extent where
  l0 : Nat
  c0 : Nat
  stop : Nat
  blank : Bool
deriving DecidableEq, Repr, Inhabited

/-- The end of a page's extent on channel n (R210). -/
def Core.runEnd (c : Core) (n : Nat) (p : PageRun) : Nat :=
  p.l0 + c.scaleOf n * p.lines - (if p.lines = 0 then 0 else c.phiY n)

/-- The page that image line l of channel n belongs to in beam mode, among those begun on it and not finished. -/
def Core.runAt (c : Core) (n l : Nat) : Option PageRun :=
  (nth c.runs n).find? fun (p : PageRun) => !p.finished && decide (p.l0 ≤ l) && decide (l < c.runEnd n p)

/-- The extents of channel n, in order: those of the jobs of the present run that are neither refused nor aborted; in beam mode
those of the pages begun on it and not finished, the lines of a spoiled one being blank (R200, R210). -/
def Core.extents (c : Core) (n : Nat) : List Extent :=
  if c.beam then ((nth c.runs n).filter fun (p : PageRun) => !p.finished).map fun (p : PageRun) =>
    { l0 := p.l0, c0 := p.c0, stop := c.runEnd n p, blank := p.spoiled }
  else
    let js := (nth c.jobs n).jobs
    (js.mapIdx fun (k : Nat) (j : Job) => (j, cJOf js k)).filterMap fun (p : Job × Nat) =>
      if p.1.state = 4 || p.1.state = 5 || p.1.past then none
      else some { l0 := p.1.lJ, c0 := p.2, stop := c.jobEnd n p.1, blank := false }

/-- The extent an image line lies in, if any (R109, R210). -/
def Core.extentAt (c : Core) (n : Nat) (l : Int) : Option Extent :=
  (c.extents n).find? fun (x : Extent) => decide ((x.l0 : Int) ≤ l) && decide (l < (x.stop : Int))

/-- Contone line of an image line of an extent (R87). -/
def Core.contoneOf (c : Core) (n : Nat) (x : Extent) (l : Int) : Nat :=
  x.c0 + ((l - x.l0).toNat + c.phiY n) / c.scaleOf n

/-- The contone line that an image line needs, if it lies in an extent with data. -/
def Core.contoneAt (c : Core) (n : Nat) (l : Int) : Option Nat :=
  match c.extentAt n l with
  | some x => if x.blank then none else some (c.contoneOf n x l)
  | none => none

/-- The contone lines that channel line L needs, one for each row that has one. -/
def Core.contoneNeeds (c : Core) (n line : Nat) : List Nat :=
  (c.rowsOf n).filterMap fun (r : Nat) => c.contoneAt n ((line : Int) - (c.rowDelay n r : Nat))

/-- The first contone line that is not released when the current channel line is L (R91): none where no row constrains. -/
def Core.releasePoint (c : Core) (n line : Nat) : Option Nat :=
  (c.rowsOf n).foldl (fun (acc : Option Nat) (r : Nat) =>
    let l : Int := (line : Int) - (c.rowDelay n r : Nat)
    let here := match c.extentAt n l with
      | some x => some (c.contoneOf n x l)
      | none => ((c.extents n).find? fun (x : Extent) => decide (l < (x.l0 : Int))).map fun (x : Extent) => x.c0
    firstBurst acc here) none

/-- Contone lines released so far. In LOADED and STOPPED no line of the channel is current, and nothing is released (DESIGN
CHOICE, log 78). -/
def Core.released (c : Core) (n : Nat) : Nat :=
  let w := c.get (K.chFlaskWrite n)
  if c.get (K.chState n) = 1 || c.get (K.chState n) = 6 then 0
  else match c.releasePoint n (c.get (K.chLineHigh n)) with
  | some r => min r w
  | none => if c.beam then min w ((nth c.runs n).foldl (fun (a : Nat) (p : PageRun) => max a (p.c0 + p.lines)) 0) else w

/-! ### Table access -/

/-- Default of a tone entry for sample value v (R94). -/
def toneDefault (v : Nat) : Nat := (v * 4095 + 127) / 255

/-- An entry of a tone bank: 256 z + v. -/
def toneEntry (bank : List (Nat × Nat)) (i : Nat) : Nat := sget 0 bank i ^^^ toneDefault (i % 256)

/-- A tone bank with an entry set. -/
def toneSet (bank : List (Nat × Nat)) (i v : Nat) : List (Nat × Nat) := sput 0 bank i (v % 4096 ^^^ toneDefault (i % 256))

/-- Bank 0 (A) or 1 (B) and its bad entries. -/
def ChImg.bank (g : ChImg) (b : Nat) : List (Nat × Nat) := if b = 0 then g.toneA else g.toneB
def ChImg.badBank (g : ChImg) (b : Nat) : List Nat := if b = 0 then g.badA else g.badB

/-- Bank b replaced. -/
def ChImg.setBank (g : ChImg) (b : Nat) (t : List (Nat × Nat)) (bad : List Nat) : ChImg :=
  if b = 0 then { g with toneA := t, badA := bad } else { g with toneB := t, badB := bad }

/-- An entry of a nozzle copy (R99). -/
def nozEntry (t : List (Nat × Nat)) (e : Nat) : Nat := sget 0x200 t e

/-- The zone and weight of column x (R94). -/
def zoneOf (x origin zw : Nat) : Nat × Nat :=
  let q : Int := 2 * ((x : Int) - origin) + 1 - zw
  if q < 0 then (0, 0)
  else
    let z := q.toNat / (2 * zw)
    let w := 256 * (q.toNat - 2 * zw * z) / (2 * zw)
    if 127 ≤ z then (127, 0) else (z, w)

/-- The tone stage: sample v at column x through a bank, and whether it read a bad entry (R94, R113). -/
def toneStage (g : ChImg) (b x v origin zw : Nat) : Nat × Bool :=
  let (z, w) := zoneOf x origin zw
  let i := 256 * z + v
  let j := 256 * min (z + 1) 127 + v
  let t := g.bank b
  ((toneEntry t i * (256 - w) + toneEntry t j * w + 128) / 256, (g.badBank b).contains i || (g.badBank b).contains j)

/-- Store entry of threshold plane k (1 to N) at a tile position (R104). -/
def scrIndex (wt ht k tx ty : Nat) : Nat := ((k - 1) * ht + ty) * wt + tx

/-- The screening of a value at a tile position, and whether it met a bad threshold (R103, R113). -/
def screenStage (g : ChImg) (wt ht planes tx ty v : Nat) : Nat × Bool :=
  (List.range planes).foldl (fun (a : Nat × Bool) (k : Nat) =>
    let i := scrIndex wt ht (k + 1) tx ty
    (if sget 4095 g.screen i < v then a.1 + 1 else a.1, a.2 || g.badScreen.contains i)) (0, false)

/-! ### Elements -/

/-- What the image path knows of an element before compensation: tone output u, value v after gain, level, and the
nozzle entry's flags. `blank`: given level 0, gives and receives nothing (R93, R109, R113); `table`: by a bad table word. -/
structure Elem where
  u : Nat := 0
  v : Nat := 0
  lvl : Nat := 0
  dead : Bool := false
  wset : Nat := 0
  blank : Bool := false
  table : Bool := false
deriving DecidableEq, Repr, Inhabited

/-- Whether the byte at an offset of contone line cl came back bad, or would come back bad now (R93). -/
def Core.flaskBadAt (c : Core) (n cl off : Nat) : Bool :=
  let b := c.flaskAddr n cl / 64 + off / 64
  (nth c.imgs n).flaskBad.contains (cl, off / 64) || (burstRead (c.flipsOf b)).bad || c.refuses b

/-- The byte at an offset of contone line cl. -/
def Core.flaskByte (c : Core) (m : List Host.Cell) (n cl off : Nat) : Nat :=
  ((c.readBytes m (c.flaskAddr n cl + off) 1).headD 0#8).toNat

/-- The sample at an offset of contone line cl for row r, and whether it is bad: from the row's hold values where it holds the
line (R91), else from the Flask. -/
def Core.sampleAt (c : Core) (m : List Host.Cell) (n r cl off : Nat) : Nat × Bool :=
  match (nth c.imgs n).hold.getD r none with
  | some h =>
    if h.line = cl then ((h.data.getD off 0#8).toNat, h.bad.contains (off / 64))
    else (c.flaskByte m n cl off, c.flaskBadAt n cl off)
  | none => (c.flaskByte m n cl off, c.flaskBadAt n cl off)

/-- What a row reads of contone line cl to hold. -/
def Core.holdOf (c : Core) (m : List Host.Cell) (n cl : Nat) : RowHold :=
  let len := c.lineBytes n
  { line := cl, data := c.readBytes m (c.flaskAddr n cl) len,
    bad := (List.range (ceilDiv len 64)).filter fun (b : Nat) => c.flaskBadAt n cl (64 * b) }

/-- The row gather at channel line L, at 2:1: each row that comes to a new contone line reads it and holds its samples for both
element lines of the pair (R91). -/
def gatherRows (m : List Host.Cell) (n line : Nat) (c : Core) : Core :=
  if c.scaleOf n != 2 then c
  else (c.rowsOf n).foldl (fun (c : Core) (r : Nat) =>
    match c.contoneAt n ((line : Int) - (c.rowDelay n r : Nat)) with
    | none => c
    | some cl =>
      if ((nth c.imgs n).hold.getD r none).any fun (h : RowHold) => h.line = cl then c
      else { c with imgs := upd c.imgs n fun (x : ChImg) => { x with hold := x.hold.set r (some (c.holdOf m n cl)) } }) c

/-- Tile position of element e in image line l (R102). -/
def Core.tileOf (c : Core) (n e : Nat) (l : Int) : Nat × Nat :=
  ((e + c.get (K.chScrX0 n)) % max 1 (c.get (K.chScrW n)),
    ((l + (c.get (K.chScrY0 n) : Nat)) % ((max 1 (c.get (K.chScrH n)) : Nat) : Int)).toNat)

/-- The level of a value at element e of image line l (R103). -/
def Core.screenAt (c : Core) (n e : Nat) (l : Int) (v : Nat) : Nat × Bool :=
  let (tx, ty) := c.tileOf n e l
  screenStage (nth c.imgs n) (max 1 (c.get (K.chScrW n))) (max 1 (c.get (K.chScrH n)))
    (2 ^ c.get (K.chElemDepth n) - 1) tx ty v

/-- Element e of image line l, served by row r, up to screening (R98 to R104); in bypass the level read (R108). -/
def Core.elemBase (c : Core) (m : List Host.Cell) (n r e : Nat) (l : Int) : Elem :=
  match c.contoneAt n l with
  | none => { blank := true }
  | some cl =>
    let g := nth c.imgs n
    let noz := nozEntry g.nozLive e
    let badNoz := g.badLive.contains e
    let dead := noz.testBit 15 && !c.beam
    let d := c.get (K.chElemDepth n)
    if c.get (K.chScale n) = 2 then
      let (byte, bad) := c.sampleAt m n r cl (e * d / 8)
      let lvl := byte / 2 ^ (e * d % 8) % 2 ^ d
      { lvl := if dead || bad || badNoz then 0 else lvl, dead := dead, blank := bad || badNoz, table := badNoz }
    else
      let x := if c.scaleOf n = 2 then (e + c.phiX n) / 2 else e
      let (sample, bad) := c.sampleAt m n r cl x
      let (u, badTone) := toneStage g (g.rowBank.getD r 0) x sample
        (c.get (K.chToneOrigin n)) (max 1 (c.get (K.chToneZoneW n)))
      let v := if dead then u else min 4095 ((u * field noz 9 0 + 256) / 512)
      let (lvl, badScr) := if dead then (0, false) else c.screenAt n e l v
      let table := badNoz || badTone || badScr
      { u := u, v := v, lvl := if bad || table then 0 else lvl, dead := dead, wset := field noz 14 13,
        blank := bad || table, table := table }

/-- The weight of weight set k at offset o = j - i (R105). -/
def Core.wsetWeight (c : Core) (n k : Nat) (o : Int) : Nat :=
  let v := c.get (if k = 0 then K.chNozWset0 n else if k = 1 then K.chNozWset1 n
    else if k = 2 then K.chNozWset2 n else K.chNozWset3 n)
  if o = -2 then field v 7 0 else if o = -1 then field v 15 8 else if o = 1 then field v 23 16 else field v 31 24

/-- The row that serves element e, if a segment holds it. -/
def Core.rowAt (c : Core) (n e : Nat) : Option Nat :=
  ((c.segs n).find? fun (s : Seg) => decide (s.lo ≤ e) && decide (e < s.hi)).map fun (s : Seg) => s.row

/-- What element j receives from the element at offset -o from it (R106, R107). -/
def Core.contribution (c : Core) (m : List Host.Cell) (n r j : Nat) (l o : Int) : Nat :=
  let i : Int := (j : Int) - o
  if i < 0 || decide ((c.get (K.chWidth n) : Int) ≤ i) || c.rowAt n i.toNat != some r then 0
  else
    let x := c.elemBase m n r i.toNat l
    if x.dead && !x.blank then (x.u * c.wsetWeight n x.wset o + 64) / 128 else 0

/-- The element after nozzle-out compensation (R105 to R107); none in bypass (R108) and in beam mode (R20). -/
def Core.elemAfter (c : Core) (m : List Host.Cell) (n r j : Nat) (l : Int) : Elem :=
  let x := c.elemBase m n r j l
  if x.blank || x.dead || c.beam || c.get (K.chScale n) = 2 then x
  else
    let add := [-2, -1, 1, 2].foldl (fun (a : Nat) (o : Int) => a + c.contribution m n r j l o) 0
    let v := min 4095 (x.v + add)
    if v = x.v then x else { x with v := v, lvl := (c.screenAt n j l v).1 }

/-- The levels above 0 of the elements of a segment at channel line L, ascending, with whether a bad table word blanked
any of its elements. -/
def Core.segLevels (c : Core) (m : List Host.Cell) (n line : Nat) (s : Seg) : List (Nat × Nat) × Bool :=
  let l : Int := (line : Int) - (c.rowDelay n s.row : Nat)
  match c.contoneAt n l with
  | none => ([], false)
  | some _ =>
    (List.range (s.hi - s.lo)).foldr (fun (k : Nat) (a : List (Nat × Nat) × Bool) =>
      let x := c.elemAfter m n s.row (s.lo + k) l
      (if x.lvl = 0 then a.1 else (s.lo + k, x.lvl) :: a.1, a.2 || x.table)) ([], false)

/-- The levels above 0 of channel line L of every element, ascending; and whether a bad table word affected it. -/
def Core.lineLevels (c : Core) (m : List Host.Cell) (n line : Nat) : List (Nat × Nat) × Bool :=
  (c.segs n).foldr (fun (s : Seg) (a : List (Nat × Nat) × Bool) =>
    let r := c.segLevels m n line s
    (r.1 ++ a.1, r.2 || a.2)) ([], false)

/-! ### Bad words of the tables -/

/-- An image path changed. -/
def Core.updImg (c : Core) (n : Nat) (f : ChImg → ChImg) : Core := { c with imgs := upd c.imgs n f }

/-- The state flags of the tone banks. -/
def Core.draining (c : Core) (n : Nat) : Bool := c.bitOf (K.chToneState n) 0
def Core.copying (c : Core) (n : Nat) : Bool := c.bitOf (K.chToneState n) 1

/-- Whether bank b is live or draining (R97). -/
def Core.bankBusy (c : Core) (n b : Nat) : Bool := c.get (K.chToneLive n) = b || c.draining n

/-- Whether a bad word remains in a table the channel prints from (R113). -/
def Core.badPrinting (c : Core) (n : Nat) : Bool :=
  let g := nth c.imgs n
  !g.badLive.isEmpty || !g.badScreen.isEmpty || (c.bankBusy n 0 && !g.badA.isEmpty) || (c.bankBusy n 1 && !g.badB.isEmpty)

/-- TABLE_ECC ends when no bad word remains in a table the channel prints from (R113). -/
def Core.eccEnd (c : Core) (n : Nat) : Core := if c.badPrinting n then c else c.endFault (0x1040 + 0x100 * n) 1

/-- TABLE_ECC for a bad word in printing use (R113, R115). -/
def Core.tableEcc (c : Core) (n table entry : Nat) : Core :=
  c.raiseHeld (0x1040 + 0x100 * n) 1 (table * 2 ^ 56 + entry)

/-- TABLE_IDLE_ECC for a bad word in the shadow nozzle copy or an idle bank (R113, R115). -/
def Core.tableIdleEcc (c : Core) (n table entry : Nat) : Core :=
  c.raise (0x1041 + 0x100 * n) 1 (table * 2 ^ 56 + 2 ^ 48 + entry)

/-- A list of bad words brought into printing use (R113). -/
def Core.tableEccAll (c : Core) (n table : Nat) (l : List Nat) : Core :=
  l.foldl (fun (c : Core) (e : Nat) => c.tableEcc n table e) c

/-- A list of bad words that a copy wrote into an idle copy (R113). -/
def Core.tableIdleAll (c : Core) (n table : Nat) (l : List Nat) : Core :=
  l.foldl (fun (c : Core) (e : Nat) => c.tableIdleEcc n table e) c

/-! ### Tone swaps -/

/-- Each row takes the bank that is live from line L + d_r on (R95). -/
def toneRows (n line : Nat) (c : Core) : Core :=
  let live := c.get (K.chToneLive n)
  let g := nth c.imgs n
  c.updImg n fun (x : ChImg) => { x with rowBank := (x.rowBank.mapIdx fun (r : Nat) (b : Nat) =>
    if g.swapLine + c.rowDelay n r ≤ line then live else b) }

/-- A swap with operand op executes at the boundary of line L (R95, R96). A row without delay takes the new bank for the line
fired at that boundary, also where the swap is a cue's in step 3 (R80). -/
def toneSwapExec (n op line : Nat) (c : Core) : Core :=
  let live := c.get (K.chToneLive n)
  let target := if op = 0 then 1 - live else op - 1
  if target = live then c
  else
    let c := (c.set (K.chToneLive n) target).bump (K.chToneSwaps n)
    let c := c.updImg n fun (x : ChImg) => { x with swapLine := line }
    let c := toneRows n line c
    let c := if c.dMax n = 0 then c.eccEnd n else c.setBitOf (K.chToneState n) 0 true
    c.tableEccAll n (2 + target) ((nth c.imgs n).badBank target)

/-- A deferred swap is late by the lines since its deferral began (R96). -/
def toneLate (n lines : Nat) (c : Core) : Core :=
  (c.addTo (K.chToneLateLines n) lines).raise (0x1030 + 0x100 * n) 1 (satU 32 lines)

/-- A swap due at the boundary of line L: executed, or deferred while a drain or a copy runs (R96, R97). -/
def toneSwapDue (n op line : Nat) (c : Core) : Core :=
  if c.draining n || c.copying n || !(nth c.imgs n).deferred.isEmpty then
    c.updImg n fun (x : ChImg) => { x with deferred := x.deferred ++ [(op, line)] }
  else toneSwapExec n op line c

/-- The deferred swaps at the boundary of line L, in order: each executes, or is deferred further (R96). -/
def toneDeferred (n line : Nat) : List (Nat × Nat) → Core → Core
  | [], c => c
  | (op, from_) :: r, c =>
    let c := toneLate n (line - from_) c
    let c := if c.draining n then c.updImg n fun (x : ChImg) => { x with deferred := x.deferred ++ [(op, line)] }
      else toneSwapExec n op line c
    toneDeferred n line r c

/-- The end of a drain at the boundary of line L, and the deferred swaps once neither a drain nor a copy runs. -/
def toneDrain (n line : Nat) (c : Core) : Core :=
  let ends := c.draining n && decide ((nth c.imgs n).swapLine + c.dMax n ≤ line)
  let c := if ends then (c.setBitOf (K.chToneState n) 0 false).eccEnd n else c
  if c.draining n || c.copying n then c
  else
    let l := (nth c.imgs n).deferred
    toneDeferred n line l (c.updImg n fun (x : ChImg) => { x with deferred := [] })

/-- Step 2 of R15 at the boundary of line L: the rows whose turn it is under the swap before, the drain and deferred swaps, swaps
written to CHn.TONE_SWAP, and the rows that those give their turn. -/
def toneStep (n line : Nat) (c : Core) : Core :=
  let c := toneDrain n line (toneRows n line c)
  let req := (nth c.imgs n).requested
  let c := c.updImg n fun (x : ChImg) => { x with requested := [] }
  let c := req.foldl (fun (c : Core) (op : Nat) => toneSwapDue n op line c) c
  toneRows n line c

/-- TONE_DRAIN_END: the channel comes to the boundary of the line at which the drain ends, after every boundary before it (R96).
A drain does not advance while the channel is HELD or comes to its stop boundary (R114). -/
def toneDrainEnd (n : Nat) (c : Core) : Core :=
  let line := (nth c.imgs n).swapLine + c.dMax n
  let high := c.get (K.chLineHigh n)
  let reachedIt := decide (line ≤ high) || (line = high + 1 && !(nth c.jobs n).holdReq && reached (c.chPos n) (256 * line % posMod))
  if c.draining n && c.get (K.chState n) != 4 && reachedIt then toneDrain n line (toneRows n line c) else c

/-- The effect of an accepted write of CHn.TONE_SWAP: due at the next boundary (R95). -/
def toneRequest (n op : Nat) (c : Core) : Core :=
  c.updImg n fun (x : ChImg) => { x with requested := x.requested ++ [op] }

/-- The effect of an accepted write of CHn.TONE_COPY: 4.1 us, 820 cycles (R97). -/
def toneCopyStart (n : Nat) (c : Core) : Core :=
  (c.setBitOf (K.chToneState n) 1 true).updImg n fun (x : ChImg) => { x with copyEnd := c.sample + 820, copyRun := true }

/-- TONE_COPY_DONE: the live bank stands in the idle one, bad words included (R97, R113). -/
def toneCopyDone (n : Nat) (c : Core) : Core :=
  let g := nth c.imgs n
  if g.copyRun && decide (g.copyEnd ≤ c.sample) then
    let live := c.get (K.chToneLive n)
    let c := c.setBitOf (K.chToneState n) 1 (!g.loopWrites.isEmpty)
    let c := c.updImg n fun (x : ChImg) => { x with copyRun := false }
    let c := c.updImg n fun (x : ChImg) => x.setBank (1 - live) (x.bank live) (x.badBank live)
    (c.tableIdleAll n (2 + (1 - live)) (g.badBank live)).eccEnd n
  else c

/-! ### The nozzle table -/

/-- PENDING and RESYNC. -/
def Core.nozPending (c : Core) (n : Nat) : Bool := c.bitOf (K.chNozState n) 0
def Core.nozResync (c : Core) (n : Nat) : Bool := c.bitOf (K.chNozState n) 1

/-- A commit of channel n exchanges the copies if PENDING is set (R101); the resync takes 16.4 us, 3,280 cycles. -/
def nozExchange (n : Nat) (c : Core) : Core :=
  if c.nozPending n then
    let c := c.updImg n fun (x : ChImg) =>
      { x with nozLive := x.nozShadow, nozShadow := x.nozLive, badLive := x.badShadow, badShadow := x.badLive,
               resyncEnd := c.sample + 3280 }
    let c := (c.setBitOf (K.chNozState n) 0 false).setBitOf (K.chNozState n) 1 true
    let g := nth c.imgs n
    let c := c.set (K.chNozDead n) (g.nozLive.filter fun (p : Nat × Nat) => p.2.testBit 15).length
    (c.tableEccAll n 1 g.badLive).eccEnd n
  else c

/-- NOZ_RESYNC_DONE: the shadow copy equals the live copy again (R101, R113). -/
def nozResyncDone (n : Nat) (c : Core) : Core :=
  let g := nth c.imgs n
  if c.nozResync n && decide (g.resyncEnd ≤ c.sample) then
    let c := c.updImg n fun (x : ChImg) => { x with nozShadow := x.nozLive, badShadow := x.badLive }
    (c.setBitOf (K.chNozState n) 1 false).tableIdleAll n 1 g.badLive
  else c

/-- Whether a nozzle entry has a reserved field that is not 0 (R99). -/
def nozReserved (v : Nat) : Bool := field v 12 10 != 0

/-- The effect of an accepted write of CHn.NOZ_PATCH (R101). -/
def nozPatch (n v : Nat) (c : Core) : Core :=
  let e := field v 48 32
  (c.updImg n fun (x : ChImg) =>
    { x with nozShadow := sput 0x200 x.nozShadow e (v % 65536), badShadow := markDel e x.badShadow }).setBitOf
      (K.chNozState n) 0 true

/-! ### Table loads -/

/-- Entries of a table by CHn.TBL_ID (R110). -/
def tblEntries (id : Nat) : Nat := if id = 1 then 131072 else if id = 4 then 983040 else 32768

/-- Whether an entry of a table has a reserved field that is not 0 (R110). -/
def tblReserved (id v : Nat) : Bool := if id = 1 then nozReserved v else v / 4096 != 0

/-- The 16-bit entries that bytes spell. -/
def entries16 : List Byte → List Nat
  | a :: b :: r => (a.toNat + 256 * b.toNat) :: entries16 r
  | _ => []

/-- Entries written to a table from index i on; an entry written is good again (R113). -/
def tblWrite (id : Nat) (g : ChImg) (i : Nat) : List Nat → ChImg
  | [] => g
  | v :: r =>
    let g := if id = 1 then { g with nozShadow := sput 0x200 g.nozShadow i v, badShadow := markDel i g.badShadow }
      else if id = 4 then { g with screen := sput 4095 g.screen i v, badScreen := markDel i g.badScreen }
      else g.setBank (id - 2) (toneSet (g.bank (id - 2)) i v) (markDel i (g.badBank (id - 2)))
    tblWrite id g (i + 1) r

/-- An entry of a table as a read-back finds it, and whether its word is bad. -/
def tblEntry (id : Nat) (g : ChImg) (i : Nat) : Nat × Bool :=
  if id = 1 then (nozEntry g.nozShadow i, g.badShadow.contains i)
  else if id = 4 then (sget 4095 g.screen i, g.badScreen.contains i)
  else (toneEntry (g.bank (id - 2)) i, (g.badBank (id - 2)).contains i)

/-- The effect of an accepted write of CHn.TBL_GO: the unit runs with the operands as they stand (R110). -/
def tblStart (n : Nat) (load : Bool) (c : Core) : Core :=
  let t : TblJob := { load := load, id := c.get (K.chTblId n), addr := c.get (K.chTblAddr n),
                      first := c.get (K.chTblFirst n), count := c.get (K.chTblCount n) }
  (c.updImg n fun (x : ChImg) => { x with tbl := some t }).set (K.chTblStatus n) 1

/-- The table-load unit of channel n ends: TBL_STATUS 3 with TABLE_LOAD_FAIL at a bad burst, else 2 (R112). -/
def tblEnd (n id : Nat) (bad : Option Nat) (c : Core) : Core :=
  let c := c.updImg n fun (x : ChImg) => { x with tbl := none }
  match bad with
  | none => c.set (K.chTblStatus n) 2
  | some b => (c.set (K.chTblStatus n) 3).raise (0x1060 + 0x100 * n) 1 (2 ^ 56 * id + b * 64 % 2 ^ 48)

/-- The load ends: the entries before the first bad burst, or all, are written (R110 to R112). -/
def tblLoadEnd (m : List Host.Cell) (n : Nat) (t : TblJob) (c : Core) : Core :=
  let (bad, c) := c.hubReadStop (3 + 4 * n) t.addr (2 * t.count)
  let good := match bad with
    | none => t.count
    | some b => (b * 64 - t.addr) / 2
  let vals := entries16 (c.readBytes m t.addr (2 * good))
  let c := c.updImg n fun (x : ChImg) => tblWrite t.id x t.first vals
  let c := if t.id = 1 && bad = none then c.setBitOf (K.chNozState n) 0 true else c
  (tblEnd n t.id bad c).eccEnd n

/-- The values a read-back writes out: the entries, and a free value for an entry whose word is bad. -/
def tblOut (t : TblJob) (g : ChImg) : List Nat → Core → List Nat × Core
  | [], c => ([], c)
  | k :: r, c =>
    let (v, bad) := tblEntry t.id g (t.first + k)
    let (v, c) := if bad then c.freeVal 16 else (v, c)
    let (l, c) := tblOut t g r c
    (v :: l, c)

/-- The read-back ends (R110, R112). -/
def tblBackEnd (m : List Host.Cell) (n : Nat) (t : TblJob) (c : Core) : Core × List Host.Cell :=
  let (vals, c) := tblOut t (nth c.imgs n) (List.range t.count) c
  let (bad, c, m) := c.hubWriteStop m (3 + 4 * n) t.addr (vals.flatMap fun (v : Nat) => bytesLE 2 v)
  (tblEnd n t.id bad c, m)

/-- TBL_LOAD_DONE: the table-load unit finishes. A load of the nozzle table that ends during a resync waits for its
end. -/
def tblLoadDone (m : List Host.Cell) (n : Nat) (c : Core) : Core × List Host.Cell :=
  match (nth c.imgs n).tbl with
  | none => (c, m)
  | some t =>
    if t.load then (if t.id = 1 && c.nozResync n then (c, m) else (tblLoadEnd m n t c, m))
    else tblBackEnd m n t c

/-! ### Errors found in the tables and in the Flask -/

/-- A bad mark in a table copy: 0 live nozzle copy, 1 shadow nozzle copy, 2 bank A, 3 bank B, 4 screen store. -/
def markBad (table e : Nat) (g : ChImg) : ChImg :=
  if table = 0 then { g with badLive := markIns e g.badLive }
  else if table = 1 then { g with badShadow := markIns e g.badShadow }
  else if table = 2 then { g with badA := markIns e g.badA }
  else if table = 3 then { g with badB := markIns e g.badB }
  else { g with badScreen := markIns e g.badScreen }

/-- Whether a word is already known as bad. -/
def knownBad (table e : Nat) (g : ChImg) : Bool :=
  (if table = 0 then g.badLive else if table = 1 then g.badShadow else if table = 2 then g.badA
    else if table = 3 then g.badB else g.badScreen).contains e

/-- The entry of a table copy replaced by a value. -/
def setEntry (table e v : Nat) (g : ChImg) : ChImg :=
  if table = 0 then { g with nozLive := sput 0x200 g.nozLive e v }
  else if table = 1 then { g with nozShadow := sput 0x200 g.nozShadow e v }
  else if table = 4 then { g with screen := sput 4095 g.screen e (v % 4096) }
  else g.setBank (table - 2) (toneSet (g.bank (table - 2)) e v) (g.badBank (table - 2))

/-- An SRAM word outside the tables of the image path, found uncorrectable: table 5 a knot of channel n's Scan Linearisation
Table, 6 a 32-bit word of the Cue Table. No rule names a report or what the block reads, so the word takes a free value
(log 94). -/
def otherSramBad (n table entry : Nat) (c : Core) : Core :=
  let (v, c) := c.freeVal 32
  if table = 5 then { c with scans := upd c.scans n fun (x : Scan) => { x with knots := sput 0 x.knots entry v } }
  else
    let o := K.cueEntry (entry / 4)
    c.set o (spliceLE (c.get o) (4 * (entry % 4)) 4 v)

/-- Words that a scrubber sweeps: of a table of the image path, of the Scan Linearisation Table, of the Cue Table. -/
def sramWords (table : Nat) : Nat :=
  if table ≤ 4 then tblEntries (if table = 0 then 1 else table) else if table = 5 then 4096 else 16384

/-- SRAM_SCRUB_READ: a scrubber reads a word that differs from the correct one by 39 bits of difference (R113, R264, R268).
A corrected word is written back. A word of three or more wrong bits that the code takes for another word leaves a free
value. Tables 0 to 5 are channel n's, 6 is the Cue Table. -/
def sramScrubRead (n table entry flips : Nat) (c : Core) : Core :=
  if decide (6 < table) || decide (sramWords table ≤ entry) then c
  else
    let found := secdedResult (syndromeOf (flips % 2 ^ 39))
    if 4 < table then
      (if found = .uncorrectable || decide (1 < popcount 39 flips) then otherSramBad n table entry c else c)
    else if knownBad table entry (nth c.imgs n) then c
    else if found = .uncorrectable then
      let c := c.updImg n (markBad table entry)
      let id := if table = 0 then 1 else table
      if table = 0 || table = 4 || (table != 1 && c.bankBusy n (table - 2)) then c.tableEcc n id entry
      else c.tableIdleEcc n id entry
    else if popcount 39 flips ≤ 1 then c
    else
      let (v, c) := c.freeVal 16
      c.updImg n (setEntry table entry v)

/-- FLASK_READ_DONE: a burst of a resident contone line comes back (R93); in beam mode it may come too late (R21). -/
def flaskReadDone (n cl burst : Nat) (late : Bool) (c : Core) : Core :=
  let st := c.get (K.chState n)
  if decide (cl < c.get (K.chFlaskWrite n)) && decide (c.released n ≤ cl) && decide (64 * burst < c.lineBytes n) &&
      (st = 3 || st = 4 || st = 5) then
    let a := c.flaskAddr n cl + 64 * burst
    let (bad, c) := c.hubRead (4 * n) 0 a 64
    let c := match bad with
      | none => c
      | some _ =>
        ((c.updImg n fun (x : ChImg) => { x with flaskBad := (cl, burst) :: x.flaskBad }).bump
          (K.chFlaskEccErrors n)).raise (0x1021 + 0x100 * n) 1 (a % 2 ^ 48)
    if late && c.beam then
      let line := match (c.extents n).find? fun (x : Extent) => decide (x.c0 ≤ cl) && decide (cl < x.c0 + (x.stop - x.l0)) with
        | some x => x.l0 + c.scaleOf n * (cl - x.c0) - c.phiY n
        | none => c.get (K.chLineHigh n)
      c.raise (0x1020 + 0x100 * n) 1 (line % 2 ^ 40)
    else c
  else c

end Sys2Proof.Machine
end

