-- ==== Sys2Proof/Machine/LineClock.lean ====
section
/-! DEFINITION. Sys2Proof/Machine/LineClock.lean: the line clock synthesisers (R60 to R67). Positions and errors are
integers in 2^-32 tick, velocities in 2^-64 tick per sample, gains in 2^-96. -/

namespace Sys2Proof.Machine

/-- Pi in units of 2^-128, rounded down. -/
def pi128 : Nat := 1069028584064966747859680373161870783300

/-- A gain held with at least 24 significant bits: any number within one part in 2^24 of the exact one (R62, log 6). -/
def held24 (exact skew : Nat) : Nat := exact - exact / 2 ^ 24 + skew % (2 * (exact / 2 ^ 24) + 1)

/-- kp = 2 zeta omega T, in 2^-96 (R62). -/
def lcKp (c : Core) (i : Nat) : Nat :=
  let f := c.get (K.lcBandwidth i)
  let d := c.get (K.lcDamping i)
  held24 (pi128 * d * f * 2 / (10 ^ 11 * 2 ^ 32)) (Config.kpSkew f d)

/-- ki = (omega T)^2, in 2^-96 (R62). -/
def lcKi (c : Core) (i : Nat) : Nat :=
  let f := c.get (K.lcBandwidth i)
  held24 (pi128 * pi128 * f * f / (10 ^ 16 * 2 ^ 160)) (Config.kiSkew f)

/-- The largest number whose square does not exceed v, found bit by bit from bit n down. -/
def isqrtFrom (v : Nat) : Nat → Nat → Nat
  | 0, r => r
  | n + 1, r => if (r + 2 ^ n) * (r + 2 ^ n) ≤ v then isqrtFrom v n (r + 2 ^ n) else isqrtFrom v n r

/-- Integer square root of a number below 2^256. -/
def isqrt (v : Nat) : Nat := isqrtFrom v 128 0

/-- LCn.BW_EFF: the natural frequency in mHz that the held ki gives (R62): sqrt(ki) / (2 pi T). -/
def lcBwEff (c : Core) (i : Nat) : Nat :=
  (roundFree ((isqrt (lcKi c i * 2 ^ 160) * 10 ^ 11 : Nat) : Int) pi128).toNat

/-- Input delay in units of 1/5 sample (R61). -/
def lcDelay5 (c : Core) (i : Nat) : Nat := (c.get (K.encFilter i) + 1) * 5 + c.get (K.encDelayComp i)

/-- Count times ratio less the pending correction, in 2^-32 tick (R61). -/
def lcX (c : Core) (i : Nat) : Int :=
  c.geti (K.encCount i) * ((c.get (K.lcRatio i) : Nat) : Int) - (nth c.lcs i).pend

/-- The same with the input delay made good, as track mode uses it (R61). -/
def lcXTrack (c : Core) (i : Nat) (v : Int) : Int :=
  lcX c i + roundFree (v * ((lcDelay5 c i : Nat) : Int)) (5 * 2 ^ 32)

/-- Whether the synthesiser is enabled, and whether it is in track mode. -/
def lcOn (c : Core) (i : Nat) : Bool := c.get (K.lcEnable i) = 1

/-- Track mode (STATUS bit 0). -/
def lcTrack (c : Core) (i : Nat) : Bool := c.bitOf (K.lcStatus i) 0

/-- The synthesiser's new y delivered as the web position, with what follows from it: P holds against the direction of
track mode (R61), the high-water mark, and the correction slew (R67). -/
def lcDeliver (c : Core) (i : Nat) (y : Int) : Core :=
  let l := nth c.lcs i
  let travel := (y - l.y).natAbs
  let allow := travel * c.get (K.lcCorrSlew i) + l.slewRest
  let move := min (allow / 256) l.pend.natAbs
  let pend := if 0 ≤ l.pend then l.pend - (move : Int) else l.pend + (move : Int)
  let p := unsigned 48 (y / 2 ^ 32)
  let old := c.webPos i
  let p := if lcTrack c i then
      (if l.dirNeg then (if reached p old then old else p) else (if reached p old then p else old))
    else p
  let c := { c with lcs := upd c.lcs i fun (x : Lc) =>
    { x with y := y, pend := pend, slewRest := if pend = 0 then 0 else allow % 256 } }
  let c := c.set (K.lcPosition i) p
  let c := if reached p (c.get (K.lcHighWater i)) then c.set (K.lcHighWater i) p else c
  let c := c.satI (K.lcCorrPending i) (roundFree pend (2 ^ 32))
  c.setBitOf (K.lcStatus i) 5 (pend != 0)

/-- The error that the sample leaves, with the span for which it has stayed within LOCK_TOL (R64). -/
def lcError (c : Core) (i : Nat) (e : Int) : Core :=
  let ok := decide (e.natAbs ≤ c.get (K.lcLockTol i) * 2 ^ 32)
  let c := { c with lcs := upd c.lcs i fun (x : Lc) =>
    { x with e := e, okSince := if ok then some (x.okSince.getD c.sample) else none } }
  let c := c.satI (K.lcError i) (roundFree e (2 ^ 24))
  if ok then c else c.setBitOf (K.lcStatus i) 2 false

/-- One sample of synthesiser i (R61). -/
def lcSample (c : Core) (i : Nat) : Core :=
  if lcOn c i then
    let l := nth c.lcs i
    if lcTrack c i then
      let e := lcXTrack c i l.v - l.y
      let v := l.v + roundFree (((lcKi c i : Nat) : Int) * e) (2 ^ 64)
      let y := roundFree (l.y * 2 ^ 96 + v * 2 ^ 64 + ((lcKp c i : Nat) : Int) * e) (2 ^ 96)
      let c := { c with lcs := upd c.lcs i fun (x : Lc) => { x with v := v } }
      let c := c.satI (K.lcVelocity i) (roundFree (v * 200000000) (2 ^ 64))
      lcError (lcDeliver c i y) i e
    else lcDeliver (lcError c i 0) i (lcX c i)
  else c

/-- Edge mode entered, y taking x without a step (R63): locked, not settled, and no unlock condition. -/
def lcToEdge (c : Core) (i : Nat) : Core :=
  let c := c.setBitOf (K.lcStatus i) 0 false
  let c := c.setBitOf (K.lcStatus i) 2 false
  let c := if c.bitOf (K.lcStatus i) 1 then c else (c.setBitOf (K.lcStatus i) 1 true).endFault (0x0B50 + i) 1
  lcDeliver (lcError c i 0) i (lcX c i)

/-- Whether the last four count changes are of one sign, each at 1.25 times SLOW_RATE or faster (R63). -/
def lcFast (slow : Nat) (l : List (Nat × Int)) : Bool :=
  match l with
  | (s0, d0) :: (s1, d1) :: (s2, d2) :: (s3, d3) :: (s4, _) :: _ =>
    let same := (decide (0 < d0) && decide (0 < d1) && decide (0 < d2) && decide (0 < d3)) ||
      (decide (d0 < 0) && decide (d1 < 0) && decide (d2 < 0) && decide (d3 < 0))
    let fast := fun (d : Int) (dt : Nat) => decide (5 * slow * dt ≤ d.natAbs * 800000000)
    same && fast d0 (s0 - s1) && fast d1 (s1 - s2) && fast d2 (s2 - s3) && fast d3 (s3 - s4)
  | _ => false

/-- LCn.VELOCITY in edge mode: RATIO divided by the time between the last two count changes, signed (R63). -/
def lcEdgeVelocity (ratio : Nat) (l : List (Nat × Int)) : Int :=
  match l with
  | (s0, d0) :: (s1, _) :: _ =>
    if s0 ≤ s1 then 0
    else roundFree ((if d0 < 0 then -1 else 1) * ((ratio * 200000000 : Nat) : Int)) (2 ^ 32 * (s0 - s1))
  | _ => 0

/-- A count change of input i, stamped with a sample, reaches the synthesiser (R63): STILL clears, the mode may change,
and in edge mode the position follows at once. -/
def lcCountChange (c : Core) (i : Nat) (d : Int) (stamp : Nat) : Core :=
  if lcOn c i then
    let c := { c with lcs := upd c.lcs i fun (x : Lc) =>
      { x with changes := ((stamp, d) :: x.changes).take 5, lastChange := c.sample } }
    let c := (c.setBitOf (K.lcStatus i) 4 false).setBitOf (K.lcStatus i) 3 (decide (d < 0))
    let l := nth c.lcs i
    let ratio := c.get (K.lcRatio i)
    if lcTrack c i then
      if (decide (d < 0)) != l.dirNeg then
        let c := lcToEdge c i
        c.satI (K.lcVelocity i) (lcEdgeVelocity ratio l.changes)
      else c
    else if lcFast (c.get (K.lcSlowRate i)) l.changes then
      let dt := stamp - (l.changes.getD 1 (0, 0)).1
      let v := roundFree (d * ((ratio * 2 ^ 32 : Nat) : Int)) dt
      let c := { c with lcs := upd c.lcs i fun (x : Lc) =>
        { x with v := v, dirNeg := decide (d < 0), okSince := none } }
      let c := (c.setBitOf (K.lcStatus i) 0 true).setBitOf (K.lcStatus i) 1 true
      let c := c.satI (K.lcVelocity i) (roundFree (v * 200000000) (2 ^ 64))
      lcError (lcDeliver c i (lcXTrack c i v)) i 0
    else
      let c := c.satI (K.lcVelocity i) (lcEdgeVelocity ratio l.changes)
      lcDeliver (lcError c i 0) i (lcX c i)
  else c

/-- An index correction of the count by d adds to pend what the count gains, so that x is unchanged (R67). It is no count change
for the mode, STILL and REVERSE of R63 (DESIGN CHOICE, log 73). -/
def lcCorrect (c : Core) (i : Nat) (d : Int) : Core :=
  if lcOn c i then
    let c := { c with lcs := upd c.lcs i fun (x : Lc) =>
      { x with pend := x.pend + d * ((c.get (K.lcRatio i) : Nat) : Int) } }
    let pend := (nth c.lcs i).pend
    (c.satI (K.lcCorrPending i) (roundFree pend (2 ^ 32))).setBitOf (K.lcStatus i) 5 (pend != 0)
  else c

/-- A preset of the count clears pend (R67), and the position follows. It is no count change for R63 (DESIGN CHOICE, log 73). -/
def lcPreset (c : Core) (i : Nat) : Core :=
  let c := { c with lcs := upd c.lcs i fun (x : Lc) => { x with pend := 0, slewRest := 0 } }
  let c := (c.set (K.lcCorrPending i) 0).setBitOf (K.lcStatus i) 5 false
  if lcOn c i && !lcTrack c i then lcDeliver (lcError c i 0) i (lcX c i) else c

/-- What a write of LCn.ENABLE does beyond storing it: an enabled synthesiser starts in edge mode, locked, with its
high-water mark at its position; a disabled one keeps its position and reports no state. -/
def lcEnableWritten (c : Core) (i was v : Nat) : Core :=
  if was = v then c
  else if v = 1 then
    let c := { c with lcs := upd c.lcs i fun (x : Lc) =>
      { x with changes := [], enabledAt := c.sample, lastChange := c.sample, okSince := none, v := 0, e := 0 } }
    let c := (c.set (K.lcStatus i) 2).set (K.lcVelocity i) 0
    let x := lcX c i
    let c := { c with lcs := upd c.lcs i fun (l : Lc) => { l with y := x } }
    let p := unsigned 48 (x / 2 ^ 32)
    ((c.set (K.lcPosition i) p).set (K.lcHighWater i) p).setBitOf (K.lcStatus i) 5 ((nth c.lcs i).pend != 0)
  else (c.set (K.lcStatus i) 0).endFault (0x0B50 + i) 1

/-! ### The events of the synthesiser -/

/-- LC_TRACK_EXIT: in track mode, the speed in counts/s has fallen below SLOW_RATE (R63). -/
def lcTrackExit (i : Nat) (c : Core) : Core :=
  let v := (nth c.lcs i).v
  if lcOn c i && lcTrack c i &&
      decide (v.natAbs * 200000000 < c.get (K.lcSlowRate i) * c.get (K.lcRatio i) * 2 ^ 32) then
    let c := lcToEdge c i
    c.satI (K.lcVelocity i) (lcEdgeVelocity (c.get (K.lcRatio i)) (nth c.lcs i).changes)
  else c

/-- LC_STILL: in edge mode, no count change for STILL_TIME (R63). -/
def lcStill (i : Nat) (c : Core) : Core :=
  if lcOn c i && !lcTrack c i && !c.bitOf (K.lcStatus i) 4 &&
      decide ((nth c.lcs i).lastChange + c.get (K.lcStillTime i) * 200 ≤ c.sample) then
    (c.setBitOf (K.lcStatus i) 4 true).set (K.lcVelocity i) 0
  else c

/-- LC_UNLOCK: in track mode and locked, the error exceeds UNLOCK_TOL (R64). -/
def lcUnlock (i : Nat) (c : Core) : Core :=
  let e := (nth c.lcs i).e
  if lcOn c i && lcTrack c i && c.bitOf (K.lcStatus i) 1 &&
      decide (c.get (K.lcUnlockTol i) * 2 ^ 32 < e.natAbs) then
    ((c.setBitOf (K.lcStatus i) 1 false).bump (K.lcUnlocks i)).raiseHeld (0x0B50 + i) 1
      (satS 32 (roundFree e (2 ^ 32)))
  else c

/-- Whether the error has stayed within LOCK_TOL for LOCK_TIME in track mode (R64). -/
def lcSteady (c : Core) (i : Nat) : Bool :=
  lcOn c i && lcTrack c i &&
    match (nth c.lcs i).okSince with
    | none => false
    | some s => decide (s + c.get (K.lcLockTime i) * 200 ≤ c.sample)

/-- LC_RELOCK: an unlocked synthesiser has been steady for LOCK_TIME (R64). -/
def lcRelock (i : Nat) (c : Core) : Core :=
  if lcSteady c i && !c.bitOf (K.lcStatus i) 1 then
    (c.setBitOf (K.lcStatus i) 1 true).endFault (0x0B50 + i) 1
  else c

/-- LC_SETTLED: a synthesiser has been steady for LOCK_TIME (R64). -/
def lcSettled (i : Nat) (c : Core) : Core :=
  if lcSteady c i then c.setBitOf (K.lcStatus i) 2 true else c

end Sys2Proof.Machine
end

