-- ==== Sys2Proof/Machine/Firing.lean ====
section
/-! DEFINITION. Sys2Proof/Machine/Firing.lean: fire positions and fire times, duty protection and head temperature
(spec/05). -/

namespace Sys2Proof.Machine

/-- The firing state of a channel changed. -/
def Core.updFire (c : Core) (n : Nat) (f : ChFire → ChFire) : Core := { c with fires := upd c.fires n f }

/-! ### Fire positions -/

/-- Fire position in ticks of channel line L, row r, group g (R117). -/
def Core.firePos (c : Core) (n line row group : Nat) : Nat :=
  let g := max 1 (c.get (K.chGroups n))
  let k := if c.get (K.chGroupRotate n) = 0 then group else (((group : Int) - line) % (g : Int)).toNat
  256 * line + c.get (K.chRowPhase n row) + 256 * k / g

/-- Phase group of element e (R118). -/
def Core.groupOf (c : Core) (n e : Nat) : Nat :=
  let g := max 1 (c.get (K.chGroups n))
  if c.get (K.chGroupMap n) = 0 then e % g else e / max 1 (c.get (K.chGroupRun n)) % g

/-- A fire event put among the pending ones in order of position, behind those of the same position. -/
def fireInsert (x : FireEv) : List FireEv → List FireEv
  | [] => [x]
  | y :: r => if x.pos < y.pos then x :: y :: r else y :: fireInsert x r

/-- The fire events of a fired line: one for each row named by a valid segment and each group (R119). -/
def Core.fireEvents (c : Core) (n line : Nat) : List FireEv :=
  (c.rowsOf n).flatMap fun (r : Nat) => (List.range (max 1 (c.get (K.chGroups n)))).map fun (g : Nat) =>
    { line := line, row := r, group := g, pos := c.firePos n line r g }

/-- The fire events of a line become pending. -/
def fireQueue (n line : Nat) (c : Core) : Core :=
  let evs := c.fireEvents n line
  c.updFire n fun (x : ChFire) =>
    { x with pending := evs.foldl (fun (l : List FireEv) (e : FireEv) => fireInsert e l) x.pending }

/-- F - y of R120 in 2^-32 tick: the position of a fire event less P_n with its fraction. -/
def Core.fireDist (c : Core) (n pos : Nat) : Int :=
  let i := c.get (K.chClockSrc n)
  let y := (nth c.lcs i).y
  let off := c.get (K.chBarOffset n)
  posDiff (pos % posMod) (unsigned 48 (y / 2 ^ 32 - (off : Int))) * 2 ^ 32 - y % 2 ^ 32

/-- Whether the next pending event may be issued, and the fire time it would carry, in 0.25 ns (R120). -/
def Core.fireTime (c : Core) (n pos : Nat) : Option Int :=
  let i := c.get (K.chClockSrc n)
  let d := c.fireDist n pos
  let lead := c.get (K.chFireLead n)
  let now4 : Int := roundFree ((c.time * 4 : Nat) : Int) (2 ^ 32)
  if lcTrack c i then
    let v := (nth c.lcs i).v
    if d * (5 * 2 ^ 32) ≤ v * lead then some (now4 + roundFree (d * (20 * 2 ^ 32) * v.sign) v.natAbs) else none
  else if d ≤ 0 then some (now4 + 4 * (lead : Int)) else none

/-- The events of a list, in order of position, up to the first that f gives no fire time yet, with their fire times. -/
def markEvents (f : Nat → Option Int) : List FireEv → List FireEv
  | [] => []
  | e :: r =>
    match e.due with
    | some _ => e :: markEvents f r
    | none =>
      match f e.pos with
      | none => e :: r
      | some t => { e with due := some t } :: markEvents f r

/-- Each pending event of channel n whose cycle R120 names has come takes its fire time from that cycle; the block may still
have to wait for its frame (R151). -/
def fireMark (n : Nat) (c : Core) : Core :=
  match (nth c.fires n).pending.find? fun (e : FireEv) => e.due.isNone with
  | none => c
  | some e =>
    if (c.fireTime n e.pos).isNone then c
    else c.updFire n fun (x : ChFire) => { x with pending := markEvents (c.fireTime n) x.pending }

/-- R120's clamp and R122's gap applied to a fire time: the time, with the machine that counts and reports. -/
def fireSettle (n row : Nat) (tF : Int) (c : Core) : Nat × Core :=
  let least : Int := roundFree ((c.time * 4 : Nat) : Int) (2 ^ 32) + 4 * (c.get (K.chLinkLatency n) : Nat)
  let (t, c) := if tF < least then
      (least, ((c.bump (K.chFiresLate n)).raise (0x1070 + 0x100 * n) 1 (satU 32 (roundFree (least - tF) 4).toNat)))
    else (tF, c)
  let gap : Int := 4 * (c.get (K.chGroupGap n) : Nat)
  match (nth c.fires n).rowLast.getD row none with
  | some last => if t < last + gap then ((last + gap).toNat, c.bump (K.chFiresSpread n)) else (t.toNat, c)
  | none => (t.toNat, c)

/-- Fires of channel n that a reversal reaches before their positions are dropped, with every later one, in every state of the
channel (R123, R225). An event whose cycle R120 has named is issued. -/
def dropReversed (n : Nat) (c : Core) : Core :=
  if c.beam || !c.bitOf (K.lcStatus (c.get (K.chClockSrc n))) 3 then c
  else
    let p := (nth c.fires n).pending
    let keep := p.takeWhile fun (e : FireEv) => e.due.isSome || reached (c.sheetPos n) (e.pos % posMod)
    match p.drop keep.length with
    | [] => c
    | e :: r =>
      let c := c.updFire n fun (x : ChFire) => { x with pending := keep }
      (c.addTo (K.chFiresDropped n) (r.length + 1)).raise (0x1071 + 0x100 * n) 1 (e.line % 2 ^ 40)

/-- The same for every channel. -/
def dropReversedAll (c : Core) : Core := (List.range 8).foldl (fun (c : Core) (n : Nat) => dropReversed n c) c

/-! ### Duty protection -/

/-- The mask M[l mod 4][e mod 4] (R128). -/
def maskRows : List (List Nat) := [[0, 8, 2, 10], [12, 4, 14, 6], [3, 11, 1, 9], [15, 7, 13, 5]]

/-- The mask value of element e in image line l (R128). -/
def maskOf (l : Int) (e : Nat) : Nat := (maskRows.getD (l % 4).toNat []).getD (e % 4) 0

/-- Drop weight of a level (R126). -/
def Core.weight (c : Core) (n lvl : Nat) : Nat := if lvl = 0 then 0 else field (c.get (K.chDropWeight n)) (4 * lvl + 3) (4 * lvl)

/-- Largest weight among the levels of the depth (R126). -/
def Core.wMax (c : Core) (n : Nat) : Nat :=
  (List.range (2 ^ c.get (K.chElemDepth n) - 1)).foldl (fun (a k : Nat) => max a (c.weight n (k + 1))) 0

/-- A bound of R126 for a head of e elements. -/
def Core.headBound (c : Core) (n part e : Nat) : Nat := part * c.get (K.chHeadWin n) * e * c.wMax n / 65536

/-- Sum of the weights a head fired in lines lo to hi - 1 (R126). -/
def windowSum (w : List (Nat × Nat)) (lo hi : Int) : Nat :=
  w.foldl (fun (a : Nat) (p : Nat × Nat) => if decide (lo ≤ (p.1 : Int)) && decide ((p.1 : Int) < hi) then a + p.2 else a) 0

/-- kept(k): weight of the levels of a head at elements whose mask value is below k (R127). -/
def Core.kept (c : Core) (n : Nat) (l : Int) (levels : List (Nat × Nat)) (k : Nat) : Nat :=
  levels.foldl (fun (a : Nat) (p : Nat × Nat) => if maskOf l p.1 < k then a + c.weight n p.2 else a) 0

/-- The largest k in 0..16 whose kept weight fits (R127). -/
def Core.kfit (c : Core) (n : Nat) (l : Int) (levels : List (Nat × Nat)) (room : Nat) : Nat → Nat
  | 0 => 0
  | k + 1 => if c.kept n l levels (k + 1) ≤ room then k + 1 else c.kfit n l levels room k

/-- ksoft of R127. -/
def ksoft (s lim soft : Nat) : Nat := if s ≤ soft then 16 else if lim ≤ s then 0 else 16 * (lim - s) / (lim - soft)

/-- Whether head h is hot, for the reaction of R131. -/
def Core.headHot (c : Core) (n h : Nat) : Bool := c.bitOf (K.chHeadHotMap n) h

/-- The keep count K_h of head h for channel line L and whether the guard acted (R127). -/
def Core.keepCount (c : Core) (n h line : Nat) (s : Seg) (levels : List (Nat × Nat)) : Nat × Bool :=
  let l : Int := (line : Int) - (c.rowDelay n s.row : Nat)
  let prev := elemAt 8 (c.get (K.chHeadK n)) h
  let ktemp := if (nth c.fires n).thinned.testBit h && c.headHot n h then c.get (K.chTempThin n) else 16
  if c.get (K.chHeadLimit n) = 0 then (min (min (prev + 1) 16) ktemp, false)
  else
    let e := s.hi - s.lo
    let lim := c.headBound n (c.get (K.chHeadLimit n)) e
    let soft := c.headBound n (c.get (K.chHeadSoft n)) e
    let w := (nth c.fires n).heads.getD h []
    let sSum := windowSum w ((line : Int) - (c.get (K.chHeadWin n) : Nat)) line
    let s' := windowSum w ((line : Int) - (c.get (K.chHeadWin n) : Nat) + 1) line
    let kf := if lim < s' then 0 else c.kfit n l levels (lim - s') 16
    let free := min (min (prev + 1) (ksoft sSum lim soft)) ktemp
    (min free kf, decide (kf < free))

/-- The element histories of a channel up to the line before L: bit j is line L - 1 - j. Every channel line counts, also those that
the channel did not fire (R125); lines at or above L, of an arm before on other web positions, do not. -/
def histTo (line : Nat) (f : ChFire) : List (Nat × Nat) :=
  if line ≤ f.histLine || f.histLine + 32 < line then []
  else f.hist.filterMap fun (p : Nat × Nat) =>
    let v := p.2 * 2 ^ (line - 1 - f.histLine) % 2 ^ 32
    if v = 0 then none else some (p.1, v)

/-- An element fired at least ELEM_MAX times in the previous ELEM_WIN - 1 channel lines (R124, R125). -/
def Core.elemSpent (c : Core) (n line e : Nat) : Bool :=
  let mx := c.get (K.chElemMax n)
  mx != 0 && decide (mx ≤ popcount (c.get (K.chElemWin n) - 1) (sget 0 (histTo line (nth c.fires n)) e))

/-- What duty limiting makes of the levels of one head at a keep count: levels left, fires thinned, fires suppressed. -/
def Core.dutyLevels (c : Core) (n line k : Nat) (l : Int) (levels : List (Nat × Nat)) : List (Nat × Nat) × Nat × Nat :=
  levels.foldr (fun (p : Nat × Nat) (a : List (Nat × Nat) × Nat × Nat) =>
    if k ≤ maskOf l p.1 then (a.1, a.2.1 + 1, a.2.2)
    else if c.elemSpent n line p.1 then (a.1, a.2.1, a.2.2 + 1)
    else (p :: a.1, a.2.1, a.2.2)) ([], 0, 0)

/-- Duty limiting of head h at channel line L (R124 to R128): its levels, and the machine with K_h, the counters, the
window and the guard. -/
def dutyHead (n h line : Nat) (s : Seg) (levels : List (Nat × Nat)) (c : Core) : List (Nat × Nat) × Bool × Core :=
  let l : Int := (line : Int) - (c.rowDelay n s.row : Nat)
  let (k, guard) := c.keepCount n h line s levels
  let (out, thin, sup) := c.dutyLevels n line k l levels
  let c := c.set (K.chHeadK n) (setElem 8 (c.get (K.chHeadK n)) h k)
  let c := (c.addTo (K.chThinned n) thin).addTo (K.chSuppressed n) sup
  let w := out.foldl (fun (a : Nat) (p : Nat × Nat) => a + c.weight n p.2) 0
  let keepFrom := line - c.get (K.chHeadWin n)
  let c := c.updFire n fun (x : ChFire) => { x with heads := (upd x.heads h fun (q : List (Nat × Nat)) =>
    (if w = 0 then [] else [(line, w)]) ++ q.filter fun (p : Nat × Nat) => decide (keepFrom ≤ p.1) && decide (p.1 < line)) }
  (out, guard, if guard then (c.bump (K.chDutyGuardLines n)).raise (0x1080 + 0x100 * n) 1 (2 ^ 56 * h + k) else c)

/-- The heads of a channel line, one after another, and whether the guard acted for one. -/
def dutyHeads (n line : Nat) (levels : List (Nat × Nat)) : Nat → List Seg → Core → List (Nat × Nat) × Bool × Core
  | _, [], c => ([], false, c)
  | h, s :: r, c =>
    let mine := levels.filter fun (p : Nat × Nat) => decide (s.lo ≤ p.1) && decide (p.1 < s.hi)
    let (out, guard, c) := dutyHead n h line s mine c
    let (rest, more, c) := dutyHeads n line levels (h + 1) r c
    (out ++ rest, guard || more, c)

/-- The element histories with channel line L recorded: bit 0 is line L (R124). -/
def histShift (hist levels : List (Nat × Nat)) : List (Nat × Nat) :=
  levels.foldl (fun (m : List (Nat × Nat)) (p : Nat × Nat) => sput 0 m p.1 (sget 0 m p.1 + 1))
    (hist.filterMap fun (p : Nat × Nat) => if p.2 * 2 % 2 ^ 32 = 0 then none else some (p.1, p.2 * 2 % 2 ^ 32))

/-- Duty limiting of channel line L (R124); a consumed line passes no levels, and GUARD stays that of the last fired line (R136).
Inactive in beam mode (R133). -/
def dutyLine (n line : Nat) (fired : Bool) (levels : List (Nat × Nat)) (c : Core) : List (Nat × Nat) × Core :=
  if c.beam then (levels, c)
  else
    let (out, guard, c) := dutyHeads n line levels 0 (c.segs n) c
    let c := if fired then c.setBitOf (K.chFireStatus n) 3 guard else c
    let c := c.updFire n fun (x : ChFire) => { x with hist := histShift (histTo line x) out, histLine := line }
    let thin := (List.range 64).any fun (h : Nat) => decide (elemAt 8 (c.get (K.chHeadK n)) h < 16)
    (out, c.setBitOf (K.chFireStatus n) 1 thin)

/-- The protection state at arm: every K_h is 16 (R127), counted lines and events start again. -/
def fireArm (n : Nat) (c : Core) : Core :=
  let c := c.set (K.chHeadK n) (K.chHeadK n).dflt
  let c := (c.set (K.chLinesFired n) 0).setBitOf (K.chFireStatus n) 1 false
  c.updFire n fun (x : ChFire) => { x with armTime := c.clock }

/-! ### Head temperature -/

/-- The FIRE_STATUS bits HOT and STALE (R132, R136): some head is hot; a monitored head has no recent report. -/
def hotBits (n : Nat) (c : Core) : Core :=
  (c.setBitOf (K.chFireStatus n) 0 (c.get (K.chHeadHotMap n) != 0)).setBitOf (K.chFireStatus n) 2
    ((nth c.fires n).old != 0)

/-- Head h becomes hot (R130), under the reaction that CHn.TEMP_REACTION then names (R131). -/
def headHot (n h : Nat) (c : Core) : Core :=
  let c := (c.setBitOf (K.chHeadHotMap n) h true).bump (K.chHotEvents n)
  c.updFire n fun (x : ChFire) => { x with thinned := setBit x.thinned h (c.get (K.chTempReaction n) = 1) }

/-- Head h becomes cool (R130); a fault ends when no head keeps its condition. -/
def headCool (n h : Nat) (c : Core) : Core :=
  let c := c.setBitOf (K.chHeadHotMap n) h false
  let c := c.updFire n fun (x : ChFire) => { x with stale := setBit x.stale h false, thinned := setBit x.thinned h false }
  let st := (nth c.fires n).stale
  let c := if st = 0 then c.endFault (0x1091 + 0x100 * n) 1 else c
  let c := if c.get (K.chHeadHotMap n) = c.get (K.chHeadHotMap n) &&& st then c.endFault (0x1090 + 0x100 * n) 1 else c
  hotBits n c

/-- Whether head h has a valid segment and is monitored (R130). -/
def Core.monitored (c : Core) (n h : Nat) : Bool :=
  c.bitOf (K.chTempMask n) h && decide (h < (c.segs n).length) && !c.beam

/-- A temperature report of head h, in 0.1 degree (R130). -/
def headReport (n h : Nat) (t : Int) (c : Core) : Core :=
  let c := c.set (K.chHeadTemp n) (setElem 16 (c.get (K.chHeadTemp n)) h (unsigned 16 t))
  let c := (c.updFire n fun (x : ChFire) =>
    { x with reports := x.reports.set h c.clock, old := setBit x.old h false }).markFresh 6 n h
  let lim := c.geti (K.chTempLimit n)
  if c.monitored n h && decide (lim ≤ t) then
    let wasStale := (nth c.fires n).stale.testBit h
    let c := c.updFire n fun (x : ChFire) => { x with stale := setBit x.stale h false }
    let c := if (nth c.fires n).stale = 0 then c.endFault (0x1091 + 0x100 * n) 1 else c
    if c.headHot n h && !wasStale then hotBits n c
    else hotBits n ((headHot n h c).raiseHeld (0x1090 + 0x100 * n) 1 (2 ^ 56 * h + unsigned 16 t))
  else if decide (t ≤ lim - (c.get (K.chTempHyst n) : Nat)) && c.headHot n h then headCool n h c
  else hotBits n c

/-- A write of CHn.TEMP_MASK: a head whose bit is 0 is removed from all temperature protection (R130, R131). -/
def tempMasked (n : Nat) (c : Core) : Core :=
  (List.range 64).foldl (fun (c : Core) (h : Nat) =>
    if c.bitOf (K.chTempMask n) h then c
    else
      let c := c.updFire n fun (x : ChFire) => { x with old := setBit x.old h false }
      if c.headHot n h then headCool n h c else hotBits n c) c

/-- Whether staleness is judged: the channel is ARMED, RUNNING, HELD or DRAINING (R130). -/
def Core.staleJudged (c : Core) (n : Nat) : Bool :=
  let st := c.get (K.chState n)
  decide (2 ≤ st) && decide (st ≤ 5)

/-- HEAD_TEMP_STALE: no report of a monitored head within TEMP_STALE (R130). A head that is hot already only has no recent
report. -/
def headTempStale (n h : Nat) (c : Core) : Core :=
  let f := nth c.fires n
  let last := f.reports.getD h 0
  if c.monitored n h && c.staleJudged n && !f.old.testBit h &&
      decide (max last f.armTime + c.get (K.chTempStale n) * 1000 ≤ c.clock) then
    let c := c.updFire n fun (x : ChFire) => { x with old := setBit x.old h true }
    if c.headHot n h then hotBits n c
    else
      let c := headHot n h c
      let c := c.updFire n fun (x : ChFire) => { x with stale := setBit x.stale h true }
      hotBits n (c.raiseHeld (0x1091 + 0x100 * n) 1 (2 ^ 56 * h + satU 32 ((c.clock - last) / 1000)))
  else c

/-- Staleness ends, and heads that are hot only through it cool, when the channel leaves the states in which it is judged
(R130). -/
def staleLeave (n : Nat) (c : Core) : Core :=
  if c.staleJudged n then c
  else
    let c := hotBits n (c.updFire n fun (x : ChFire) => { x with old := 0 })
    (bitsOf 64 (nth c.fires n).stale).foldl (fun (c : Core) (h : Nat) => headCool n h c) c

end Sys2Proof.Machine
end

