-- ==== Sys2Proof/Machine/ScanPage.lean ====
section
/-! DEFINITION. Sys2Proof/Machine/ScanPage.lean: the scan drive, the Scan Linearisation Table, the Volta shifts and the scan parameter pages
of the beam boards (R187 to R190). Sines are computed to 96 fractional bits (DEDUCED, log 58). -/

namespace Sys2Proof.Machine

/-- The scale of the fixed-point numbers here, and pi in it. -/
def fix96 : Nat := 2 ^ 96
def pi96 : Nat := pi128 / 2 ^ 32

/-- A power series x + t - ... with terms t_(k+1) = -t_k x^2 / (k (k + 1)), summed over n terms. -/
def trigSeries (x : Int) : Nat → Nat → Int → Int → Int
  | 0, _, _, acc => acc
  | n + 1, k, t, acc =>
    let t' := -(t * x / fix96 * x / fix96 / ((k * (k + 1) : Nat) : Int))
    trigSeries x n (k + 2) t' (acc + t')

/-- Cosine and sine of an angle within pi, in 2^-96. -/
def cosFix (x : Int) : Int := trigSeries x 30 1 fix96 fix96
def sinFix (x : Int) : Int := trigSeries x 30 2 x x

/-- The angle in [-pi/2, pi/2] whose sine is p / a, found bit by bit. -/
def arcsinFrom (p a : Int) : Nat → Int → Int
  | 0, x => x
  | n + 1, x => if sinFix (x + ((2 ^ n : Nat) : Int)) * a ≤ p * fix96 then arcsinFrom p a n (x + ((2 ^ n : Nat) : Int))
    else arcsinFrom p a n x

/-- Arcsine of p / a for |p| < a, in 2^-96: the search adds the steps 2^97 and below while it stays at or below the angle. -/
def arcsinFix (p a : Int) : Int :=
  if p < 0 then -(arcsinFrom (-p) a 97 0) else arcsinFrom p a 97 0

/-- Half a scan period in 2^-32 ns times a whole number of half-periods: k / (2 f) (R175). -/
def Core.halfPeriods (c : Core) (k : Int) : Int :=
  roundNear (k * ((500000000000 * 2 ^ 32 : Nat) : Int)) (max 1 (c.get K.beamScanFreq))

/-- 1 / (4 f) in 2^-32 ns. -/
def Core.quarterPeriod (c : Core) : Int :=
  roundNear ((250000000000 * 2 ^ 32 : Nat) : Int) (max 1 (c.get K.beamScanFreq))

/-! ### The scan drive (R176) -/

/-- The increment of the drive's 48-bit phase accumulator in a cycle; SCAN_FREQ is in mHz. -/
def Core.driveStep (c : Core) : Nat := max 1 (roundFree ((c.get K.beamScanFreq * 2 ^ 48 : Nat) : Int) 200000000000).toNat

/-- Device time of the drive's j-th rising edge from now, edge 0 being the last one that has been: the first cycle at which the
accumulator has passed j turns. -/
def Core.driveEdgeAt (c : Core) (j : Int) : Int :=
  (c.time : Int) + c.cycleTime * -(((c.drivePhase : Int) - j * ((2 ^ 48 : Nat) : Int)) / (c.driveStep : Int))

/-- Device time of the last rising edge of the drive at or before a time. -/
def Core.driveEdgeBefore (c : Core) (t : Int) : Int :=
  c.driveEdgeAt (((c.drivePhase : Int) + (t - (c.time : Int)) / c.cycleTime * (c.driveStep : Int)) / ((2 ^ 48 : Nat) : Int))

/-- The next sweep to be committed (R183). -/
def Core.nextSweep (c : Core) (n : Nat) : Nat := if (nth c.scans n).any then c.get (K.chSweep n) + 1 else 0

/-! ### The table and the pages -/

/-- Knot j of a table, up to 4,096; T_4096 is 2 T_4095 - T_4094 (R187). -/
def knotOf (t : List (Nat × Nat)) (j : Nat) : Int :=
  if j < 4096 then signed 32 (sget 0 t j) else 2 * signed 32 (sget 0 t 4095) - signed 32 (sget 0 t 4094)

/-- Boundary time T(e) of a table in 1/64 ns (R187). -/
def boundaryTime (t : List (Nat × Nat)) (e : Nat) : Int :=
  knotOf t (e / 8) + (knotOf t (e / 8 + 1) - knotOf t (e / 8)) * ((e % 8 : Nat) : Int) / 8

/-- Boundary time T(e) of the channel's table in 1/64 ns (R187). -/
def Core.pixelTime (c : Core) (n e : Nat) : Int := boundaryTime (nth c.scans n).knots e

/-- p of R187 for knot j, in 1/64 pixel. -/
def Core.knotPos (c : Core) (n j : Nat) : Int := c.geti (K.chScanX0 n) + 512 * (j : Int)

/-- The generated knot T_j, when |p| is below the amplitude (R187). -/
def Core.knotGen (c : Core) (n j : Nat) : Int :=
  roundNear (arcsinFix (c.knotPos n j) (c.get (K.chScanAmplSet n) : Nat) * 64000000000000)
    (2 * pi96 * max 1 (c.get K.beamScanFreq))

/-- Whether p of knot j lies inside the amplitude. -/
def Core.knotInside (c : Core) (n j : Nat) : Bool :=
  decide ((c.knotPos n j).natAbs < c.get (K.chScanAmplSet n))

/-- The generated table; a knot whose p does not lie inside the amplitude has no value the spec states: it is free. -/
def genKnots (n : Nat) : List Nat → Core → List (Nat × Nat) → List (Nat × Nat) × Core
  | [], c, acc => (acc, c)
  | j :: r, c, acc =>
    let (v, c) := if c.knotInside n j then (unsigned 32 (c.knotGen n j), c) else c.freeVal 32
    genKnots n r c (sput 0 acc j v)

/-- A Volta offset as a time shift in 1/64 ns (R189); free while CHn.SCAN_AMPL_SET is 0, for which no value is stated. -/
def voltaShift (n : Nat) (v : Int) (c : Core) : Int × Core :=
  let a := c.get (K.chScanAmplSet n)
  if a = 0 then
    let (x, c) := c.freeVal 32
    (signed 32 x, c)
  else (roundNear (v * ((64000000000000 * 2 ^ 128 : Nat) : Int)) (2 * pi128 * max 1 (c.get K.beamScanFreq) * a), c)

/-- Beams to a lane. -/
def Core.laneBeams (c : Core) (n : Nat) : Nat := max 1 (c.get (K.chBeams n) / 4)

/-- What a new page of channel n holds (R189, R192): the acquisition page or the run page. -/
def pageVals (n : Nat) (acq : Bool) (c : Core) : PageVals × Core :=
  let (fwd, c) := voltaShift n (c.geti (K.chVoltaFwd n)) c
  let (rev, c) := voltaShift n (c.geti (K.chVoltaRev n)) c
  let q := (roundNear (64000000000000 : Int) (4 * max 1 (c.get K.beamScanFreq))).toNat
  let t := fun (o : Obj) => 64 * c.get o
  ({ fwd := fwd, rev := -rev, t1 := if acq then q else t (K.chSenseT1 n), t2 := if acq then q else t (K.chSenseT2 n),
     w := if acq then q else t (K.chSenseW n), apcStart := 64 * c.geti (K.chApcStart n),
     apcLen := if acq then 0 else t (K.chApcLen n), knots := (nth c.scans n).knots }, c)

/-- Offsets 0x0008 to 0x403F of a scan parameter page for lane k of channel n (R190). -/
def Core.pageBytes (c : Core) (n k : Nat) (v : PageVals) : List Byte :=
  let b := c.get (K.chSenseBeam n)
  let sense := if b / c.laneBeams n = k then b % c.laneBeams n else 0xFF
  let f4 := fun (v : Nat) => bytesLE 4 v
  f4 (unsigned 32 v.fwd) ++ f4 (unsigned 32 v.rev) ++ f4 v.t1 ++ f4 v.t2 ++ f4 v.w ++ f4 (unsigned 32 v.apcStart) ++
    f4 v.apcLen ++ bytesLE 1 sense ++ List.replicate 27 0#8 ++
    (List.range 4096).flatMap fun (j : Nat) => f4 (sget 0 v.knots j)

/-- The 8-byte header of a page that applies at a sweep (R190). -/
def pageHeader (sweep : Nat) : List Byte := bytesLE 2 (2 ^ 15 + sweep % 2 ^ 15) ++ List.replicate 6 0#8

/-- Board byte address of page p (R190). -/
def pageAddr (p : Nat) : Nat := 0x40000000 + 0x10000 * p

/-- The power block of lane k: the setpoints of its beams (R190, R194). -/
def powerBlock (c : Core) (n k : Nat) : List Byte :=
  (List.range 8).flatMap fun (j : Nat) =>
    bytesLE 2 (if j < c.laneBeams n then elemAt 16 (c.get (K.chBeamPower n)) (k * c.laneBeams n + j) else 0)

end Sys2Proof.Machine
end

