-- ==== Sys2Proof/Machine/LinkTx.lean ====
section
/-! DEFINITION. Sys2Proof/Machine/LinkTx.lean: the forward direction of a Kuntelink lane (spec/06): blocks of 66 bits, the
scrambler, and the schedule of rounds of 17 slots (R142 to R150). A command puts blocks in a lane's queues; the slots pass
with the 200 MHz cycles, one every 5.28 ns. -/

namespace Sys2Proof.Machine

/-- A lane changed. -/
def Core.updLane (c : Core) (m : Nat) (f : Lane → Lane) : Core := { c with lanes := upd c.lanes m f }

/-- Source number of a fault of lane m in the row of the given base (R172). -/
def klSource (base m : Nat) : Nat := base + 0x100 * (m / 4) + m % 4

/-- A control block put in the queue of lane m (R144, R145). -/
def Core.block (c : Core) (m typ f : Nat) : Core :=
  c.updLane m fun (x : Lane) => { x with ctl := x.ctl ++ [(typ, f % 2 ^ 48)] }

/-- Device time in units of 0.25 ns: link time (R144). -/
def Core.link (c : Core) : Nat := c.time * 4 / 2 ^ 32

/-- The channel's link-return queue holds a block that has arrived, with its stamps (R17, R159). -/
def retArrive (m typ : Nat) (c : Core) : Core :=
  { c with returns := upd c.returns (m / 4) fun (q : List RetBlock) =>
      q ++ [{ lane := m, typ := typ, time := c.now, pos := c.chPos (m / 4) }] }

/-- The block at the front of a link-return queue has been acted on. -/
def retDone (m : Nat) (c : Core) : Core := { c with returns := upd c.returns (m / 4) fun (q : List RetBlock) => q.drop 1 }

/-- The fill level of channel n's link-return queue (R25). -/
def Core.retFill (c : Core) (n : Nat) : Nat := (nth c.returns n).length

/-- A record of channel n about a return block, stamped with the block's arrival (R17, R159). -/
def Core.recordRet (c : Core) (k n src code payload : Nat) : Core :=
  match (nth c.returns n).head? with
  | some b => c.recordChAt k n src code payload b.time b.pos
  | none => c.recordCh k n src code payload

/-- Whether lane m is UP. -/
def Core.laneUp (c : Core) (m : Nat) : Bool := c.get (K.klState m) = 3

/-- Whether every lane of channel n that carries elements is UP: all four always carry some (R139). -/
def Core.lanesUp (c : Core) (n : Nat) : Bool := (List.range 4).all fun (k : Nat) => c.laneUp (4 * n + k)

/-- Whether the link domain of lane m is on (R26). -/
def Core.linkOn (c : Core) (m : Nat) : Bool := c.bitOf K.devPdStatus (if m < 16 then 15 else 16)

/-- Whether lane m may train: enabled, its domain on, and the device not in SAFE (R165). -/
def Core.mayTrain (c : Core) (m : Nat) : Bool :=
  c.get (K.klEnable m) = 1 && c.linkOn m && c.get K.devState != 8

/-! ### Elements on a lane -/

/-- Lane elements of channel n: E in nozzle mode, W in beam mode (R137, R138). -/
def Core.laneElems (c : Core) (n : Nat) : Nat := if c.beam then c.get (K.chWidth n) else c.get (K.chWidth n) / 4

/-- Whether lane k carries line L: always in nozzle mode; the lane of its beam in beam mode (R138). -/
def Core.laneCarries (c : Core) (n k line : Nat) : Bool :=
  !c.beam || decide (line % max 4 (c.get (K.chBeams n)) / c.laneBeams n = k)

/-- The levels of a line on lane k, by lane element index (R137, R138, R188). A sweep is reversed when its number is odd. -/
def Core.laneLevels (c : Core) (n k : Nat) (b : LineBuf) : List (Nat × Nat) :=
  if c.beam then
    if !c.laneCarries n k b.line then []
    else
      let w := c.get (K.chWidth n)
      let rev := decide (b.line / max 4 (c.get (K.chBeams n)) % 2 = 1)
      b.levels.map fun (p : Nat × Nat) => (if rev then w - 1 - p.1 else p.1, p.2)
  else
    let e := c.laneElems n
    b.levels.filterMap fun (p : Nat × Nat) =>
      if decide (k * e ≤ p.1) && decide (p.1 < (k + 1) * e) then some (p.1 - k * e, p.2) else none

/-- The data blocks of a frame as bytes (R148). -/
def Core.frameBytes (c : Core) (n : Nat) (levels : List (Nat × Nat)) : List Byte :=
  let d := c.get (K.chElemDepth n)
  bytesLE (8 * ceilDiv (c.laneElems n * d) 64)
    (levels.foldl (fun (a : Nat) (p : Nat × Nat) => a ||| (p.2 <<< (p.1 * d))) 0)

/-! ### Frames to be sent -/

/-- Whether the board's buffer for a line is free (R150). -/
def Core.bufferFree (c : Core) (n line : Nat) : Bool :=
  if c.beam then
    let s := line / max 4 (c.get (K.chBeams n))
    decide (s ≤ c.get (K.chSweep n) + 1)
  else
    let f := nth c.fires n
    f.pending.all (fun (e : FireEv) => decide (line < e.line + 4)) &&
      f.lastFire.all (fun (p : Nat × Nat) => decide (line < p.1 + 4) || decide (p.2 ≤ c.link))

/-- The line whose frame lane m opens next: lines to be sent again first, then the oldest not yet framed (R152). -/
def Core.nextFrame (c : Core) (m : Nat) : Option Nat :=
  let l := nth c.lanes m
  let n := m / 4
  match l.resend with
  | x :: _ => some x
  | [] =>
    (((nth c.imgs n).bufs.map fun (b : LineBuf) => b.line).reverse).find? fun (x : Nat) =>
      !l.framed.contains x && c.laneCarries n (m % 4) x

/-- Whether a line frame is ready to be opened on lane m (R145, R150): in beam mode the SWEEP block of the sweep before has
been sent. -/
def Core.lineReady (c : Core) (m : Nat) : Bool :=
  let l := nth c.lanes m
  c.laneUp m && l.openLine.isNone && !(l.ctl.any fun (b : Nat × Nat) => b.1 = 0x5B) &&
    (c.nextFrame m).any fun (x : Nat) => c.bufferFree (m / 4) x

/-- A frame has been sent whole. -/
def frameDone (m line : Nat) (c : Core) : Core :=
  c.updLane m fun (x : Lane) => { x with openLine := none, lineQ := [], framed := (line :: x.framed).take 256 }

/-! ### Blocks on the wire -/

/-- A control block as header and payload (R142, R143): type, the six bytes of F, CRC-8. -/
def ctlBlock (typ f : Nat) : Nat × Nat :=
  let b := bytesLE 1 typ ++ bytesLE 6 f
  (2, natLE (b ++ bytesLE 1 (crc8 b)))

/-- Bytes as data blocks, eight to a block, B0 first (R142). -/
def dataBlocks (l : List Byte) : List (Nat × Nat) :=
  (List.range (ceilDiv l.length 8)).map fun (i : Nat) => (1, leAt l (8 * i) 8)

/-- A frame (R147): its opening block, the data blocks, and the closing block with their count and CRC-32. -/
def frameBlocks (first last f : Nat) (data : List Byte) : List (Nat × Nat) :=
  ctlBlock first f :: dataBlocks data ++ [ctlBlock last (2 ^ 32 * (data.length / 8) + crc32 data)]

/-- The scrambler 1 + x^39 + x^58 (R142) over the 64 bits of a payload, the first bit sent in bit 0: what is sent, and the
scrambler after it. -/
def scramble (s p : Nat) : Nat × Nat :=
  (List.range 64).foldl (fun (a : Nat × Nat) (t : Nat) =>
    let b := b2n ((p.testBit t ^^ a.2.testBit 38) ^^ a.2.testBit 57)
    (a.1 + 2 ^ t * b, (2 * a.2 + b) % 2 ^ 58)) (0, s)

/-- A block leaves on lane m. -/
def sendBlock (m : Nat) (b : Nat × Nat) (c : Core) : Core :=
  let r := scramble (nth c.lanes m).scr b.2
  (c.updLane m fun (x : Lane) => { x with scr := r.2 }).emit (.wire m b.1 r.1)

/-! ### The forward schedule (R145) -/

/-- Place of a control block in the order of slot 0. -/
def ctlRank (typ : Nat) : Nat :=
  if typ = 0x5A || typ = 0x5B then 0 else if typ = 0x55 then 1 else if typ = 0x3C then 2 else 3

/-- The control block that slot 0 takes: the oldest of the first rank that waits. -/
def ctlPick (q : List (Nat × Nat)) : Option (Nat × Nat) :=
  (List.range 4).findSome? fun (r : Nat) => q.find? fun (b : Nat × Nat) => ctlRank b.1 = r

/-- The number of the block slot that lasts at a time of the 200 MHz clock: 66 / 12.5 Gbaud = 5.28 ns each. The rounds of all
lanes are counted from reset (log 80). -/
def slotOf (clock : Nat) : Nat := clock * 100 / 528

/-- Link time at which the first bit of the present slot's header left (R153). -/
def Core.slotLink (c : Core) : Nat := (c.time * 400 / 2 ^ 32 - c.clock * 100 % 528 * 4) / 100

/-- What a slot holds when nothing waits: TRAIN in training and while the lane is DOWN (R164, R165), else IDLE. -/
def Core.filler (c : Core) (m : Nat) : Nat × Nat :=
  let st := c.get (K.klState m)
  if st = 1 || st = 4 then (0x33, 256 * m + (nth c.lanes m).txStage) else (0x0F, 0)

/-- The control block due, or the filler. SYNC and ECHO_REQ carry the link time at which they leave (R144, R153). -/
def sendCtl (m : Nat) (c : Core) : Core :=
  match ctlPick (nth c.lanes m).ctl with
  | none => sendBlock m (ctlBlock (c.filler m).1 (c.filler m).2) c
  | some b =>
    let f := if b.1 = 0x55 || b.1 = 0x96 then c.slotLink % 2 ^ 48 else b.2
    sendBlock m (ctlBlock b.1 f) (c.updLane m fun (x : Lane) => { x with ctl := x.ctl.erase b })

/-- The next block of the open line frame leaves; after the last one the frame is complete (R151). -/
def sendLine (m line : Nat) (c : Core) : Core :=
  match (nth c.lanes m).lineQ with
  | [] => frameDone m line c
  | b :: r =>
    let c := sendBlock m b (c.updLane m fun (x : Lane) => { x with lineQ := r })
    if r = [] then frameDone m line c else c

/-- The next block of the bulk frame leaves; from the last one on its acknowledgement is awaited (R157). -/
def sendBulk (m : Nat) (c : Core) : Core :=
  match (nth c.lanes m).bulkQ with
  | [] => c
  | b :: r =>
    sendBlock m b (c.updLane m fun (x : Lane) =>
      { x with bulkQ := r, bulkOpen := r != [], bulk := x.bulk.map fun (j : BulkJob) => { j with sentAt := c.clock } })

/-- One slot of lane m (R145). An OFF lane sends nothing, but for the SAFE KEEPALIVE still due (R171). -/
def laneSlot (slot m : Nat) (c : Core) : Core :=
  let l := nth c.lanes m
  if c.get (K.klState m) = 0 then
    match l.lastKeep with
    | none => c
    | some f =>
      if slot = 0 then sendBlock m (ctlBlock 0x3C f) (c.updLane m fun (x : Lane) => { x with lastKeep := none })
      else sendBlock m (ctlBlock 0x0F 0) c
  else if slot = 0 || decide (2 ≤ (l.ctl.filter fun (b : Nat × Nat) => ctlRank b.1 = 0).length) then sendCtl m c
  else match l.openLine with
    | some line => sendLine m line c
    | none => if l.bulkQ != [] && (l.bulkOpen || !c.lineReady m) then sendBulk m c else sendCtl m c

/-- The lanes in a cycle: the slot that began in it, if one did. -/
def linkTick (c : Core) : Core :=
  if slotOf (c.clock - 5) = slotOf c.clock then c
  else (List.range 32).foldl (fun (c : Core) (m : Nat) => laneSlot (slotOf c.clock % 17) m c) c

/-- Blocks that leave on lane m one after the other. -/
def sendAll (m : Nat) (l : List (Nat × Nat)) (c : Core) : Core :=
  l.foldl (fun (c : Core) (b : Nat × Nat) => sendBlock m b c) c

end Sys2Proof.Machine
end

