-- ==== Sys2Proof/Machine/Link.lean ====
section
/-! DEFINITION. Sys2Proof/Machine/Link.lean: the Kuntelink (spec/06): line frames, fire issue, board registers, bulk
transfers, bring-up, keep-alive and loss; and the switch of scan parameter pages, which rides on bulk transfers (R192). -/

namespace Sys2Proof.Machine

/-! ### Board registers -/

/-- Sends the next register access that waits on lane m, if none is outstanding. -/
def ctrlNext (m : Nat) (c : Core) : Core :=
  let l := nth c.lanes m
  match l.ctrl, l.todo with
  | none, (w, a, d) :: r =>
    let c := c.updLane m fun (x : Lane) => { x with todo := r, ctrl := (some
      { write := w, addr := a, data := d, attempts := 1, sentAt := c.clock, host := false }) }
    c.block m (if w then 0x87 else 0x8B) (a * 2 ^ 32 + (if w then d else 0))
  | _, _ => c

/-- The board registers 0x0010 to 0x0014 and 0x0020 to 0x005F as the channel's configuration gives them (R158). -/
def Core.boardConfig (c : Core) (m : Nat) : List (Bool × Nat × Nat) :=
  let n := m / 4
  let k := m % 4
  let d := c.get (K.chElemDepth n)
  let first := if c.beam then k * c.laneBeams n else k * c.laneElems n
  let fmt := (if c.beam then 256 * c.laneBeams n + 16 else 0) + (if d = 1 then 0 else if d = 2 then 1 else 2)
  let grp := 65536 * c.get (K.chGroupRun n) + 16 * c.get (K.chGroupMap n) + c.get (K.chGroups n)
  [(true, 0x11, c.laneElems n), (true, 0x12, first), (true, 0x13, fmt), (true, 0x14, grp)] ++
    (List.range 64).map fun (s : Nat) => (true, 0x20 + s, elemAt 32 (c.get (K.chSegments n)) s)

/-- At arm the controller writes 0x0011 to 0x0014 and 0x0020 to 0x005F of every lane again (R167). -/
def boardRewrite (n : Nat) (c : Core) : Core :=
  (List.range 4).foldl (fun (c : Core) (k : Nat) =>
    let m := 4 * n + k
    let cfg := c.boardConfig m
    ctrlNext m (c.updLane m fun (x : Lane) => { x with todo := x.todo ++ cfg })) c

/-- CHn.LINK_LATENCY: the largest lambda + FIRE_SETUP + 89.76 ns of the channel's lanes, in whole ns, rounded up (R166). -/
def Core.linkLatency (c : Core) (n : Nat) : Nat :=
  (List.range 4).foldl (fun (a k : Nat) =>
    let l := nth c.lanes (4 * n + k)
    max a (ceilDiv (l.lambda * 25 + sget 0 l.board 5 * 100 + 8976) 100)) 0

/-- The forward latency from the 16 round trips and LAT_ASYM, rounded to 0.25 ns (R166). -/
def latencySet (m : Nat) (c : Core) : Core :=
  let l := nth c.lanes m
  let sum := l.trips.foldl (fun (a t : Nat) => a + t) 0
  let v := (roundNear ((sum : Int) + 16 * signed 32 (sget 0 l.board 6)) 32).toNat
  let c := c.updLane m fun (x : Lane) => { x with lambda := v }
  let c := c.set (K.klLatency m) (v * 250)
  c.satN (K.chLinkLatency (m / 4)) (c.linkLatency (m / 4))

/-! ### Bulk transfers -/

/-- The bytes of the next frame of a bulk transfer, at most 4 KiB; none when DRAM gives a bad burst (R157, R266). -/
def bulkFrame (mem : List Host.Cell) (m : Nat) (b : BulkJob) (c : Core) : Option (List Byte) × Core :=
  let n := min 4096 (b.len - b.done)
  if b.kind = 0 then
    let (bad, c) := c.hubRead (3 + 4 * (m / 4)) 0 (b.src + b.done) n
    match bad with
    | none => (some (c.readBytes mem (b.src + b.done) n), c)
    | some _ => (none, c)
  else (some (slice b.data b.done n), c)

/-- LINK_CTRL_FAIL of lane m (R156, R157). -/
def ctrlFail (m addr status : Nat) (c : Core) : Core :=
  c.raise (klSource 0x10BC m) 1 (addr * 2 ^ 32 + status % 4)

/-- A phase of a page switch has failed on lane m: no header goes out and the lanes keep their page (R192). What a commit
changed is taken back and staged again. -/
def switchFail (m : Nat) (c : Core) : Core :=
  let n := m / 4
  match (nth c.scans n).switch with
  | none => c
  | some s =>
    if s.phase2 then c
    else
      let c := { c with scans := upd c.scans n fun (x : Scan) => { x with switch := none } }
      let c := s.undo.foldl (fun (c : Core) (u : Nat × Nat × Nat × Nat) =>
        let (k, d, before, after) := u
        let again := if (c.stagedOf k).isNone then stagePut { key := k, value := after } c.staged else c.staged
        { c with objs := sput d c.objs k before, staged := again }) c
      c.raise (0x10D4 + 0x100 * n) 1 (2 ^ 56 * m)

/-- A bulk transfer of lane m ends; the next one that waits begins. -/
def bulkEnd (m : Nat) (ok : Bool) (c : Core) : Core :=
  match (nth c.lanes m).bulk with
  | none => c
  | some b =>
    let c := c.updLane m fun (x : Lane) => { x with bulk := none }
    let n := m / 4
    if b.kind = 0 then c.set (K.klBulkStatus m) (if ok then 2 else 3)
    else if b.kind = 1 then
      (if ok then { c with scans := upd c.scans n fun (x : Scan) => { x with switch := x.switch.map fun (s : PageSwitch) =>
        { s with left1 := markDel m s.left1 } } } else switchFail m c)
    else if b.kind = 2 then
      (if ok then { c with scans := upd c.scans n fun (x : Scan) => { x with switch := x.switch.map fun (s : PageSwitch) =>
        { s with left2 := markDel m s.left2 } } } else c)
    else c

/-- Puts the next frame of the bulk transfer of lane m, or its last one again, in the lane's queue. A transfer that meets a bad burst ends as
failed. -/
def bulkSend (mem : List Host.Cell) (m : Nat) (c : Core) : Core :=
  match (nth c.lanes m).bulk with
  | none => c
  | some b =>
    match bulkFrame mem m b c with
    | (none, c) => ctrlFail m 0x3FFF 2 (bulkEnd m false c)
    | (some data, c) =>
      c.updLane m fun (x : Lane) =>
        { x with bulk := some { b with attempts := b.attempts + 1, sentAt := c.clock },
                 bulkQ := frameBlocks 0x78 0x7B ((b.dst + b.done) % 2 ^ 32) data, bulkOpen := false }

/-- The next bulk transfer of the controller's own begins when lane m is free. -/
def bulkNext (mem : List Host.Cell) (m : Nat) (c : Core) : Core :=
  let l := nth c.lanes m
  match l.bulk, l.queue with
  | none, b :: r => bulkSend mem m (c.updLane m fun (x : Lane) => { x with bulk := some b, queue := r })
  | _, _ => c

/-- Whether lane m sends bulk frames: it is UP, or it receives the page in use before it comes UP (R164, R192). -/
def Core.bulkLane (c : Core) (m : Nat) : Bool := c.laneUp m || c.get (K.klState m) = 2

/-- A bulk transfer of the controller's own put in the queue of lane m; its bytes are held with it. A lane that is lost
sends no frames (R170), so the transfer fails there. -/
def bulkQueue (m kind dst : Nat) (data : List Byte) (c : Core) : Core :=
  if !c.bulkLane m then (if kind = 1 then switchFail m c else c)
  else bulkNext [] m (c.updLane m fun (x : Lane) => { x with queue := x.queue ++
    [{ kind := kind, src := 0, dst := dst, len := data.length, done := 0, attempts := 0, sentAt := 0, data := data }] })

/-- The effect of an accepted write of KLm.BULK_GO (R157). -/
def bulkGo (mem : List Host.Cell) (m : Nat) (c : Core) : Core :=
  let b : BulkJob := { kind := 0, src := c.get (K.klBulkSrc m), dst := c.get (K.klBulkDst m),
                       len := c.get (K.klBulkLen m), done := 0, attempts := 0, sentAt := 0, data := [] }
  bulkSend mem m ((c.updLane m fun (x : Lane) => { x with bulk := some b }).set (K.klBulkStatus m) 1)

/-- A frame of a bulk transfer was not acknowledged in time, or was refused: it is repeated, or the transfer fails after
the fourth attempt (R157). -/
def bulkRetry (mem : List Host.Cell) (m status : Nat) (c : Core) : Core :=
  match (nth c.lanes m).bulk with
  | none => c
  | some b =>
    if b.attempts < 4 then bulkSend mem m (c.bump (K.klCtrlRetries m))
    else bulkNext mem m (ctrlFail m 0x3FFF status (bulkEnd m false c))

/-! ### Page switches -/

/-- The start of a page switch (R192): phase 1 to every lane. The acquisition page at the entry to ACQUIRE applies at sweep 0. -/
def switchStart (n kind : Nat) (undo : List (Nat × Nat × Nat × Nat)) (c : Core) : Core :=
  let s := nth c.scans n
  let lanes := (List.range 4).map fun (k : Nat) => 4 * n + k
  let apply := if kind = 0 then 0 else c.nextSweep n + c.get (K.chScanApplyLead n) - 1
  let (vals, c) := pageVals n (kind = 0 || kind = 3) c
  let sw : PageSwitch := { apply := apply, left1 := lanes, left2 := lanes, phase2 := false, kind := kind,
                           slt := (c.get (K.chSltStatus n)).testBit 7, vals := vals, undo := undo }
  let c := { c with scans := upd c.scans n fun (x : Scan) => { x with switch := some sw, again := none } }
  (List.range 4).foldl (fun (c : Core) (k : Nat) =>
    if (nth c.scans n).switch.isNone then c
    else bulkQueue (4 * n + k) 1 (pageAddr (1 - s.page) + 8) (c.pageBytes n k vals) c) c

/-- SCAN_PAGE_PHASE2: every lane has acknowledged phase 1; the headers go out (R192). -/
def scanPagePhase2 (n : Nat) (c : Core) : Core :=
  let s := nth c.scans n
  match s.switch with
  | none => c
  | some w =>
    if w.phase2 || w.left1 != [] then c
    else
      let c := { c with scans := upd c.scans n fun (x : Scan) => { x with switch := some { w with phase2 := true } } }
      (List.range 4).foldl (fun (c : Core) (k : Nat) =>
        bulkQueue (4 * n + k) 2 (pageAddr (1 - s.page)) (pageHeader w.apply) c) c

/-- SLT_PENDING clears when phase 2 has succeeded on every lane (R192). -/
def switchAcked (n : Nat) (c : Core) : Core :=
  match (nth c.scans n).switch with
  | some w => if w.phase2 && w.left2 = [] && w.slt then c.setBitOf (K.chSltStatus n) 7 false else c
  | none => c

/-- Whether C(APPLY - 1) of a page switch has come, given C(-1) (R192). -/
def Core.splitDue (c : Core) (n : Nat) (w : PageSwitch) (first : Int) : Bool :=
  if w.apply = 0 then decide (first ≤ (c.time : Int)) else (nth c.scans n).any && decide (w.apply ≤ c.get (K.chSweep n) + 1)

/-! ### Lane states -/

/-- Lane m takes a state of R164. -/
def laneState (m s : Nat) (c : Core) : Core := c.set (K.klState m) s

/-- Whatever was in progress on a lane that is no longer UP ends: accesses and bulk transfers as failed. -/
def laneDrop (m : Nat) (c : Core) : Core :=
  let l := nth c.lanes m
  let host := match l.ctrl with
    | some a => a.host
    | none => false
  let c := if host then c.set (K.klCtrlStatus m) 3 else c
  let fails := (match l.bulk with | some b => [b] | none => []) ++ l.queue
  let c := if l.bulk.any fun (b : BulkJob) => b.kind = 0 then c.set (K.klBulkStatus m) 3 else c
  let c := c.updLane m fun (x : Lane) =>
    { x with ctrl := none, todo := [], bulk := none, queue := [], openLine := none, resend := [], ctl := [], lineQ := [],
             bulkQ := [], bulkOpen := false }
  if fails.any fun (b : BulkJob) => b.kind = 1 then switchFail m c else c

/-- A lane goes OFF: disabled, its domain off, or the device in SAFE or in reset (R164, R171). -/
def laneOff (m : Nat) (c : Core) : Core :=
  (laneState m 0 (laneDrop m (c.updLane m fun (x : Lane) => { x with locked := false, txStage := 0, rxStage := 0 }))).endFault
    (klSource 0x10B0 m) 1

/-- A lane is lost while UP (R170). -/
def laneLost (m reason : Nat) (c : Core) : Core :=
  if c.laneUp m then
    let c := laneDrop m c
    let c := c.updLane m fun (x : Lane) => { x with locked := false, txStage := 0, rxStage := 0 }
    let c := (laneState m 4 c).bump (K.klLockLosses m)
    c.raiseHeld (klSource 0x10B0 m) 1 reason
  else c

/-- Training of lane m fails with a reason (R165 to R167). -/
def trainFail (m reason : Nat) (c : Core) : Core :=
  let c := laneDrop m c
  let c := c.updLane m fun (x : Lane) => { x with failedAt := c.clock, locked := false }
  (laneState m 5 c).raise (klSource 0x10B4 m) 1 reason

/-- Step 1 of R165: from here on TRAIN, stage 0, is in every slot (`Core.filler`). -/
def trainBegin (m : Nat) (c : Core) : Core :=
  let c := c.updLane m fun (x : Lane) =>
    { x with txStage := 0, rxStage := 0, locked := false, bothSince := none, trainStart := c.clock, echoSent := 0,
             trips := [], echoTry := 0, todo := [], ctrl := none, ctl := [], lastKeep := none }
  laneState m 1 c

/-- LANE_TRAIN_START (R165): from OFF, or from DOWN with AUTO_RETRAIN. -/
def laneTrainStart (m : Nat) (c : Core) : Core :=
  let s := c.get (K.klState m)
  if c.mayTrain m && (s = 0 || (s = 4 && c.get (K.klAutoRetrain m) = 1)) then trainBegin m c else c

/-- KL_RETRY_TIMER: a new attempt 1 s after FAILED (R164). -/
def klRetryTimer (m : Nat) (c : Core) : Core :=
  if c.get (K.klState m) = 5 && c.mayTrain m && decide ((nth c.lanes m).failedAt + 1000000000 ≤ c.clock) then trainBegin m c
  else c

/-- KL_TRAIN_TIMEOUT: not UP within TRAIN_TIMEOUT of step 1 (R165). -/
def klTrainTimeout (m : Nat) (c : Core) : Core :=
  let s := c.get (K.klState m)
  if (s = 1 || s = 2) && decide ((nth c.lanes m).trainStart + c.get (K.klTrainTimeout m) * 1000000 ≤ c.clock) then
    trainFail m 1 c
  else c

/-- When both sides send stage 1, the time is noted (R165 step 4). -/
def stageBoth (m : Nat) (c : Core) : Core :=
  let l := nth c.lanes m
  if l.bothSince.isNone && decide (1 ≤ l.txStage) && decide (1 ≤ l.rxStage) then
    c.updLane m fun (x : Lane) => { x with bothSince := some c.clock }
  else c

/-- KL_BLOCK_LOCK: 64 valid return headers; the echoed lane number is checked, and stage 1 goes out (R165 step 3). -/
def klBlockLock (m echo : Nat) (c : Core) : Core :=
  let l := nth c.lanes m
  if c.get (K.klState m) = 1 && !l.locked then
    let c := c.updLane m fun (x : Lane) => { x with locked := true, rxAt := c.clock }
    if echo != m then trainFail m 2 c
    else stageBoth m (c.updLane m fun (x : Lane) => { x with txStage := 1, rxStage := max 1 x.rxStage })
  else c

/-- KL_STAGE_TIMER: both sides have sent stage 1 for 1 ms; stage 2 goes out (R165 step 4). -/
def klStageTimer (m : Nat) (c : Core) : Core :=
  let l := nth c.lanes m
  match l.bothSince with
  | some t =>
    if c.get (K.klState m) = 1 && l.txStage = 1 && decide (t + 1000000 ≤ c.clock) then
      c.updLane m fun (x : Lane) => { x with txStage := 2 }
    else c
  | none => c

/-- A valid return block of a type has arrived on lane m (R159, R170). -/
def heard (m typ : Nat) (c : Core) : Core := retArrive m typ (c.updLane m fun (x : Lane) => { x with rxAt := c.clock })

/-- Whether return blocks of lane m are received: it has block lock and its domain is on. -/
def Core.hears (c : Core) (m : Nat) : Bool := c.linkOn m && (nth c.lanes m).locked && c.get (K.klState m) != 0

/-- TRAIN received: the loss of an UP lane (R170); in training, the stage the board has reached (R165). -/
def trainRx (m laneNo stage : Nat) (c : Core) : Core :=
  if c.laneUp m then retDone m (laneLost m 4 (heard m 0x33 c))
  else if c.get (K.klState m) = 1 && c.hears m then
    let c := heard m 0x33 c
    retDone m (if laneNo != m then trainFail m 2 c
      else stageBoth m (c.updLane m fun (x : Lane) => { x with rxStage := max x.rxStage stage }))
  else c

/-- ECHO_REQ_DUE: in step 5, one of 16 requests, one every 10 us (R165). -/
def echoReqDue (m : Nat) (c : Core) : Core :=
  let l := nth c.lanes m
  if c.get (K.klState m) = 1 && l.txStage = 2 && l.rxStage = 2 && decide (l.echoSent < 16) &&
      (l.echoSent = 0 || decide (l.echoAt + 10000 ≤ c.clock)) then
    (c.updLane m fun (x : Lane) => { x with echoSent := x.echoSent + 1, echoAt := c.clock }).block m 0x96 0
  else c

/-- Step 6 begins: KLm.STATE 2 and the reads of 0x0000 to 0x0006 (R165). -/
def configBegin (m : Nat) (c : Core) : Core :=
  let c := c.updLane m fun (x : Lane) => { x with board := [], todo := (List.range 7).map fun (a : Nat) => (false, a, 0) }
  ctrlNext m (laneState m 2 c)

/-- ECHO_RSP: one round trip; after the 16th, the spread is judged and the latency computed (R166). -/
def echoRsp (m t1 tau t4 : Nat) (c : Core) : Core :=
  let l := nth c.lanes m
  if c.hears m && c.get (K.klState m) = 1 && decide (l.trips.length < l.echoSent) then
    let c := heard m 0x99 c
    let trip := (t4 + (2 ^ 24 - t1 % 2 ^ 24)) % 2 ^ 24 - tau
    let c := c.updLane m fun (x : Lane) => { x with trips := trip :: x.trips }
    let trips := trip :: l.trips
    retDone m (if trips.length < 16 then c
      else
        let hi := trips.foldl max 0
        let lo := trips.foldl min hi
        if 8 < hi - lo then
          (if 2 ≤ l.echoTry then trainFail m 3 c
          else c.updLane m fun (x : Lane) => { x with trips := [], echoSent := 0, echoTry := x.echoTry + 1 })
        else configBegin m (latencySet m c))
  else c

/-- The lane comes UP (R165 step 7, R481): frames of lines with events still to issue are due again (R170). -/
def laneUpNow (m : Nat) (c : Core) : Core :=
  let n := m / 4
  let open_ := (nth c.fires n).pending.map fun (e : FireEv) => e.line
  let done := ((nth c.imgs n).bufs.map fun (b : LineBuf) => b.line).filter fun (l : Nat) => !open_.contains l
  let c := c.updLane m fun (x : Lane) => { x with framed := done, keepAt := c.clock, rxAt := c.clock, openLine := none }
  let c := ((laneState m 3 c).bump (K.klTrainings m)).endFault (klSource 0x10B0 m) 1
  c.recordCh (6 * n + 2) n (klSource 0x10B0 m) 3 (2 ^ 48 * m + c.get (K.klLatency m))

/-- CAPS lacks the mode, the depth or the element count in use (R167). -/
def Core.capsLack (c : Core) (m caps : Nat) : Bool :=
  let n := m / 4
  let d := c.get (K.chElemDepth n)
  !caps.testBit (if c.beam then 19 else 18) || !caps.testBit (if d = 1 then 13 else if d = 2 then 14 else 15) ||
    decide (field caps 10 0 * 32 < c.laneElems n)

/-- In beam mode a lane that trains while the scan is in ACQUIRE or LOCKED receives the page in use (R192). -/
def pageInUse (m : Nat) (c : Core) : Core :=
  let n := m / 4
  let st := c.get (K.chScanState n)
  if c.beam && (st = 2 || st = 3) then
    let s := nth c.scans n
    bulkQueue m 4 (pageAddr s.page) (pageHeader (c.nextSweep n))
      (bulkQueue m 4 (pageAddr s.page + 8) (c.pageBytes n (m % 4) s.vals) c)
  else c

/-- The reads of step 6 are in: the checks of R167, LAT_ASYM in the latency, then the writes. -/
def configRead (m : Nat) (c : Core) : Core :=
  let b := (nth c.lanes m).board
  let t := sget 0 b 0
  let c := ((c.set (K.klBoardType m) t).set (K.klBoardSerial m) (sget 0 b 2 + 2 ^ 32 * sget 0 b 3)).set (K.klBoardCaps m)
    (sget 0 b 4)
  let want := c.get (K.klExpectType m)
  if t = 0 || (want != 0 && t != want) then trainFail m 4 c
  else if c.capsLack m (sget 0 b 4) then trainFail m 5 c
  else
    let c := latencySet m c
    let w := (true, 0x10, (nth c.lanes m).lambda) :: c.boardConfig m
    ctrlNext m (c.updLane m fun (x : Lane) => { x with todo := w })

/-- In CONFIG, with no access and no bulk transfer left, the lane comes UP. -/
def configDone (m : Nat) (c : Core) : Core :=
  let l := nth c.lanes m
  if c.get (K.klState m) = 2 && l.ctrl.isNone && l.todo = [] && l.bulk.isNone && l.queue = [] &&
      decide (7 ≤ l.board.length) then laneUpNow m c
  else c

/-- An access of the controller's own is answered with status 0. -/
def ctrlOwn (m : Nat) (a : CtrlAcc) (data : Nat) (c : Core) : Core :=
  if c.get (K.klState m) = 2 && !a.write then
    let c := c.updLane m fun (x : Lane) => { x with board := x.board ++ [(a.addr, data)] }
    if a.addr = 6 then configRead m c else ctrlNext m c
  else
    let last := (nth c.lanes m).todo = []
    let c := ctrlNext m c
    if c.get (K.klState m) = 2 && last then configDone m (pageInUse m c) else c

/-- An acknowledgement of the bulk frame at a board address (R157): what of the frame has not been passed by the slots yet has
left by then (log 80). -/
def bulkAck (mem : List Host.Cell) (m status data : Nat) (c : Core) : Core :=
  match (nth c.lanes m).bulk with
  | none => c
  | some b =>
    if data != (b.dst + b.done) % 2 ^ 32 then c
    else
      let c := sendAll m (nth c.lanes m).bulkQ (c.updLane m fun (x : Lane) => { x with bulkQ := [], bulkOpen := false })
      if status != 0 then bulkRetry mem m status c
      else
        let done := min b.len (b.done + 4096)
        let c := c.updLane m fun (x : Lane) => { x with bulk := some { b with done := done, attempts := 0 } }
        if done < b.len then bulkSend mem m c
        else configDone m (bulkNext mem m (switchAcked (m / 4) (bulkEnd m true c)))

/-- CTRL_ACK: ends a register access, or acknowledges a bulk frame (R156, R157). -/
def ctrlAck (mem : List Host.Cell) (m status addr data : Nat) (c : Core) : Core :=
  if !c.hears m then c
  else
    let c := heard m 0xA5 c
    let l := nth c.lanes m
    retDone m <| if addr = 0x3FFF then bulkAck mem m status data c
    else
      match l.ctrl with
      | none => c
      | some a =>
        if a.addr != addr then c
        else
          let c := c.updLane m fun (x : Lane) => { x with ctrl := none }
          if status = 0 then
            if a.host then
              let c := c.set (K.klCtrlStatus m) 2
              ctrlNext m (if a.write then c else c.set (K.klCtrlData m) data)
            else ctrlOwn m a data c
          else
            let c := if a.host then c.set (K.klCtrlStatus m) 4 else c
            ctrlNext m (ctrlFail m addr status c)

/-- The effect of an accepted write of KLm.CTRL_GO (R156). -/
def ctrlStart (m : Nat) (write : Bool) (c : Core) : Core :=
  let a := c.get (K.klCtrlAddr m)
  let d := c.get (K.klCtrlData m)
  let c := c.updLane m fun (x : Lane) => { x with ctrl := (some
    { write := write, addr := a, data := d, attempts := 1, sentAt := c.clock, host := true }) }
  (c.set (K.klCtrlStatus m) 1).block m (if write then 0x87 else 0x8B) (a * 2 ^ 32 + (if write then d else 0))

/-- A register access unanswered for 20 us is repeated, and fails after the fourth attempt (R156). The status field of
LINK_CTRL_FAIL has no stated value when no answer came: it is free. -/
def ctrlLate (m : Nat) (c : Core) : Core :=
  match (nth c.lanes m).ctrl with
  | none => c
  | some a =>
    if c.clock < a.sentAt + 20000 then c
    else if a.attempts < 4 then
      let c := (c.bump (K.klCtrlRetries m)).updLane m fun (x : Lane) =>
        { x with ctrl := some { a with attempts := a.attempts + 1, sentAt := c.clock } }
      c.block m (if a.write then 0x87 else 0x8B) (a.addr * 2 ^ 32 + (if a.write then a.data else 0))
    else
      let (st, c) := c.freeVal 2
      let c := c.updLane m fun (x : Lane) => { x with ctrl := none }
      let c := if a.host then c.set (K.klCtrlStatus m) 3 else c
      ctrlNext m (ctrlFail m a.addr st c)

/-- A bulk frame unanswered 20 us after its last block left is repeated, under the rules of R156 (R157). -/
def bulkLate (mem : List Host.Cell) (m : Nat) (c : Core) : Core :=
  match (nth c.lanes m).bulk with
  | none => c
  | some b =>
    if (nth c.lanes m).bulkQ != [] || decide (c.clock < b.sentAt + 20000) then c
    else
      let (st, c) := if b.attempts < 4 then (0, c) else c.freeVal 2
      bulkRetry mem m st c

/-- KL_CTRL_TIMEOUT: an access and a bulk frame unanswered within 20 us (R156, R157). -/
def klCtrlTimeout (mem : List Host.Cell) (m : Nat) (c : Core) : Core := bulkLate mem m (ctrlLate m c)

/-! ### Return blocks -/

/-- The head that local head j of lane k names: the j-th valid segment whose first column lies in the lane (R160). -/
def Core.localHead (c : Core) (n k j : Nat) : Option Nat :=
  let e := c.laneElems n
  let hs := ((c.segs n).mapIdx fun (h : Nat) (s : Seg) => (h, s)).filter fun (p : Nat × Seg) =>
    decide (k * e ≤ p.2.lo) && decide (p.2.lo < (k + 1) * e)
  hs[j]?.map fun (p : Nat × Seg) => p.1

/-- TEMP (R160): a report of a head, and with KLm.TEMP_RECORDS a record. No rule says when a status sample is written or what
it carries: beside these records the ring of R25's status samples receives none (log 81). -/
def tempBlock (m j t sensor : Nat) (c : Core) : Core :=
  if !c.hears m then c
  else
    let c := heard m 0xC3 c
    let n := m / 4
    let head := c.localHead n (m % 4) (j % 64)
    let bad := sensor % 2 = 1
    let c := match head with
      | some h => if bad then c else headReport n h (signed 16 t) c
      | none => c
    retDone m (if c.get (K.klTempRecords m) = 1 then
        c.recordRet (6 * n + 3) n (klSource 0x10B0 m) 2
          (2 ^ 48 * m + 2 ^ 16 * (t % 65536) + 128 * b2n bad + 64 * b2n head.isNone + head.getD (j % 64))
      else c)

/-- NOZZLE (R161): a record in the nozzle-health ring. -/
def nozzleBlock (m i value health : Nat) (c : Core) : Core :=
  if !c.hears m then c
  else
    let n := m / 4
    let e := if c.beam then i else m % 4 * c.laneElems n + i
    retDone m ((heard m 0xC6 c).recordRet (6 * n + 4) n (klSource 0x10B0 m) 1
      (2 ^ 48 * m + 2 ^ 32 * (value % 65536) + 2 ^ 24 * (health % 256) + e % 2 ^ 17))

/-- FAULT (R162): BOARD_FAULT of the lane. -/
def faultBlock (m code severity detail : Nat) (c : Core) : Core :=
  if !c.hears m then c
  else retDone m ((heard m 0xCC c).raise (klSource 0x10C0 m) 1
    (2 ^ 48 * (code % 65536) + 2 ^ 46 * (severity % 4) + detail % 2 ^ 30))

/-- STATUS (R163): the board's counts are added; SAFE takes an UP lane DOWN (R170). -/
def statusBlock (m : Nat) (safe : Bool) (blank late invalid : Nat) (c : Core) : Core :=
  if !c.hears m then c
  else
    let c := ((heard m 0xD2 c).addTo (K.klBoardBadBlocks m) (invalid % 65536)).addTo (K.klBoardLateFires m) (late % 256)
    let c := c.addTo (K.klBoardBlankFires m) (blank % 256)
    retDone m (if safe then laneLost m 3 c else c)

/-- LINE_NAK (R152): the frame is sent again, or the line is lost. -/
def lineNak (m line : Nat) (c : Core) : Core :=
  if !c.hears m || !c.laneUp m then c
  else
    let n := m / 4
    let c := (heard m 0xE1 c).bump (K.klNaks m)
    retDone m <| match ((nth c.imgs n).bufs.find? fun (b : LineBuf) => b.line % 2 ^ 24 = line % 2 ^ 24) with
    | none => (c.bump (K.klLinesLost m)).raise (klSource 0x10B8 m) 1 (line % 2 ^ 40)
    | some b =>
      if (nth c.fires n).issued.contains b.line then
        (c.bump (K.klLinesLost m)).raise (klSource 0x10B8 m) 1 (b.line % 2 ^ 40)
      else
        (c.bump (K.klResends m)).updLane m fun (x : Lane) =>
          { x with resend := x.resend ++ [b.line], framed := markDel b.line x.framed }

/-- Types of return blocks (R144). -/
def returnTypes : List Nat := [0x0F, 0x33, 0x99, 0xA5, 0xC3, 0xC6, 0xCC, 0xD2, 0xE1]

/-- Whether a received control block's descrambled payload is valid: a type of the return direction, and its CRC-8 (R143). -/
def ctlValid (p : Nat) : Bool :=
  returnTypes.contains (p % 256) && decide (crc8 (bytesLE 7 p) = p / 2 ^ 56 % 256)

/-- KL_INVALID_BLOCK: a block with an invalid header, or an invalid control block, is discarded and counted (R143). So is a
data block: the return direction has no frame for it to lie in (R147); it counts with the control blocks (log 82). -/
def klInvalidBlock (m header p : Nat) (c : Core) : Core :=
  if !c.linkOn m || c.get (K.klState m) = 0 then c
  else if header = 0 || header = 3 then
    (c.bump (K.klBadHeaders m)).updLane m fun (x : Lane) => { x with badHeaders := (c.clock :: x.badHeaders).take 16 }
  else if header = 2 && ctlValid p then c
  else c.bump (K.klBadBlocks m)

/-- KL_LOCK_LOSS: 16 invalid headers within 64 blocks of 5.28 ns (R170). -/
def klLockLoss (m : Nat) (c : Core) : Core :=
  match (nth c.lanes m).badHeaders[15]? with
  | some t =>
    if (nth c.lanes m).locked && decide (c.clock * 100 < t * 100 + 64 * 528) then
      let c := c.updLane m fun (x : Lane) => { x with badHeaders := [] }
      if c.laneUp m then laneLost m 1 c else c.updLane m fun (x : Lane) => { x with locked := false }
    else c
  | none => c

/-- KL_SILENCE: no valid return block for 20 us (R170). -/
def klSilence (m : Nat) (c : Core) : Core :=
  if c.laneUp m && decide ((nth c.lanes m).rxAt + 20000 ≤ c.clock) then laneLost m 2 c else c

/-! ### What the controller sends on its own -/

/-- KL_SYNC_DUE: 64 rounds of 89.76 ns after the last, SYNC on every lane that is UP (R153). -/
def klSyncDue (c : Core) : Core :=
  if c.syncAt * 100 + 574464 ≤ c.clock * 100 then
    let c := { c with syncAt := c.clock, syncs := c.syncs + 1 }
    (List.range 32).foldl (fun (c : Core) (m : Nat) => if c.laneUp m then c.block m 0x55 0 else c) c
  else c

/-- ENABLE of R168: the channel is ARMED, RUNNING, HELD or DRAINING. -/
def Core.laneEnable (c : Core) (n : Nat) : Bool := c.staleJudged n

/-- KEEPALIVE_DUE: at least every 4 us while UP (R168). -/
def keepaliveDue (m : Nat) (c : Core) : Core :=
  if c.laneUp m then
    let seq := ((nth c.lanes m).keepSeq + 1) % 256
    (c.updLane m fun (x : Lane) => { x with keepSeq := seq, keepAt := c.clock }).block m 0x3C
      (256 * seq + b2n (c.laneEnable (m / 4)))
  else c

/-- The SAFE reaction of the lanes (R171). -/
def lanesSafe (c : Core) : Core :=
  (List.range 32).foldl (fun (c : Core) (m : Nat) =>
    if c.get (K.klState m) = 0 then c
    else
      let seq := ((nth c.lanes m).keepSeq + 1) % 256
      let keep : Lane → Lane := fun (x : Lane) => { x with keepSeq := seq, keepAt := c.clock, lastKeep := some (256 * seq + 2) }
      if c.laneUp m then (laneOff m c).updLane m keep else laneOff m c) c

/-! ### Frames -/

/-- LINE_FRAME_OPEN: the next line's frame is opened once its buffer is free and no bulk frame is open; a line with no level
above 0 is only a LINE_START, BLANK (R145, R147, R149). -/
def lineFrameOpen (m : Nat) (c : Core) : Core :=
  let n := m / 4
  if !c.lineReady m || (nth c.lanes m).bulkOpen then c
  else match c.nextFrame m with
    | none => c
    | some line =>
      let b := ((nth c.imgs n).bufs.find? fun (b : LineBuf) => b.line = line).getD { line := line, levels := [] }
      let levels := c.laneLevels n (m % 4) b
      let q := if levels = [] then [ctlBlock 0x66 (2 ^ 24 + line % 2 ^ 24)]
        else frameBlocks 0x66 0x69 (line % 2 ^ 24) (c.frameBytes n levels)
      c.updLane m fun (x : Lane) =>
        { x with resend := x.resend.filter fun (y : Nat) => y != line, openLine := some line, lineQ := q }

/-- LINE_FRAME_COMPLETE: the last block of the open frame has left, and so has what stood before it in the lane's queue (R147,
R151; log 80). -/
def lineFrameComplete (m : Nat) (c : Core) : Core :=
  match (nth c.lanes m).openLine with
  | none => c
  | some line => frameDone m line (sendAll m (nth c.lanes m).lineQ c)

/-- Whether lane k carries an element of row r in group g (R137, R151). -/
def Core.laneHasGroup (c : Core) (n k r g : Nat) : Bool :=
  let e := c.laneElems n
  let gs := max 1 (c.get (K.chGroups n))
  let run := if c.get (K.chGroupMap n) = 0 then 1 else max 1 (c.get (K.chGroupRun n))
  (c.segs n).any fun (s : Seg) =>
    let lo := max s.lo (k * e)
    let hi := min s.hi ((k + 1) * e)
    decide (s.row = r) && decide (lo < hi) &&
      (List.range (min gs ((hi - 1) / run - lo / run + 1))).any fun (i : Nat) => decide ((lo / run + i) % gs = g)

/-- FIRE_ISSUE: the next pending fire event of channel n, when its position is near enough (R120) and the frames of its line
are complete (R151), goes out as FIRE blocks. -/
def fireIssue (n : Nat) (c : Core) : Core :=
  let c := fireMark n (dropReversed n c)
  match (nth c.fires n).pending with
  | [] => c
  | e :: rest =>
    match e.due with
    | none => c
    | some tF =>
      let ks := (List.range 4).filter fun (k : Nat) => c.laneHasGroup n k e.row e.group
      if ks.any fun (k : Nat) => c.laneUp (4 * n + k) && !(nth c.lanes (4 * n + k)).framed.contains e.line then c
      else
        let (t, c) := fireSettle n e.row tF c
        let c := c.updFire n fun (x : ChFire) =>
          { x with pending := rest, rowLast := x.rowLast.set e.row (some t),
                   issued := ((if x.issued.contains e.line then [] else [e.line]) ++ x.issued).take 256,
                   lastFire := ((e.line, max t (sget 0 x.lastFire e.line)) ::
                     x.lastFire.filter fun (p : Nat × Nat) => p.1 != e.line).take 16 }
        let c := c.emit (.fire n e.line e.row e.group t)
        ks.foldl (fun (c : Core) (k : Nat) =>
          let m := 4 * n + k
          if c.laneUp m then
            c.block m 0x5A (2 ^ 38 * (e.line % 1024) + 2 ^ 35 * e.row + 2 ^ 32 * e.group + t % 2 ^ 32)
          else if c.get K.devState = 8 then c else c.bump (K.klFiresLost m)) c

end Sys2Proof.Machine
end

