-- ==== Sys2Proof/Machine/Jobs.lean ====
section
/-! DEFINITION. Sys2Proof/Machine/Jobs.lean: channel states, descriptors, jobs, bands, the intake and admission (R205 to
R221, R22, R436). -/

namespace Sys2Proof.Machine

/-- The job state of a channel changed. -/
def Core.updJob (c : Core) (n : Nat) (f : ChJob → ChJob) : Core := { c with jobs := upd c.jobs n f }

/-! ### Device and channel states -/

/-- DEV.STATE changes: a DEV_STATE record (R438). -/
def setDevState (s : Nat) (c : Core) : Core :=
  let old := c.get K.devState
  if old = s then c else (c.set K.devState s).raise 0x0200 1 (256 * old + s)

/-- Whether some channel is ARMED, RUNNING, HELD or DRAINING. -/
def Core.anyEngaged (c : Core) : Bool := (List.range 8).any fun (n : Nat) => c.staleJudged n

/-- DEV.STATE follows the channels (R436). -/
def devFollow (c : Core) : Core :=
  let d := c.get K.devState
  if d = 3 && (List.range 8).any (fun (n : Nat) => c.get (K.chState n) = 2) then setDevState 4 c
  else if (d = 4 || d = 5) && !c.anyEngaged then setDevState 3 c
  else c

/-- CHn.STATE changes (R205), with what follows it: staleness of heads (R130) and DEV.STATE. -/
def setChState (n s : Nat) (c : Core) : Core := devFollow (staleLeave n (c.set (K.chState n) s))

/-- CHn.MAX_LINE_RATE (R22). -/
def Core.maxLineRate (c : Core) (n : Nat) : Nat :=
  let w := max 1 (c.get (K.chWidth n))
  let d := max 1 (c.get (K.chElemDepth n))
  let pipe := if c.get (K.chScale n) = 0 then 32000000000 / w else if c.get (K.chScale n) = 1 then 8000000000 / w
    else 64000000000 / (w * d)
  min (min 160000 (41943040000 / (w * d))) pipe / 100 * 100

/-! ### Records -/

/-- A band-completion record (R233); with QUIET only when the status is not 0. -/
def recBand (n status seq : Nat) (quiet : Bool) (c : Core) : Core :=
  if quiet && status = 0 then c
  else c.recordCh (6 * n + 1) n (0x1008 + 0x100 * n) 1 (2 ^ 56 * status + seq % 2 ^ 32)

/-- A job-state record (R233). -/
def recJob (n state status id : Nat) (c : Core) : Core :=
  c.recordCh (6 * n + 1) n (0x1008 + 0x100 * n) 2 (2 ^ 56 * state + 2 ^ 48 * status + id % 2 ^ 32)

/-! ### Intake space -/

/-- Bytes a band takes in the intake region. -/
def pad64 (n : Nat) : Nat := ceilDiv n 64 * 64

/-- Spaces with those at the front that are freed taken off: space is freed in the order of placement (R213). -/
def dropFreed : List (Nat × Nat × Nat × Bool) → List (Nat × Nat × Nat × Bool)
  | [] => []
  | (u, o, b, f) :: r => if f then dropFreed r else (u, o, b, f) :: r

/-- The space of a band is freed. -/
def freeSpace (n uid : Nat) (c : Core) : Core :=
  c.updJob n fun (x : ChJob) => { x with spaces := dropFreed (x.spaces.map fun (p : Nat × Nat × Nat × Bool) =>
    if p.1 = uid then (p.1, p.2.1, p.2.2.1, true) else p) }

/-- The place for a band of b bytes in a region of size bytes, if there is room: at the write point, or at the start of the
region when it would cross its end (R213). -/
def placeBand (size w : Nat) (spaces : List (Nat × Nat × Nat × Bool)) (b : Nat) : Option Nat :=
  match spaces with
  | [] => if size < b then none else if w + b ≤ size then some w else some 0
  | (_, h, _, _) :: _ =>
    if h < w then (if w + b ≤ size then some w else if b ≤ h then some 0 else none)
    else if w < h then (if w + b ≤ h then some w else none)
    else none

/-! ### Completing bands, aborting jobs -/

/-- A band leaves the channel with a status: record, space freed, its fetch and its decoding end. -/
def completeBand (n status : Nat) (b : Band) (c : Core) : Core :=
  let c := c.updJob n fun (x : ChJob) => { x with bands := x.bands.filter fun (y : Band) => y.uid != b.uid }
  let c := freeSpace n b.uid c
  let c := if b.fetching then dmaIntakeEnd (c.get (K.chIntakeDma n)) c else c
  let c := match nth c.sprues n with
    | some s => if s.band = b.uid then { c with sprues := upd c.sprues n fun (_ : Option SprueCur) => none } else c
    | none => c
  recBand n status b.seq b.quiet c

/-- A job is aborted (R207): its bands not yet retired complete with status 3, its contone lines are those written so far,
and its record carries the status. -/
def abortJob (n status : Nat) (j : Job) (c : Core) : Core :=
  if j.state = 3 || j.state = 4 || j.state = 5 then c
  else
    let bands := (nth c.jobs n).bands.filter fun (b : Band) => b.job = j.uid
    let c := bands.foldl (fun (c : Core) (b : Band) => completeBand n 3 b c) c
    let c := c.updJob n fun (x : ChJob) => { x with jobs := x.jobs.map fun (y : Job) =>
      if y.uid = j.uid then { y with state := 5, status := status, lines := y.written } else y }
    recJob n 5 status j.id c

/-- Every job that is not DONE is aborted with status 3, and a STOP already taken is discarded (R207). -/
def abortAll (n : Nat) (c : Core) : Core :=
  let c := (nth c.jobs n).jobs.foldl (fun (c : Core) (j : Job) => abortJob n 3 j c) c
  c.updJob n fun (x : ChJob) => { x with stopTaken := false, abortReq := false }

/-- DATA_LATE and OVERSPEED of channel n end: it is held, or fires no more (R223, R406). -/
def lateEnds (n : Nat) (c : Core) : Core :=
  let c := { c with lines := upd c.lines n fun (x : ChLine) => { x with overspeed := false } }
  (c.endFault (0x1020 + 0x100 * n) 1).endFault (0x1010 + 0x100 * n) 1

/-- The run of channel n is over: contone lines are numbered from 0 for the run that the next arm starts (R91, R210; log 23).
What the row gather holds, marks of bad lines, jobs and finished pages belong to the run before. -/
def flaskRestart (n : Nat) (c : Core) : Core :=
  let c := (c.set (K.chFlaskWrite n) 0).updJob n fun (x : ChJob) =>
    { x with jobs := x.jobs.map fun (j : Job) => { j with past := true } }
  let c := c.updImg n fun (x : ChImg) => { x with flaskBad := [], hold := List.replicate 8 none }
  { c with runs := upd c.runs n fun (l : List PageRun) => l.filter fun (p : PageRun) => !p.finished }

/-- A channel enters STOPPED: a STOP descriptor has done its work (R208), and the run is over. -/
def chStopped (n : Nat) (c : Core) : Core :=
  let c := flaskRestart n (lateEnds n c)
  let c := c.updJob n fun (x : ChJob) => { x with stopTaken := false, abortReq := false, holdReq := false }
  setChState n 6 c

/-- A channel enters FAULTED (R205, R207). -/
def chFaulted (n : Nat) (c : Core) : Core :=
  if c.get (K.chState n) = 7 then c
  else
    let c := lateEnds n (abortAll n c)
    let c := c.updJob n fun (x : ChJob) => { x with holdReq := false, lateLine := none }
    setChState n 7 c

/-- The job of a uid. -/
def Core.jobOf (c : Core) (n uid : Nat) : Option Job := (nth c.jobs n).jobs.find? fun (j : Job) => j.uid = uid

/-- A job changed. -/
def updJobOf (n uid : Nat) (f : Job → Job) (c : Core) : Core :=
  c.updJob n fun (x : ChJob) => { x with jobs := x.jobs.map fun (y : Job) => if y.uid = uid then f y else y }

/-- A band changed. -/
def updBandOf (n uid : Nat) (f : Band → Band) (c : Core) : Core :=
  c.updJob n fun (x : ChJob) => { x with bands := x.bands.map fun (y : Band) => if y.uid = uid then f y else y }

/-- A band fails (R214): it completes with status 2, its job is aborted with status 2, then BAND_BAD. -/
def bandBad (n : Nat) (b : Band) (c : Core) : Core :=
  let c := completeBand n 2 b c
  let c := match c.jobOf n b.job with
    | some j => abortJob n 2 j c
    | none => c
  c.raise (0x10A0 + 0x100 * n) 1 b.seq

/-- A job is refused with a status (R211, R218): it and the bands it has complete with the status; JOB_REFUSED. -/
def refuseJob (n status : Nat) (j : Job) (c : Core) : Core :=
  let bands := (nth c.jobs n).bands.filter fun (b : Band) => b.job = j.uid
  let c := bands.foldl (fun (c : Core) (b : Band) => completeBand n status b c) c
  let c := updJobOf n j.uid (fun (y : Job) => { y with state := 4, status := status, lines := y.written }) c
  let c := recJob n 4 status j.id (c.bump (K.chJobsRefused n))
  c.raise (0x1000 + 0x100 * n) 1 (2 ^ 56 * status + j.id)

/-! ### Admission -/

/-- A non-negative fraction. -/
structure Frac where
  num : Nat
  den : Nat
deriving DecidableEq, Repr, Inhabited

/-- Sum, larger of two, and comparison of fractions. -/
def Frac.add (a b : Frac) : Frac := if a.den = b.den then ⟨a.num + b.num, a.den⟩ else ⟨a.num * b.den + b.num * a.den, a.den * b.den⟩
def Frac.le (a b : Frac) : Bool := decide (a.num * b.den ≤ b.num * a.den)
def Frac.max (a b : Frac) : Frac := if a.le b then b else a

/-- A rate in bytes/s in whole MB/s, rounded up. -/
def Frac.mbUp (a : Frac) : Nat := ceilDiv a.num (1000000 * Nat.max 1 a.den)

/-- A budget in MB/s less a rate, in whole MB/s, rounded down. -/
def Frac.margin (budget : Nat) (a : Frac) : Int :=
  ((budget * 1000000 * a.den : Nat) - (a.num : Nat) : Int) / ((1000000 * Nat.max 1 a.den : Nat) : Int)

/-- The three rates of a channel or job: raw, fetch, sprue. -/
structure Rates where
  raw : Frac
  fetch : Frac
  sprue : Frac
deriving DecidableEq, Repr, Inhabited

/-- The rates of a job (R219). -/
def Core.jobRates (c : Core) (n : Nat) (j : Job) : Rates :=
  let r : Frac := if c.beam then ⟨2 * c.get K.beamScanFreq * c.get (K.chBeams n), 1000⟩
    else ⟨if j.rate = 0 then c.maxLineRate n else j.rate, 1⟩
  let s := c.scaleOf n
  let raw : Frac := ⟨c.lineBytes n * r.num, s * r.den⟩
  if j.declLines = 0 then ⟨raw, raw, raw⟩
  else ⟨raw, ⟨j.declFetch * r.num, s * r.den * j.declLines⟩, ⟨j.declBytes * r.num, s * r.den * j.declLines⟩⟩

/-- The load of a channel: for each rate the largest among its jobs that are ADMITTED or ACTIVE (R219). -/
def Core.chRates (c : Core) (n : Nat) (extra : List Job) : Rates :=
  (((nth c.jobs n).jobs.filter fun (j : Job) => j.state = 1 || j.state = 2) ++ extra).foldl
    (fun (a : Rates) (j : Job) =>
      let r := c.jobRates n j
      ⟨a.raw.max r.raw, a.fetch.max r.fetch, a.sprue.max r.sprue⟩) ⟨⟨0, 1⟩, ⟨0, 1⟩, ⟨0, 1⟩⟩

/-- The loads of the device with a job of channel n included: sum of raw, sum of fetch, DRAM load (R219). -/
def Core.devLoads (c : Core) (n : Nat) (extra : List Job) : Frac × Frac × Frac :=
  let l := (List.range 8).foldl (fun (a : Frac × Frac × Frac) (k : Nat) =>
    let r := c.chRates k (if k = n then extra else [])
    (a.1.add r.raw, a.2.1.add r.fetch, a.2.2.add (((r.raw.add r.raw).add r.fetch).add r.sprue)))
    (⟨0, 1⟩, ⟨0, 1⟩, ⟨0, 1⟩)
  (l.1, l.2.1, l.2.2.add ⟨c.get K.devAdmFixed * 1000000, 1⟩)

/-- The host budget of R219, in MB/s. -/
def Core.hostBudget (c : Core) : Nat := min (c.get K.devAdmHostBudget) (c.get K.devAdmHostLink)

/-- A ratio in thousandths, rounded up; where its divisor is 0 the spec states no value: it is free. -/
def ratioSet (o : Obj) (a b : Frac) (c : Core) : Core :=
  if b.num = 0 then
    let (v, c) := c.freeVal 32
    c.set o v
  else c.satN o (ceilDiv (1000 * a.num * b.den) (a.den * b.num))

/-- The admission objects of the device and of channel n (R219, R220). -/
def admObjects (n : Nat) (extra : List Job) (c : Core) : Core :=
  let (raw, host, dram) := c.devLoads n extra
  let ch := c.chRates n extra
  let hb := c.hostBudget
  let c := (c.satN K.devAdmHostLoad host.mbUp).satI K.devAdmHostMargin (Frac.margin hb host)
  let c := (c.satN K.devAdmDramLoad dram.mbUp).satI K.devAdmDramMargin (Frac.margin (c.get K.devAdmDramBudget) dram)
  let c := ratioSet K.devAdmRatioNeed raw ⟨hb * 1000000, 1⟩ c
  let c := ratioSet K.devAdmRatioDecl raw host c
  let c := ((c.satN (K.chAdmRaw n) ch.raw.mbUp).satN (K.chAdmFetch n) ch.fetch.mbUp).satN (K.chAdmSprue n) ch.sprue.mbUp
  ratioSet (K.chAdmRatio n) ch.raw ch.fetch c

/-- Whether both loads are within their budgets with a job included (R220). -/
def Core.admFits (c : Core) (n : Nat) (j : Job) : Bool :=
  let l := c.devLoads n [j]
  l.2.1.le ⟨c.hostBudget * 1000000, 1⟩ && l.2.2.le ⟨c.get K.devAdmDramBudget * 1000000, 1⟩

/-! ### Commands of CHn.CMD -/

/-- The jobs that are left at LOAD: an open one that has been refused or aborted, whose bands are still to come (R207, R209).
It has no contone lines any more. -/
def jobsLeft (l : List Job) : List Job :=
  match l.getLast? with
  | some j => if !j.final && (j.state = 4 || j.state = 5) then [{ j with past := true, unloaded := true }] else []
  | none => []

/-- CMD 1 (LOAD): the Flask slot size, and an empty queue (R88, R205). -/
def chLoad (n : Nat) (c : Core) : Core :=
  let c := flaskRestart n (c.set (K.chFlaskSlot n) (slotFor (c.lineBytes n)))
  let c := (c.set (K.chSprueLines n) 0).set (K.chSprueModes n) 0
  let c := c.updJob n fun (x : ChJob) =>
    { x with jobs := jobsLeft x.jobs, bands := [], stopTaken := false, abortReq := false, holdReq := false, writePoint := 0,
             spaces := [], lateLine := none }
  let c := c.updImg n fun (x : ChImg) => { x with bufs := [] }
  let c := { c with sprues := upd c.sprues n fun (_ : Option SprueCur) => none,
                    runs := upd c.runs n fun (_ : List PageRun) => [] }
  setChState n 1 c

/-- CMD 2 (ARM), accepted: the rate of R22 and the board registers of R167; ARMED follows once these are written (`armWatch`). -/
def chArm (n : Nat) (c : Core) : Core :=
  (boardRewrite n (c.set (K.chMaxLineRate n) (c.maxLineRate n))).updJob n fun (x : ChJob) => { x with arming := true }

/-- Whether no register access of the controller's own is left on the lanes of channel n. -/
def Core.boardsWritten (c : Core) (n : Nat) : Bool :=
  (List.range 4).all fun (k : Nat) =>
    let l := nth c.lanes (4 * n + k)
    l.todo = [] && l.ctrl.all fun (a : CtrlAcc) => a.host

/-- Channel n enters ARMED (R205): the protection state of R127, and LINE_HIGH at the line that contains P_n (R206). -/
def chArmed (n : Nat) (c : Core) : Core :=
  let c := fireArm n (c.updJob n fun (x : ChJob) => { x with arming := false })
  let c := c.set (K.chLineHigh n) (c.chPos n / 256)
  let c := { c with lines := upd c.lines n fun (x : ChLine) => { x with lastFired := none, overspeed := false } }
  let c := c.updImg n fun (x : ChImg) => { x with bufs := [] }
  let c := c.updFire n fun (x : ChFire) => { x with issued := [], lastFire := [] }
  let c := (List.range 4).foldl (fun (c : Core) (k : Nat) =>
    c.updLane (4 * n + k) fun (x : Lane) => { x with framed := [], openLine := none, lineQ := [], resend := [] }) c
  setChState n 2 c

/-- CMD 4 (ABORT), accepted: at once in LOADED and STOPPED, else at the next line boundary, which a HELD channel takes when it
resumes (R207, R223, R228). -/
def chAbort (n : Nat) (c : Core) : Core :=
  let s := c.get (K.chState n)
  if s = 1 || s = 6 then abortAll n c
  else c.updJob n fun (x : ChJob) => { x with abortReq := true }

/-- CMD 5 (UNLOAD), accepted (R207). -/
def chUnload (n : Nat) (c : Core) : Core := setChState n 0 (abortAll n c)

/-! ### Descriptors -/

/-- The descriptor at the head of the channel's queue, when the channel takes descriptors now (R208). -/
def Core.headEntry (c : Core) (n : Nat) : Option (List Byte) :=
  let s := c.get (K.chState n)
  if s = 0 || s = 7 || (nth c.jobs n).stopTaken then none else (nth c.jobs n).entries.head?

/-- The descriptor at the head is taken. -/
def popEntry (n : Nat) (c : Core) : Core := c.updJob n fun (x : ChJob) => { x with entries := x.entries.drop 1 }

/-- The open job of a channel: the last one taken whose JOB_END has not been (R209). -/
def Core.openJob (c : Core) (n : Nat) : Option Job :=
  match (nth c.jobs n).jobs.getLast? with
  | some j => if j.final then none else some j
  | none => none

/-- BAND_FORMAT (R209, R234). -/
def bandFormat (n typ seq : Nat) (c : Core) : Core := c.raise (0x10A1 + 0x100 * n) 1 (2 ^ 56 * typ + seq % 2 ^ 32)

/-- A descriptor other than a JOB completes with status 4 (R209): its record, the open job aborted, BAND_FORMAT. -/
def formatFail (n typ seq : Nat) (c : Core) : Core :=
  let c := recBand n 4 seq false c
  let c := match c.openJob n with
    | some j => abortJob n 4 j c
    | none => c
  bandFormat n typ seq c

/-- A JOB descriptor that R209 rejects. -/
def jobBad (c : Core) (d : List Byte) : Bool :=
  let m := leAt d 1 1
  field (leAt d 2 2) 15 1 != 0 || field (leAt d 8 8) 63 40 != 0 || leAt d 0x28 24 != 0 || decide (2 < m) ||
    (if c.beam then m != 2 else m = 2)

/-- End of the extent of the previous job: the last one taken since LOAD that was not refused (R210). -/
def Core.prevEnd (c : Core) (n : Nat) : Option Nat :=
  (((nth c.jobs n).jobs.filter fun (j : Job) => j.state != 4 && !j.unloaded).getLast?).map fun (j : Job) => c.jobEnd n j

/-- The job a JOB descriptor describes, placed (R210). -/
def Core.jobFrom (c : Core) (n : Nat) (d : List Byte) (state : Nat) : Job :=
  let m := leAt d 1 1
  let start := field (leAt d 8 8) 39 0
  { uid := (nth c.jobs n).nextUid, id := leAt d 4 4, state := state, mode := m,
    lJ := if m = 1 then (c.prevEnd n).getD start else start, placed := decide (m != 2),
    verifyAll := (leAt d 2 2).testBit 0, declBytes := leAt d 16 8, declFetch := leAt d 24 8, declLines := leAt d 32 4,
    rate := leAt d 36 4 }

/-- A job put in the queue of the channel. -/
def addJob (n : Nat) (j : Job) (c : Core) : Core :=
  c.updJob n fun (x : ChJob) => { x with jobs := x.jobs ++ [j], nextUid := x.nextUid + 1 }

/-- Placement fails: below the previous job's end, or too late (R211). -/
def Core.placeLate (c : Core) (n : Nat) (j : Job) : Bool :=
  let s := c.get (K.chState n)
  j.placed && (decide (j.lJ < (c.prevEnd n).getD 0) ||
    ((s = 2 || s = 3 || s = 4) && decide (j.lJ ≤ c.get (K.chLineHigh n) + c.get (K.chFetchLead n))))

/-- JOB_DESCRIPTOR: a JOB descriptor is taken, placed and admitted, or refused (R209 to R211, R220). -/
def jobDescriptor (n : Nat) (c : Core) : Core :=
  match c.headEntry n with
  | none => c
  | some d =>
    if leAt d 0 1 != 1 then c
    else
      let c := popEntry n c
      if jobBad c d then
        let j := { c.jobFrom n d 5 with status := 4, placed := false }
        bandFormat n 1 j.id (recJob n 5 4 j.id (addJob n j c))
      else
        let j := c.jobFrom n d 1
        let fits := c.admFits n j
        let force := c.get K.devAdmPolicy = 1
        let c := admObjects n [j] c
        let c := (c.set K.devAdmLastJob j.id).set K.devAdmLastVerdict (if fits then 0 else if force then 1 else 2)
        let late := c.placeLate n j
        let c := addJob n { j with state := if (!fits && !force) || late then 4 else 1 } c
        if !fits && !force then refuseJob n 1 j c
        else if late then refuseJob n 7 j c
        else
          let c := if fits then c else c.raise 0x0240 1 (2 ^ 56 * n + j.id)
          recJob n 1 0 j.id c

/-- STOP_DESCRIPTOR: a STOP descriptor is taken (R208, R209). -/
def stopDescriptor (n : Nat) (c : Core) : Core :=
  match c.headEntry n with
  | none => c
  | some d =>
    if leAt d 0 1 != 3 then c
    else
      let c := popEntry n c
      if leAt d 1 3 != 0 || leAt d 8 56 != 0 then formatFail n 3 (leAt d 4 4) c
      else c.updJob n fun (x : ChJob) => { x with stopTaken := true }

/-- Whether [a, a + len) lies outside installed DRAM, or overlaps the Flask region of a channel that is not IDLE. -/
def Core.badRegion (c : Core) (a len : Nat) : Bool :=
  decide (c.capBytes < a + len) ||
    (List.range 8).any fun (k : Nat) =>
      let fb := c.get (K.chFlaskBase k)
      let fe := fb + c.get (K.chFlaskLines k) * c.get (K.chFlaskSlot k)
      c.get (K.chState k) != 0 && decide (a < fe) && decide (fb < a + len)

/-- The mask that a page's declaration gives, once it has been declared. -/
def Core.pageMask (c : Core) (page : Nat) : Option Nat :=
  (c.pages.find? fun (p : Page) => p.num = page).map fun (p : Page) => p.mask

/-- A BAND descriptor that R209 or R217 rejects, apart from there being no open job. -/
def Core.bandRejected (c : Core) (n : Nat) (d : List Byte) : Bool :=
  let flags := leAt d 2 2
  let len := leAt d 16 4
  let start := leAt d 24 4
  let lines := leAt d 28 4
  let raw := leAt d 1 1 = 1
  let size := c.lineBytes n
  let resident := flags.testBit 0
  let mask := leAt d 0x22 1
  let pm := if mask != 0 then some mask else c.pageMask (leAt d 0x24 4)
  decide (1 < leAt d 1 1) || field flags 15 5 != 0 || leAt d 0x23 1 != 0 || leAt d 0x28 24 != 0 ||
    len = 0 || lines = 0 || decide (len ≤ start) ||
    (raw && (start % max 1 size != 0 || decide (len - start < lines * size))) ||
    (if resident then c.badRegion (leAt d 8 8) len
     else c.get (K.chIntakeDma n) = 0xFF || c.get (K.chIntakeSize n) = 0 ||
       decide (c.get (K.chIntakeSize n) < pad64 len) ||
       c.badRegion (c.get (K.chIntakeBase n)) (c.get (K.chIntakeSize n))) ||
    (c.beam && (match pm with
      | some x => !x.testBit n
      | none => false))

/-- The band a BAND descriptor describes, of job j. -/
def Core.bandFrom (c : Core) (n : Nat) (j : Job) (d : List Byte) : Band :=
  let flags := leAt d 2 2
  let resident := flags.testBit 0
  { uid := (nth c.jobs n).nextUid, job := j.uid, seq := leAt d 4 4, raw := leAt d 1 1 = 1, src := leAt d 8 8,
    length := leAt d 16 4, crc := leAt d 20 4, start := leAt d 24 4, lines := leAt d 28 4, repeats := leAt d 32 2,
    pageMask := leAt d 0x22 1, page := leAt d 0x24 4, quiet := flags.testBit 4, pageEnd := flags.testBit 3,
    jobEnd := flags.testBit 2, verify := flags.testBit 1 || j.verifyAll || c.beam, resident := resident,
    addr := if resident then leAt d 8 8 else 0, placed := resident, landed := resident,
    passed := !(flags.testBit 1 || j.verifyAll || c.beam) }

/-- A page is declared by a band with a mask (R217): in order of the taking on the lowest channel of the mask. -/
def declarePage (n : Nat) (b : Band) (c : Core) : Core :=
  if !c.beam || b.pageMask = 0 then c
  else
    let known := c.pages.any fun (p : Page) => p.num = b.page
    let low := (bitsOf 8 b.pageMask).headD 0 = n
    if known then
      (if low then
        let (mine, others) := c.pages.partition fun (p : Page) => p.num = b.page
        { c with pages := others ++ mine } else c)
    else { c with pages := c.pages ++ [{ num := b.page, mask := b.pageMask }] }

/-- Every page whose bands have all been taken, placed and verified on every channel of its mask is admitted (R217). -/
def admitPages (c : Core) : Core :=
  let ok := fun (p : Page) => (bitsOf 8 p.mask).all fun (n : Nat) =>
    let bs := (nth c.jobs n).bands.filter fun (b : Band) => b.page = p.num
    bs.any (fun (b : Band) => b.pageEnd) && bs.all fun (b : Band) => b.landed && b.passed
  { c with pages := c.pages.map fun (p : Page) => if !p.admitted && ok p then { p with admitted := true } else p }

/-- JOB_DECL (R221): the job's actual figures differ from those declared; the loads are computed again with them. -/
def jobDecl (n : Nat) (uid : Nat) (c : Core) : Core :=
  match c.jobOf n uid with
  | none => c
  | some j =>
    if (j.declLines != 0 && j.declLines != j.lines) || (j.declLines != 0 && decide (j.declFetch < j.fetched)) ||
        (j.declLines = 0 && decide (j.declFetch < j.fetched)) then
      let c := updJobOf n uid (fun (y : Job) =>
        if y.declLines = 0 then y else { y with declLines := y.lines, declFetch := y.fetched, actual := true }) c
      admObjects n [] (c.raise (0x10A2 + 0x100 * n) 1 j.id)
    else c

/-- The verification of a RESIDENT band by one read when it is taken (R214). -/
def residentVerify (m : List Host.Cell) (n : Nat) (b : Band) (c : Core) : Core :=
  if !b.verify then c
  else
    let (bad, c) := c.hubRead (1 + 4 * n) 0 b.addr b.length
    if bad.isNone && crc32 (c.readBytes m b.addr b.length) = b.crc then
      updBandOf n b.uid (fun (y : Band) => { y with passed := true }) c
    else bandBad n b c

/-- A BAND of an open job that R209 accepts is taken (R208, R210). -/
def takeBand (m : List Host.Cell) (n : Nat) (j : Job) (d : List Byte) (c : Core) : Core :=
  let b := c.bandFrom n j d
  let c := c.updJob n fun (x : ChJob) => { x with bands := x.bands ++ [b], nextUid := x.nextUid + 1 }
  let c := updJobOf n j.uid (fun (y : Job) =>
    { y with lines := y.lines + b.lines * (b.repeats + 1), final := b.jobEnd,
             fetched := y.fetched + (if b.resident then 0 else b.length) }) c
  let c := declarePage n b c
  let c := if b.jobEnd then jobDecl n j.uid c else c
  admitPages (if b.resident then residentVerify m n b c else c)

/-- BAND_DESCRIPTOR: a BAND descriptor, or one of an unknown type, is taken (R207 to R211). -/
def bandDescriptor (m : List Host.Cell) (n : Nat) (c : Core) : Core :=
  match c.headEntry n with
  | none => c
  | some d =>
    let t := leAt d 0 1
    if t = 1 || t = 3 then c
    else
      let c := popEntry n c
      let seq := leAt d 4 4
      match c.openJob n with
      | none => formatFail n t seq c
      | some j =>
        let last := (leAt d 2 2).testBit 2 && decide (t = 2)
        if t = 2 && (j.state = 4 || j.state = 5) then
          let c := if last then updJobOf n j.uid (fun (y : Job) => { y with final := true }) c else c
          recBand n (if j.state = 4 then j.status else 3) seq ((leAt d 2 2).testBit 4) c
        else if t != 2 || c.bandRejected n d then
          let c := if last then updJobOf n j.uid (fun (y : Job) => { y with final := true }) c else c
          bandFail n t seq j c
        else takeBand m n j d c
where
  /-- A rejected descriptor of an open job: the job's abort, with status 4. -/
  bandFail (n t seq : Nat) (j : Job) (c : Core) : Core :=
    bandFormat n t seq (abortJob n 4 j (recBand n 4 seq false c))

/-! ### Fetching bands -/

/-- The next band to be fetched: the first that is neither placed nor resident (R213: in ring order). -/
def Core.nextFetch (c : Core) (n : Nat) : Option Band := (nth c.jobs n).bands.find? fun (b : Band) => !b.placed

/-- The first band of the channel's oldest page that is not yet admitted, declared or not. -/
def Core.oldestUnadmitted (c : Core) (n : Nat) : Option Band :=
  (nth c.jobs n).bands.find? fun (b : Band) => !c.pages.any fun (p : Page) => p.num = b.page && p.admitted

/-- Whether every band that holds intake space belongs to one page. -/
def Core.onlyPage (c : Core) (n page : Nat) : Bool :=
  (nth c.jobs n).bands.all fun (b : Band) => b.space = 0 || b.page = page

/-- BAND_FETCH_START: the next band is placed and its transfer starts (R213, R307); a page too large for the intake has its
job refused with status 8 (R218). -/
def bandFetchStart (n : Nat) (c : Core) : Core :=
  let x := nth c.jobs n
  let s := c.get (K.chState n)
  let k := c.get (K.chIntakeDma n)
  let dst := (nth c.dmas k).state
  match c.nextFetch n with
  | none => c
  | some b =>
    if s = 0 || s = 7 || x.bands.any (fun (y : Band) => y.fetching) || !(dst = 0 || dst = 2 || dst = 4) then c
    else
      let w := pad64 b.length
      match placeBand (c.get (K.chIntakeSize n)) x.writePoint x.spaces w with
      | some off =>
        let a := c.get (K.chIntakeBase n) + off
        let c := c.updJob n fun (y : ChJob) => { y with writePoint := off + w, spaces := y.spaces ++ [(b.uid, off, w, false)] }
        let c := updBandOf n b.uid (fun (y : Band) =>
          { y with addr := a, space := w, placed := true, fetching := true }) c
        dmaIntake k n b.src a b.length b.seq c
      | none =>
        match c.oldestUnadmitted n with
        | some o =>
          if c.beam && c.onlyPage n o.page then
            match c.jobOf n o.job with
            | some j => refuseJob n 8 j c
            | none => c
          else c
        | none => c

/-- A fetch has failed: it is repeated up to CHn.INTAKE_RETRIES times, then the band fails (R214). -/
def bandRetry (n : Nat) (b : Band) (c : Core) : Core :=
  if b.retries < c.get (K.chIntakeRetries n) then
    let c := c.bump (K.chBandRetries n)
    let c := updBandOf n b.uid (fun (y : Band) => { y with retries := y.retries + 1, fetching := true }) c
    let c := updJobOf n b.job (fun (y : Job) => { y with fetched := y.fetched + b.length }) c
    dmaIntake (c.get (K.chIntakeDma n)) n b.src b.addr b.length b.seq c
  else bandBad n b (updBandOf n b.uid (fun (y : Band) => { y with fetching := false }) c)

/-- Bytes fetched over the last 100 ms, for CHn.INTAKE_MEAS (R221). -/
def measure (n len : Nat) (c : Core) : Core :=
  c.updJob n fun (x : ChJob) =>
    let recent := x.meas.filter fun (p : Nat × Nat) => decide (c.clock < p.1 + 100000000)
    { x with meas := (c.clock, len) :: recent }

/-- BAND_FETCHED: the transfer of the band being fetched ends; err is 0, or the kind 1 to 4 of a failed host read. data
holds the bytes not yet moved (R213, R214). -/
def bandFetched (n : Nat) (data : List Byte) (err : Nat) (c : Core) (m : List Host.Cell) : Core × List Host.Cell :=
  let k := c.get (K.chIntakeDma n)
  match (nth c.jobs n).bands.find? fun (b : Band) => b.fetching with
  | none => (c, m)
  | some b =>
    if (nth c.dmas k).intake != some n || (nth c.dmas k).state != 1 then (c, m)
    else if err != 0 then
      let (c, m) := dmaError k (min err 4) 3 b.src c m
      (bandRetry n b c, m)
    else
      let (failed, c, m) := dmaIntakeDone k data c m
      if failed then (bandRetry n b c, m)
      else
        let c := measure n b.length (updBandOf n b.uid (fun (y : Band) => { y with fetching := false }) c)
        let good := !b.verify || crc32 (c.readBytes m b.addr b.length) = b.crc
        if good then
          (admitPages (updBandOf n b.uid (fun (y : Band) => { y with landed := true, passed := true }) c), m)
        else (bandRetry n b c, m)

/-- A DMA channel that the intake uses has halted, or its transfer has been ended: the band's fetch has failed (R214). -/
def intakeFailed (k : Nat) (c : Core) : Core :=
  (List.range 8).foldl (fun (c : Core) (n : Nat) =>
    if c.get (K.chState n) != 0 && c.get (K.chIntakeDma n) = k then
      match (nth c.jobs n).bands.find? fun (b : Band) => b.fetching with
      | some b => bandRetry n b c
      | none => c
    else c) c

/-! ### Jobs at a line boundary -/

/-- At the boundary of line L, jobs whose line l_J - FETCH_LEAD is reached become ACTIVE; the first makes an ARMED channel
RUNNING, or is refused with status 7 while the device is not PRINTING (R205, R212, R436). -/
def jobsActivate (n line : Nat) (c : Core) : Core :=
  (nth c.jobs n).jobs.foldl (fun (c : Core) (j : Job) =>
    if j.state = 1 && j.placed && decide (j.lJ ≤ line + c.get (K.chFetchLead n)) then
      let s := c.get (K.chState n)
      if s = 2 && c.get K.devState != 5 then refuseJob n 7 j c
      else
        let c := updJobOf n j.uid (fun (y : Job) => { y with state := 2 }) c
        let c := recJob n 2 0 j.id c
        if s = 2 then setChState n 3 c else c
    else c) c

/-- Whether station n has begun the page. -/
def Core.begun (c : Core) (n num : Nat) : Bool := (nth c.runs n).any fun (r : PageRun) => r.page = num

/-- Whether every line below L includes the last image line of a job on every row: in beam mode of every page of the job, each
begun and its last line fired (R212). -/
def Core.jobFired (c : Core) (n line : Nat) (j : Job) : Bool :=
  if c.beam then
    ((nth c.jobs n).bands.all fun (b : Band) => b.job != j.uid || c.begun n b.page) &&
      (nth c.runs n).all fun (r : PageRun) => r.job != j.uid || r.finished || decide (c.runEnd n r ≤ line)
  else j.placed && decide (c.jobEnd n j + c.dMax n ≤ line)

/-- At the boundary of line L, with every line below it fired: jobs of which every row has fired the last line are DONE
(R212). -/
def jobsDone (n line : Nat) (c : Core) : Core :=
  (nth c.jobs n).jobs.foldl (fun (c : Core) (j : Job) =>
    if j.state = 2 && j.final && c.jobFired n line j then
      recJob n 3 0 j.id (updJobOf n j.uid (fun (y : Job) => { y with state := 3 }) c)
    else c) c

/-- End of the extent of the last job that was neither refused nor aborted. -/
def Core.lastEnd (c : Core) (n : Nat) : Nat :=
  ((c.extents n).getLast?.map fun (x : Extent) => x.stop).getD 0

/-- At the boundary of line L: a channel with a STOP taken drains once row 0 has passed the last image line, which it fires d_0
lines behind the channel, and stops at the boundary of l_end + d_max (R205). In beam mode every page of the last job must have
begun before its last image line is known. Answers whether the line is still to be fired. -/
def drainStep (n line : Nat) (c : Core) : Bool × Core :=
  let s := c.get (K.chState n)
  let e := c.lastEnd n
  let known := !c.beam || (nth c.jobs n).bands.all fun (b : Band) => c.begun n b.page
  let c := if s = 3 && (nth c.jobs n).stopTaken && known && decide (e + c.rowDelay n 0 ≤ line) then setChState n 5 c else c
  if c.get (K.chState n) = 5 && decide (e + c.dMax n ≤ line) then (false, chStopped n c) else (true, c)

end Sys2Proof.Machine
end

