-- ==== Sys2Proof/Machine/Sprue.lean ====
section
/-! DEFINITION. Sys2Proof/Machine/Sprue.lean: the Sprue code and its decoder in a channel (R236 to R245, R215, R216). -/

namespace Sys2Proof.Machine

/-! ### Reading bits -/

/-- A band as Sprue reads it: DRAM, the address of its first byte, its length, and the samples of a line. -/
structure Src where
  mem : List Host.Cell
  base : Nat
  len : Nat
  width : Nat

/-- Byte i of the band. -/
def Src.byte (s : Src) (i : Nat) : Nat := (dramByte s.mem (s.base + i)).toNat

/-- Bit p of the band, most significant bit of a byte first (R236). -/
def Src.bit (s : Src) (p : Nat) : Nat := (s.byte (p / 8) >>> (7 - p % 8)) % 2

/-- A field of k bits at p, most significant bit first. -/
def Src.field (s : Src) (p : Nat) : Nat → Nat
  | 0 => 0
  | k + 1 => 2 * s.field p k + s.bit (p + k)

/-- An error of R244: its code, and the byte in which it was found. -/
structure SprueErr where
  code : Nat
  at_ : Nat
deriving DecidableEq, Repr

/-- What a step of the decoder gives: a result, or an error. -/
abbrev SprueRes (α : Type) := Except SprueErr α

/-- An error that ends a line: the line of the pass it names, and the blocks checked before it (R243, R244). -/
structure SprueBad where
  err : SprueErr
  line : Nat
  blocks : Nat := 0
deriving DecidableEq, Repr

/-- Error 7: the band ends before k bits at p. -/
def Src.ends (s : Src) (p k : Nat) : Bool := decide (8 * s.len < p + k)

/-- The error of a band that ends too early. -/
def Src.short (s : Src) : SprueErr := { code := 7, at_ := s.len }

/-- read(k) at p: the value, and the next bit. -/
def Src.read (s : Src) (p k : Nat) : SprueRes (Nat × Nat) :=
  if s.ends p k then .error s.short else .ok (s.field p k, p + k)

/-! ### The codes (R239 to R242) -/

/-- The 1 bits before a 0 bit at p, reading at most n bits: how many, and the next bit. -/
def Src.ones (s : Src) (p q : Nat) : Nat → SprueRes (Nat × Nat)
  | 0 => .ok (q, p)
  | n + 1 => if s.ends p 1 then .error s.short else if s.bit p = 0 then .ok (q, p + 1) else s.ones (p + 1) (q + 1) n

/-- The 0 bits before a 1 bit at p; error 5 when there are n more than allowed. -/
def Src.zeros (s : Src) (p q : Nat) : Nat → SprueRes (Nat × Nat)
  | 0 => .error { code := 5, at_ := (p - 1) / 8 }
  | n + 1 => if s.ends p 1 then .error s.short else if s.bit p = 1 then .ok (q, p + 1) else s.zeros (p + 1) (q + 1) n

/-- rice_k (R241). -/
def riceK (a n : Nat) : Nat := ((List.range 8).find? fun (k : Nat) => decide (a ≤ n * 2 ^ k)).getD 7

/-- read_rice (R241). -/
def Src.readRice (s : Src) (p k : Nat) : SprueRes (Nat × Nat) :=
  match s.ones p 0 12 with
  | .error e => .error e
  | .ok (q, p) =>
    if q = 12 then s.read p 8
    else match s.read p k with
      | .error e => .error e
      | .ok (v, p) => .ok (q * 2 ^ k + v, p)

/-- read_eg (R241). -/
def Src.readEg (s : Src) (p : Nat) : SprueRes (Nat × Nat) :=
  match s.zeros p 0 18 with
  | .error e => .error e
  | .ok (nb, p) => match s.read p nb with
    | .error e => .error e
    | .ok (v, p) => .ok (2 ^ nb + v - 1, p)

/-- pred (R240) from the left neighbour a, the sample above b and the one above to the left c. -/
def medPred (a b c : Nat) : Nat :=
  if max a b ≤ c then min a b else if c ≤ min a b then max a b else a + b - c

/-- unmap (R241), added to a prediction modulo 256. -/
def unmapAdd (pred m : Nat) : Nat := if m % 2 = 0 then (pred + m / 2) % 256 else (pred + 256 - (m + 1) / 2 % 256) % 256

/-- Where the decoder stands inside a PRED line: next bit, Rice state, zero residuals in a row, samples left of a run, and
whether a run has just ended, so that the next sample closes it. -/
structure PredSt where
  p : Nat
  a : Nat
  n : Nat
  z : Nat := 0
  left : Nat := 0
  close : Bool := false

/-- The Rice state after a code value (R242). -/
def riceNext (a n cv : Nat) : Nat × Nat := if n + 1 = 32 then ((a + cv) / 2, 16) else (a + cv, n + 1)

/-- One coded sample of a PRED line (R242): its value and the state after it. -/
def Src.predSample (s : Src) (pred : Nat) (t : PredSt) (run : Nat) : SprueRes (Nat × PredSt) :=
  match s.readRice t.p (riceK t.a t.n) with
  | .error e => .error e
  | .ok (cv, p) =>
    let m := cv + run
    if 255 < m then .error { code := 6, at_ := (p - 1) / 8 }
    else
      let (a, n) := riceNext t.a t.n cv
      .ok (unmapAdd pred m, { p := p, a := a, n := n, z := if run = 0 && m = 0 then t.z + 1 else 0 })

/-- A PRED line (R242): walks the samples of the line above; left and corner are the sample decoded last and the one above
it, at the first sample none. Answers the samples in reverse. -/
def Src.predLine (s : Src) : List Nat → Option (Nat × Nat) → List Nat → PredSt → SprueRes (List Nat × PredSt)
  | [], _, out, t => .ok (out, t)
  | b :: rest, lc, out, t =>
    let pred := match lc with
      | some (a, c) => medPred a b c
      | none => medPred b b b
    if 0 < t.left then s.predLine rest (some (pred, b)) (pred :: out) { t with left := t.left - 1 }
    else if t.close then
      match s.predSample pred t 1 with
      | .error e => .error e
      | .ok (x, t) => s.predLine rest (some (x, b)) (x :: out) t
    else if t.z = 2 then
      match s.readEg t.p with
      | .error e => .error e
      | .ok (n, p) =>
        if rest.length + 1 < n then .error { code := 5, at_ := (p - 1) / 8 }
        else if n = 0 then
          match s.predSample pred { t with p := p, z := 0 } 1 with
          | .error e => .error e
          | .ok (x, t) => s.predLine rest (some (x, b)) (x :: out) t
        else s.predLine rest (some (pred, b)) (pred :: out) { t with p := p, z := 0, left := n - 1, close := true }
    else
      match s.predSample pred t 0 with
      | .error e => .error e
      | .ok (x, t) => s.predLine rest (some (x, b)) (x :: out) t

/-! ### Blocks (R237, R238, R243) -/

/-- CRC-8 of a block header's first seven bytes (R237). -/
def hcrc (l : List Byte) : Nat := crc8 l

/-- A block header at byte h (R237, R244): the next bit, or the error. -/
def Src.header (s : Src) (h : Nat) : SprueRes Nat :=
  if s.len < h + 8 then .error s.short
  else
    let d := dramBytes s.mem (s.base + h) 8
    if leAt d 0 2 != 0x5A53 then .error ⟨1, if s.byte h = 0x53 then h + 1 else h⟩
    else if leAt d 2 1 != 1 then .error ⟨2, h + 2⟩
    else if leAt d 3 1 != 0 then .error ⟨2, h + 3⟩
    else if hcrc (d.take 7) != leAt d 7 1 then .error ⟨3, h + 7⟩
    else if leAt d 4 3 != s.width then .error ⟨4, h + 4⟩
    else .ok (8 * (h + 8))

/-- The end of a block whose end code has been read up to bit p and which began at byte b: padding and CRC (R238). The next
bit, or the error. -/
def Src.blockEnd (s : Src) (b p : Nat) : SprueRes Nat :=
  let e := ceilDiv p 8
  if s.len < e + 4 then .error s.short
  else if crc32 (dramBytes s.mem (s.base + b) (e - b)) != natLE (dramBytes s.mem (s.base + e) 4) then .error ⟨8, e⟩
  else .ok (8 * (e + 4))

/-- The mode code at p (R239): 0 PRED, 1 REPEAT, 2 FILL, 3 RAW, 4 end of block; and the next bit. -/
def Src.mode (s : Src) (p : Nat) : SprueRes (Nat × Nat) := s.ones p 0 4

/-- The samples of a line of a mode, the next bit and the Rice state after it. -/
def Src.lineOf (s : Src) (mode p a n : Nat) (prev : List Nat) : SprueRes (List Nat × Nat × Nat × Nat) :=
  if mode = 1 then .ok (prev, p, a, n)
  else if mode = 2 then
    match s.read p 8 with
    | .error e => .error e
    | .ok (v, p) => .ok (List.replicate s.width v, p, a, n)
  else if mode = 3 then
    if s.ends p (8 * s.width) then .error s.short
    else .ok ((List.range s.width).map fun (i : Nat) => s.field (p + 8 * i) 8, p + 8 * s.width, a, n)
  else
    match s.predLine prev none [] { p := p, a := a, n := n } with
    | .error e => .error e
    | .ok (out, t) => .ok (out.reverse, t.p, t.a, t.n)

/-- A decoded line: the samples, its mode, where the decoder stands after it, and blocks checked on the way. -/
structure SprueOut where
  samples : List Nat
  mode : Nat
  cur : SprueCur
  blocks : Nat := 0
  /-- Bit after the last one read for the line. -/
  used : Nat

/-- The decoder at the start of a block (R238). -/
def SprueCur.open_ (t : SprueCur) (h bit width : Nat) : SprueCur :=
  { t with atHeader := false, block := h, bit := bit, blockLines := 0, prev := List.replicate width 0, a := 4, n := 1 }

/-- The next line from a bit at which a mode code stands (R239, R243): end-of-block codes before it are taken with the
headers that follow them, at most fuel of them: each takes more than a byte. -/
def Src.nextLine (s : Src) (t : SprueCur) (blocks : Nat) : Nat → Except SprueBad SprueOut
  | 0 => .error ⟨s.short, t.line, blocks⟩
  | fuel + 1 =>
    match s.mode t.bit with
    | .error e => .error ⟨e, t.line, blocks⟩
    | .ok (4, p) =>
      match s.blockEnd t.block p with
      | .error e => .error ⟨e, t.line - 1, blocks⟩
      | .ok p =>
        match s.header (p / 8) with
        | .error e => .error ⟨e, t.line, blocks + 1⟩
        | .ok q => s.nextLine (t.open_ (p / 8) q s.width) (blocks + 1) fuel
    | .ok (m, p) =>
      if t.blockLines = 65536 then .error ⟨⟨9, (p - 1) / 8⟩, t.line - 1, blocks⟩
      else
        match s.lineOf m p t.a t.n t.prev with
        | .error e => .error ⟨e, t.line, blocks⟩
        | .ok (x, p, a, n) =>
          .ok { samples := x, mode := m, blocks := blocks, used := p,
                cur := { t with line := t.line + 1, bit := p, blockLines := t.blockLines + 1, prev := x, a := a, n := n } }

/-- What follows the last line of a pass (R243): the block end when its code is there, checked, as the bit after it, or
none where the block is left unchecked. -/
def Src.passEnd (s : Src) (o : SprueOut) : Except SprueBad (Option Nat) :=
  match s.mode o.cur.bit with
  | .error _ => .ok none
  | .ok (4, p) =>
    match s.blockEnd o.cur.block p with
    | .error e => .error ⟨e, o.cur.line - 1, 0⟩
    | .ok p => .ok (some p)
  | .ok (_, p) =>
    if o.cur.blockLines = 65536 then .error ⟨⟨9, (p - 1) / 8⟩, o.cur.line - 1, 0⟩ else .ok none

/-- The byte after the mode code at bit p, or the end of the band. -/
def Src.codeEnd (s : Src) (p : Nat) : Nat :=
  match s.mode p with
  | .ok (_, q) => ceilDiv q 8
  | .error _ => s.len

/-- The byte after the last one that an error rests on: a block CRC of its four (R238). -/
def Src.errEnd (s : Src) (e : SprueErr) : Nat := min s.len (e.at_ + (if e.code = 8 then 4 else 1))

/-- Fuel of nextLine: no band holds more blocks than bytes. -/
def Src.fuel (s : Src) : Nat := s.len + 1

/-- The next line of a band as it is now. -/
def Src.line (s : Src) (t : SprueCur) : Except SprueBad SprueOut := s.nextLine t 0 s.fuel

/-- Blocks that Sprue checks from t on before byte k of the band (R255). -/
def Src.blocksUpTo (s : Src) (t : SprueCur) (k : Nat) : Nat :=
  match ({ s with len := k } : Src).nextLine t 0 s.fuel with
  | .error e => e.blocks
  | .ok o => o.blocks

/-! ### Sprue in a channel -/

/-- The Sprue state of a channel changed. -/
def Core.setSprue (c : Core) (n : Nat) (s : Option SprueCur) : Core :=
  { c with sprues := upd c.sprues n fun (_ : Option SprueCur) => s }

/-- The band a channel's Sprue works on. -/
def Core.sprueBand (c : Core) (n : Nat) : Option (Band × SprueCur) :=
  match nth c.sprues n with
  | none => none
  | some t => ((nth c.jobs n).bands.find? fun (b : Band) => b.uid = t.band).map fun (b : Band) => (b, t)

/-- The band as a source. -/
def Core.srcOf (c : Core) (m : List Host.Cell) (n : Nat) (b : Band) : Src :=
  { mem := m, base := b.addr, len := b.length, width := c.lineBytes n }

/-- A band fails in Sprue (R214, R244): the SPRUE_DECODE record, then BAND_BAD. -/
def sprueFail (n : Nat) (b : Band) (e : SprueErr) (line : Nat) (c : Core) : Core :=
  let payload := 2 ^ 56 * e.code + 2 ^ 32 * (line % 2 ^ 24) + e.at_ % 2 ^ 32
  let c := (c.bump (K.chSprueErrors n)).set (K.chSprueLastErr n) payload
  bandBad n b (c.raise (0x10F0 + 0x100 * n) 1 payload)

/-- A band retires (R215). -/
def bandRetire (n : Nat) (b : Band) (c : Core) : Core := completeBand n 0 b (c.bump (K.chBandsDone n))

/-- The next band Sprue would start on: the first not yet decoded, when it is there and has passed (R214, R243). -/
def Core.sprueNext (c : Core) (n : Nat) : Option Band :=
  match (nth c.jobs n).bands.find? fun (b : Band) => !b.decoded with
  | some b => if b.landed && b.passed then some b else none
  | none => none

/-- Whether the channel takes descriptors, so that Sprue and the intake run (R208, R215). -/
def Core.sprueRuns (c : Core) (n : Nat) : Bool := c.get (K.chState n) != 0 && c.get (K.chState n) != 7

/-- Sprue stands at START_OFFSET of a pass; of a Sprue band it reads the block header there (R243). -/
def sprueEnter (m : List Host.Cell) (n : Nat) (b : Band) (pass : Nat) (c : Core) : Core :=
  let t : SprueCur := { band := b.uid, pass := pass, line := 0, bit := 8 * b.start, atHeader := false, block := b.start,
                        blockLines := 0, prev := [], a := 4, n := 1 }
  let c := if pass = 0 then updBandOf n b.uid (fun (y : Band) => { y with c0 := some (c.get (K.chFlaskWrite n)) }) c else c
  if b.raw then c.setSprue n (some t)
  else
    let (bad, c) := c.hubRead (1 + 4 * n) 0 (b.addr + b.start) (min 8 (b.length - b.start))
    if bad.isSome then bandBad n b c
    else
      let s := c.srcOf m n b
      match s.header b.start with
      | .error e => sprueFail n b e 0 c
      | .ok q => c.setSprue n (some (t.open_ b.start q s.width))

/-- SPRUE_BAND_START: Sprue starts a pass over a band (R216, R243). -/
def sprueBandStart (m : List Host.Cell) (n : Nat) (c : Core) : Core :=
  if !c.sprueRuns n then c
  else match c.sprueBand n with
    | some (b, t) => if t.line = b.lines && decide (t.pass < b.repeats) then sprueEnter m n b (t.pass + 1) c else c
    | none => match c.sprueNext n with
      | some b => sprueEnter m n b 0 c
      | none => c

/-- The Flask of the channel has a free slot: no line that a row still has to read is overwritten (R18, R91). -/
def Core.flaskFree (c : Core) (n : Nat) : Bool :=
  decide (c.get (K.chFlaskWrite n) < c.released n + c.get (K.chFlaskLines n))

/-- A line is written to the Flask (R91), and counted for its job. -/
def flaskPut (m : List Host.Cell) (n : Nat) (b : Band) (samples : List Nat) (c : Core) : Core × List Host.Cell :=
  let w := c.get (K.chFlaskWrite n)
  let bytes := samples.map fun (x : Nat) => BitVec.ofNat 8 x
  let (_, c, m) := c.hubWrite m (2 + 4 * n) (c.flaskAddr n w) bytes
  let c := (c.set (K.chFlaskWrite n) (w + 1)).set (K.chSprueLines n) (c.get (K.chSprueLines n) + 1)
  let c := c.updImg n fun (x : ChImg) =>
    let k := c.get (K.chFlaskLines n)
    { x with flaskBad := x.flaskBad.filter fun (p : Nat × Nat) => decide (w < p.1 + k) }
  (updJobOf n b.job (fun (y : Job) => { y with written := y.written + 1 }) c, m)

/-- Bytes that Sprue has read in a pass are counted for the job; once its last band has been decoded the loads are computed
again with the actual figures (R221). -/
def sprueCount (n : Nat) (b : Band) (bytes : Nat) (c : Core) : Core :=
  updJobOf n b.job (fun (y : Job) => { y with sprueBytes := y.sprueBytes + bytes }) c

/-- The last band of a job has been decoded (R221). -/
def sprueJobEnd (n : Nat) (b : Band) (c : Core) : Core :=
  match c.jobOf n b.job with
  | some j =>
    if b.jobEnd && j.actual then
      admObjects n [] (updJobOf n j.uid (fun (y : Job) => { y with declBytes := y.sprueBytes }) c)
    else c
  | none => c

/-- A pass has ended after reading bytes of the band; after the last pass the band retires, or in beam mode waits for its
page (R215, R216). -/
def spruePassEnd (n : Nat) (b : Band) (t : SprueCur) (bytes : Nat) (c : Core) : Core :=
  let c := sprueCount n b bytes c
  if t.pass < b.repeats then c.setSprue n (some t)
  else
    let c := sprueJobEnd n b (updBandOf n b.uid (fun (y : Band) => { y with decoded := true }) (c.setSprue n none))
    if c.beam then c else bandRetire n { b with decoded := true } c

/-- The bytes [x, y) of a band read by Sprue of channel n, which stops at the first bad or refused burst (R244). -/
def Core.sprueRead (c : Core) (n : Nat) (b : Band) (x y : Nat) : Option Nat × Core :=
  c.hubReadStop (1 + 4 * n) (b.addr + x) (y - x)

/-- A line is counted under its mode (R255). -/
def sprueMode (n mode : Nat) (c : Core) : Core :=
  let old := c.get (K.chSprueModes n)
  c.set (K.chSprueModes n) (setElem 32 old mode (satU 32 (elemAt 32 old mode + 1)))

/-- What follows the last line of a pass is read (R243): the line stays written whatever is found. -/
def sprueTail (s : Src) (n : Nat) (b : Band) (o : SprueOut) (c : Core) : Core :=
  let res := s.passEnd o
  let upTo := match res with
    | .error e => s.errEnd e.err
    | .ok (some p) => ceilDiv p 8
    | .ok none => s.codeEnd o.used
  let (bad, c) := c.sprueRead n b (o.used / 8) upTo
  if bad.isSome then bandBad n b c
  else match res with
    | .error e => sprueFail n b e.err e.line c
    | .ok (some p) => spruePassEnd n b o.cur (ceilDiv p 8 - b.start) (c.bump (K.chSprueBlocks n))
    | .ok none => spruePassEnd n b o.cur (ceilDiv o.used 8 - b.start) (c.bump (K.chSprueUnchecked n))

/-- A line of a Sprue band (R243): read, decoded and written to the Flask; then what follows the last line of the pass. -/
def sprueCoded (m : List Host.Cell) (n : Nat) (b : Band) (t : SprueCur) (c : Core) : Core × List Host.Cell :=
  let s := c.srcOf m n b
  let res := s.line t
  let upTo := match res with
    | .error e => s.errEnd e.err
    | .ok o => ceilDiv o.used 8
  let (bad, c) := c.sprueRead n b (t.bit / 8) upTo
  match bad, res with
  | some k, _ => (bandBad n b (c.addTo (K.chSprueBlocks n) (s.blocksUpTo t (64 * k - b.addr))), m)
  | none, .error e => (sprueFail n b e.err e.line (c.addTo (K.chSprueBlocks n) e.blocks), m)
  | none, .ok o =>
    let (c, m) := flaskPut m n b o.samples c
    let c := (sprueMode n o.mode c).addTo (K.chSprueBlocks n) o.blocks
    if o.cur.line = b.lines then (sprueTail s n b o c, m) else (c.setSprue n (some o.cur), m)

/-- A line of a raw band (R216). -/
def sprueRaw (m : List Host.Cell) (n : Nat) (b : Band) (t : SprueCur) (c : Core) : Core × List Host.Cell :=
  let w := c.lineBytes n
  let a := b.addr + b.start + t.line * w
  let (bad, c) := c.hubRead (1 + 4 * n) 0 a w
  if bad.isSome then (bandBad n b c, m)
  else
    let (c, m) := flaskPut m n b ((c.readBytes m a w).map fun (x : Byte) => x.toNat) c
    let t := { t with line := t.line + 1 }
    if t.line = b.lines then (spruePassEnd n b t (b.lines * w) c, m) else (c.setSprue n (some t), m)

/-- SPRUE_LINE: the next line of the pass is decoded and written to a free Flask slot (R18, R243). -/
def sprueLine (m : List Host.Cell) (n : Nat) (c : Core) : Core × List Host.Cell :=
  match c.sprueBand n with
  | none => (c, m)
  | some (b, t) =>
    if !c.sprueRuns n || !c.flaskFree n || decide (b.lines ≤ t.line) then (c, m)
    else if b.raw then sprueRaw m n b t c
    else sprueCoded m n b t c

/-- CHn.SPRUE_STATE (R255): 1 while a line can be taken, 2 while the Flask is full, 3 while the next band awaits its
verification, 4 while a job taken still owes a band, 0 while none does. -/
def Core.sprueState (c : Core) (n : Nat) : Nat :=
  if !c.sprueRuns n then 0
  else if (c.sprueBand n).isSome then (if c.flaskFree n then 1 else 2)
  else match (nth c.jobs n).bands.find? fun (b : Band) => !b.decoded with
    | some b => if b.landed && !b.passed then 3 else if b.landed then 1 else 4
    | none => if (nth c.jobs n).jobs.any fun (y : Job) => !y.final && (y.state == 1 || y.state == 2) then 4 else 0

end Sys2Proof.Machine
end

