-- ==== Sys2Proof/Machine/Codec.lean ====
section
/-! DEFINITION. Sys2Proof/Machine/Codec.lean: the two compressors (R246 to R253). -/

namespace Sys2Proof.Machine

/-! ### Job descriptors (R247) -/

/-- The fields of a compressor job descriptor. -/
def jdType (d : List Byte) : Nat := leAt d 0 1
def jdChain (d : List Byte) : Bool := (leAt d 1 1).testBit 0
def jdLog (d : List Byte) : Bool := (leAt d 1 1).testBit 1
def jdTag (d : List Byte) : Nat := leAt d 2 2
def jdWidth (d : List Byte) : Nat := leAt d 4 4
def jdIn (d : List Byte) : Nat := leAt d 8 8
def jdLines (d : List Byte) : Nat := leAt d 16 4
def jdStride (d : List Byte) : Nat := leAt d 20 4
def jdOut (d : List Byte) : Nat := leAt d 24 8
def jdOutSize (d : List Byte) : Nat := leAt d 32 4
def jdBlock (d : List Byte) : Nat := leAt d 36 2
def jdLogAddr (d : List Byte) : Nat := leAt d 40 8
def jdLogSize (d : List Byte) : Nat := leAt d 48 4

/-- A descriptor has a reserved field that is not 0, or a type that is none (R247, R248). -/
def jdBad (first : Bool) (d : List Byte) : Bool :=
  field (leAt d 1 1) 7 2 != 0 ||
  (if jdType d = 1 then
    leAt d 0x26 2 != 0 || leAt d 0x34 12 != 0 ||
      (!first && (jdLog d || leAt d 2 2 != 0 || jdWidth d != 0 || leAt d 0x18 0x1C != 0))
   else if jdType d = 2 then jdLog d || leAt d 2 62 != 0
   else true)

/-- The descriptors of a job that carry lines. -/
def jobLines (job : List (List Byte)) : List (List Byte) := job.filter fun (d : List Byte) => jdType d = 1

/-- The input bytes of a job. -/
def jobInput (job : List (List Byte)) : Nat :=
  match job with
  | [] => 0
  | f :: _ => (jobLines job).foldl (fun (a : Nat) (d : List Byte) => a + jdWidth f * jdLines d) 0

/-- The regions a LINES descriptor reads: one per line where the lines lie apart, in all one stretch. -/
def jdRegion (w : Nat) (d : List Byte) : Nat × Nat := (jdIn d, (jdLines d - 1) * jdStride d + w)

/-- Two regions, each a start and a length, overlap. -/
def overlaps (p q : Nat × Nat) : Bool := decide (p.2 != 0 && q.2 != 0) && decide (p.1 < q.1 + q.2) && decide (q.1 < p.1 + p.2)

/-- Whether a region overlaps a line that a LINES descriptor reads: the gaps between lines hold no input. -/
def hitsLines (w : Nat) (d : List Byte) (p : Nat × Nat) : Bool :=
  if !overlaps (jdRegion w d) p then false
  else
    let s := max 1 (jdStride d)
    let i := (p.1 - jdIn d) / s
    [i, i + 1].any fun (k : Nat) => decide (k < jdLines d) && overlaps (jdIn d + k * jdStride d, w) p

/-- The Flask region of a channel that is not IDLE overlaps a region. -/
def Core.hitsFlask (c : Core) (p : Nat × Nat) : Bool :=
  (List.range 8).any fun (k : Nat) =>
    c.get (K.chState k) != 0 && overlaps (c.get (K.chFlaskBase k), c.get (K.chFlaskLines k) * c.get (K.chFlaskSlot k)) p

/-- A job fails with FORMAT (R248). -/
def Core.jobFormat (c : Core) (job : List (List Byte)) : Bool :=
  match job with
  | [] => true
  | f :: r =>
    let w := jdWidth f
    let out := (jdOut f, jdOutSize f)
    let log := (jdLogAddr f, if jdLog f then 8 * jdLogSize f else 0)
    let ls := jobLines job
    let cap := c.capBytes
    let inside := fun (p : Nat × Nat) => decide (p.1 + p.2 ≤ cap)
    jdBad true f || r.any (jdBad false) || jdType f != 1 || !(decide (1 ≤ w) && decide (w ≤ 131072)) ||
      !(decide (1 ≤ jdBlock f) && decide (jdBlock f ≤ 4096)) ||
      ls.any (fun (d : List Byte) => !(decide (1 ≤ jdLines d) && decide (jdLines d ≤ 1048576)) || decide (jdStride d < w)) ||
      decide (0xFFFFFFFF < jobInput job) || !inside out || !inside log ||
      ls.any (fun (d : List Byte) => !inside (jdRegion w d) || hitsLines w d out || hitsLines w d log) ||
      overlaps out log || c.hitsFlask out || c.hitsFlask log

/-! ### The encoder (R249 to R251) -/

/-- The code words of a PRED line's samples (R242): value and number of bits each, with the Rice state after them. The run
in progress is counted in run; z counts zero residuals. -/
def predWords : List (Nat × Nat) → Option (Nat × Nat) → Nat → Option Nat → Nat → Nat → List (Nat × Nat) × Nat × Nat
  | [], _, _, run, a, n =>
    (match run with
      | some k => [egWord k]
      | none => [], a, n)
  | (x, b) :: rest, lc, z, run, a, n =>
    let pred := match lc with
      | some (l, cc) => medPred l b cc
      | none => medPred b b b
    let run := match run with
      | some k => some k
      | none => if z = 2 then some 0 else none
    match run with
    | some k =>
      if x = pred then predWords rest (some (x, b)) 0 (some (k + 1)) a n
      else
        let cv := mapped pred x - 1
        let (a', n') := riceNext a n cv
        let (l, e) := predWords rest (some (x, b)) 0 none a' n'
        (egWord k :: riceWord (riceK a n) cv :: l, e)
    | none =>
      let m := mapped pred x
      let (a', n') := riceNext a n m
      let (l, e) := predWords rest (some (x, b)) (if m = 0 then z + 1 else 0) none a' n'
      (riceWord (riceK a n) m :: l, e)
where
  /-- The code word of a run of k samples (R241). -/
  egWord (k : Nat) : Nat × Nat := (k + 1, 2 * Nat.log2 (k + 1) + 1)
  /-- The code word of a value (R241, R249). -/
  riceWord (k cv : Nat) : Nat × Nat :=
    let q := cv / 2 ^ k
    if 12 ≤ q then (0xFFF * 256 + cv, 20) else ((2 ^ q - 1) * 2 * 2 ^ k + cv % 2 ^ k, q + 1 + k)
  /-- A residual mapped to 0 to 255. -/
  mapped (pred x : Nat) : Nat :=
    let d := (x + 256 - pred) % 256
    if d < 128 then 2 * d else 2 * (256 - d) - 1

/-- The output of a job so far: bytes of finished blocks, the open block as a number of bits with its value, its lines and
its decoder state, lines taken, log entries, and the status with which it failed (0: none). -/
structure EncSt where
  out : List Byte := []
  outLen : Nat := 0
  isOpen : Bool := false
  acc : Nat := 0
  bits : Nat := 0
  lines : Nat := 0
  prev : List Nat := []
  a : Nat := 4
  n : Nat := 1
  taken : Nat := 0
  log : List (Nat × Nat) := []
  status : Nat := 0
  /-- First bad burst of the input. -/
  badAt : Option Nat := none

/-- The limits of a job: input bytes, OUT_SIZE, log entries when a log is written. -/
structure EncLim where
  input : Nat
  outSize : Nat
  logSize : Option Nat
  width : Nat
  block : Nat

/-- A code word written, unless the output would then hold too many bytes (R250). -/
def encWord (lim : EncLim) (t : EncSt) (w : Nat × Nat) : EncSt :=
  if t.status != 0 then t
  else
    let bytes := t.outLen + ceilDiv (t.bits + w.2) 8
    if lim.input < bytes then { t with status := 2 }
    else if lim.outSize < bytes then { t with status := 1 }
    else { t with acc := t.acc * 2 ^ w.2 + w.1, bits := t.bits + w.2 }

/-- Code words written in order. -/
def encWords (lim : EncLim) (t : EncSt) (l : List (Nat × Nat)) : EncSt := l.foldl (encWord lim) t

/-- A block opened (R237, R249, R251). -/
def encOpen (lim : EncLim) (t : EncSt) : EncSt :=
  if t.isOpen || t.status != 0 then t
  else if (match lim.logSize with
      | some k => decide (k ≤ t.log.length)
      | none => false) then { t with status := 6 }
  else
    let head := bytesLE 2 0x5A53 ++ bytesLE 1 1 ++ bytesLE 1 0 ++ bytesLE 3 lim.width
    let t := { t with isOpen := true, acc := 0, bits := 0, lines := 0, prev := List.replicate lim.width 0, a := 4, n := 1,
                      log := t.log ++ [(t.taken, t.outLen)] }
    encWord lim t (natBE (head ++ bytesLE 1 (hcrc head)), 64)

/-- A block ended: end code, padding and CRC (R238). -/
def encClose (lim : EncLim) (t : EncSt) : EncSt :=
  if !t.isOpen || t.status != 0 then t
  else
    let t := encWord lim t (15, 4)
    let pad := (8 - t.bits % 8) % 8
    let body := bytesBE ((t.bits + pad) / 8) (t.acc * 2 ^ pad)
    let t := encWord lim { t with acc := t.acc * 2 ^ pad, bits := t.bits + pad } (natBE (bytesLE 4 (crc32 body)), 32)
    if t.status != 0 then t
    else { t with isOpen := false, out := t.out ++ body ++ bytesLE 4 (crc32 body), outLen := t.outLen + t.bits / 8, bits := 0 }

/-- A line coded in the first mode of R249 that applies. -/
def encLine (lim : EncLim) (t : EncSt) (x : List Nat) : EncSt :=
  let t := encOpen lim t
  if t.status != 0 then t
  else
    let v := x.headD 0
    let t' :=
      if x = t.prev then encWord lim t (2, 2)
      else if x.all fun (y : Nat) => y = v then encWords lim t [(6, 3), (v, 8)]
      else
        let (ws, a, n) := predWords (x.zip t.prev) none 0 none t.a t.n
        if ws.foldl (fun (s : Nat) (w : Nat × Nat) => s + w.2) 0 ≤ 8 * lim.width then
          { encWords lim t ((0, 1) :: ws) with a := a, n := n }
        else encWords lim t ((14, 4) :: x.map fun (y : Nat) => (y, 8))
    let t' := { t' with prev := x, lines := t.lines + 1, taken := t.taken + 1 }
    if t'.lines = lim.block then encClose lim t' else t'

/-- k lines from address a, each read by compressor u: a line that meets a bad burst fails the job with MEMORY (R250). -/
def encLines (m : List Host.Cell) (u : Nat) (lim : EncLim) (stride : Nat) : Nat → Nat → EncSt → Core → EncSt × Core
  | 0, _, t, c => (t, c)
  | k + 1, a, t, c =>
    if t.status != 0 then (t, c)
    else
      let (bad, c) := c.hubRead (0x30 + u) 0 a lim.width
      match bad with
      | some b => ({ t with status := 4, badAt := some b }, c)
      | none =>
        encLines m u lim stride k (a + stride) (encLine lim t ((c.readBytes m a lim.width).map fun (x : Byte) => x.toNat)) c

/-- The descriptors of a job in order (R249). -/
def encJob (m : List Host.Cell) (u : Nat) (lim : EncLim) : List (List Byte) → EncSt → Core → EncSt × Core
  | [], t, c => (encClose lim t, c)
  | d :: r, t, c =>
    if jdType d = 2 then encJob m u lim r (encClose lim t) c
    else
      let (t, c) := encLines m u lim (jdStride d) (jdLines d) (jdIn d) t c
      encJob m u lim r t c

/-! ### Jobs -/

/-- The first complete job at the head of a queue, and what is behind it (R246). -/
def jobSplit : List (List Byte) → Option (List (List Byte) × List (List Byte))
  | [] => none
  | d :: r =>
    if jdChain d then (jobSplit r).map fun (p : List (List Byte) × List (List Byte)) => (d :: p.1, p.2)
    else some ([d], r)

/-- Compressor state changed. -/
def Core.updCodec (c : Core) (u : Nat) (f : CodecUnit → CodecUnit) : Core := { c with codecs := upd c.codecs u f }

/-- Entries of codec job ring 48 + j that the host has submitted and that have not been read (R293). -/
def Core.codecUnread (c : Core) (j : Nat) : Nat :=
  let r := nth c.rings (48 + j)
  if r.enable then (r.prod + (2 ^ 32 - r.cons)) % 2 ^ 32 else 0

/-- A compressor job is open (R253): one runs, or a complete one waits; of entries not yet read, which may end a job, one is
taken to be open (log 89). -/
def Core.codecOpen (c : Core) : Bool :=
  c.codecs.any (fun (x : CodecUnit) => x.running) || c.codecQueue.any (fun (q : List (List Byte)) => (jobSplit q).isSome) ||
    (List.range 4).any fun (j : Nat) => decide (0 < c.codecUnread j)

/-- The result record of a job (R252), with the counters of R255. -/
def codecResult (j unit status tag value : Nat) (c : Core) : Core :=
  let c := if status = 0 then c.bump K.codecJobsOk else c.bump K.codecJobsFailed
  let c := if status = 2 then c.bump K.codecNoshrinks else c
  c.recordDev (52 + j) (0x0A40 + j) 1 (2 ^ 56 * status + 2 ^ 48 * unit + 2 ^ 32 * (tag % 2 ^ 16) + value % 2 ^ 32)

/-- A compressor becomes free. -/
def codecFree (u : Nat) (c : Core) : Core :=
  (c.updCodec u fun (x : CodecUnit) => { x with running := false, job := [] }).setBitOf K.codecBusy u false

/-- CODEC_JOB_START: a free compressor takes the oldest complete job of the next ring in round-robin order (R246); a job
that R248 rejects ends at once. -/
def codecJobStart (u : Nat) (c : Core) : Core :=
  if (nth c.codecs u).running then c
  else
    let order := (List.range 4).map fun (i : Nat) => ((nth c.codecs u).last + 1 + i) % 4
    let ready := order.find? fun (j : Nat) =>
      (jobSplit (nth c.codecQueue j)).isSome && !c.codecs.any fun (x : CodecUnit) => x.running && x.ring = j
    match ready with
    | none => c
    | some j =>
      match jobSplit (nth c.codecQueue j) with
      | none => c
      | some (job, rest) =>
        let c := { c with codecQueue := upd c.codecQueue j fun (_ : List (List Byte)) => rest }.updCodec u
          fun (x : CodecUnit) => { x with last := j }
        let tag := jdTag (job.headD [])
        let c := c.set (if u = 0 then K.codecUnit0Tag else K.codecUnit1Tag) tag
        if c.jobFormat job then codecResult j u 3 tag 0 c
        else
          (c.updCodec u fun (x : CodecUnit) => { x with running := true, ring := j, job := job }).setBitOf K.codecBusy u true

/-- The output and log regions of a failed job take free values (R250). -/
def codecUndefined (job : List (List Byte)) (c : Core) (m : List Host.Cell) : Core × List Host.Cell :=
  match job with
  | [] => (c, m)
  | f :: _ => freeRanges ([(jdOut f, jdOutSize f)] ++ (if jdLog f then [(jdLogAddr f, 8 * jdLogSize f)] else [])) c m

/-- CODEC_JOB_DONE: a compressor's job ends (R249 to R252). -/
def codecJobDone (m : List Host.Cell) (u : Nat) (c : Core) : Core × List Host.Cell :=
  let x := nth c.codecs u
  match x.running, x.job with
  | true, f :: r =>
    let job := f :: r
    let input := jobInput job
    let lim : EncLim := { input := input, outSize := jdOutSize f, logSize := if jdLog f then some (jdLogSize f) else none,
                          width := jdWidth f, block := jdBlock f }
    let (t, c) := encJob m u lim job {} c
    let c := codecFree u c
    if t.status = 0 then
      let (_, c, m) := c.hubWrite m (0x30 + u) (jdOut f) t.out
      let log := t.log.flatMap fun (p : Nat × Nat) => bytesLE 8 (2 ^ 32 * p.1 + p.2)
      let (_, c, m) := if jdLog f then c.hubWrite m (0x30 + u) (jdLogAddr f) log else (none, c, m)
      let c := (c.addTo K.codecBytesIn input).addTo K.codecBytesOut t.outLen
      (codecResult x.ring u 0 (jdTag f) t.outLen c, m)
    else
      let (c, m) := codecUndefined job c m
      let c := codecResult x.ring u t.status (jdTag f) (if t.status = 2 then input else 0) c
      (match t.badAt with
        | some b => c.raise (0x0A50 + u) 1 (b * 64 % 2 ^ 48)
        | none => c, m)
  | _, _ => (c, m)

/-- Every complete job at the head of a queue completes with ABORTED (R253): what is left of the queue. -/
def codecFlush (j : Nat) : Nat → List (List Byte) → Core → List (List Byte) × Core
  | 0, q, c => (q, c)
  | fuel + 1, q, c =>
    match jobSplit q with
    | none => (q, c)
    | some (job, rest) => codecFlush j fuel rest (codecResult j 0xFF 5 (jdTag (job.headD [])) 0 c)

/-- The queued jobs of ring j end with ABORTED (R253); the descriptors of an incomplete job are discarded once no entry that
was in the ring at the abort is still to be read. -/
def codecSweep (j : Nat) (c : Core) : Core :=
  let q := nth c.codecQueue j
  let (rest, c) := codecFlush j (q.length + 1) q c
  let rest := if nth c.codecAborts j = 0 then [] else rest
  { c with codecQueue := upd c.codecQueue j fun (_ : List (List Byte)) => rest }

/-- An entry of codec job ring 48 + j has been read (R293): it is queued, or it ends with the jobs that CODEC.ABORT named while
it was still in its ring (R253). -/
def codecRead (j : Nat) (e : List Byte) (c : Core) : Core :=
  let c := { c with codecQueue := upd c.codecQueue j fun (q : List (List Byte)) => q ++ [e] }
  if nth c.codecAborts j = 0 then c
  else codecSweep j { c with codecAborts := upd c.codecAborts j fun (k : Nat) => k - 1 }

/-- The entries of codec job ring 48 + j are gone: what an abort still expected of them is discarded. -/
def codecRingGone (j : Nat) (c : Core) : Core :=
  if nth c.codecAborts j = 0 then c
  else codecSweep j { c with codecAborts := upd c.codecAborts j fun (_ : Nat) => 0 }

/-- CODEC_ABORT: the running and queued jobs of the rings named end with ABORTED (R253). -/
def codecAbort (v : Nat) (c : Core) (m : List Host.Cell) : Core × List Host.Cell :=
  (bitsOf 4 v).foldl (fun (s : Core × List Host.Cell) (j : Nat) =>
    let (c, m) := s
    let (c, m) := (List.range 2).foldl (fun (s : Core × List Host.Cell) (u : Nat) =>
      let (c, m) := s
      let x := nth c.codecs u
      if x.running && x.ring = j then
        let (c, m) := codecUndefined x.job c m
        (codecResult j u 5 (jdTag (x.job.headD [])) 0 (codecFree u c), m)
      else (c, m)) (c, m)
    let left := c.codecUnread j
    (codecSweep j { c with codecAborts := upd c.codecAborts j fun (_ : Nat) => left }, m))
    (c, m)

end Sys2Proof.Machine
end

