-- ==== Sys2Proof/Machine/Recast.lean ====
section
/-! DEFINITION. Sys2Proof/Machine/Recast.lean: Recast (R222 to R232). -/

namespace Sys2Proof.Machine

/-- The Recast state changed. -/
def Core.updRcst (c : Core) (f : Rcst → Rcst) : Core := { c with rcst := f c.rcst }

/-- The web position that Recast goes by (R224). -/
def Core.rcstWeb (c : Core) : Nat := c.webPos (c.get K.rcstClock)

/-- A Recast pin driven, when one is named (R226). -/
def rcstPin (gpio level : Nat) (c : Core) : Core := if gpio < 32 then c.emit (.pin "GPIO" gpio level) else c

/-- RCST.PHASE changes, and with it the pins of R226. -/
def setPhase (p : Nat) (c : Core) : Core :=
  let c := c.set K.rcstPhase p
  let c := rcstPin (c.get K.rcstGpioActive) (b2n (p != 0)) c
  let c := rcstPin (c.get K.rcstGpioReverse) (b2n (p = 2)) c
  rcstPin (c.get K.rcstGpioReady) (b2n (p = 4 || p = 5)) c

/-- The stop line S_n of a channel that takes part: the line of its next boundary, or the one it is held at (R223). -/
def Core.stopLine (c : Core) (n : Nat) : Nat :=
  if c.get (K.chState n) = 4 then c.get (K.chHeldLine n) else c.get (K.chLineHigh n) + 1

/-- B_n, the web position of channel n's stop boundary (R224). -/
def Core.stopWeb (c : Core) (n : Nat) : Nat := (256 * c.stopLine n + c.get (K.chBarOffset n)) % posMod

/-- Channels that take part: held, or asked to hold. -/
def Core.rcstChannels (c : Core) : List Nat :=
  (List.range 8).filter fun (n : Nat) => c.get (K.chState n) = 4 || (nth c.jobs n).holdReq

/-- The windows of R224 for a request at the present web position. -/
def rcstWindows (c : Core) : Core :=
  let p := c.rcstWeb
  let ds := c.rcstChannels.map fun (n : Nat) => posDiff (c.stopWeb n) p
  let lo := ds.foldl min (ds.headD 0)
  let hi := ds.foldl max (ds.headD 0)
  let first := posAdd p lo
  let last := posAdd p hi
  let c := ((c.set K.rcstPRequest p).set K.rcstPFirst first).set K.rcstPLast last
  ((c.set K.rcstPClear (posAdd last 224)).set K.rcstPBack (posAdd first (-(c.get K.rcstApproach : Nat)))).set
    K.rcstPDecide (posAdd first (-256))

/-- A Recast begins, or begins again with the channels that had resumed (R223, R224, R230). -/
def rcstBegin (reason : Nat) (c : Core) : Core :=
  let c := (List.range 8).foldl (fun (c : Core) (n : Nat) =>
    let s := c.get (K.chState n)
    if s = 2 || s = 3 || s = 5 then c.updJob n fun (x : ChJob) => { x with holdReq := true } else c) c
  let d := c.get K.devState
  let c := c.updRcst fun (x : Rcst) =>
    { x with requestAt := c.clock, passes := 0, resumed := false, overrun := false, goArmed := false, tellGo := false,
             below := false, fromState := if d = 6 then x.fromState else d }
  let c := setPhase 1 (setDevState 6 (rcstWindows c))
  c.raise 0x0250 1 (2 ^ 56 * reason + c.get K.rcstPRequest)

/-- A request for Recast (R222, R230), in nozzle mode. It has no effect beyond RCST.LAST_REASON unless the device is ARMED
or PRINTING, or in a Recast; in phases 1 to 4 it is merged. Requests of its own reach the other devices of the press
(R393). -/
def requestRecast (reason : Nat) (c : Core) : Core :=
  let c := c.set K.rcstLastReason reason
  let ph := c.get K.rcstPhase
  let d := c.get K.devState
  if c.beam || (ph = 0 && d != 4 && d != 5) then c
  else
    let c := if reason != 7 && c.get K.qdEnable = 1 then c.updRcst fun (x : Rcst) => { x with tellPeers := true } else c
    if ph = 0 || ph = 5 then rcstBegin reason c else c

/-- The Recast ends (R226, R436): RCST.PHASE returns to 0 and the device to the state it was in, unless a fault took it. -/
def rcstEnd (done : Bool) (c : Core) : Core :=
  let c := setPhase 0 (if done then c.bump K.rcstCount else c)
  let c := c.updRcst fun (x : Rcst) => { x with goArmed := false, tellGo := false, below := false }
  if c.get K.devState = 6 then setDevState c.rcst.fromState c else c

/-- HELD_STOP: at its stop boundary a channel that was asked to hold enters HELD without taking the boundary (R223). -/
def heldStop (n : Nat) (c : Core) : Core :=
  let s := c.get (K.chState n)
  let l := c.get (K.chLineHigh n) + 1
  if (nth c.jobs n).holdReq && (s = 2 || s = 3 || s = 5) && reached (c.chPos n) (256 * l % posMod) then
    let c := c.set (K.chHeldLine n) l
    let c := c.updJob n fun (x : ChJob) => { x with holdReq := false, heldFrom := s }
    let c := lateEnds n c
    let c := setChState n 4 c
    c.recordCh (6 * n + 2) n (0x1008 + 0x100 * n) 5 (2 ^ 56 * c.get K.rcstLastReason + l % 2 ^ 40)
  else c

/-- Whether a contone line is in the Flask: written and not yet released. -/
def Core.resident (c : Core) (n cl : Nat) : Bool := decide (cl < c.get (K.chFlaskWrite n))

/-- The conditions of R227 for channel n, the first left out. -/
def Core.readyData (c : Core) (n : Nat) : Bool :=
  c.get (K.chHeadHotMap n) = 0 && c.lanesUp n && !c.faultActive (0x1040 + 0x100 * n) 1 && !c.activeOn n 3 &&
    (List.range (c.get (K.chFetchLead n) + c.get K.rcstDataAhead)).all fun (i : Nat) =>
      (c.contoneNeeds n (c.get (K.chHeldLine n) + i)).all fun (cl : Nat) => c.resident n cl

/-- The first condition of R227: the synthesiser of the channel is locked and settled (R65). -/
def Core.readyClock (c : Core) (n : Nat) : Bool :=
  let st := c.get (K.lcStatus (c.get (K.chClockSrc n)))
  st.testBit 1 && st.testBit 2

/-- A held channel is ready (R227). -/
def Core.heldReady (c : Core) (n : Nat) : Bool := c.readyClock n && c.readyData n

/-- The held channels. -/
def Core.heldChannels (c : Core) : List Nat := (List.range 8).filter fun (n : Nat) => c.get (K.chState n) = 4

/-- RECAST_BACKUP: in STOPPING the web passes P_CLEAR forward (R226). -/
def recastBackup (c : Core) : Core :=
  if c.get K.rcstPhase = 1 && reached c.rcstWeb (c.get K.rcstPClear) then
    setPhase 2 (c.updRcst fun (x : Rcst) => { x with goArmed := false })
  else c

/-- RECAST_WAIT: in BACKUP the web is at or below P_BACK (R226). -/
def recastWait (c : Core) : Core :=
  if c.get K.rcstPhase = 2 && reached (c.get K.rcstPBack) c.rcstWeb then setPhase 3 c else c

/-- RECAST_APPROACH: in WAIT every held channel meets every condition of R227 except the first (R226). In a press of several
devices GO is to be proposed (R393). -/
def recastApproach (c : Core) : Core :=
  if c.get K.rcstPhase = 3 && c.heldChannels.all c.readyData then
    let c := if c.get K.qdEnable = 1 then c.updRcst fun (x : Rcst) => { x with tellGo := true } else c
    setPhase 4 c
  else c

/-- A NO-GO decision (R228, R401). -/
def noGo (c : Core) : Core :=
  let armed := c.rcst.goArmed
  let c := c.bump K.rcstPasses
  let c := c.updRcst fun (x : Rcst) => { x with passes := x.passes + 1, goArmed := false, tellGo := false }
  let c := setPhase 2 (c.raise 0x0251 1 (c.get K.rcstPasses))
  if armed then requestRecast 8 c else c

/-- Whether GO needs the other devices of the press: Quadrille in use with a peer (R401). -/
def Core.severalDevices (c : Core) : Bool :=
  c.get K.qdEnable = 1 && c.get K.qdPeers != 2 ^ c.get K.qdAddr

/-- RECAST_DECIDE: the web crosses P_DECIDE forward (R228, R401). -/
def recastDecide (c : Core) : Core :=
  let ph := c.get K.rcstPhase
  if ph != 0 && c.rcst.below && reached c.rcstWeb (c.get K.rcstPDecide) then
    let c := c.updRcst fun (x : Rcst) => { x with below := false }
    if ph = 4 && c.heldChannels.all c.heldReady && (!c.severalDevices || c.rcst.goArmed) then setPhase 5 c
    else noGo c
  else c

/-- RECAST_OVERRUN: the web has travelled beyond the reverse window (R225). -/
def recastOverrun (c : Core) : Core :=
  if c.get K.rcstPhase != 0 && !c.rcst.overrun &&
      reached c.rcstWeb (posAdd (c.get K.rcstPRequest) (c.get K.rcstOverrunMax : Nat)) then
    (c.updRcst fun (x : Rcst) => { x with overrun := true }).raise 0x0252 1 c.rcstWeb
  else c

/-- RECAST_HOLD_TIMEOUT: GO has not come within HOLD_TIMEOUT of the request (R231). -/
def recastHoldTimeout (c : Core) : Core :=
  let ph := c.get K.rcstPhase
  if ph != 0 && ph != 5 && decide (c.rcst.requestAt + c.get K.rcstHoldTimeout * 1000000 ≤ c.clock) then
    c.raise 0x0253 1 1
  else c

/-- RECAST_PASS_LIMIT: MAX_PASSES NO-GO decisions since the request (R231). -/
def recastPassLimit (c : Core) : Core :=
  if c.get K.rcstPhase != 0 && decide (c.get K.rcstMaxPasses ≤ c.rcst.passes) then c.raise 0x0253 1 2 else c

/-- What follows every change of the machine for Recast: the web seen below P_DECIDE, and the end of a Recast of which no
channel is left (R226, R230, R438). -/
def rcstWatch (c : Core) : Core :=
  let ph := c.get K.rcstPhase
  if ph = 0 then c
  else
    let c := if !reached c.rcstWeb (c.get K.rcstPDecide) then c.updRcst fun (x : Rcst) => { x with below := true } else c
    if c.rcstChannels.isEmpty then rcstEnd (ph = 5 && c.rcst.resumed) c else c

/-- RCST.SETTLE_DIST (R224): RESUME_SPEED times (4 / (zeta omega) + LOCK_TIME), rounded up. -/
def Core.settleDist (c : Core) (speed : Nat) : Nat :=
  let i := c.get K.rcstClock
  let d := c.get (K.lcDamping i)
  let f := c.get (K.lcBandwidth i)
  ceilDiv (speed * (2000 * 2 ^ 128 * 10 ^ 6 + c.get (K.lcLockTime i) * pi128 * d * f)) (max 1 (pi128 * d * f * 10 ^ 6))

end Sys2Proof.Machine
end

