-- ==== Sys2Proof/Machine/Beam.lean ====
section
/-! DEFINITION. Sys2Proof/Machine/Beam.lean: scanners, sweeps, scan tables, beam power, sheets and pages (R174 to R202). Times
of sweeps are device times in units of 2^-32 ns. -/

namespace Sys2Proof.Machine

/-- The scanner of a channel changed. -/
def Core.updScan (c : Core) (n : Nat) (f : Scan → Scan) : Core := { c with scans := upd c.scans n f }

/-! ### Times of a sweep -/

/-- Beams of channel n. -/
def Core.beams (c : Core) (n : Nat) : Nat := max 4 (c.get (K.chBeams n))

/-- Mean phi of R180 over the last SCAN_AVG measured sweeps. -/
def Core.scanPhi (c : Core) (n : Nat) : Int :=
  let l := (nth c.scans n).phis.take (c.get (K.chScanAvg n))
  roundNear (l.foldl (fun (a b : Int) => a + b) 0) (max 1 l.length)

/-- An angle in millidegrees as a time at the scan frequency: v / (360 f). -/
def Core.phaseTime (c : Core) (v : Int) : Int :=
  roundNear (v * ((1000000000 * 2 ^ 32 : Nat) : Int)) (360 * max 1 (c.get K.beamScanFreq))

/-- Centre time t_S of sweep s (R180, R182), before rounding: from the measurements in LOCKED, from the drive before. -/
def Core.sweepExact (c : Core) (n : Nat) (s : Int) : Int :=
  let x := nth c.scans n
  if c.get (K.chScanState n) = 3 && x.phis != [] then c.scanPhi n + c.halfPeriods s
  else c.driveEdgeAt ((x.edge0 : Int) + s / 2 - (c.driveCount : Int)) + c.phaseTime (c.geti (K.chMirPhaseNom n)) +
    (if s % 2 = 1 then c.halfPeriods 1 else 0)

/-- t_S rounded to 0.25 ns (R180). -/
def Core.sweepTime (c : Core) (n : Nat) (s : Int) : Int := roundNear (c.sweepExact n s) (2 ^ 30) * 2 ^ 30

/-- C(s) = t_S(s) - SWEEP_LEAD (R183). -/
def Core.commitTime (c : Core) (n : Nat) (s : Int) : Int := c.sweepTime n s - ((c.get (K.chSweepLead n) * 2 ^ 32 : Nat) : Int)

/-- Whether sweeps run: ACQUIRE or LOCKED. -/
def Core.sweeping (c : Core) (n : Nat) : Bool := c.beam && (c.get (K.chScanState n) = 2 || c.get (K.chScanState n) = 3)

/-! ### Power blocks (R194) -/

/-- Whether setpoints of lane k that have changed wait to be sent. -/
def Core.powerWaits (c : Core) (n k : Nat) : Bool :=
  c.laneUp (4 * n + k) && natLE (powerBlock c n k) != (nth c.scans n).power.getD k 0

/-- Power blocks of the lanes whose setpoints have changed, at most one a lane in a sweep. -/
def powerSend (n : Nat) (c : Core) : Core :=
  (List.range 4).foldl (fun (c : Core) (k : Nat) =>
    let x := nth c.scans n
    let data := powerBlock c n k
    let now := some (c.get (K.chSweep n))
    if c.powerWaits n k && x.powerAt.getD k none != now then
      bulkQueue (4 * n + k) 3 0x40020000 data
        (c.updScan n fun (y : Scan) => { y with power := y.power.set k (natLE data), powerAt := y.powerAt.set k now })
    else c) c

/-! ### Pages -/

/-- The page of a number. -/
def Core.pageOf (c : Core) (num : Nat) : Option Page := c.pages.find? fun (p : Page) => p.num = num

/-- A page changed. -/
def updPage (num : Nat) (f : Page → Page) (c : Core) : Core :=
  { c with pages := c.pages.map fun (p : Page) => if p.num = num then f p else p }

/-- The lowest channel of a mask. -/
def lowCh (mask : Nat) : Nat := (bitsOf 8 mask).headD 0

/-- A page outcome record (R202), with its counter. -/
def pageRecord (outcome reason mask cause num : Nat) (c : Core) : Core :=
  let n := lowCh mask
  let o := if outcome = 1 then K.chPagesPrinted n else if outcome = 2 then K.chPagesSpoiled n else K.chPagesSkipped n
  (c.bump o).recordCh (6 * n + 2) n (0x10E8 + 0x100 * n) 4
    (2 ^ 56 * outcome + 2 ^ 48 * reason + 2 ^ 40 * mask + 2 ^ 32 * cause + num % 2 ^ 32)

/-- The bands of a page on a channel retire (R215). -/
def releaseBands (n num : Nat) (c : Core) : Core :=
  ((nth c.jobs n).bands.filter fun (b : Band) => b.page = num).foldl (fun (c : Core) (b : Band) => bandRetire n b c) c

/-- CHn.PAGE_STATE from the pages that run on the channel (R204). -/
def pageState (n : Nat) (c : Core) : Core :=
  let open_ := (nth c.runs n).filter fun (r : PageRun) => !r.finished
  c.set (K.chPageState n) (if open_.any fun (r : PageRun) => !r.spoiled then 1 else if open_.isEmpty then 0 else 2)

/-- The lines of a spoiled page that belong to sweeps not yet committed go out blank (R200). -/
def blankLines (n num : Nat) (c : Core) : Core :=
  match (nth c.runs n).find? fun (r : PageRun) => r.page = num && !r.finished with
  | none => c
  | some r =>
    let b := c.beams n
    let s := c.nextSweep n
    let e := c.runEnd n r
    let hit := fun (l : Nat) => decide (s ≤ l / b) && decide (r.l0 ≤ l) && decide (l < e)
    let c := c.updImg n fun (g : ChImg) =>
      { g with bufs := g.bufs.map fun (x : LineBuf) => if hit x.line then { x with levels := [] } else x }
    let c := (List.range 4).foldl (fun (c : Core) (k : Nat) =>
      c.updLane (4 * n + k) fun (l : Lane) =>
        let again := l.framed.filter hit
        { l with framed := l.framed.filter (fun (y : Nat) => !hit y), resend := again ++ l.resend }) c
    { c with runs := upd c.runs n fun (l : List PageRun) => (
      l.map fun (x : PageRun) => if x.page = num && !x.finished then { x with spoiled := true } else x) }

/-- A page is spoiled (R199, R200): it is consumed, its bands are released and the lines still to come are blank. -/
def pageSpoil (num reason cause : Nat) (c : Core) : Core :=
  match c.pageOf num with
  | none => c
  | some p =>
    if p.reason != 0 || !p.bound then c
    else
      let c := updPage num (fun (x : Page) => { x with reason := reason, cause := cause }) c
      (bitsOf 8 p.mask).foldl (fun (c : Core) (n : Nat) => pageState n (releaseBands n num (blankLines n num c))) c

/-- Pages bound and neither printed nor spoiled of whose mask a channel is part. -/
def Core.pagesOn (c : Core) (n : Nat) : List Page :=
  c.pages.filter fun (p : Page) => p.bound && p.reason = 0 && p.mask.testBit n

/-- A cause on station n spoils the pages that it takes part in (R199). -/
def spoilStation (n reason : Nat) (c : Core) : Core :=
  (c.pagesOn n).foldl (fun (c : Core) (p : Page) => pageSpoil p.num reason n c) c

/-- A cause that spoils every page that runs. -/
def spoilAll (reason cause : Nat) (c : Core) : Core :=
  (c.pages.filter fun (p : Page) => p.bound && p.reason = 0).foldl
    (fun (c : Core) (p : Page) => pageSpoil p.num reason cause c) c

/-- PAGE_ABORT (R199 reason 23). -/
def pageAbort (c : Core) : Core := if c.beam then spoilAll 23 0xFF c else c

/-- PAGE_SPOILED_REPORT: the last started station of a spoiled page has ended its blank lines (R202). The event names a
station of the page. -/
def pageSpoiledReport (n : Nat) (c : Core) : Core :=
  match c.pages.find? fun (p : Page) => p.reason != 0 && p.mask.testBit n &&
      (bitsOf 8 p.mask).all (fun (k : Nat) => !c.begun k p.num || p.finished.testBit k) with
  | none => c
  | some p =>
    let c := pageRecord 2 p.reason p.mask p.cause p.num c
    { c with pages := c.pages.filter fun (q : Page) => q.num != p.num }

/-- The end of the exposure of sweep s by the page in use: its last pixel, with the shift of its direction (R188, R199). -/
def Core.sweepEnd (c : Core) (n s : Nat) : Int :=
  let v := (nth c.scans n).vals
  c.sweepTime n s + (if s % 2 = 0 then boundaryTime v.knots (c.get (K.chWidth n)) + v.fwd
    else v.rev - boundaryTime v.knots 0) * 2 ^ 26

/-- STATION_FINISHED: station n has exposed the last pixel of the last line of its page, or will send no more lines of a
spoiled one; a page is PRINTED once every station has finished (R199). -/
def stationFinished (n : Nat) (c : Core) : Core :=
  match (nth c.runs n).find? fun (r : PageRun) => !r.finished with
  | none => c
  | some r =>
    let last := (c.runEnd n r - 1) / c.beams n
    let ended := (nth c.scans n).any && decide (last ≤ c.get (K.chSweep n)) && decide (c.sweepEnd n last ≤ (c.time : Int))
    let cut := r.spoiled && (!c.sweeping n || !(c.get (K.chState n) = 3 || c.get (K.chState n) = 5))
    if !(ended || cut) then c
    else
      let c := { c with runs := upd c.runs n fun (l : List PageRun) => (
        l.map fun (x : PageRun) => if x.page = r.page && !x.finished then { x with finished := true } else x) }
      let c := pageState n (updPage r.page (fun (p : Page) => { p with finished := setBit p.finished n true }) c)
      match c.pageOf r.page with
      | none => c
      | some p =>
        if p.reason = 0 && p.finished = p.mask then
          let c := (bitsOf 8 p.mask).foldl (fun (c : Core) (k : Nat) => releaseBands k p.num c) c
          let c := pageRecord 1 0 p.mask 0xFF p.num c
          { c with pages := c.pages.filter fun (q : Page) => q.num != p.num }
        else c

/-! ### Page starts -/

/-- Lines of a band over all its passes. -/
def Band.total (b : Band) : Nat := b.lines * (b.repeats + 1)

/-- Lines of a band already written to the Flask. -/
def Core.bandWritten (c : Core) (n : Nat) (b : Band) : Nat :=
  if b.decoded then b.total
  else match nth c.sprues n with
    | some t => if t.band = b.uid then t.pass * b.lines + t.line else 0
    | none => 0

/-- The contone line that the first line of a page is or will be written as on channel n (R91, R210). -/
def Core.pageFirst (c : Core) (n num : Nat) : Nat :=
  let bs := (nth c.jobs n).bands
  match bs.find? fun (b : Band) => b.page = num with
  | none => c.get (K.chFlaskWrite n)
  | some b =>
    match b.c0 with
    | some k => k
    | none => (bs.takeWhile fun (x : Band) => x.page != num).foldl
        (fun (a : Nat) (x : Band) => a + x.total - c.bandWritten n x) (c.get (K.chFlaskWrite n))

/-- Contone lines of a page on channel n. -/
def Core.pageLines (c : Core) (n num : Nat) : Nat :=
  ((nth c.jobs n).bands.filter fun (b : Band) => b.page = num).foldl (fun (a : Nat) (b : Band) => a + b.total) 0

/-- End of the last page begun on channel n. -/
def Core.lastRunEnd (c : Core) (n : Nat) : Nat :=
  (nth c.runs n).foldl (fun (a : Nat) (r : PageRun) => max a (c.runEnd n r)) 0

/-- A page begins on station n at the boundary of line L_c (R197): L0 is FETCH_LEAD lines on, and must lie above the last
line of the page before it (reason 21). -/
def pageBegin (n num line : Nat) (c : Core) : Core :=
  match c.pageOf num with
  | none => c
  | some p =>
    if p.reason != 0 then c
    else
      let l0 := line + c.get (K.chFetchLead n)
      if l0 < c.lastRunEnd n then pageSpoil num 21 n c
      else
        let job := (((nth c.jobs n).bands.find? fun (b : Band) => b.page = num).map fun (b : Band) => b.job).getD 0
        let run : PageRun := { page := num, job := job, l0 := l0, c0 := c.pageFirst n num, lines := c.pageLines n num }
        let c := { c with runs := upd c.runs n fun (l : List PageRun) => l ++ [run] }
        let c := match (nth c.jobs n).bands.find? fun (b : Band) => b.page = num with
          | some b => updJobOf n b.job (fun (y : Job) => { y with lJ := l0, placed := true }) c
          | none => c
        pageState n (updPage num (fun (x : Page) => { x with started := setBit x.started n true }) c)

/-- Slots of BEAM.READY_SLOTS are all in band (R195, R358). -/
def Core.slotsReady (c : Core) : Bool :=
  (List.range 8).all fun (i : Nat) =>
    let s := elemAt 8 (c.get K.beamReadySlots) i
    s = 0xFF || (decide (s < 64) && (c.get (K.loopSlotStatus s)).testBit 0)

/-- The start conditions 17 to 20 of R198 on station n: the first that fails, 0 when all hold. -/
def Core.startFails (c : Core) (n : Nat) : Nat :=
  if c.get (K.chScanState n) != 3 then 17
  else if !c.lanesUp n then 18
  else if !c.slotsReady then 19
  else if c.activeCh n 3 || c.activeDev 5 || c.rcst.cueHold = some c.sample then 20
  else 0

/-- Stations of a page that a PAGE_START names are to begin it at their next line boundary (R78, R197). -/
def pageCue (num mask entry list : Nat) (c : Core) : Core :=
  match c.pageOf num with
  | none => c
  | some p =>
    if p.reason != 0 then c
    else
      let ms := (bitsOf 8 mask).filter fun (n : Nat) => p.mask.testBit n && !p.cued.testBit n
      ms.foldl (fun (c : Core) (n : Nat) =>
        let c := updPage num (fun (x : Page) => { x with cued := setBit x.cued n true }) c
        { c with lines := upd c.lines n fun (x : ChLine) =>
          { x with due := x.due ++ [{ entry := entry, list := list, action := 0x0B, arg := num }] } }) c

/-- The sheet that a new one follows ends: a station of its page without its PAGE_START spoils the page (reason 22). -/
def sheetOver (c : Core) : Core :=
  match c.sheets.head? with
  | some { page := some num, .. } =>
    match c.pageOf num with
    | some p => if p.cued != p.mask then pageSpoil num 22 (lowCh (p.mask - (p.mask &&& p.cued))) c else c
    | none => c
  | _ => c

/-- The first PAGE_START of a sheet (R196, R198): the sheet binds the oldest admitted page, or passes blank. -/
def sheetFirst (mask entry list : Nat) (capture : Option (Nat × Nat)) (c : Core) : Core :=
  let c := sheetOver c
  let put := fun (page : Option Nat) (c : Core) =>
    { c with sheets := ({ capture := capture, page := page } :: c.sheets).take 8 }
  match c.pages.find? fun (p : Page) => p.admitted && !p.bound with
  | none =>
    let (m, c) := c.freeVal 8
    let (num, c) := c.freeVal 32
    let n := lowCh mask
    put none ((c.bump (K.chPagesSkipped n)).recordCh (6 * n + 2) n (0x10E8 + 0x100 * n) 4
      (2 ^ 56 * 3 + 2 ^ 48 * 16 + 2 ^ 40 * m + 2 ^ 32 * 0xFF + num))
  | some p =>
    match (bitsOf 8 p.mask).find? fun (n : Nat) => c.startFails n != 0 with
    | some n => put none (pageRecord 3 (c.startFails n) p.mask n p.num c)
    | none =>
      pageCue p.num mask entry list (put (some p.num) (updPage p.num (fun (x : Page) => { x with bound := true }) c))

/-- A later PAGE_START of a sheet: on its stations the start conditions must still hold (reasons 17 to 20). -/
def sheetLater (num mask entry list : Nat) (c : Core) : Core :=
  match c.pageOf num with
  | none => c
  | some p =>
    match (bitsOf 8 mask).find? fun (n : Nat) => p.mask.testBit n && !p.cued.testBit n && c.startFails n != 0 with
    | some n => pageSpoil num (c.startFails n) n c
    | none => pageCue num mask entry list c

/-- A PAGE_START cue executes (R196, R436): entry and list that executed it, its channel mask, and the capture of the walk
for a list on a capture clock. -/
def pageStart (mask entry list : Nat) (capture : Option (Nat × Nat)) (c : Core) : Core :=
  if !c.beam || c.get K.devState != 5 then c
  else match capture with
    | none => sheetFirst mask entry list none c
    | some _ =>
      match c.sheets.find? fun (s : Sheet) => s.capture = capture with
      | none => sheetFirst mask entry list capture c
      | some s =>
        match s.page with
        | some num => sheetLater num mask entry list c
        | none => c

/-! ### Scan states (R182) -/

/-- The scan of channel n takes a state. Leaving LOCKED ends what R181 raised, leaving LOST ends SCAN_LOST. -/
def scanState (n s : Nat) (c : Core) : Core :=
  let old := c.get (K.chScanState n)
  let c := c.set (K.chScanState n) s
  let c := if old = 3 && s != 3 then
      ((c.endFault (0x10D2 + 0x100 * n) 1).endFault (0x10D3 + 0x100 * n) 1).updScan n
        fun (x : Scan) => { x with ampl := false, centre := false }
    else c
  if old = 4 && s != 4 then c.endFault (0x10D0 + 0x100 * n) 1 else c

/-- The scan goes to OFF. -/
def scanOff (n : Nat) (c : Core) : Core :=
  scanState n 0 (c.updScan n fun (x : Scan) => { x with any := false, switch := none, again := none, runDue := false })

/-- SCAN_ENABLE: a write of 1 enters SPINUP in beam mode. -/
def scanEnable (n : Nat) (c : Core) : Core :=
  let c := c.set (K.chScanEnable n) 1
  if c.beam && c.get (K.chScanState n) = 0 then scanState n 1 (c.updScan n fun (x : Scan) => { x with spinAt := c.clock }) else c

/-- SCAN_DISABLE: a write of 0 takes the scan to OFF. -/
def scanDisable (n : Nat) (c : Core) : Core := scanOff n (c.set (K.chScanEnable n) 0)

/-- ACQUIRE is entered: sweep 0 is counted from the next rising edge of the drive, and the acquisition page is sent
(R177, R192). -/
def enterAcquire (n : Nat) (c : Core) : Core :=
  let c := c.updScan n fun (x : Scan) =>
    { x with acqAt := c.clock, edge0 := c.driveCount + 1, lastA := none, lastB := none, dA := none, dB := none,
             phis := [], lastMeas := none, missRun := 0, goodRun := 0, judged := 0, seenA := [], seenB := [], missed := [],
             any := false, linesDone := 0, consume := false, switch := none, again := none, powerAt := List.replicate 4 none,
             apcDone := none, runDue := false, dark := [] }
  let c := scanState n 2 (c.set (K.chSweep n) 0)
  let c := { c with lines := upd c.lines n fun (x : ChLine) => { x with linePos := 0 },
                    runs := upd c.runs n fun (l : List PageRun) => l.filter fun (p : PageRun) => !p.finished }
  switchStart n 0 [] c

/-- SCAN_SPINUP_DONE: MIR_SPINUP has elapsed and every beam lane is UP. -/
def scanSpinupDone (n : Nat) (c : Core) : Core :=
  if c.beam && c.get (K.chScanState n) = 1 && c.lanesUp n &&
      decide ((nth c.scans n).spinAt + c.get (K.chMirSpinup n) * 1000000 ≤ c.clock) then enterAcquire n c
  else c

/-- The run page is sent once no setpoints wait that have still to go before it (R194). -/
def runPage (n : Nat) (c : Core) : Core :=
  let x := nth c.scans n
  if x.runDue && x.switch.isNone && c.get (K.chScanState n) = 2 && !(List.range 4).any fun (k : Nat) => c.powerWaits n k then
    switchStart n 1 [] (c.updScan n fun (y : Scan) => { y with runDue := false })
  else c

/-- SCAN_ACQUIRED: 64 consecutive good sweeps; setpoints that wait, then the run page, are sent. LOCKED is entered at the
sweep at which the page applies. -/
def scanAcquired (n : Nat) (c : Core) : Core :=
  let x := nth c.scans n
  if c.get (K.chScanState n) = 2 && decide (64 ≤ x.goodRun) && x.switch.isNone then
    runPage n (powerSend n (c.updScan n fun (y : Scan) => { y with runDue := true }))
  else c

/-- The scan is lost: SCAN_LOST with its reason (R179, R182). -/
def scanFails (n reason : Nat) (c : Core) : Core :=
  (scanState n 4 (c.updScan n fun (x : Scan) => { x with lostAt := c.clock, any := false, switch := none, again := none })).raiseHeld
    (0x10D0 + 0x100 * n) 1 reason

/-- SCAN_LOST: the limit of consecutive misses is reached (R179). -/
def scanLost (n : Nat) (c : Core) : Core :=
  if c.get (K.chScanState n) = 3 && decide (c.get (K.chScanMissLimit n) ≤ (nth c.scans n).missRun) then scanFails n 1 c else c

/-- SCAN_ACQ_TIMEOUT: ACQUIRE has lasted too long (R182). -/
def scanAcqTimeout (n : Nat) (c : Core) : Core :=
  if c.get (K.chScanState n) = 2 &&
      decide ((nth c.scans n).acqAt + c.get (K.chScanAcqTimeout n) * 1000000 < c.clock) then scanFails n 2 c
  else c

/-- SCAN_LOST_RETRY: after 100 ms in LOST the scan enters ACQUIRE again. -/
def scanLostRetry (n : Nat) (c : Core) : Core :=
  if c.get (K.chScanState n) = 4 && decide ((nth c.scans n).lostAt + 100000000 ≤ c.clock) then enterAcquire n c else c

/-! ### Measuring (R174, R177 to R181) -/

/-- Twice the offset of sensor A (or B) from the midpoint, in 1/64 pixel, signed. -/
def Core.sensorX2 (c : Core) (n : Nat) (b : Bool) : Int :=
  if b then (c.get (K.chScanSpan n) : Int) else -(c.get (K.chScanSpan n) : Int)

/-- Time after t_S at which sweep s crosses a sensor (R175), by the last measured a and c; none where it does not. -/
def Core.crossing (c : Core) (n s : Nat) (b : Bool) : Option Int :=
  let a : Int := 2 * (c.get (K.chScanAmpl n) : Int)
  let x := c.sensorX2 n b - 2 * c.geti (K.chScanCentre n)
  let x := if s % 2 = 0 then x else -x
  if x.natAbs < a.natAbs && 0 < a then
    some (roundNear (arcsinFix x a * ((1000000000000 * 2 ^ 32 : Nat) : Int)) (2 * pi96 * max 1 (c.get K.beamScanFreq)))
  else none

/-- The window in which a pulse of sweep s on a sensor is accepted (R179, R182): start and end, half-open. -/
def Core.pulseWindow (c : Core) (n s : Nat) (b : Bool) : Option (Int × Int) :=
  if c.get (K.chScanState n) = 3 then
    (c.crossing n s b).map fun (d : Int) =>
      let t := c.sweepExact n s + d
      let w := ((c.get (K.chScanWin n) * 2 ^ 32 : Nat) : Int)
      (t - w, t + w + 1)
  else
    let t := c.sweepExact n s
    some (t - c.quarterPeriod, t + c.quarterPeriod)

/-- The sweep in whose window a crossing time falls, looked for around the time. -/
def Core.sweepAt (c : Core) (n : Nat) (b : Bool) (t : Int) : Option Nat :=
  let k := ((t - c.sweepExact n 0) / (max 1 (c.halfPeriods 1))).toNat
  [k - 1, k, k + 1].find? fun (s : Nat) => match c.pulseWindow n s b with
    | some (lo, hi) => decide (lo ≤ t) && decide (t < hi)
    | none => false

/-- cos(pi f d) for a difference of crossing times (R178). -/
def Core.cosHalf (c : Core) (d : Int) : Int :=
  cosFix (pi96 * (c.get K.beamScanFreq : Int) * d / ((1000000000000 * 2 ^ 32 : Nat) : Int))

/-- a and c of R178 from the latest dA and dB; where the cosines do not add up to a positive number, free values. -/
def scanFigures (n : Nat) (c : Core) : Core :=
  let x := nth c.scans n
  match x.dA, x.dB with
  | some da, some db =>
    let ca := c.cosHalf da
    let cb := c.cosHalf db
    if ca + cb ≤ 0 then
      let (a, c) := c.freeVal 32
      let (b, c) := c.freeVal 32
      (c.set (K.chScanAmpl n) a).set (K.chScanCentre n) b
    else
      let d : Int := (c.get (K.chScanSpan n) : Int)
      let den := (ca + cb).toNat
      (c.satN (K.chScanAmpl n) (roundNear (d * fix96) den).toNat).satI (K.chScanCentre n) (roundNear (d * (ca - cb)) (2 * den))
  | _, _ => c

/-- SCAN_AMPL and SCAN_CENTRE while LOCKED (R181). -/
def scanJudge (n : Nat) (c : Core) : Core :=
  let x := nth c.scans n
  let a := c.get (K.chScanAmpl n)
  let off := decide (c.get (K.chScanAmplTol n) < ((a : Int) - (c.get (K.chScanAmplSet n) : Int)).natAbs)
  let cen := decide (c.get (K.chScanCentreTol n) < (c.geti (K.chScanCentre n)).natAbs)
  let c := if off && !x.ampl then c.raiseHeld (0x10D2 + 0x100 * n) 1 a
    else if !off && x.ampl then c.endFault (0x10D2 + 0x100 * n) 1 else c
  let c := if cen && !x.centre then c.raiseHeld (0x10D3 + 0x100 * n) 1 (c.get (K.chScanCentre n))
    else if !cen && x.centre then c.endFault (0x10D3 + 0x100 * n) 1 else c
  c.updScan n fun (y : Scan) => { y with ampl := off, centre := cen }

/-- A sweep is measured: the centre time joins those of R180, and the run of good sweeps goes on or breaks (R182). -/
def scanMeasured (n s : Nat) (ts : Int) (c : Core) : Core :=
  let c := scanFigures n c
  let x := nth c.scans n
  let good := x.dA.isSome && x.dB.isSome &&
    decide (((c.get (K.chScanAmpl n) : Int) - (c.get (K.chScanAmplSet n) : Int)).natAbs ≤ c.get (K.chScanAmplTol n))
  let next := x.lastMeas = some (s - 1) && decide (0 < s)
  let c := c.updScan n fun (y : Scan) =>
    { y with phis := ((ts - c.halfPeriods s) :: y.phis).take 64, lastMeas := some s,
             goodRun := if !good then 0 else if next then y.goodRun + 1 else 1 }
  let c := if s % 2 = 0 then
      c.satI (K.chScanPhase n) (roundNear (360000 * (ts - c.driveEdgeBefore ts)) (max 1 (c.halfPeriods 2)).toNat)
    else c
  if c.get (K.chScanState n) = 3 then scanJudge n c else c

/-- The first unjudged sweep moves over those with a pulse on both sensors; each ends a run of misses. -/
def judgeOn : Nat → Scan → Scan
  | 0, x => x
  | fuel + 1, x =>
    if x.seenA.contains x.judged && x.seenB.contains x.judged then
      judgeOn fuel { x with judged := x.judged + 1, missRun := 0, seenA := x.seenA.filter (fun (k : Nat) => k != x.judged),
                            seenB := x.seenB.filter (fun (k : Nat) => k != x.judged) }
    else x

/-- SCAN_PULSE: edges of a pulse on a sensor of channel n, in 0.25 ns of device time (R174, R178, R179, R182). -/
def scanPulse (n : Nat) (sensorB : Bool) (rise fall : Nat) (c : Core) : Core :=
  let x := nth c.scans n
  let t : Int := ((rise + fall : Nat) : Int) * 2 ^ 29
  if !c.sweeping n || decide (fall < rise + 4 * c.get (K.chScanMinPulse n)) then c
  else match c.sweepAt n sensorB t with
    | none => c
    | some s =>
      let own := if sensorB then x.lastB else x.lastA
      let other := if sensorB then x.lastA else x.lastB
      if (match own with
          | some (k, _) => decide (s ≤ k)
          | none => false) then c
      else
        let c := c.updScan n fun (y : Scan) =>
          let y := if sensorB then { y with lastB := some (s, t), seenB := s :: y.seenB }
            else { y with lastA := some (s, t), seenA := s :: y.seenA }
          if c.get (K.chScanState n) = 3 then judgeOn 64 y else y
        let first := decide (s % 2 = if sensorB then 1 else 0)
        let wrong := match other with
          | some (k, _) => decide (k = s)
          | none => false
        match own with
        | some (k, t0) =>
          if first && k + 1 = s && !wrong then
            let c := c.updScan n fun (y : Scan) => if sensorB then { y with dB := some (t - t0) } else { y with dA := some (t - t0) }
            scanMeasured n s ((t0 + t) / 2 + c.quarterPeriod) c
          else c
        | none => c

/-- SCAN_MISS: the windows of the first unjudged sweep have passed without an accepted pulse on both sensors (R179). -/
def scanMiss (n : Nat) (c : Core) : Core :=
  let x := nth c.scans n
  let s := x.judged
  let late := fun (b : Bool) => match c.pulseWindow n s b with
    | some (_, hi) => decide (hi ≤ (c.time : Int))
    | none => decide (c.sweepExact n s + c.quarterPeriod ≤ (c.time : Int))
  if c.get (K.chScanState n) = 3 && late false && late true && !(x.seenA.contains s && x.seenB.contains s) then
    let c := c.updScan n fun (y : Scan) =>
      judgeOn 64 { y with judged := s + 1, missRun := y.missRun + 1, missed := (s :: y.missed).take 8,
                          seenA := y.seenA.filter (fun (k : Nat) => k != s), seenB := y.seenB.filter fun (k : Nat) => k != s }
    (c.bump (K.chScanMisses n)).raise (0x10D1 + 0x100 * n) 1 (s % 2 ^ 32)
  else c

/-! ### Sweeps (R183 to R185, R191) -/

/-- The time at which the lines of the next sweep begin to be crossed: C of the sweep before it. -/
def Core.sweepFrom (c : Core) (n : Nat) : Int :=
  let x := nth c.scans n
  if x.any then x.cLast else c.commitTime n (-1)

/-- Whether the next sweep comes too soon after the last, so that its lines are consumed (R184). -/
def Core.sweepSoon (c : Core) (n : Nat) : Bool :=
  let gap := c.commitTime n (c.nextSweep n) - c.sweepFrom n
  decide (gap * (100 * max 1 (c.get (K.chMaxLineRate n)) : Nat) < ((98 * c.beams n * 1000000000 * 2 ^ 32 : Nat) : Int))

/-- In a cycle of 200 MHz: the next line of the sweep in progress is crossed when its time has come (R183). -/
def sweepLine (n : Nat) (c : Core) : Core :=
  let x := nth c.scans n
  let b := c.beams n
  if !c.sweeping n || decide (b ≤ x.linesDone) then c
  else
    let s := c.nextSweep n
    let from_ := c.sweepFrom n
    let due := from_ + (x.linesDone : Int) * (c.commitTime n s - from_) / (b : Int)
    if due ≤ (c.time : Int) then
      let soon := if x.linesDone = 0 then c.sweepSoon n else x.consume
      let c := { c with lines := upd c.lines n fun (y : ChLine) =>
        { y with linePos := 256 * (b * s + x.linesDone) % posMod } }
      c.updScan n fun (y : Scan) => { y with linesDone := y.linesDone + 1, consume := soon }
    else c

/-- A frame of a line of sweep s is not complete on its lane (R185). -/
def Core.sweepIncomplete (c : Core) (n s : Nat) : Bool :=
  (nth c.imgs n).bufs.any fun (b : LineBuf) =>
    b.line / c.beams n = s && (List.range 4).any fun (k : Nat) =>
      c.laneCarries n k b.line && !(nth c.lanes (4 * n + k)).framed.contains b.line

/-- SCAN_SPLIT: phase 2 has not been acknowledged on every lane before C(APPLY - 1) (R192). -/
def scanSplit (n : Nat) (c : Core) : Core :=
  match (nth c.scans n).switch with
  | none => c
  | some w =>
    if !w.splitRaised && w.left2 != [] && c.splitDue n w (c.commitTime n (-1)) then
      let c := c.updScan n fun (x : Scan) => { x with switch := some { w with splitRaised := true } }
      c.raise (0x10D5 + 0x100 * n) 1 (2 ^ 56 * w.left2.headD 0 + w.apply % 2 ^ 15)
    else c

/-- A page switch whose sweep has come (R191, R192): the boards that hold a valid header for it take the new page. LOCKED is
entered with the run page. -/
def switchApply (n s : Nat) (c : Core) : Core :=
  match (nth c.scans n).switch with
  | none => c
  | some w =>
    let acked := w.phase2 && w.left2 = []
    if w.apply ≤ s then
      let c := c.updScan n fun (x : Scan) =>
        { x with page := if acked then 1 - x.page else x.page, vals := if acked then w.vals else x.vals, switch := none }
      if acked && w.kind = 1 && c.get (K.chScanState n) = 2 then
        scanState n 3 (c.updScan n fun (x : Scan) => { x with judged := s, seenA := [], seenB := [], missRun := 0 })
      else c
    else c

/-- What a page switch for a commit is, by the scan state: of the run page in LOCKED, of the acquisition page in ACQUIRE. In the
other states no sweep comes at which a page could apply, and the page sent at the entry to ACQUIRE carries the values (log 85). -/
def Core.commitPage (c : Core) (n : Nat) : Option Nat :=
  if !c.beam then none
  else if c.get (K.chScanState n) = 3 then some 2
  else if c.get (K.chScanState n) = 2 then some 3
  else none

/-- A page switch for a commit (R192); while another is in progress it comes after that. -/
def pageSwitch (n : Nat) (undo : List (Nat × Nat × Nat × Nat)) (c : Core) : Core :=
  match c.commitPage n with
  | none => c
  | some kind =>
    if (nth c.scans n).switch.isNone then switchStart n kind undo c
    else c.updScan n fun (y : Scan) => { y with again := some (undo ++ y.again.getD []) }

/-- A page switch that waited for the one before it begins. -/
def switchAgain (n : Nat) (c : Core) : Core :=
  let x := nth c.scans n
  match x.again, c.commitPage n with
  | some undo, some kind => if x.switch.isNone then switchStart n kind undo c else c
  | _, _ => c

/-- The lane of the beam that APC lights in sweep s (R191). -/
def Core.apcLane (c : Core) (n s : Nat) : Nat := 4 * n + s % c.beams n / c.laneBeams n

/-- SWEEP_COMMIT: at C(s) the SWEEP block goes out on every lane that is UP, late frames are found, a page switch applies and changed
setpoints are sent (R183, R185, R191, R194). -/
def sweepCommit (n : Nat) (c : Core) : Core :=
  let s := c.nextSweep n
  let at_ := c.commitTime n s
  if !c.sweeping n || decide ((c.time : Int) < at_) then c
  else
    let ts := c.sweepTime n s / 2 ^ 30
    let late := c.sweepIncomplete n s
    let c := c.updScan n fun (x : Scan) =>
      { x with cPrev := if x.any then x.cLast else at_, cLast := at_, any := true, linesDone := 0,
               dark := if c.laneUp (c.apcLane n s) then x.dark else (s :: x.dark).take 64 }
    let c := c.set (K.chSweep n) s
    let c := (List.range 4).foldl (fun (c : Core) (k : Nat) =>
      if c.laneUp (4 * n + k) then c.block (4 * n + k) 0x5B (2 ^ 33 * (s % 2 ^ 15) + 2 ^ 32 * (s % 2) + unsigned 32 ts)
      else c) c
    let c := runPage n (powerSend n (switchAgain n (switchApply n s c)))
    if late then c.raise (0x10D6 + 0x100 * n) 1 (s % 2 ^ 32) else c

/-! ### Scan tables (R187) -/

/-- The table unit of channel n starts: 1 load, 2 read back, 3 generate. -/
def sltStart (n op : Nat) (c : Core) : Core :=
  let st := c.get (K.chSltStatus n)
  (c.updScan n fun (x : Scan) => { x with slt := some (op, c.get (K.chSltAddr n)) }).set (K.chSltStatus n) (st / 128 * 128 + 1)

/-- The table unit ends with a status; a load or generation that finished sets SLT_PENDING. -/
def sltEnd (n status : Nat) (pending : Bool) (c : Core) : Core :=
  let c := c.updScan n fun (x : Scan) => { x with slt := none }
  let st := c.get (K.chSltStatus n)
  c.set (K.chSltStatus n) ((if pending then 128 else st / 128 * 128) + status)

/-- SLT_DONE: a load, a read-back or a generation finishes. -/
def sltDone (m : List Host.Cell) (n : Nat) (c : Core) : Core × List Host.Cell :=
  match (nth c.scans n).slt with
  | none => (c, m)
  | some (op, a) =>
    if c.hubWaits && op != 3 then (c, m)
    else if op = 1 then
      let (bad, c) := c.hubRead (3 + 4 * n) 0 a 16384
      let good := match bad with
        | none => 4096
        | some b => (b * 64 - a) / 4
      let vals := entries32 (c.readBytes m a (4 * good))
      let c := c.updScan n fun (x : Scan) => { x with knots := sputs 0 x.knots 0 vals }
      (sltEnd n (if bad.isNone then 2 else 3) bad.isNone c, m)
    else if op = 2 then
      let data := (List.range 4096).flatMap fun (j : Nat) => bytesLE 4 (sget 0 (nth c.scans n).knots j)
      let (bad, c, m) := c.hubWrite m (3 + 4 * n) a data
      (sltEnd n (if bad.isNone then 2 else 3) false c, m)
    else
      let (knots, c) := genKnots n (List.range 4096) c []
      (sltEnd n 2 true (c.updScan n fun (x : Scan) => { x with knots := knots }), m)

/-- Whether a write of 3 to CHn.SLT_GO is in range: every knot up to the width lies inside the amplitude. -/
def Core.sltInside (c : Core) (n : Nat) : Bool :=
  (List.range (min 4096 (c.get (K.chWidth n) / 8 + 1))).all fun (j : Nat) => c.knotInside n j

/-! ### Laser power (R193) -/

/-- Whether sweep s is missed as things stand (R179): it was judged so, or a crossing predicted for it has passed without an
accepted pulse. -/
def Core.sweepMissed (c : Core) (n s : Nat) : Bool :=
  let x := nth c.scans n
  let gone := fun (b : Bool) => match c.pulseWindow n s b with
    | some (_, hi) => decide (hi ≤ (c.time : Int)) && !(if b then x.seenB else x.seenA).contains s
    | none => false
  x.missed.contains s || (c.get (K.chScanState n) = 3 && decide (x.judged ≤ s) && (gone false || gone true))

/-- The sweep whose APC sample is due: the last one whose t_S + APC_SAMPLE has come, unless it was sampled, is missed or had no
SWEEP block on the lane of its beam (R193). -/
def Core.apcDue (c : Core) (n : Nat) : Option Nat :=
  let x := nth c.scans n
  let off := c.geti (K.chApcSample n) * 2 ^ 32
  let k := (((c.time : Int) - off - c.sweepTime n 0) / max 1 (c.halfPeriods 1)).toNat
  match [k + 1, k, k - 1].find? fun (s : Nat) => decide (c.sweepTime n s + off ≤ (c.time : Int)) with
  | some s =>
    if c.sweeping n && x.any && decide (c.get (K.chApcAin n) < 24) && decide (s ≤ c.get (K.chSweep n)) && x.apcDone != some s &&
        !x.dark.contains s && !c.sweepMissed n s then some s else none
  | none => none

/-- APC_SAMPLE: the conversion is stored as the entry of the beam that is lit. -/
def apcSample (n code : Nat) (c : Core) : Core :=
  match c.apcDue n with
  | none => c
  | some s =>
    let c := c.updScan n fun (x : Scan) => { x with apcDone := some s }
    (c.set (K.chApcSamples n) (setElem 16 (c.get (K.chApcSamples n)) (s % c.beams n) (code % 4096))).markFresh 5 n
      (s % c.beams n)

/-- In beam mode, what CHn.SCAN_STATE must be when the mode is left (R182). -/
def scansOff (c : Core) : Core := (List.range 8).foldl (fun (c : Core) (n : Nat) => scanOff n c) c

end Sys2Proof.Machine
end

