-- ==== Sys2Proof/Machine/LoopMath.lean ====
section
/-! DEFINITION. Sys2Proof/Machine/LoopMath.lean: the arithmetic of the Loop Engine (R346 to R349, R356 to R358): exact
values as a mantissa and a power of two, rounding into a stage, and one sample of one lane. -/

namespace Sys2Proof.Machine

/-- An exact value: mantissa times two to the exponent. -/
abbrev Dya := Int × Int

/-- The mantissas of two values at their smaller exponent. -/
def dAlign (a b : Dya) : Int × Int × Int :=
  if a.2 ≤ b.2 then (a.1, b.1 * 2 ^ (b.2 - a.2).toNat, a.2) else (a.1 * 2 ^ (a.2 - b.2).toNat, b.1, b.2)

/-- Exact sum, product, negation, difference and comparison. -/
def dAdd (a b : Dya) : Dya := let (x, y, e) := dAlign a b; (x + y, e)
def dMul (a b : Dya) : Dya := (a.1 * b.1, a.2 + b.2)
def dNeg (a : Dya) : Dya := (-a.1, a.2)
def dSub (a b : Dya) : Dya := dAdd a (dNeg b)
def dLe (a b : Dya) : Bool := let (x, y, _) := dAlign a b; decide (x ≤ y)

/-- The value in units of 2^t, rounded by adding one half and taking the floor (R346). -/
def dRound (t : Int) (z : Dya) : Int :=
  if t ≤ z.2 then z.1 * 2 ^ (z.2 - t).toNat
  else
    let k := (t - z.2).toNat
    (z.1 + 2 ^ (k - 1)) / 2 ^ k

/-- The value of a BF24 word (R312): mantissa in [23:0], exponent in [31:24], both in two's complement. -/
def bf24 (w : Nat) : Dya := (signed 24 (w % 2 ^ 24), signed 8 (w / 2 ^ 24) - 23)

/-- The value of a stage mantissa (R346). -/
def stageVal (e m : Int) : Dya := (m, e - 23)

/-- A value placed in the stage of exponent e, saturated to 24 bits (R346). -/
def toStage (e : Int) (z : Dya) : Int := clampI (-(2 ^ 23)) (2 ^ 23 - 1) (dRound (e - 23) z)

/-- Whether the value saturates in the stage: 1 above, -1 below, 0 not. -/
def stageSat (e : Int) (z : Dya) : Int :=
  let m := dRound (e - 23) z
  if 2 ^ 23 ≤ m then 1 else if m < -(2 ^ 23) then -1 else 0

/-- The integrator's mantissa taken modulo 2^40 and read as signed, and whether it wrapped (R347). -/
def wrap40 (m : Int) : Int × Bool :=
  let w := signed 40 (unsigned 40 m)
  (w, w != m)

/-- The coefficients of a bank (R356). -/
structure Coefs where
  kp : Dya
  ki : Dya
  kd : Dya
  ad : Dya
  f1 : List Dya
  f2 : List Dya
  kff : Dya
deriving DecidableEq, Repr

/-- The coefficients in a 60-byte bank. -/
def coefsOf (bank : Nat) : Coefs :=
  let k := fun (i : Nat) => bf24 (elemAt 32 bank i)
  { kp := k 0, ki := k 1, kd := k 2, ad := k 3, f1 := [k 4, k 5, k 6, k 7, k 8],
    f2 := [k 9, k 10, k 11, k 12, k 13], kff := k 14 }

/-- The objects of a slot that a sample uses. -/
structure SlotCfg where
  eX : Int
  eE : Int
  eI : Int
  eU : Int
  eF1 : Int
  eF2 : Int
  eFF : Int
  eY : Int
  intHold : Bool
  dOnX : Bool
  f1On : Bool
  f2On : Bool
  gain : Dya
  offset : Int
  outMin : Dya
  outMax : Dya
  outGain : Dya
  outBase : Int
  lo : Int
  hi : Int
  band : Dya
deriving DecidableEq, Repr

/-- One step of a biquad in direct form I (R349). -/
def biquad (k : List Dya) (eIn eOut x : Int) (inp out : Int × Int) : Int :=
  let b := fun (i : Nat) => k.getD i (0, 0)
  let v := dAdd (dMul (b 0) (stageVal eIn x)) (dAdd (dMul (b 1) (stageVal eIn inp.1)) (dMul (b 2) (stageVal eIn inp.2)))
  toStage eOut (dSub v (dAdd (dMul (b 3) (stageVal eOut out.1)) (dMul (b 4) (stageVal eOut out.2))))

/-- The output state of a biquad in the steady state for an input, rounded and saturated; the spec states no value where
1 + A1 + A2 is 0, and it is free there (R357). -/
def biquadSteady (k : List Dya) (eIn eOut x : Int) (c : Core) : Int × Core :=
  let b := fun (i : Nat) => k.getD i (0, 0)
  let num := dMul (stageVal eIn x) (dAdd (b 0) (dAdd (b 1) (b 2)))
  let den := dAdd (1, 0) (dAdd (b 3) (b 4))
  if den.1 = 0 then
    let (v, c) := c.freeVal 24
    (signed 24 v, c)
  else
    let s := num.2 - den.2 - (eOut - 23)
    let n := if 0 ≤ s then num.1 * 2 ^ s.toNat else num.1
    let d := if 0 ≤ s then den.1 else den.1 * 2 ^ (-s).toNat
    let (n, d) := if d < 0 then (-n, -d) else (n, d)
    (clampI (-(2 ^ 23)) (2 ^ 23 - 1) ((2 * n + d) / (2 * d)), c)

/-- What one sample of a lane gives: the lane, its output, and the number of wraps. -/
structure LaneRun where
  lane : LoopLane
  out : Int
  wraps : Nat

/-- The sum u of p, I and d, before rounding. -/
def uSum (f : SlotCfg) (p i d : Int) : Dya :=
  dAdd (dAdd (stageVal f.eU p) (stageVal f.eU d)) (i, f.eI - 39)

/-- The integrator that gives the value v for u with p and d (R356, R357). -/
def iFor (f : SlotCfg) (v : Dya) (p d : Int) : Int × Bool :=
  wrap40 (dRound (f.eI - 39) (dSub v (dAdd (stageVal f.eU p) (stageVal f.eU d))))

/-- One sample of one lane (R349) with the live bank k. When a swap takes effect in it, k is the old bank and `next` the
new one (R356); a preset stands over the swap (R357). -/
def laneSample (f : SlotCfg) (k : Coefs) (next : Option Coefs) (preset : Option Dya) (vx vr vff : Dya) (l : LoopLane)
    (c : Core) : LaneRun × Core :=
  let x := toStage f.eX (dMul (dAdd vx (f.offset, 0)) f.gain)
  let r := toStage f.eX vr
  let e := toStage f.eE (dSub (stageVal f.eX r) (stageVal f.eX x))
  let xp := if l.first then x else l.x
  let ep := if l.first then e else l.e
  let dp := if l.first then 0 else l.d
  let ev := stageVal f.eE e
  let dd := if f.dOnX then dNeg (dSub (stageVal f.eX x) (stageVal f.eX xp)) else dSub ev (stageVal f.eE ep)
  let pOf := fun (k : Coefs) => toStage f.eU (dMul k.kp ev)
  let dOf := fun (k : Coefs) => toStage f.eU (dAdd (dMul k.ad (stageVal f.eU dp)) (dMul k.kd dd))
  let inc := dMul k.ki ev
  let held := f.intHold && ((decide (0 < inc.1) && l.hi) || (decide (inc.1 < 0) && l.lo))
  let (iOld, w1) := if held || (preset.isSome && next.isNone) then (l.i, false) else wrap40 (l.i + dRound (f.eI - 39) inc)
  let uOld := toStage f.eU (uSum f (pOf k) iOld (dOf k))
  let kn := next.getD k
  let p := pOf kn
  let d := dOf kn
  let (i, w2) := match next with
    | some _ => iFor f (stageVal f.eU uOld) p d
    | none => (iOld, false)
  let (i, w3) := match preset with
    | some v => iFor f v p d
    | none => (i, false)
  let sum := uSum f p i d
  let u := toStage f.eU sum
  let uSat := stageSat f.eU sum
  let in1 := if l.first then (u, u) else l.in1
  let (s1, c) := if l.first && f.f1On then biquadSteady kn.f1 f.eU f.eF1 u c else (l.out1.1, c)
  let out1 := if l.first && f.f1On then (s1, s1) else l.out1
  let f1 := if f.f1On then biquad kn.f1 f.eU f.eF1 u in1 out1 else u
  let e1 := if f.f1On then f.eF1 else f.eU
  let in2 := if l.first then (f1, f1) else l.in2
  let (s2, c) := if l.first && f.f2On then biquadSteady kn.f2 e1 f.eF2 f1 c else (l.out2.1, c)
  let out2 := if l.first && f.f2On then (s2, s2) else l.out2
  let f2 := if f.f2On then biquad kn.f2 e1 f.eF2 f1 in2 out2 else f1
  let e2 := if f.f2On then f.eF2 else e1
  let ff := toStage f.eFF vff
  let y0 := stageVal f.eY (toStage f.eY (dAdd (stageVal e2 f2) (dMul kn.kff (stageVal f.eFF ff))))
  let y1 := if dLe f.outMin y0 then y0 else f.outMin
  let y := if dLe y1 f.outMax then y1 else f.outMax
  let hi := decide (uSat = 1) || dLe f.outMax y
  let lo := decide (uSat = -1) || dLe y f.outMin
  let inBand := dLe ev f.band && dLe (dNeg ev) f.band
  let lane := { l with
    first := false, i := i, x := x, e := e, d := d, in1 := (u, in1.1), out1 := (f1, out1.1), in2 := (f1, in2.1),
    out2 := (f2, out2.1), y := y.1, yExp := y.2, hi := hi, lo := lo, held := held,
    band := if inBand then l.band + 1 else 0 }
  ({ lane := lane, out := clampI f.lo f.hi (dRound 0 (dMul y f.outGain) + f.outBase),
     wraps := b2n w1 + b2n w2 + b2n w3 }, c)

end Sys2Proof.Machine
end

