-- ==== Sys2Proof/Machine/Position.lean ====
section
/-! DEFINITION. Sys2Proof/Machine/Position.lean: quadrature inputs, index handling, serial absolute ports, pass-through
outputs, compare and capture units (spec/02). -/

namespace Sys2Proof.Machine

/-! ### Quadrature inputs -/

/-- The successor of a pair AB in the forward sequence 00, 10, 11, 01 (R33). -/
def quadNext (a b : Bool) : Bool × Bool := (!b, a)

/-- The count history without what lies before the last millisecond, but for the newest such entry. -/
def historyKeep (now : Nat) (h : List (Nat × Int)) : List (Nat × Int) :=
  (h.filter fun (p : Nat × Int) => decide (now < p.1 + 200000)) ++
    (h.filter fun (p : Nat × Int) => decide (p.1 + 200000 ≤ now)).take 1

/-- The count of input i takes a value by an edge, a word or an index: ACTIVE and VELOCITY follow the change. -/
def encPut (c : Core) (i : Nat) (v : Int) : Core :=
  let c := c.seti (K.encCount i) v
  let n := c.geti (K.encCount i)
  { c with encs := upd c.encs i fun (e : Enc) =>
    { e with lastChange := some c.sample,
             history := (c.sample, n) :: historyKeep c.sample e.history } }

/-- The count of input i takes a value from which it starts afresh: a preset or the first word of a port. VELOCITY does not
take the step for motion; ACTIVE shows a change. -/
def encRestart (c : Core) (i v : Nat) : Core :=
  let last := if c.get (K.encCount i) = v then (nth c.encs i).lastChange else some c.sample
  let c := c.set (K.encCount i) v
  { c with encs := upd c.encs i fun (e : Enc) => { e with lastChange := last, history := [(c.sample, c.geti (K.encCount i))] } }

/-- The count of input i changes by d at a stamp: the velocity history, the synthesiser (R61), and the direction that
the REVERSE bit shows. -/
def encCount (c : Core) (i : Nat) (d : Int) (stamp : Nat) : Core :=
  lcCountChange (encPut c i (c.geti (K.encCount i) + d)) i d stamp

/-- The value INDEX_PHASE + k INDEX_PERIOD nearest to count x; the lower one halfway (R36). -/
def indexExpected (phase period : Nat) (x : Int) : Int :=
  if period = 0 then (phase : Int)
  else
    let r := (x - phase) % (period : Int)
    let low := x - r
    if 2 * r ≤ (period : Int) then low else low + period

/-- The count of input i is corrected by an index from off above the expected value (R36, R67): an offset of 0 changes nothing
and writes no record. -/
def indexCorrect (c : Core) (i : Nat) (off : Int) : Core :=
  if off = 0 then c
  else (lcCorrect (encPut c i (c.geti (K.encCount i) - off)) i (-off)).raise (0x0B10 + i) 3 (satS 32 off)

/-- An index taken at the present count (R36, R37): it homes, corrects, or is a mismatch. An offset beyond I32 is saturated in
LAST_INDEX_OFFSET and in the payload (DESIGN CHOICE, log 64). -/
def indexTaken (c : Core) (i : Nat) : Core :=
  let x := c.geti (K.encCount i)
  let phase := c.get (K.encIndexPhase i)
  if c.get (K.encIndexMode i) = 2 && (nth c.encs i).homeAwait then
    let off := x - phase
    let c := { c with encs := upd c.encs i fun (e : Enc) => { e with homeAwait := false } }
    let c := c.satI (K.encLastIndexOffset i) off
    let c := (c.setBitOf (K.encStatus i) 4 true).setBitOf (K.encStatus i) 1 false
    if off = 0 then c.raise (0x0B10 + i) 3 0 else indexCorrect c i off
  else
    let off := x - indexExpected phase (c.get (K.encIndexPeriod i)) x
    let c := c.satI (K.encLastIndexOffset i) off
    if off.natAbs ≤ c.get (K.encIndexTol i) then indexCorrect (c.setBitOf (K.encStatus i) 1 false) i off
    else (c.bump (K.encIndexMismatches i)).raise (0x0B10 + i) 4 (satS 32 off)

/-- An index occurs: taken in check and home mode, discarded in the sample of a double edge (R38). Z must return to 0
before the next one. -/
def indexOccurs (c : Core) (i : Nat) : Core :=
  let c := { c with encs := upd c.encs i fun (e : Enc) => { e with zUsed := e.z } }
  if c.get (K.encIndexMode i) = 0 then c
  else if (nth c.encs i).doubles.head? = some c.sample then c.bump (K.encIndexDiscards i)
  else indexTaken c i

/-- The pair AB that a gate of 1 to 4 names. -/
def gatePair (g : Nat) : Bool × Bool :=
  if g = 1 then (false, false) else if g = 2 then (false, true) else if g = 3 then (true, false) else (true, true)

/-- The direction of the last count change is reverse (R33, R480); forward before the first. -/
def encReverse (c : Core) (i : Nat) : Bool := c.bitOf (K.encStatus i) 3

/-- Whether the present levels of input i make an index, once all that changes in the sample has changed (R36, R480). With gate
0 it is the change of Z in this sample that is a rise moving forward or a fall in reverse, as the count change of the same
sample says if there is one; with gates 1 to 4, the first sample in which Z is 1 and AB equals the gate's pair. A fall in
reverse is no index where the rise of the same pulse was one (DESIGN CHOICE, log 65). -/
def indexNow (c : Core) (i : Nat) : Bool :=
  let e := nth c.encs i
  let g := c.get (K.encIndexGate i)
  c.get (K.encSource i) = 0 && !e.zUsed &&
    (if g = 0 then e.zAt = some c.sample && (e.z != encReverse c i) else e.z && (e.a, e.b) = gatePair g)

/-- The index functions of input i look at the sample (R36 to R38, R480). -/
def encSettle (c : Core) (i : Nat) : Core :=
  let c := { c with encs := upd c.encs i fun (x : Enc) => { x with due := false } }
  let c := if indexNow c i then indexOccurs c i else c
  { c with encs := upd c.encs i fun (x : Enc) => { x with zUsed := x.zUsed && x.z } }

/-- The index functions look at the sample at once, when the other filtered line has changed in it too, or else when it does
or when the cycle ends. -/
def encJudge (c : Core) (i : Nat) (other : Option Nat) : Core :=
  if other = some c.sample then encSettle c i
  else { c with encs := upd c.encs i fun (x : Enc) => { x with due := true } }

/-- The end of a cycle: an index still to be judged is. -/
def indexClose (c : Core) (i : Nat) : Core := if (nth c.encs i).due then encSettle c i else c

/-- ENC_EDGE: the filtered pair AB of input i becomes (a, b) (R33). While SOURCE is 1 the pins are not counted, and a double
edge on them is none (DESIGN CHOICE, log 66). -/
def encEdge (i : Nat) (a b : Bool) (c : Core) : Core :=
  let e := nth c.encs i
  if (a, b) = (e.a, e.b) then c
  else
    let c := { c with encs := upd c.encs i fun (x : Enc) => { x with a := a, b := b, abAt := some c.sample } }
    if c.get (K.encSource i) != 0 then c
    else
      let c :=
        if a != e.a && b != e.b then
          let c := { c with encs := upd c.encs i fun (x : Enc) => { x with doubles := (c.sample :: x.doubles).take 256 } }
          let c := (c.bump (K.encDoubleEdges i)).setBitOf (K.encStatus i) 1 true
          c.raise (0x0B10 + i) 1 (c.get (K.encDoubleEdges i))
        else
          let fwd := ((a, b) = quadNext e.a e.b) != c.bitOf (K.encInvert i) 0
          encCount (c.setBitOf (K.encStatus i) 3 (!fwd)) i (if fwd then 1 else -1) c.sample
      encJudge c i e.zAt

/-- ENC_RAW_PULSE: a raw pulse too short for the filter (R31). -/
def encRawPulse (i : Nat) (c : Core) : Core := c.bump (K.encGlitches i)

/-- Double edges of input i within the last 65,536 samples, that age excluded (R34). -/
def doublesInWindow (c : Core) (i : Nat) : Nat :=
  ((nth c.encs i).doubles.filter fun (s : Nat) => decide (c.sample < s + 65536)).length

/-- ENC_UNRELIABLE: more than DOUBLE_LIMIT double edges in the window (R34). -/
def encUnreliable (i : Nat) (c : Core) : Core :=
  if decide (c.get (K.encDoubleLimit i) < doublesInWindow c i) && !c.bitOf (K.encStatus i) 2 then
    (c.setBitOf (K.encStatus i) 2 true).raiseHeld (0x0B10 + i) 2 (doublesInWindow c i)
  else c

/-- The condition of ENC_UNRELIABLE ends, with UNRELIABLE, once the window no longer holds more than DOUBLE_LIMIT double
edges (R34, R406). -/
def encSample (i : Nat) (c : Core) : Core :=
  if c.bitOf (K.encStatus i) 2 && decide (doublesInWindow c i ≤ c.get (K.encDoubleLimit i)) then
    (c.setBitOf (K.encStatus i) 2 false).endFault (0x0B10 + i) 2
  else c

/-- ENC_INDEX: the filtered Z of input i takes a level (R36, R480). With gate 0 the index is the rising edge of Z moving
forward and the falling edge moving in reverse. -/
def encIndex (i : Nat) (z : Bool) (c : Core) : Core :=
  let e := nth c.encs i
  let z := z != c.bitOf (K.encInvert i) 1
  if z = e.z then c
  else encJudge { c with encs := upd c.encs i fun (x : Enc) => { x with z := z, zAt := some c.sample } } i e.abAt

/-- The effect of a write of ENCn.PRESET (R35, R67). Bit 5 of STATUS clears with UNCERTAIN, which R45 lets nothing else clear
(DESIGN CHOICE, log 67). -/
def encPreset (i v : Nat) (c : Core) : Core :=
  let c := encRestart c i v
  lcPreset ((c.setBitOf (K.encStatus i) 1 false).setBitOf (K.encStatus i) 5 false) i

/-- The effect of a write of ENCn.REHOME (R37). -/
def encRehome (i : Nat) (c : Core) : Core :=
  { c with encs := upd c.encs i fun (e : Enc) => { e with homeAwait := true } }

/-- ENCn.VELOCITY: the mean over the last millisecond, in counts/s. -/
def encVelocity (c : Core) (i : Nat) : Int :=
  let h := (nth c.encs i).history
  let old := match h.find? fun (p : Nat × Int) => decide (p.1 + 200000 ≤ c.sample) with
    | some p => p.2
    | none => (h.getLastD (0, 0)).2
  (c.geti (K.encCount i) - old) * 1000

/-- ENCn.STATUS as it is read: ACTIVE says that the count has changed in the last millisecond. -/
def encStatusNow (c : Core) (i : Nat) : Nat :=
  let active := match (nth c.encs i).lastChange with
    | some s => decide (c.sample < s + 200000)
    | none => false
  c.get (K.encStatus i) / 2 * 2 + b2n active

/-! ### Serial absolute ports -/

/-- Width and polynomial of SPOSn.CRC_SEL (R42). -/
def sposCrc (sel : Nat) : Nat × Nat :=
  if sel = 1 then (5, 0x05) else if sel = 2 then (6, 0x03) else if sel = 3 then (8, 0x07)
  else if sel = 4 then (16, 0x1021) else (0, 0)

/-- The CRC of the nbits of a word's position and status fields (R42). -/
def sposCrcOf (sel init inv nbits bits : Nat) : Nat :=
  let (w, poly) := sposCrc sel
  if w = 0 then 0
  else
    let r := crcMsb w poly (init % 2 ^ w) nbits bits
    if inv = 1 then r ^^^ (2 ^ w - 1) else r

/-- Half the divisor k of R40: the smallest k from 10 to 1,000 whose rate 200 MHz / 2k does not exceed CLK_FREQ. -/
def sposK (freq : Nat) : Nat := max 10 (min 1000 (ceilDiv 200000000 (2 * freq)))

/-- Clock period of port n in ns (R40, R47). -/
def sposClockNs (freq : Nat) : Nat := sposK freq * 10

/-- One more bad word of port n (R45 counts the run). -/
def sposBad (c : Core) (i : Nat) : Core :=
  { c with sposs := upd c.sposs i fun (s : Spos) => { s with badRun := s.badRun + 1 } }

/-- SPOSn_CLK takes a level. -/
def sposClk (c : Core) (i : Nat) (b : Bool) : Core :=
  if (nth c.sposs i).clk = b then c
  else { c with sposs := upd c.sposs i fun (x : Spos) => { x with clk := b } }.emit (.pin "SPOS_CLK" i (b2n b))

/-- Edges of SPOSn_CLK after the request's fall for the longest word that the port waits for (R40, R43): it rises once for each
clock period up to the last CRC bit after START_TIMEOUT periods of acknowledge, and stays high. -/
def sposEdges (c : Core) (i : Nat) : Nat :=
  2 * (c.get (K.sposStartTimeout i) + 1 + c.get (K.sposPosBits i) + c.get (K.sposStatusBits i) +
    (sposCrc (c.get (K.sposCrcSel i))).1) - 1

/-- SPOS_REQUEST: a period of port n begins; the request starts unless the data line is low (R40, R44). The period is taken in
whole 5 ns samples (DESIGN CHOICE, log 68). -/
def sposRequest (i : Nat) (dataHigh : Bool) (c : Core) : Core :=
  let s := nth c.sposs i
  if c.get (K.sposEnable i) = 1 && decide (s.nextReq ≤ c.sample) then
    let c := { c with sposs := upd c.sposs i fun (x : Spos) =>
      { x with nextReq := c.sample + c.get (K.sposPeriod i) / 5 } }
    if dataHigh then
      let c := { c with sposs := upd c.sposs i fun (x : Spos) =>
        { x with req := some (c.sample, c.clock), reqTime := c.now, wordDone := false, timeoutDone := false,
                 edges := sposEdges c i, edgeAt := c.sample + sposK (c.get (K.sposClkFreq i)) } }
      sposClk c i false
    else sposBad c i
  else c

/-- One cycle of port n: its clock makes the edges that are due, half a clock period apart (R40). -/
def sposSample (c : Core) (i : Nat) : Core :=
  let s := nth c.sposs i
  if s.edges != 0 && decide (s.edgeAt ≤ c.sample) then
    let c := { c with sposs := upd c.sposs i fun (x : Spos) =>
      { x with edges := x.edges - 1, edgeAt := x.edgeAt + sposK (c.get (K.sposClkFreq i)) } }
    sposClk c i (!s.clk)
  else c

/-- The levels A, B, Z of an emulated count (R49). -/
def emulated (count : Int) (zPeriod : Nat) : Bool × Bool × Bool :=
  let q := (count % 4).toNat
  (decide (q = 1) || decide (q = 2), decide (q = 2) || decide (q = 3),
    zPeriod != 0 && decide (count % (zPeriod : Int) = 0))

/-- Pass-through output p takes levels; each line that changes shows it. -/
def passDrive (c : Core) (p : Nat) (l : Bool × Bool × Bool) : Core :=
  let x := nth c.passes p
  let c := { c with passes := upd c.passes p fun (y : Pass) => { y with a := l.1, b := l.2.1, z := l.2.2 } }
  let c := if x.a = l.1 then c else c.emit (.pin "PASS_A" p (b2n l.1))
  let c := if x.b = l.2.1 then c else c.emit (.pin "PASS_B" p (b2n l.2.1))
  if x.z = l.2.2 then c else c.emit (.pin "PASS_Z" p (b2n l.2.2))

/-- Output p, in emulation mode, stands at a count: it shows the quadrature of that count and has nothing left to send. -/
def passAt (c : Core) (p : Nat) (count : Int) : Core :=
  let c := { c with passes := upd c.passes p fun (x : Pass) => { x with count := count, left := 0, total := 0, overrunDone := true } }
  passDrive c p (emulated count (c.get (K.passZPeriod p)))

/-- Output p after a write of its MODE or SOURCE: low in mode 0 and until copied levels arrive, and in emulation mode at the
count of its input; counts still to be sent are dropped (DESIGN CHOICE, log 69). -/
def passStart (c : Core) (p : Nat) : Core :=
  let c := passDrive c p (false, false, false)
  let c := { c with passes := upd c.passes p fun (_ : Pass) => {} }
  if c.get (K.passMode p) = 2 then passAt c p (c.geti (K.encCount (c.get (K.passSource p)))) else c

/-- Pass-through outputs in emulation mode that take input i spread the counts of a delivered word over the next
period; counts still left carry over (R49). -/
def passWord (c : Core) (i : Nat) (d : Int) : Core :=
  { c with passes := c.passes.mapIdx fun (p : Nat) (x : Pass) =>
      if c.get (K.passMode p) = 2 && c.get (K.passSource p) = i then
        { x with left := x.left + d, total := (x.left + d).natAbs, start := c.sample,
                 len := c.get (K.sposPeriod i) / 5, overrunDone := false }
      else x }

/-- Outputs that emulate input i stand at the position of its first word. -/
def passFirst (c : Core) (i pos : Nat) : Core :=
  (List.range 2).foldl (fun (c : Core) (p : Nat) =>
    if c.get (K.passMode p) = 2 && c.get (K.passSource p) = i then passAt c p pos else c) c

/-- A good word with position pos goes to the count (R46). -/
def sposGood (c : Core) (i pos stat stamp : Nat) : Core :=
  let bits := c.get (K.sposPosBits i)
  let old := (nth c.sposs i).last
  let c := { c with sposs := upd c.sposs i fun (s : Spos) =>
    { s with last := some pos, stamp := some (s.reqTime, stamp), badRun := 0, lostRaised := false } }
  let c := (c.set (K.sposRaw i) pos).set (K.sposWordStatus i) stat
  if c.get (K.encSource i) = 1 then
    match old with
    | none => passFirst (lcPreset (encRestart c i pos) i) i pos
    | some q =>
      let d := signed bits (pos + (2 ^ bits - q % 2 ^ bits))
      if d = 0 then passWord c i 0
      else
        let c := c.setBitOf (K.encStatus i) 3 (decide (d < 0))
        passWord (encCount c i d stamp) i d
  else c

/-- What a word of port n with a line delay of d ns, whose start bit came in time, turns out to be (R43, R46). A word that fails
several checks is bad for the first of timeout, CRC, alarm and jump, and raises that one (DESIGN CHOICE, log 70). -/
def sposJudge (c : Core) (i d word stamp t0 : Nat) : Core :=
  let pb := c.get (K.sposPosBits i)
  let sb := c.get (K.sposStatusBits i)
  let sel := c.get (K.sposCrcSel i)
  let cw := (sposCrc sel).1
  let crc := word % 2 ^ cw
  let cov := (word / 2 ^ cw) % 2 ^ (pb + sb)
  let stat := cov % 2 ^ sb
  let pos := cov / 2 ^ sb
  if decide (2000 < d) then ((sposBad c i).bump (K.sposTimeouts i)).raise (0x0B20 + i) 2 (c.clock - t0)
  else if crc != sposCrcOf sel (c.get (K.sposCrcInit i)) (c.get (K.sposCrcInvert i)) (pb + sb) cov then
    ((sposBad c i).bump (K.sposCrcErrors i)).raise (0x0B20 + i) 1 word
  else if (List.range sb).any fun (j : Nat) =>
      c.bitOf (K.sposAlarmMask i) j && (stat.testBit j = c.bitOf (K.sposAlarmLevel i) j) then
    (sposBad c i).raise (0x0B20 + i) 3 stat
  else
    let step := match (nth c.sposs i).last with
      | none => (0 : Int)
      | some q => signed pb (pos + (2 ^ pb - q % 2 ^ pb))
    let lim := c.get (K.sposMaxStep i)
    if lim != 0 && decide (lim < step.natAbs) then (sposBad c i).raise (0x0B20 + i) 4 (satS 32 step)
    else sposGood c i pos stat stamp

/-- The word in progress of port n is over for the controller: the clock line is idle high. -/
def sposTaken (c : Core) (i : Nat) : Core :=
  sposClk { c with sposs := upd c.sposs i fun (x : Spos) => { x with wordDone := true, edges := 0 } } i true

/-- SPOS_WORD: a word of port n: clock periods before the start bit, line delay in ns, and the bits after it (R40, R41, R43,
R46). The delay of every word that starts in time is reported, in steps of 5 ns. -/
def sposWord (i startClocks delay word : Nat) (c : Core) : Core :=
  let s := nth c.sposs i
  match s.req with
  | none => c
  | some (stamp, t0) =>
    if s.wordDone then c
    else
      let c := sposTaken c i
      if c.get (K.sposStartTimeout i) < startClocks then
        ((sposBad c i).bump (K.sposTimeouts i)).raise (0x0B20 + i) 2 (c.clock - t0)
      else
        let d := delay / 5 * 5
        sposJudge (c.satN (K.sposLineDelay i) d) i d word stamp t0

/-- SPOS_WORD_TIMEOUT: the data line has not returned high within WORD_TIMEOUT of the request (R44). -/
def sposWordTimeout (i : Nat) (c : Core) : Core :=
  let s := nth c.sposs i
  match s.req with
  | none => c
  | some (stamp, t0) =>
    if !s.timeoutDone && decide (stamp + c.get (K.sposWordTimeout i) / 5 ≤ c.sample) then
      let c := { c with sposs := upd c.sposs i fun (x : Spos) => { x with timeoutDone := true } }
      let c := if s.wordDone then c else
        sposBad (sposTaken c i) i
      (c.bump (K.sposTimeouts i)).raise (0x0B20 + i) 2 (c.clock - t0)
    else c

/-- SPOS_LOST: ERROR_LIMIT consecutive bad words (R45). -/
def sposLost (i : Nat) (c : Core) : Core :=
  let s := nth c.sposs i
  if !s.lostRaised && decide (c.get (K.sposErrorLimit i) ≤ s.badRun) then
    let c := { c with sposs := upd c.sposs i fun (x : Spos) => { x with lostRaised := true } }
    ((c.setBitOf (K.encStatus i) 1 true).setBitOf (K.encStatus i) 5 true).raise (0x0B20 + i) 5 s.badRun
  else c

/-- PASS_OVERRUN: the period of the window is over and counts are left (R49). -/
def passOverrun (p : Nat) (c : Core) : Core :=
  let x := nth c.passes p
  if c.get (K.passMode p) = 2 && !x.overrunDone && x.left != 0 && decide (x.start + x.len ≤ c.sample) then
    let c := { c with passes := upd c.passes p fun (y : Pass) => { y with overrunDone := true } }
    let c := c.bump (K.passOverruns p)
    c.raise (0x0B30 + p) 1 (c.get (K.passOverruns p))
  else c

/-- One cycle of pass-through output p: in copy mode the levels move on (R48), Z with the polarity that INVERT gives it (DESIGN
CHOICE, log 71); in emulation mode an edge that is due goes out, no faster than MAX_RATE (R49). -/
def passSample (c : Core) (p : Nat) : Core :=
  let x := nth c.passes p
  let mode := c.get (K.passMode p)
  if mode = 1 then
    let e := nth c.encs (c.get (K.passSource p))
    let c := passDrive c p x.stage
    { c with passes := upd c.passes p fun (y : Pass) => { y with stage := (e.a, e.b, e.z) } }
  else if mode = 2 && x.left != 0 then
    let sent := x.total - x.left.natAbs
    let t := c.sample - x.start
    let due := if x.len ≤ t then x.total else t * x.total / x.len
    let gap := ceilDiv 200000000 (max 1 (c.get (K.passMaxRate p)))
    if decide (sent < due) && decide (x.lastEdge + gap ≤ c.sample) then
      let d : Int := if x.left < 0 then -1 else 1
      let c := { c with passes := upd c.passes p fun (y : Pass) =>
        { y with count := y.count + d, left := y.left - d, lastEdge := c.sample } }
      passDrive c p (emulated (x.count + d) (c.get (K.passZPeriod p)))
    else c
  else c

/-! ### Compare and capture -/

/-- The position that unit u follows (R51). -/
def cmpPos (c : Core) (u : Nat) : Nat :=
  let k := c.get (K.cmpClock u)
  if k < 4 then c.webPos k else c.chPos (k - 0x10)

/-- Spacing of the targets in 2^-16 tick (R52). -/
def cmpPitch (c : Core) (u : Nat) : Nat := c.get (K.cmpPitch u) * 65536 + c.get (K.cmpPitchFrac u)

/-- Number of targets at or below a signed distance d from START: the index of the next one (R52). -/
def targetsUpTo (pitch : Nat) (d : Int) : Nat :=
  if d < 0 then 0 else if pitch = 0 then 0 else ((d.toNat + 1) * 65536 - 1) / pitch + 1

/-- Target k of regular-spacing mode (R52). -/
def cmpTarget (c : Core) (u k : Nat) : Nat := (c.get (K.cmpStart u) + k * cmpPitch c u / 65536) % posMod

/-- The distance of a position from START, near the target k. -/
def cmpDist (c : Core) (u k p : Nat) : Int :=
  ((k * cmpPitch c u / 65536 : Nat) : Int) + posDiff p (cmpTarget c u k)

/-- Fields of a cue entry (R72). -/
def cueEntryOf (c : Core) (i : Nat) : Nat := c.get (K.cueEntry i)
def cuePos (e : Nat) : Nat := field e 47 0
def cueAction (e : Nat) : Nat := field e 71 64
def cueTarget (e : Nat) : Nat := field e 79 72
def cueEnabled (e : Nat) : Bool := e.testBit 80
def cueFeedback (e : Nat) : Bool := e.testBit 81
def cueArg (e : Nat) : Nat := field e 127 96

/-- The positions of the entries of unit u's range that are its targets, in index order (R53). -/
def cmpListTargets (c : Core) (u : Nat) : List Nat :=
  let lo := c.get (K.cmpListFirst u)
  let hi := c.get (K.cmpListLast u)
  ((List.range (hi + 1 - lo)).map fun (j : Nat) => cueEntryOf c (lo + j)).filterMap fun (e : Nat) =>
    if cueAction e = 0x0C && cueTarget e = u && cueEnabled e then some (cuePos e) else none

/-- Target k of list mode: entry k mod length, on pass k / length (R53). -/
def cmpListTarget (c : Core) (u : Nat) (l : List Nat) (k : Nat) : Nat :=
  if l.isEmpty then 0
  else (l.getD (k % l.length) 0 + k / l.length * c.get (K.cmpListRepeat u)) % posMod

/-- Whether list mode has a target k. -/
def cmpListHas (c : Core) (u : Nat) (l : List Nat) (k : Nat) : Bool :=
  !l.isEmpty && (decide (k < l.length) || c.get (K.cmpListRepeat u) != 0)

/-- The next index after passing every reached target from k on. -/
def cmpListForward (c : Core) (u : Nat) (l : List Nat) (p : Nat) : Nat → Nat → Nat
  | 0, k => k
  | n + 1, k =>
    if cmpListHas c u l k && reached p (cmpListTarget c u l k) then cmpListForward c u l p n (k + 1) else k

/-- The index after falling below targets before k. -/
def cmpListBack (c : Core) (u : Nat) (l : List Nat) (p : Nat) : Nat → Nat → Nat
  | 0, k => k
  | n + 1, k =>
    if k = 0 then 0
    else if reached p (cmpListTarget c u l (k - 1)) then k else cmpListBack c u l p n (k - 1)

/-- A COMPARE_DONE or CAPTURE record of unit u (R57), with the time and the position of channel RING_CH at its sample. The spec
gives these records no code: it is free (log 7). -/
def cmpRecord (c : Core) (u edge value time pos : Nat) : Core :=
  let ch := c.get (K.cmpRingCh u)
  c.recordChAt (6 * ch + 5) ch (0x0B40 + u) (Config.recordCode (0x0B40 + 16 * edge + u))
    (2 ^ 56 * u + 2 ^ 48 * edge + value % 2 ^ 48) time pos

/-- Unit u stops after its last pulse and says so (R52, R53). -/
def cmpDone (c : Core) (u : Nat) : Core :=
  let c := { c with cmps := upd c.cmps u fun (x : Cmp) => { x with armed := false } }
  cmpRecord c u 0 (c.get (K.cmpFired u)) c.now (c.chPos (c.get (K.cmpRingCh u)))

/-- Length of a pulse in 5 ns cycles (R51). -/
def cmpWidthCycles (c : Core) (u : Nat) : Nat := (c.get (K.cmpWidth u) + 2) / 5

/-- m targets reached in one cycle: one pulse covers them; a pulse in progress restarts (R55). -/
def cmpFire (c : Core) (u m : Nat) : Core :=
  let x := nth c.cmps u
  let w := cmpWidthCycles c u
  let active := x.pulseEnd.isSome
  let c := { c with cmps := upd c.cmps u fun (y : Cmp) => { y with pulseEnd := some (c.sample + w) } }
  let c := c.addTo (K.cmpMerged u) (if active then m else m - 1)
  if active then c
  else
    let c := c.bump (K.cmpFired u)
    (c.emit (.pulse u w)).emit (.pin "CMP" u (if c.get (K.cmpPolarity u) = 1 then 0 else 1))

/-- The crossing of targets: from index k to index k', with the index kHigh up to which targets lie below the high-water mark
(R54): the first target at or after the position of the arm has not fired when it lies there exactly (R55). -/
def cmpCross (c : Core) (u k k' kHigh : Nat) : Core :=
  let dir := c.get (K.cmpDir u)
  let p := cmpPos c u
  let c := { c with cmps := upd c.cmps u fun (x : Cmp) =>
    { x with k := if k' < k && dir = 0 then k else k', high := if reached p x.high then p else x.high } }
  if k < k' then
    let m := if dir = 0 then k' - max k (min k' kHigh) else k' - k
    if m = 0 then c else cmpFire c u m
  else if k' < k && dir = 2 then cmpFire c u (k - k')
  else c

/-- The index that the followed position of an armed unit has: forward past every reached target, or back to the last target
that is still reached. -/
def cmpListIndex (c : Core) (u : Nat) (l : List Nat) (p k : Nat) : Nat :=
  let k1 := cmpListForward c u l p 4096 k
  if k1 = k then cmpListBack c u l p 4096 k else k1

/-- COMPARE_TARGET: in regular-spacing mode the followed position crosses targets (R52, R54, R55). -/
def compareTarget (u : Nat) (c : Core) : Core :=
  let x := nth c.cmps u
  if x.armed && c.get (K.cmpMode u) = 1 then
    let k' := targetsUpTo (cmpPitch c u) (cmpDist c u x.k (cmpPos c u))
    let kh := targetsUpTo (cmpPitch c u) (cmpDist c u x.k x.high - 1)
    let c := cmpCross c u x.k k' kh
    let n := c.get (K.cmpCount u)
    if n != 0 && decide (n ≤ c.get (K.cmpFired u)) then cmpDone c u else c
  else c

/-- CMP_PULSE: in list mode the followed position crosses entries of the unit's range (R53, R54, R55). -/
def cmpPulse (u : Nat) (c : Core) : Core :=
  let x := nth c.cmps u
  if x.armed && c.get (K.cmpMode u) = 2 then
    let l := cmpListTargets c u
    let p := cmpPos c u
    let k' := cmpListIndex c u l p x.k
    let kh := cmpListForward c u l (posAdd x.high (-1)) 4096 x.k
    let c := cmpCross c u x.k k' kh
    if cmpListHas c u l k' then c else cmpDone c u
  else c

/-- CMP_PULSE_END: a pulse ends, and values committed during it take effect (R51, R55). -/
def cmpPulseEnd (u : Nat) (c : Core) : Core :=
  let x := nth c.cmps u
  match x.pulseEnd with
  | none => c
  | some t =>
    if t ≤ c.sample then
      let c := { c with cmps := upd c.cmps u fun (y : Cmp) => { y with pulseEnd := none, deferred := [] } }
      let c := x.deferred.foldl (fun (c : Core) (p : Nat × Nat) =>
        match descOf (p.1 / 256) (p.1 % 256) with
        | some d => c.set d.obj p.2
        | none => c) c
      c.emit (.pin "CMP" u (if c.get (K.cmpPolarity u) = 1 then 1 else 0))
    else c

/-- Unit u is disarmed and its pin at its safe level (R29, R408); values that waited for its pulse take effect. -/
def cmpSafe (u : Nat) (c : Core) : Core :=
  let c := { c with cmps := upd c.cmps u fun (x : Cmp) =>
    { x with armed := false, pulseEnd := x.pulseEnd.map fun (_ : Nat) => c.sample } }
  (cmpPulseEnd u c).emit (.pin "CMP" u 2)

/-- The index of the first target of unit u at or after position p (R55). -/
def cmpFirst (c : Core) (u p : Nat) : Nat :=
  if c.get (K.cmpMode u) = 2 then
    let l := cmpListTargets c u
    if l.isEmpty then 0
    else
      let rep := c.get (K.cmpListRepeat u)
      let past := posDiff p (l.getD (l.length - 1) 0)
      let skip := if rep = 0 || past ≤ 0 then 0 else ceilDiv past.toNat rep
      let k0 := skip * l.length
      cmpListForward c u l (posAdd p (-1)) l.length k0
  else
    let d := posDiff p (c.get (K.cmpStart u))
    if d ≤ 0 then 0 else ceilDiv (d.toNat * 65536) (max 1 (cmpPitch c u))

/-- Whether the positions in unit u's range do not ascend, so that it cannot be armed in list mode (R53). -/
def cmpRangeBad (c : Core) (u : Nat) : Bool :=
  let lo := c.get (K.cmpListFirst u)
  let ps := (List.range (c.get (K.cmpListLast u) + 1 - lo)).map fun (j : Nat) => cuePos (cueEntryOf c (lo + j))
  c.get (K.cmpMode u) = 2 && (ps.zip (ps.drop 1)).any fun (p : Nat × Nat) => decide (posDiff p.2 p.1 ≤ 0)

/-- The effect of a write of 1 to CMPn.ARM (R55). -/
def cmpArm (u : Nat) (c : Core) : Core :=
  let p := cmpPos c u
  let k := cmpFirst c u p
  let c := c.set (K.cmpFired u) 0
  { c with cmps := upd c.cmps u fun (x : Cmp) => { x with armed := true, k := k, high := p } }

/-- The effect of a write of 0 to CMPn.ARM (R55). -/
def cmpDisarm (u : Nat) (c : Core) : Core :=
  { c with cmps := upd c.cmps u fun (x : Cmp) => { x with armed := false } }

/-- CMPn.NEXT: the next target. -/
def cmpNext (c : Core) (u : Nat) : Nat :=
  let x := nth c.cmps u
  if c.get (K.cmpMode u) = 2 then cmpListTarget c u (cmpListTargets c u) x.k else cmpTarget c u x.k

/-- The position of list k's clock (R74) now, and in the cycle before where it is known. A list on a capture clock has its
base added to its entries, which is the same as taking the base off the clock. A list that follows a channel sees P_n at its line
boundaries, where alone its entries are due (R78): before the present boundary it saw the one before (DEDUCED, log 76). -/
def cueClock (c : Core) (k : Nat) : Nat × Option Nat :=
  let v := c.get (K.cueListClock k)
  if v < 4 then (c.webPos v, some (nth c.lcs v).prevP)
  else if v < 0x20 then (c.chPos (v - 0x10), some (posAdd (256 * c.get (K.chLineHigh (v - 0x10)) % posMod) (-256)))
  else (cmpPos c (v - 0x20), (nth c.cmps (v - 0x20)).history[1]?.map Prod.fst)

/-- The cursor of list k arrives at entry i with a base, and the list reads the entry (R81). On a repeat pass or a capture
walk the entry is late if it had been reached in a cycle before, unless it stands where the entry just executed on time
stands (R76). -/
def cueArrive (k i base : Nat) (again next : Bool) (c : Core) : Core :=
  let l := nth c.lists k
  let e := cueEntryOf c i
  let t := (cuePos e + base) % posMod
  let same := next && !l.late && (cuePos l.entry + l.base) % posMod = t
  let late := again && !same && match (cueClock c k).2 with
    | some q => reached q t
    | none => false
  { c with lists := upd c.lists k fun (x : CueList) =>
    { x with cursor := i, base := base, repeated := again, late := late, entry := e } }

/-- Walk of list k, on a capture clock, from a captured position (R76). -/
def walkStart (k pos : Nat) (c : Core) : Core :=
  cueArrive k (c.get (K.cueListFirst k)) pos true false
    { c with lists := upd c.lists k fun (x : CueList) => { x with walking := true } }

/-- A capture of unit u starts a walk of each armed list on its capture clock, or waits; a fifth waiting one is dropped
(R76). -/
def captureWalks (c : Core) (u pos : Nat) : Core :=
  (List.range 16).foldl (fun (c : Core) (k : Nat) =>
    if c.get (K.cueListState k) = 1 && c.get (K.cueListClock k) = 0x20 + u then
      let l := nth c.lists k
      if !l.walking then walkStart k pos c
      else if l.captures.length < 4 then
        { c with lists := upd c.lists k fun (x : CueList) => { x with captures := x.captures ++ [pos] } }
      else c.raise (0x0B60 + k) 1 0xFFFF
    else c) c

/-- CMP_CAPTURE: an accepted edge in capture mode latches the followed position and the time of the first sample of the
edge, outside the holdoff window (R56, R57). -/
def cmpCapture (u : Nat) (rising : Bool) (c : Core) : Core :=
  let x := nth c.cmps u
  let kind := c.get (K.cmpCaptEdge u)
  if c.get (K.cmpMode u) = 3 && (kind = 3 || kind = (if rising then 1 else 2)) then
    let (pos, time, chPos) := x.history.getD (c.get (K.cmpCaptFilter u)) (cmpPos c u, c.now, c.chPos (c.get (K.cmpRingCh u)))
    if x.captured && inWindow pos (c.get (K.cmpCaptPos u)) (c.get (K.cmpCaptHoldoff u)) then c
    else
      let c := { c with cmps := upd c.cmps u fun (y : Cmp) => { y with captured := true } }
      let c := (c.set (K.cmpCaptPos u) pos).set (K.cmpCaptTime u) time
      captureWalks (cmpRecord c u (if rising then 1 else 2) pos time chPos) u pos
  else c

/-- The index of an armed unit's next target and its high-water mark follow the position (R54): the mark rises with it up to
the next target, at which the unit's command fires; with DIR 1 the index falls back with it, so that the next forward
crossing fires again. -/
def cmpFollow (c : Core) (u : Nat) : Core :=
  let x := nth c.cmps u
  let mode := c.get (K.cmpMode u)
  let p := cmpPos c u
  if !x.armed || (mode != 1 && mode != 2) then c
  else
    let l := if mode = 2 then cmpListTargets c u else []
    let next := if mode = 2 then cmpListTarget c u l x.k else cmpTarget c u x.k
    let k' := if mode = 2 then cmpListBack c u l p 4096 x.k
      else min x.k (targetsUpTo (cmpPitch c u) (cmpDist c u x.k p))
    { c with cmps := upd c.cmps u fun (y : Cmp) =>
      { y with k := if c.get (K.cmpDir u) = 1 then k' else y.k,
               high := if reached p y.high && !reached p next then p else y.high } }

/-- One cycle of unit u: in capture mode, the followed position, the time and the position of channel RING_CH are kept for
the filter's length (R56, R57); an armed unit follows the position (R54). -/
def cmpSample (c : Core) (u : Nat) : Core :=
  if c.get (K.cmpMode u) = 3 then
    let p := cmpPos c u
    let q := c.chPos (c.get (K.cmpRingCh u))
    { c with cmps := upd c.cmps u fun (x : Cmp) => { x with history := ((p, c.now, q) :: x.history).take 256 } }
  else cmpFollow c u

/-! ### The pins of the field blocks (R29, R439) -/

/-- The field outputs are driven: PD_FIELD is on, and the boot is over. -/
def Core.fieldDriven (c : Core) : Bool := !c.boot.inReset && c.boot.step = 9 && (c.get K.devPdStatus).testBit 4

/-- Line 0 (A), 1 (B) or 2 (Z) of pass-through output p. -/
def Core.passPin (c : Core) (p line : Nat) : PinLevel :=
  let x := nth c.passes p
  if c.fieldDriven then .of (if line = 0 then x.a else if line = 1 then x.b else x.z) else .z

/-- The CMPn pin of unit u: an input in capture mode, and at its safe level in SAFE. -/
def Core.cmpPin (c : Core) (u : Nat) : PinLevel :=
  if c.fieldDriven && c.get (K.cmpMode u) != 3 && c.get K.devState != 8 then
    .of ((nth c.cmps u).pulseEnd.isSome != (c.get (K.cmpPolarity u) = 1))
  else .z

/-- SPOSn_CLK of port i. -/
def Core.sposClkPin (c : Core) (i : Nat) : PinLevel := if c.fieldDriven then .of (nth c.sposs i).clk else .z

/-- The outputs of the field blocks go to their safe level, high impedance (R29, R50). -/
def fieldPinsSafe (c : Core) : Core :=
  let c := (List.range 8).foldl (fun (c : Core) (u : Nat) => cmpSafe u c) c
  let c := (List.range 4).foldl (fun (c : Core) (i : Nat) => c.emit (.pin "SPOS_CLK" i 2)) c
  let c := (List.range 2).foldl (fun (c : Core) (p : Nat) =>
    ((c.emit (.pin "PASS_A" p 2)).emit (.pin "PASS_B" p 2)).emit (.pin "PASS_Z" p 2)) c
  { c with passes := List.replicate 2 {}, sposs := List.replicate 4 {} }

end Sys2Proof.Machine
end

