-- ==== Sys2Proof/Machine/Loop.lean ====
section
/-! DEFINITION. Sys2Proof/Machine/Loop.lean: the Loop Engine (R346 to R371): sources, triggers, samples, outputs, tone
writes, AIN sequences, PWM, DAC and GPIO. -/

namespace Sys2Proof.Machine

/-- A slot changed. -/
def Core.updSlot (c : Core) (s : Nat) (f : LoopSlot → LoopSlot) : Core := { c with slots := upd c.slots s f }

/-- PD_LOOP is usable. -/
def Core.loopOn (c : Core) : Bool := c.bitOf K.devPdStatus 6

/-- The slot is enabled. -/
def Core.slotOn (c : Core) (s : Nat) : Bool := c.get (K.loopSlotEnable s) = 1

/-! ### Sources (R350) -/

/-- Code, unit and first element of a source; code, unit and argument of a destination. -/
def srcCode (v : Nat) : Nat := field v 31 24
def srcUnit (v : Nat) : Nat := field v 23 16
def srcFirst (v : Nat) : Nat := field v 15 0

/-- The elements of a vector source; none for a scalar one. -/
def Core.srcSize (c : Core) (v : Nat) : Option Nat :=
  match srcCode v with
  | 5 => some 32
  | 6 => some 64
  | 7 => some 256
  | 8 => some (c.get (K.loopSlotLanes (srcUnit v)))
  | 9 => some 256
  | 10 => some 8
  | _ => none

/-- Whether a source names a code and a unit that exist. -/
def srcOk (v : Nat) : Bool :=
  let u := srcUnit v
  match srcCode v with
  | 0 => true
  | 1 => decide (u < 25)
  | 2 => decide (u < 4)
  | 3 => decide (u < 4)
  | 4 => decide (u < 8)
  | 5 => decide (u < 8)
  | 6 => decide (u < 8)
  | 7 => decide (u < 16)
  | 8 => decide (u < 64)
  | 9 => true
  | 10 => decide (u < 8)
  | _ => false

/-- An AIN result: a 12-bit code; input 24 is the die temperature (R350). -/
def Core.ainResult (c : Core) (k : Nat) : Int :=
  let v := elemAt 16 (c.get K.loopAinValue) k
  if k = 24 then signed 16 v else (v : Int)

/-- Element i, counted from the first, of a source of slot s. -/
def Core.srcValue (c : Core) (s v i : Nat) : Dya :=
  let u := srcUnit v
  let j := srcFirst v + i
  match srcCode v with
  | 1 => (c.ainResult u, 0)
  | 2 => (encVelocity c u, 0)
  | 3 => (c.geti (K.lcVelocity u), 0)
  | 4 => (c.geti (K.chScanAmpl u), 0)
  | 5 => (elemAt 16 (c.get (K.chApcSamples u)) j, 0)
  | 6 => (signed 16 (elemAt 16 (c.get (K.chHeadTemp u)) j), 0)
  | 7 => (signed 32 (elemAt 32 (c.get (K.loopMeasData u)) j), 0)
  | 8 =>
    let l := nth (nth c.slots u).lanes j
    (l.y, l.yExp)
  | 9 => (signed 32 (elemAt 32 (c.get (K.loopSlotSp s)) j), 0)
  | 10 => (elemAt 16 (c.get (K.loopSeqResult u)) j, 0)
  | _ => (0, 0)

/-- Whether element i of a source is fresh for a slot whose previous sample has this mark; sources of other codes always
are (R351). -/
def Core.srcFresh (c : Core) (v mark i : Nat) : Bool :=
  let k := srcCode v
  if k = 5 || k = 6 || k = 7 then
    decide (mark < sget 0 c.loopMarks (65536 * k + 256 * srcUnit v + (srcFirst v + i)))
  else true

/-! ### Cost (R355) -/

/-- The lanes of a slot. -/
def Core.laneCount (c : Core) (s : Nat) : Nat := c.get (K.loopSlotLanes s)

/-- MAC units of one sample. -/
def Core.sampleCost (c : Core) (s : Nat) : Nat :=
  let f := c.get (K.loopSlotFlags s)
  24 + c.laneCount s * (12 + 5 * bitN f 3 + 5 * bitN f 4 + b2n (srcCode (c.get (K.loopSlotSrcFf s)) != 0))

/-- Trigger mode and argument (R352). -/
def Core.slotMode (c : Core) (s : Nat) : Nat := field (c.get (K.loopSlotTrigger s)) 7 0
def Core.slotArg (c : Core) (s : Nat) : Nat := field (c.get (K.loopSlotTrigger s)) 15 8

/-- MAC units per second of a slot. -/
def Core.slotLoad (c : Core) (s : Nat) : Frac :=
  if c.slotMode s = 1 then ⟨1000000 * c.sampleCost s, max 1 (c.get (K.loopSlotPeriod s))⟩
  else ⟨c.get (K.loopSlotMaxRate s) * c.sampleCost s, 1⟩

/-- The enabled slots. -/
def Core.slotsOn (c : Core) : List Nat := (List.range 64).filter fun (s : Nat) => c.slotOn s

/-- MAC units per second of a list of slots, and their lanes. -/
def Core.loadOf (c : Core) (l : List Nat) : Frac := l.foldl (fun (a : Frac) (s : Nat) => a.add (c.slotLoad s)) ⟨0, 1⟩
def Core.lanesOf (c : Core) (l : List Nat) : Nat := l.foldl (fun (a : Nat) (s : Nat) => a + c.laneCount s) 0

/-- Exponent i of EXP: X, E, I, U, F1, F2, FF, Y. -/
def Core.expOf (c : Core) (s i : Nat) : Int := signed 8 (elemAt 8 (c.get (K.loopSlotExp s)) i)

/-! ### Outputs (R359) -/

/-- The range of out for a destination code; where the table gives none, that of the I32 in which OUTPUT shows it. -/
def destRange (code : Nat) : Int × Int :=
  match code with
  | 1 => (0, 65535)
  | 2 => (0, 4095)
  | 3 => (-65536, 65535)
  | 5 => (0, 65535)
  | _ => (-(2 ^ 31), 2 ^ 31 - 1)

/-- The PWM pins, or the DACs, that a slot's destination covers. -/
def Core.destPins (c : Core) (s code : Nat) : List Nat :=
  let d := c.get (K.loopSlotDest s)
  if srcCode d = code then (List.range (c.laneCount s)).map fun (i : Nat) => srcUnit d + i else []

/-- A PWM pin or DAC belongs to an enabled slot. -/
def Core.slotOwns (c : Core) (code pin : Nat) : Bool := c.slotsOn.any fun (s : Nat) => (c.destPins s code).contains pin

/-- The scan state of the channels whose mirror drive a PWM pin or a DAC belongs to, the highest; none where it belongs to none
(R176). -/
def Core.mirrorState (c : Core) (code pin : Nat) : Option Nat :=
  (((List.range 8).filter fun (n : Nat) => c.get (if code = 1 then K.chMirPwm n else K.chMirDac n) = pin).map fun (n : Nat) =>
    c.get (K.chScanState n)).max?

/-- A PWM pin or DAC belongs to a mirror drive (R176). -/
def Core.mirrorOwns (c : Core) (code pin : Nat) : Bool := (c.mirrorState code pin).isSome

/-- A mirror drive keeps a slot from driving the pin. The DAC of a mirror passes on the output of the slot that the user
maps to it (R176), so only the PWM pin is taken from the slots. -/
def Core.mirrorBars (c : Core) (code pin : Nat) : Bool := code = 1 && c.mirrorOwns code pin

/-- A GPIO pin belongs to Recast (R226, R367). -/
def Core.rcstOwns (c : Core) (pin : Nat) : Bool :=
  c.get K.rcstGpioActive = pin || c.get K.rcstGpioReverse = pin || c.get K.rcstGpioReady = pin

/-- The duty of a PWM pin, or the code of a DAC, set. -/
def setDuty (k v : Nat) (c : Core) : Core :=
  if k < 32 then (c.set K.loopPwmDuty (setElem 16 (c.get K.loopPwmDuty) k v)) else c
def setDac (j v : Nat) (c : Core) : Core :=
  if j < 8 then c.set K.loopDacCode (setElem 16 (c.get K.loopDacCode) j v) else c

/-- The output of a computed lane goes to its destination; a tone gain is written by R360. -/
def laneOut (s i : Nat) (out : Int) (c : Core) : Core :=
  let d := c.get (K.loopSlotDest s)
  let u := srcUnit d
  let c := c.set (K.loopSlotOutput s) (setElem 32 (c.get (K.loopSlotOutput s)) i (unsigned 32 out))
  match srcCode d with
  | 1 => setDuty (u + i) out.toNat c
  | 2 => setDac (u + i) out.toNat c
  | 4 =>
    match (nth c.slots s).bases[i]? with
    | some (n, base) => { c with lines := upd c.lines n fun (x : ChLine) => { x with trim := some (posAdd base out) } }
    | none => c
  | 5 => if i < 32 && u < 8 then c.set (K.chBeamPower u) (setElem 16 (c.get (K.chBeamPower u)) i out.toNat) else c
  | 6 =>
    let j := srcFirst d + i
    if u < 64 && j < 256 then c.set (K.loopSlotSp u) (setElem 32 (c.get (K.loopSlotSp u)) j (unsigned 32 out)) else c
  | _ => c

/-! ### Triggers (R352 to R354) -/

/-- LOOP_DEADLINE is raised with reason 1, a miss, or 2, an overrun; the spec gives no lateness for an overrun. -/
def loopMiss (s late : Nat) (c : Core) : Core :=
  (c.bump (K.loopSlotMisses s)).raise (0x0C80 + s) 1 (2 ^ 56 + satU 32 late)
def loopOverrun (s : Nat) (c : Core) : Core :=
  let (v, c) := c.freeVal 32
  (c.bump (K.loopSlotOverruns s)).raise (0x0C80 + s) 1 (2 ^ 57 + v)

/-- The least time between triggers of modes 2 to 5 has not passed. -/
def Core.tooSoon (c : Core) (s : Nat) : Bool :=
  match (nth c.slots s).lastCycle with
  | none => false
  | some t => decide ((c.sample - t) * 5 * c.get (K.loopSlotMaxRate s) < 1000000000)

/-- A sample of slot s runs: the engine computes one at a time, for 0.5 ns a MAC unit (R355; DEDUCED, log 100). -/
def Core.sampleRuns (c : Core) (s : Nat) : Bool := c.loopAt = s && decide (2 * c.clock < c.loopFree)

/-- A trigger of an enabled slot: its sources are latched and its sample waits, or it is discarded (R350, R353). -/
def loopTrigger (s : Nat) (c : Core) : Core :=
  let x := nth c.slots s
  if x.lastCycle = some c.sample then c
  else if x.wait.isSome || c.sampleRuns s || (c.slotMode s != 1 && c.tooSoon s) then loopOverrun s c
  else
    let lanes := List.range (c.laneCount s)
    let src := c.get (K.loopSlotSrcX s)
    let skip := (c.get (K.loopSlotFlags s)).testBit 2
    let w : LoopWait := {
      time := c.now, cycle := c.sample, pos := c.stampPos, flags := c.codeFlags (c.get K.devStampClock), mark := c.loopMark,
      x := lanes.map fun (i : Nat) => c.srcValue s src i,
      r := lanes.map fun (i : Nat) => c.srcValue s (c.get (K.loopSlotSrcR s)) i,
      ff := lanes.map fun (i : Nat) => c.srcValue s (c.get (K.loopSlotSrcFf s)) i,
      stale := lanes.map fun (i : Nat) => skip && !c.srcFresh src x.mark i }
    c.updSlot s fun (y : LoopSlot) => { y with wait := some w, lastCycle := some c.sample }

/-- The enabled slots of a trigger mode with an argument are triggered. -/
def loopTriggerAll (mode arg : Nat) (c : Core) : Core :=
  (c.slotsOn.filter fun (s : Nat) => c.slotMode s = mode && c.slotArg s = arg).foldl
    (fun (c : Core) (s : Nat) => loopTrigger s c) c

/-- The first period instant after `last`, in ns (R352, R364). -/
def nextInstant (period phase last : Nat) : Nat :=
  if last < phase then phase - (phase - 1 - last) / period * period
  else phase + ((last - phase) / period + 1) * period

/-- LOOP_PERIOD_TRIGGER: device time has reached the next period instant of the slot. -/
def loopPeriodTrigger (s : Nat) (c : Core) : Core :=
  if !(c.loopOn && c.slotOn s && c.slotMode s = 1) then c
  else
    let t := nextInstant (c.get (K.loopSlotPeriod s) * 1000) (c.get (K.loopSlotPhase s) * 1000) (nth c.slots s).instant
    if c.now < t then c
    else loopTrigger s (c.updSlot s fun (x : LoopSlot) => { x with instant := t })

/-- A LOOP_SAMPLE cue names the slot (R352). -/
def loopCue (s : Nat) (c : Core) : Core :=
  if decide (s < 64) && c.loopOn && c.slotOn s && c.slotMode s = 2 then loopTrigger s c else c

/-- A forward step of device time leaves out the instants stepped over (R375). -/
def loopStepTime (c : Core) : Core :=
  { c with slots := c.slots.map fun (x : LoopSlot) => { x with instant := max x.instant c.now },
           ainSeqs := c.ainSeqs.map fun (x : AinSeq) => { x with instant := max x.instant c.now } }

/-- The time from trigger to deadline in ns (R354), as numerator over a rate. -/
def Core.deadlineLeft (c : Core) (s : Nat) (w : LoopWait) : Int :=
  let d := c.get (K.loopSlotDeadline s)
  let ns := if d != 0 then d * 1000
    else if c.slotMode s = 1 then c.get (K.loopSlotPeriod s) * 1000
    else 1000000000 / max 1 (c.get (K.loopSlotMaxRate s))
  (ns : Int) - ((c.sample - w.cycle) * 5 : Nat)

/-- A waiting sample whose deadline has passed is discarded (R354). -/
def loopExpire (s : Nat) (c : Core) : Core :=
  match (nth c.slots s).wait with
  | none => c
  | some w =>
    let left := c.deadlineLeft s w
    if left < 0 then loopMiss s left.natAbs (c.updSlot s fun (x : LoopSlot) => { x with wait := none }) else c

/-- LOOP_DEADLINE_MISS. -/
def loopDeadlineMiss (s : Nat) (c : Core) : Core := if c.loopOn then loopExpire s c else c

/-- The waiting slot with the earliest deadline; of several the lowest number. -/
def Core.nextSample (c : Core) : Option Nat :=
  (List.range 64).foldl (fun (b : Option Nat) (s : Nat) =>
    match (nth c.slots s).wait, b with
    | none, _ => b
    | some _, none => some s
    | some w, some t =>
      match (nth c.slots t).wait with
      | none => some s
      | some v => if c.deadlineLeft s w < c.deadlineLeft t v then some s else b) none

/-! ### A sample (R349) -/

/-- The settings of slot s for a sample. -/
def Core.slotCfg (c : Core) (s : Nat) : SlotCfg :=
  let f := c.get (K.loopSlotFlags s)
  let (lo, hi) := destRange (srcCode (c.get (K.loopSlotDest s)))
  { eX := c.expOf s 0, eE := c.expOf s 1, eI := c.expOf s 2, eU := c.expOf s 3, eF1 := c.expOf s 4, eF2 := c.expOf s 5,
    eFF := c.expOf s 6, eY := c.expOf s 7, intHold := f.testBit 0, dOnX := f.testBit 1, f1On := f.testBit 3,
    f2On := f.testBit 4, gain := bf24 (c.get (K.loopSlotSrcGain s)), offset := c.geti (K.loopSlotSrcOffset s),
    outMin := bf24 (c.get (K.loopSlotOutMin s)), outMax := bf24 (c.get (K.loopSlotOutMax s)),
    outGain := bf24 (c.get (K.loopSlotOutGain s)), outBase := c.geti (K.loopSlotOutBase s), lo := lo, hi := hi,
    band := bf24 (c.get (K.loopSlotBand s)) }

/-- The record of a lane, with the time, the position and the flags of the sample's trigger (R17, R369). -/
def loopRecord (s i : Nat) (w : LoopWait) (skipped : Bool) (c : Core) : Core :=
  let ring := c.get (K.loopSlotRing s)
  let only := c.get (K.loopSlotRecLane s)
  if ring < 4 && (only = 0xFFFF || only = i) then
    let l := nth (nth c.slots s).lanes i
    let y := toStage (c.expOf s 7) (l.y, l.yExp)
    let (free, c) := c.freeVal 4
    let pay := 2 ^ 56 * i + 2 ^ 55 * b2n l.held + 2 ^ 54 * b2n l.hi + 2 ^ 53 * b2n l.lo + 2 ^ 52 * b2n skipped +
      2 ^ 48 * free + 2 ^ 24 * unsigned 24 l.e + unsigned 24 y
    c.putRecord (60 + ring) { time := w.time, pos := w.pos, src := 0x0C40 + s, seq := 0, code := w.flags + 1, payload := pay }
  else c

/-- One lane of a sample: computed, or skipped (R351). -/
def loopLane (s : Nat) (f : SlotCfg) (w : LoopWait) (k : Coefs) (next : Option Coefs) (preset : Option Dya) (i : Nat)
    (c : Core) : Core :=
  if w.stale.getD i false then loopRecord s i w true c
  else
    let l := nth (nth c.slots s).lanes i
    let (r, c) := laneSample f k next preset (w.x.getD i (0, 0)) (w.r.getD i (0, 0)) (w.ff.getD i (0, 0)) l c
    let c := c.updSlot s fun (x : LoopSlot) => { x with lanes := x.lanes.set i r.lane }
    let c := c.set (K.loopSlotIntegrator s) (setElem 64 (c.get (K.loopSlotIntegrator s)) i (unsigned 64 r.lane.i))
    let c := (List.range r.wraps).foldl (fun (c : Core) (_ : Nat) =>
      let c := c.bump (K.loopSlotWraps s)
      c.raise (0x0C40 + s) 1 (2 ^ 56 * i + c.get (K.loopSlotWraps s))) c
    loopRecord s i w false (laneOut s i r.out c)

/-- STATUS of a slot (R358, R360). -/
def slotStatus (s : Nat) (c : Core) : Core :=
  let x := nth c.slots s
  let l := x.lanes
  let any := fun (p : LoopLane → Bool) => b2n (l.any p)
  let inBand := c.slotOn s && !l.isEmpty && l.all fun (y : LoopLane) => decide (c.get (K.loopSlotBandCount s) ≤ y.band)
  c.set (K.loopSlotStatus s) (b2n inBand + 2 * any (fun (y : LoopLane) => y.hi) + 4 * any (fun (y : LoopLane) => y.lo) +
    8 * any (fun (y : LoopLane) => y.held) + 16 * b2n x.bankB + 32 * b2n (!x.toneRuns.isEmpty) +
    64 * b2n (x.tonePend != 0))

/-- The engine is taken for the time that a sample costs; one that ends after its deadline is a miss (R354, R355). -/
def loopBusy (s : Nat) (w : LoopWait) (c : Core) : Core :=
  let cost := c.sampleCost s
  let late := (cost : Int) - 2 * c.deadlineLeft s w
  let c := { c with loopFree := 2 * c.clock + cost, loopAt := s }
  if 0 < late then loopMiss s (late / 2).toNat c else c

/-- The sample that waits for slot s runs. -/
def loopRun (s : Nat) (w : LoopWait) (c : Core) : Core :=
  let x := nth c.slots s
  let c := loopBusy s w c
  let bank := fun (b : Bool) => coefsOf (c.get (if b then K.loopSlotBankB s else K.loopSlotBankA s))
  let next := if x.swap then some (bank !x.bankB) else none
  let f := c.slotCfg s
  let c := (List.range (c.laneCount s)).foldl (fun (c : Core) (i : Nat) =>
    loopLane s f w (bank x.bankB) next (x.preset.map bf24) i c) c
  let d := c.get (K.loopSlotDest s)
  let c := c.updSlot s fun (y : LoopSlot) =>
    { y with wait := none, mark := w.mark, swap := false, preset := none, bankB := if x.swap then !x.bankB else x.bankB,
             toneDue := y.toneDue || srcCode d = 3 }
  let c := if srcCode d = 5 && srcUnit d < 8 then powerSend (srcUnit d) c else c
  slotStatus s (c.bump (K.loopSlotSamples s))

/-- LOOP_SAMPLE_RUN: samples whose deadline has passed are discarded, and the waiting sample with the earliest deadline
runs (R354), once the sample before it has ended. -/
def loopSampleRun (c : Core) : Core :=
  if !c.loopOn || decide (2 * c.clock < c.loopFree) then c
  else
    let c := (List.range 64).foldl (fun (c : Core) (s : Nat) => loopExpire s c) c
    match c.nextSample with
    | none => c
    | some s =>
      match (nth c.slots s).wait with
      | none => c
      | some w => loopRun s w c

/-! ### Tone-gain outputs (R360) -/

/-- G_z of a slot: of the outputs held now; a zone without a lane has gain 1. -/
def Core.gains (c : Core) (s : Nat) : List Nat :=
  let out := c.get (K.loopSlotOutput s)
  (List.range 128).map fun (z : Nat) =>
    if z < c.laneCount s then (clampI 0 131071 (65536 + signed 32 (elemAt 32 out z))).toNat else 65536

/-- The write to channel n begins, or is refused because its idle bank drains. -/
def toneStart (s n : Nat) (c : Core) : Core :=
  if c.draining n then
    let c := c.updSlot s fun (x : LoopSlot) => { x with tonePend := setBit x.tonePend n true }
    (c.bump (K.loopSlotRefused s)).raise (0x0CC0 + s) 1 (2 ^ 56 * n)
  else
    let c := c.updSlot s fun (x : LoopSlot) =>
      { x with toneRuns := x.toneRuns ++ [(n, c.gains s)], tonePend := setBit x.tonePend n false }
    (c.updImg n fun (g : ChImg) => { g with loopWrites := g.loopWrites ++ [s] }).setBitOf (K.chToneState n) 1 true

/-- LOOP_TONE_WRITE: the write of the latest outputs begins on every channel of the mask. -/
def loopToneWrite (s : Nat) (c : Core) : Core :=
  let x := nth c.slots s
  if !(c.loopOn && x.toneDue && x.toneRuns.isEmpty) then c
  else
    let c := c.updSlot s fun (y : LoopSlot) => { y with toneDue := false }
    slotStatus s ((bitsOf 8 (srcFirst (c.get (K.loopSlotDest s)))).foldl (fun (c : Core) (n : Nat) => toneStart s n c) c)

/-- LOOP_PENDING_WRITE: channels that refused are written with the latest outputs once their idle bank is idle. -/
def loopPendingWrite (s : Nat) (c : Core) : Core :=
  let x := nth c.slots s
  if !c.loopOn then c
  else
    let ready := (bitsOf 8 x.tonePend).filter fun (n : Nat) =>
      !c.draining n && !x.toneRuns.any fun (r : Nat × List Nat) => r.1 = n
    slotStatus s (ready.foldl (fun (c : Core) (n : Nat) => toneStart s n c) c)

/-- The entries that a tone write puts into a bank: T[z][v] from the reference entries and the gains. -/
def toneEntries (ref gains : List Nat) : List Nat :=
  ref.mapIdx fun (i : Nat) (r : Nat) => min 4095 ((r * gains.getD (i / 256) 65536 + 32768) / 65536)

/-- The reference table as the engine reads it; entries in a burst that comes back bad are free. -/
def toneRef (m : List Host.Cell) (addr : Nat) (c : Core) : List Nat × Core :=
  let (bad, c) := c.hubRead 0x39 0 addr 65536
  let ref := entries16 (c.readBytes m addr 65536)
  match bad with
  | none => (ref, c)
  | some _ =>
    ref.zipIdx.foldl (fun (p : List Nat × Core) (q : Nat × Nat) =>
      let b := (addr + 2 * q.2) / 64
      if p.2.refuses b || (burstRead (p.2.flipsOf b)).bad then
        let (v, c) := p.2.freeVal 16
        (p.1 ++ [v], c)
      else (p.1 ++ [q.1], p.2)) ([], c)

/-- The write to channel n ends. -/
def toneEnd (s n : Nat) (ref gains : List Nat) (c : Core) : Core :=
  let idle := 1 - c.get (K.chToneLive n)
  let c := c.updImg n fun (g : ChImg) => tblWrite (2 + idle) { g with loopWrites := g.loopWrites.erase s } 0
    (toneEntries ref gains)
  let g := nth c.imgs n
  c.setBitOf (K.chToneState n) 1 (g.copyRun || !g.loopWrites.isEmpty)

/-- LOOP_TONE_WRITE_DONE: the writes of the slot that run end. -/
def loopToneWriteDone (m : List Host.Cell) (s : Nat) (c : Core) : Core :=
  let runs := (nth c.slots s).toneRuns
  if runs.isEmpty || !c.loopOn then c
  else
    let c := c.updSlot s fun (x : LoopSlot) => { x with toneRuns := [] }
    let (ref, c) := toneRef m (c.get (K.loopSlotToneRef s)) c
    slotStatus s (runs.foldl (fun (c : Core) (r : Nat × List Nat) => toneEnd s r.1 ref r.2 c) c)

/-! ### Enable, swap and preset -/

/-- The destination of slot s is taken: by another enabled slot, a mirror drive, or Recast (R359). -/
def Core.destTaken (c : Core) (s : Nat) : Bool :=
  (c.destPins s 1).any (fun (k : Nat) => c.slotOwns 1 k || c.mirrorBars 1 k) ||
    (c.destPins s 2).any (fun (j : Nat) => c.slotOwns 2 j || c.mirrorBars 2 j)

/-- The status with which a write of 1 to ENABLE of a slot that is not enabled is answered: 0, STATE 7 or RANGE 8 (R351,
R355, R359). -/
def Core.enableStatus (c : Core) (s : Nat) : Nat :=
  let l := c.slotsOn ++ [s]
  let vec := fun (v : Nat) => match c.srcSize v with
    | some k => decide (srcFirst v + c.laneCount s ≤ k)
    | none => true
  let badExp := (List.range 8).any fun (i : Nat) => decide (c.expOf s i < -64) || decide (63 < c.expOf s i)
  let load := c.loadOf l
  if c.destTaken s then 7
  else if decide (c.get K.loopLoadLimit * 20000000 * load.den < load.num) || decide (4096 < c.lanesOf l) || badExp ||
      !(vec (c.get (K.loopSlotSrcX s)) && vec (c.get (K.loopSlotSrcR s)) && vec (c.get (K.loopSlotSrcFf s))) then 8
  else 0

/-- The slot is enabled. -/
def slotEnable (s : Nat) (c : Core) : Core :=
  if c.slotOn s then c
  else
    let d := c.get (K.loopSlotDest s)
    let bases := if srcCode d = 4 then (bitsOf 8 (srcFirst d)).map fun (n : Nat) => (n, c.get (K.chBarOffset n)) else []
    let c := c.updSlot s fun (x : LoopSlot) =>
      { x with lanes := List.replicate (c.laneCount s) {}, lastCycle := none, wait := none, bases := bases,
               instant := c.now }
    slotStatus s (((c.set (K.loopSlotEnable s) 1).set (K.loopSlotSamples s) 0).set (K.loopSlotIntegrator s) 0)

/-- The slot is stopped; a sample that waits is dropped, and its outputs hold (R361, R362). -/
def slotDisable (s : Nat) (c : Core) : Core :=
  let held := (nth c.slots s).bases
  let c := held.foldl (fun (c : Core) (p : Nat × Nat) =>
    { c with lines := upd c.lines p.1 fun (x : ChLine) => { x with trim := none } }) c
  let c := c.updSlot s fun (x : LoopSlot) => { x with wait := none, bases := [] }
  slotStatus s (c.set (K.loopSlotEnable s) 0)

/-- A bank swap is asked for (R356). -/
def bankSwap (s : Nat) (c : Core) : Core :=
  if decide (s < 64) && c.loopOn then c.updSlot s fun (x : LoopSlot) => { x with swap := true } else c

/-- A preset is asked for (R357). -/
def slotPreset (s v : Nat) (c : Core) : Core := c.updSlot s fun (x : LoopSlot) => { x with preset := some v }

/-- The channel's offset is moved by an enabled slot (R361). -/
def Core.trimmed (c : Core) (n : Nat) : Bool :=
  c.slotsOn.any fun (s : Nat) => (nth c.slots s).bases.any fun (p : Nat × Nat) => p.1 = n

/-- Step 1 of R15: the offset of channel n moves toward its trim by at most 127 ticks (R70, R361). -/
def trimStep (n : Nat) (c : Core) : Core :=
  match (nth c.lines n).trim with
  | none => c
  | some goal =>
    let now := c.get (K.chBarOffset n)
    c.set (K.chBarOffset n) (posAdd now (clampI (-127) 127 (posDiff goal now)))

/-- PUBLISH of a measurement vector (R368). -/
def publish (j : Nat) (c : Core) : Core := loopTriggerAll 4 j (c.bump (K.loopMeasPublishes j))

/-- A write of a measurement vector marks the elements it covers (R368). -/
def measWritten (j off len : Nat) (c : Core) : Core :=
  if len = 0 then c
  else (List.range ((off + len - 1) / 4 + 1 - off / 4)).foldl (fun (c : Core) (i : Nat) => c.markFresh 7 j (off / 4 + i)) c

/-! ### AIN (R363, R364) -/

/-- A timed sample is taken; within 250 ns of another it is late. -/
def ainTimed (c : Core) : Core :=
  match c.ainTimed with
  | none => { c with ainTimed := some c.sample }
  | some t =>
    if c.sample < t + 50 then { c with ainTimed := some (t + 50) }.bump K.loopAinLate
    else { c with ainTimed := some c.sample }

/-- The inputs of a sequence, up to the first 0xFF. -/
def Core.seqInputs (c : Core) (q : Nat) : List Nat :=
  ((List.range 8).map fun (i : Nat) => elemAt 8 (c.get (K.loopSeqInputs q)) i).takeWhile fun (v : Nat) => v != 0xFF

/-- AIN sequence q starts, or is dropped because it runs. The conversions of one that a cue started are timed samples, 250 ns
apart (R363, R364). -/
def seqStart (q : Nat) (timed : Bool) (c : Core) : Core :=
  if (nth c.ainSeqs q).running then c.bump K.loopAinLate
  else
    let c := if timed then ainTimed c else c
    let more := 50 * ((c.seqInputs q).length - 1)
    let c := if timed then { c with ainTimed := c.ainTimed.map fun (t : Nat) => t + more } else c
    { c with ainSeqs := upd c.ainSeqs q fun (x : AinSeq) => { x with running := true } }

/-- An ADC_TRIGGER cue. -/
def adcCue (q : Nat) (c : Core) : Core := if decide (q < 8) && c.loopOn then seqStart q true c else c

/-- AIN_SEQ_PERIOD: device time has reached a multiple of the period. -/
def ainSeqPeriod (q : Nat) (c : Core) : Core :=
  let p := c.get (K.loopSeqPeriod q) * 1000
  if p = 0 || !c.loopOn then c
  else
    let t := nextInstant p 0 (nth c.ainSeqs q).instant
    if c.now < t then c
    else seqStart q false { c with ainSeqs := upd c.ainSeqs q fun (x : AinSeq) => { x with instant := t } }

/-- AIN_SEQ_DONE: the sequence completes with these codes and triggers the slots in mode 3. -/
def ainSeqDone (q : Nat) (codes : List Nat) (c : Core) : Core :=
  if !(nth c.ainSeqs q).running || !c.loopOn then c
  else
    let c := { c with ainSeqs := upd c.ainSeqs q fun (x : AinSeq) => { x with running := false } }
    let c := (c.seqInputs q).zipIdx.foldl (fun (c : Core) (p : Nat × Nat) =>
      let v := codes.getD p.2 0
      c.set (K.loopSeqResult q) (setElem 16 (c.get (K.loopSeqResult q)) p.2 (if p.1 = 24 then v else v % 4096))) c
    loopTriggerAll 3 q c

/-- A background conversion updates its entry of AIN_VALUE. -/
def ainValue (input code : Nat) (c : Core) : Core :=
  c.set K.loopAinValue (setElem 16 (c.get K.loopAinValue) input (if input = 24 then code else code % 4096))

/-! ### Pins (R365 to R367) -/

/-- A safe level: 0 high impedance, 1 low, 2 high; the spec gives code 3 no meaning, and it is read as high impedance. -/
def safeLevel (map k : Nat) : PinLevel :=
  match field map (2 * k + 1) (2 * k) with
  | 1 => .low
  | 2 => .high
  | _ => .z

/-- The Loop Engine's outputs are at their safe levels: PD_LOOP is off, or the device is in SAFE (R362). -/
def Core.loopSafe (c : Core) : Bool := !c.loopOn || c.get K.devState = 8

/-- The counts for which PWM pin k is high in a period. -/
def Core.pwmHigh (c : Core) (k duty : Nat) : Nat := (duty * elemAt 16 (c.get K.loopPwmPeriod) k + 32768) / 65536

/-- The level of PWM pin k. A mirror drive's pin is at its safe level in scan state OFF, and carries the drive's square wave in
the others (R176, R182). -/
def Core.pwmPin (c : Core) (k : Nat) : PinLevel :=
  let w := nth c.pwms k
  if c.loopSafe then safeLevel (c.get K.loopPwmSafe) k
  else if c.mirrorState 1 k = some 0 then safeLevel (c.get K.loopPwmSafe) k
  else if c.mirrorOwns 1 k then (if c.drivePhase < 2 ^ 47 then .high else .low)
  else if !c.bitOf K.loopPwmEnable k then safeLevel (c.get K.loopPwmSafe) k
  else if w.duty = 65535 || w.count < c.pwmHigh k w.duty then .high else .low

/-- The code of DAC j, or none for high impedance. A mirror drive's DAC is at its safe level in scan state OFF, at the start
level in SPINUP, and passes on the slot's output in the others (R176, R182). -/
def Core.dacPin (c : Core) (j : Nat) : Option Nat :=
  let safe := elemAt 16 (c.get K.loopDacSafe) j
  let spin := (List.range 8).find? fun (n : Nat) => c.beam && c.get (K.chMirDac n) = j && c.get (K.chScanState n) = 1
  if c.loopSafe || !c.bitOf K.loopDacEnable j || c.mirrorState 2 j = some 0 then (if safe = 0xFFFF then none else some safe)
  else match spin with
    | some n => some (c.get (K.chMirStartLevel n))
    | none => some (elemAt 16 (c.get K.loopDacCode) j)

/-- The phases of Recast in which a pin named by RCST.GPIO_* is high (R226). -/
def Core.rcstLevel (c : Core) (k : Nat) : PinLevel :=
  let p := c.get K.rcstPhase
  let on := (c.get K.rcstGpioActive = k && p != 0) || (c.get K.rcstGpioReverse = k && p = 2) ||
    (c.get K.rcstGpioReady = k && (p = 4 || p = 5))
  if on then .high else .low

/-- The level that the device drives on GPIO pin k; none on an input. -/
def Core.gpioPin (c : Core) (k : Nat) : PinLevel :=
  if c.loopSafe then safeLevel (c.get K.loopGpioSafe) k
  else if c.rcstOwns k then c.rcstLevel k
  else if !c.bitOf K.loopGpioDir k then .z
  else if c.bitOf K.loopGpioOut k then .high else .low

/-- One sample of the GPIO pins: GPIO_IN shows a level that two samples found (R367). -/
def gpioTick (c : Core) : Core :=
  let now := (List.range 32).foldl (fun (a : Nat) (k : Nat) => if c.gpioPin k == .high then a + 2 ^ k else a) 0
  let same := 2 ^ 32 - 1 - (now ^^^ c.gpioSeen)
  { c with gpioSeen := now, gpioIn := (now &&& same) ||| (c.gpioIn &&& (now ^^^ c.gpioSeen)) }

/-- One 200 MHz cycle of PWM pin k: a duty applies at the start of the next period (R359, R365). -/
def pwmTick (k : Nat) (c : Core) : Core :=
  if !c.bitOf K.loopPwmEnable k then c
  else
    let pre := elemAt 16 (c.get K.loopPwmPrescale) k
    let per := elemAt 16 (c.get K.loopPwmPeriod) k
    { c with pwms := upd c.pwms k fun (w : Pwm) => (
      if w.pre + 1 < pre then { w with pre := w.pre + 1 }
      else if w.count + 1 < per then { w with pre := 0, count := w.count + 1 }
      else { pre := 0, count := 0, duty := elemAt 16 (c.get K.loopPwmDuty) k }) }

/-- GPIO_OUT changes, but for the pins that Recast owns (R367). -/
def gpioOut (v : Nat) (c : Core) : Core :=
  let old := c.get K.loopGpioOut
  (List.range 32).foldl (fun (c : Core) (k : Nat) =>
    if c.rcstOwns k || v.testBit k = old.testBit k then c
    else c.setBitOf K.loopGpioOut k (v.testBit k)) c

/-- Every slot is disabled, and the outputs go to their safe levels (R362). -/
def loopStop (c : Core) : Core := c.slotsOn.foldl (fun (c : Core) (s : Nat) => slotDisable s c) c

end Sys2Proof.Machine
end

