-- ==== Sys2Proof/Machine/Rails.lean ====
section
/-! DEFINITION. Sys2Proof/Machine/Rails.lean: the rail sequencer (R417 to R423) and the snapshot log (R424 to R427). -/

namespace Sys2Proof.Machine

/-- The rail sequencer changed. -/
def Core.updRail (c : Core) (f : Rail → Rail) : Core := { c with rail := f c.rail }

/-! ### Readings (R418) -/

/-- The measured voltage of rail r in mV; none without V_AIN. -/
def Core.railMv (c : Core) (r : Nat) : Option Nat :=
  let k := c.get (K.railVAin r)
  if k < 24 then some (satU 16 (elemAt 16 (c.get K.loopAinValue) k * c.get (K.railVScale r) / 1000)) else none

/-- The measured current of rail r in mA. -/
def Core.railMa (c : Core) (r : Nat) : Option Nat :=
  let k := c.get (K.railIAin r)
  if k < 24 then
    some (satU 16 (roundFree (elemAt 16 (c.get K.loopAinValue) k * c.get (K.railIScale r) : Nat) 1000).toNat)
  else none

/-- The voltage as the log and the payloads carry it. -/
def Core.railMvWord (c : Core) (r : Nat) : Nat := (c.railMv r).getD 0xFFFF

/-- RAIL_PGr shows its asserted level; true where PG_MODE is 0. -/
def Core.pgAsserted (c : Core) (r : Nat) : Bool := c.bitOf K.railPgIn r == (c.get (K.railPgMode r) == 1)

/-- Rail r has a check of its PG input; FULL_DISCHARGE is set. -/
def Core.pgUsed (c : Core) (r : Nat) : Bool := c.get (K.railPgMode r) != 0
def Core.fullDischarge (c : Core) (r : Nat) : Bool := c.bitOf (K.railFlags r) 0

/-- The checks of "good" that rail r has all hold. -/
def Core.railChecks (c : Core) (r : Nat) : Bool :=
  (!c.pgUsed r || c.pgAsserted r) &&
    (match c.railMv r with
      | some v => decide (c.get (K.railVMin r) ≤ v) && decide (v < c.get (K.railVMax r))
      | none => true)

/-- Rail r is good; with neither check it is so once ON_DELAY has passed since te. -/
def Core.railGoodAt (c : Core) (r te : Nat) : Bool :=
  c.railChecks r && decide (te + c.get (K.railOnDelay r) * 1000 ≤ c.clock)

/-- Rail r is discharged; with neither check, in the cycle after its enable was removed. -/
def Core.railDischargedAt (c : Core) (r cut : Nat) : Bool :=
  (!c.pgUsed r || !c.pgAsserted r) &&
    (!c.fullDischarge r || decide (c.railMvWord r < c.get (K.railVDischarge r))) &&
    (c.pgUsed r || c.fullDischarge r || decide (cut < c.sample))

/-- Rails of state s, those of one ORDER, and the ORDERs ascending. -/
def Core.railsOf (c : Core) (s : Nat) : List Nat := (List.range 24).filter fun (r : Nat) => c.get (K.railOnState r) = s
def Core.groupRails (c : Core) (s o : Nat) : List Nat := (c.railsOf s).filter fun (r : Nat) => c.get (K.railOrder r) = o
def Core.ordersOf (c : Core) (s : Nat) : List Nat :=
  (List.range 256).filter fun (o : Nat) => !(c.groupRails s o).isEmpty

/-! ### The snapshot log -/

/-- Sectors, and records, of the rail-log region (R464). -/
def Nor.sectors (n : Nor) : Nat := n.mib * 16 - 0x304
def Nor.logSlots (n : Nor) : Nat := n.sectors * 512

/-- Bytes of a list of 16-bit numbers. -/
def bytes16 (l : List Nat) : List Byte := l.flatMap fun (v : Nat) => bytesLE 2 v

/-- The record of R425. -/
def Core.logBytes (c : Core) (seq trigger src kind cls repeats pos : Nat) : List Byte × Core :=
  let (free, c) := c.freeVal 64
  let slot := fun (k : Nat) =>
    match (List.range 24).find? fun (r : Nat) => c.get (K.railISlot r) = k with
    | some r => (c.railMa r).getD 0xFFFF
    | none => 0xFFFF
  let info := 2 ^ 24 * trigger + 2 ^ 16 * c.get K.railState + 2 ^ 8 * c.get K.railTarget + c.get K.devState
  let body := bytesLE 4 seq ++ bytesLE 4 info ++ bytesLE 8 c.now ++ bytesLE 6 pos ++ bytesLE 2 src ++
    bytes16 ((List.range 24).map c.railMvWord) ++ bytes16 ((List.range 8).map slot) ++ bytesLE 16 (c.get K.fltDieTemp) ++
    bytesLE 2 (c.get K.railVaon) ++ bytesLE 1 kind ++ bytesLE 1 cls ++
    bytesLE 4 (c.get K.railPgIn % 2 ^ 24 + 2 ^ 24 * (free % 256)) ++
    bytesLE 4 (c.get K.railEnOut % 2 ^ 24 + 2 ^ 24 * (free / 256 % 256)) ++ bytesLE 2 (satU 16 repeats) ++
    bytesLE 6 (free / 65536)
  (body ++ bytesLE 4 (crc32 body), c)

/-- A snapshot is taken: to the log, or lost when its queue is full, and to ring 59 (R424, R426). -/
def snapshot (trigger src kind cls repeats : Nat) (c : Core) : Core :=
  let n := faultCh src
  let pos := match n with
    | some k => c.chPos k
    | none => c.stampPos
  let seq := c.rail.next
  let (bytes, c) := c.logBytes seq trigger src kind cls repeats pos
  let c := c.updRail fun (x : Rail) => { x with next := (seq + 1) % 2 ^ 32 }
  let c := if c.rail.queue.length < 64 then c.updRail fun (x : Rail) => { x with queue := x.queue ++ [(seq, bytes)] }
    else
      let c := c.bump K.railLogDropped
      if src = 0x0510 then c else c.raise 0x0510 1 (c.get K.railLogDropped)
  let pay := 2 ^ 56 * trigger + 2 ^ 48 * c.get K.railState + 2 ^ 40 * kind + seq
  match n with
  | some k => c.recordCh 59 k src 1 pay
  | none => c.recordDev 59 src 1 pay

/-- The write point moves on; past the middle of a sector the next one is erased (R426). -/
def logAdvance (c : Core) : Core :=
  let slot := (c.nor.logSlot + 1) % max 1 c.nor.logSlots
  let c := { c with nor := { c.nor with logSlot := slot } }
  if slot % 512 = 256 then c.updRail fun (x : Rail) => { x with erasing := true } else c

/-- RAIL_LOG_PROGRAM_DONE: the erase that runs ends, or else the program of the oldest queued record. -/
def railLogProgramDone (ok : Bool) (c : Core) : Core :=
  if c.rail.erasing then
    let c := c.updRail fun (x : Rail) => { x with erasing := false }
    let next := (c.nor.logSlot / 512 + 1) % max 1 c.nor.sectors
    if ok then
      { c with nor := { c.nor with log := c.nor.log.filter fun (r : LogRec) => r.slot / 512 != next } }
    else c
  else
    match c.rail.queue with
    | [] => c
    | (seq, bytes) :: rest =>
      let slot := c.nor.logSlot
      if ok then
        let c := c.updRail fun (x : Rail) => { x with queue := rest }
        let r : LogRec := { slot := slot, seq := seq, bytes := bytes }
        logAdvance { c with nor := { c.nor with log := c.nor.log ++ [r] } }
      else (logAdvance c).raise 0x0511 1 (0x03040000 + 128 * slot)

/-- A reset catches the program that runs: its record is torn, and the queue is lost (R426, R427). -/
def logCut (c : Core) : Core :=
  let r := c.rail
  match r.queue with
  | [] => c
  | (seq, bytes) :: _ =>
    if r.erasing then c
    else
      let t : LogRec := { slot := c.nor.logSlot, seq := seq, bytes := bytes, torn := true }
      logAdvance { c with nor := { c.nor with log := c.nor.log ++ [t] } }

/-- The highest valid sequence number plus 1 (R426). -/
def Nor.logNext (n : Nor) : Nat :=
  ((n.log.filter fun (r : LogRec) => !r.torn).foldl (fun (a : Nat) (r : LogRec) => max a (r.seq + 1)) 0) % 2 ^ 32

/-! ### The sequencer -/

/-- The enable of rail r set: its pin shows the level of EN_POL (R417). -/
def setEnable (r : Nat) (b : Bool) (c : Core) : Core :=
  let c := c.updRail fun (x : Rail) => { x with on := setBit x.on r b }
  let level := b != (c.get (K.railEnPol r) == 1)
  (c.setBitOf K.railEnOut r level).emit (.pin "RAIL_EN" r (b2n level))

/-- RAIL_LOST of rail r ends: it is good again or switched off (R420). -/
def lostEnds (r : Nat) (c : Core) : Core :=
  let c := c.updRail fun (x : Rail) => { x with badSince := x.badSince.set r none }
  if c.bitOf K.railFailedMap r then (c.setBitOf K.railFailedMap r false).endFault (0x0520 + r) 1 else c

/-- The enables of a group removed. -/
def cutGroup (l : List Nat) (c : Core) : Core :=
  l.foldl (fun (c : Core) (r : Nat) => (setEnable r false (lostEnds r c)).set (K.railStatus r) 3) c

/-- RAIL.STEP: 0 none, 1 up, 2 down, 3 abandoning. -/
def setStep (s : Option RailStep) (c : Core) : Core :=
  let v := match s with
    | none => 0
    | some x => if x.undo then 3 else if x.up then 1 else 2
  (c.updRail fun (x : Rail) => { x with step := s }).set K.railStep v

/-- The state becomes s, with its snapshot; QD.STATE has the same value (R419). -/
def enterRail (s : Nat) (c : Core) : Core := snapshot 1 0x0500 0 0 0 ((c.set K.railState s).set K.qdState s)

/-- The state toward which the sequencer moves now (R421). -/
def Core.railWant (c : Core) : Nat :=
  match c.rail.fault with
  | some t => t
  | none => if c.get K.qdEnable = 1 then c.rail.goal else c.get K.railTarget

/-- An upward step is undone: the groups it has enabled are removed in descending ORDER (R419, R422). -/
def railUndo (x : RailStep) (c : Core) : Core :=
  let cur := if x.phase = 2 then x.orders.take 1 else []
  let enabled := if x.phase = 3 then x.done.reverse else cur ++ x.done.reverse
  setStep (some { x with up := false, undo := true, orders := enabled, done := [], phase := 0, passed := [] }) c

/-- One move of an upward step; none when it waits. -/
def railUp (x : RailStep) (c : Core) : Option Core :=
  match x.phase, x.orders with
  | 3, _ =>
    if x.t + c.get (K.railSSettle x.s) * 1000 ≤ c.clock || c.railWant < x.s then some (setStep none (enterRail x.s c))
    else none
  | _, [] => some (setStep (some { x with phase := 3, t := c.clock }) c)
  | 0, _ => some (setStep (some { x with phase := 1, t := c.clock }) c)
  | 1, o :: _ =>
    let g := c.groupRails x.s o
    if g.all fun (r : Nat) => !c.fullDischarge r || c.railDischargedAt r 0 then
      let c := g.foldl (fun (c : Core) (r : Nat) => (setEnable r true c).set (K.railStatus r) 1) c
      some (setStep (some { x with phase := 2, t := c.clock }) c)
    else none
  | _, o :: rest =>
    let g := c.groupRails x.s o
    if g.all fun (r : Nat) => c.railGoodAt r x.t then
      let c := g.foldl (fun (c : Core) (r : Nat) => c.set (K.railStatus r) 2) c
      some (setStep (some { x with phase := 0, orders := rest, done := x.done ++ [o] }) c)
    else none

/-- One move of a downward step; none when it waits. -/
def railDown (x : RailStep) (c : Core) : Option Core :=
  match x.phase, x.orders with
  | 0, [] => if x.undo then some (setStep none c) else some (setStep none (enterRail (x.s - 1) c))
  | 0, o :: _ =>
    let c := cutGroup ((c.groupRails x.s o).filter fun (r : Nat) => c.rail.on.testBit r) c
    some (setStep (some { x with phase := 4, t := c.clock, cutAt := c.sample, passed := [] }) c)
  | _, [] => some (setStep (some { x with phase := 0 }) c)
  | _, o :: rest =>
    let g := c.groupRails x.s o
    if g.all fun (r : Nat) => x.passed.contains r || c.railDischargedAt r x.cutAt then
      let c := g.foldl (fun (c : Core) (r : Nat) => c.set (K.railStatus r) 0) c
      some (setStep (some { x with phase := 0, orders := rest }) c)
    else none

/-- One move of the sequencer; none when it waits or rests. -/
def railMove (c : Core) : Option Core :=
  match c.rail.step with
  | some x => if x.up then railUp x c else railDown x c
  | none =>
    let now := c.get K.railState
    let want := c.railWant
    if want < now then
      some (setStep (some { up := false, s := now, orders := (c.ordersOf now).reverse }) c)
    else if now < want then some (setStep (some { up := true, s := now + 1, orders := c.ordersOf (now + 1) }) c)
    else
      match c.rail.fault with
      | some _ => some (c.updRail fun (x : Rail) => { x with fault := none, goal := now })
      | none => none

/-- The sequencer moves until it waits. -/
def railMoves : Nat → Core → Core
  | 0, c => c
  | n + 1, c =>
    match railMove c with
    | some c => railMoves n c
    | none => c

/-- A RAIL proposal of the sequencer stands exactly while it needs one (R421). -/
def railPropose (c : Core) : Core :=
  let now := c.get K.railState
  let tgt := c.get K.railTarget
  let keep := c.qd.props.filter fun (p : QdProp) => p.written || p.force || p.word / 2 ^ 24 != 1
  let due := c.get K.qdEnable = 1 && c.rail.step.isNone && c.rail.fault.isNone && tgt != now
  let word := 2 ^ 24 + 2 ^ 16 * (if now < tgt then now + 1 else tgt)
  { c with qd := { c.qd with props := if due then keep ++ [{ word := word, written := false }] else keep } }

/-- The sequencer runs as far as it can in this cycle. -/
def railRun (c : Core) : Core := railPropose (railMoves 8192 c)

/-- RAIL.TARGET is written (R421, R422). -/
def railTarget (v : Nat) (c : Core) : Core := railRun (c.set K.railTarget v)

/-- A RAIL step has been taken at the rise (R393, R421): one that the sequencer did not propose is a request (R422). -/
def railStepTaken (target : Nat) (own : Bool) (c : Core) : Core :=
  let c := if own then c else c.set K.railTarget target
  railRun (c.updRail fun (x : Rail) => { x with goal := target })

/-- A fault move to a target, if that is below the state (R399, R408, R420, R422). -/
def railFaultMove (t : Nat) (c : Core) : Core :=
  if c.get K.railState ≤ t then c
  else
    let t := match c.rail.fault with
      | some u => min t u
      | none => t
    let c := c.set K.railTarget (min (c.get K.railTarget) t)
    let c := c.updRail fun (x : Rail) => { x with fault := some t }
    let c := if c.get K.qdEnable = 1 then
        let others := c.qd.props.filter fun (p : QdProp) => !p.force
        { c with qd := { c.qd with props := { word := 2 ^ 24 + 2 ^ 16 * t, written := false, force := true } :: others } }
      else c
    let c := match c.rail.step with
      | some x => if x.up then railUndo x c else c
      | none => c
    railRun c

/-- Whether the sequencer can enter the target of a RAIL step (R421). -/
def Core.railReady (c : Core) (target : Nat) : Bool :=
  if c.get K.railState < target then
    c.rail.step.isNone && c.get K.devState != 7 && c.get K.devState != 8 && c.get K.railFailedMap = 0 &&
      target = c.get K.railState + 1
  else !(decide (target < c.get K.railArmState) && c.anyEngaged)

/-- What follows from new readings of the rails: a lost rail that is good again, and breaks of rails that are on (R420). -/
def railTrack (c : Core) : Core :=
  (List.range 24).foldl (fun (c : Core) (r : Nat) =>
    let st := c.get (K.railStatus r)
    let good := c.railChecks r
    if st = 4 && good then (lostEnds r c).set (K.railStatus r) 2
    else if st = 2 then
      c.updRail fun (x : Rail) =>
        { x with badSince := x.badSince.set r (if good then none else some ((nth x.badSince r).getD c.clock)) }
    else c) c

/-- The level of RAIL_PGr that stands for asserted, or deasserted, is taken (R418). -/
def setPg (r : Nat) (asserted : Bool) (c : Core) : Core :=
  if c.pgUsed r then c.setBitOf K.railPgIn r (asserted == (c.get (K.railPgMode r) == 1)) else c

/-- RAIL_GOOD: RAIL_PGr shows its asserted level. -/
def railGood (r : Nat) (c : Core) : Core := railRun (railTrack (setPg r true c))

/-- RAIL_DISCHARGED: RAIL_PGr shows its deasserted level. -/
def railDischarged (r : Nat) (c : Core) : Core := railRun (railTrack (setPg r false c))

/-- RAIL_ON_DELAY and RAIL_SETTLE_DONE: a time of the step in progress has passed. -/
def railOnDelay (c : Core) : Core := railRun c
def railSettleDone (c : Core) : Core := railRun c

/-- RAIL_ON_TIMEOUT: a rail of the group in step is not discharged, or not good, by its ON_TIMEOUT: the step fails (R419). -/
def railOnTimeout (r : Nat) (c : Core) : Core :=
  match c.rail.step with
  | none => c
  | some x =>
    let inGroup := (c.groupRails x.s (x.orders.headD 256)).contains r
    let due := decide (x.t + c.get (K.railOnTimeout r) * 1000 ≤ c.clock)
    let notOff := x.phase = 1 && c.fullDischarge r && !c.railDischargedAt r 0
    let notGood := x.phase = 2 && !c.railGoodAt r x.t
    if x.up && inGroup && due && (notOff || notGood) then
      let c := c.raise (0x0540 + r) 1 (2 ^ 56 * (if notOff then 2 else 1) + c.railMvWord r)
      let c := (c.set K.railTarget (x.s - 1)).updRail fun (y : Rail) => { y with goal := x.s - 1 }
      railRun (railUndo x c)
    else c

/-- RAIL_OFF_TIMEOUT: a rail is not discharged by its OFF_TIMEOUT; the step continues (R419, R422). -/
def railOffTimeout (r : Nat) (c : Core) : Core :=
  match c.rail.step with
  | none => c
  | some x =>
    let inGroup := (c.groupRails x.s (x.orders.headD 256)).contains r
    if !x.up && x.phase = 4 && inGroup && !x.passed.contains r && !c.railDischargedAt r x.cutAt &&
        decide (x.t + c.get (K.railOffTimeout r) * 1000 ≤ c.clock) then
      let c := c.raise (0x0560 + r) 1 (2 ^ 16 * bitN (c.get K.railPgIn) r + c.railMvWord r)
      railRun (setStep (some { x with passed := r :: x.passed }) c)
    else c

/-- Rail r is inside its own step_up, which governs it (R420). -/
def Core.inStepUp (c : Core) (r : Nat) : Bool :=
  match c.rail.step with
  | some x => x.up && x.s = c.get (K.railOnState r)
  | none => false

/-- RAIL_LOST: a rail that is on has not been good for GLITCH (R420). A rail with a PG check shows its deasserted level. The
fault move to ON_STATE - 1 is made as the collector processes the raise (`railLostMove`). -/
def railLost (r : Nat) (c : Core) : Core :=
  if c.get (K.railStatus r) != 2 || !c.rail.on.testBit r || c.inStepUp r then c
  else
    let byVolt := match nth c.rail.badSince r with
      | some t => decide (t + c.get (K.railGlitch r) * 1000 ≤ c.clock)
      | none => false
    if c.pgUsed r || (byVolt && !c.railChecks r) then
      let c := setPg r false c
      let c := (c.set (K.railStatus r) 4).setBitOf K.railFailedMap r true
      c.raiseHeld (0x0520 + r) 1 (2 ^ 16 * bitN (c.get K.railPgIn) r + c.railMvWord r)
    else c

/-- The fault move that a raise of RAIL_LOST makes apart from the reaction of its class (R420). -/
def railLostMove (src : Nat) (c : Core) : Core :=
  if 0x0520 ≤ src && src < 0x0538 then railFaultMove (c.get (K.railOnState (src - 0x0520)) - 1) c else c

/-- AIN_SCAN_CONVERSION: a result of the background scan (R363), and what it means for the rails. -/
def ainScanConversion (input code : Nat) (c : Core) : Core :=
  let rails := (List.range 24).any fun (r : Nat) => c.get (K.railVAin r) = input || c.get (K.railIAin r) = input
  if rails || (c.loopOn && decide (input < 25) && c.bitOf K.loopAinScan input) then
    railRun (railTrack (ainValue input code c))
  else c

/-- The sector that the write point of the rail log has still to find erased: it is past the middle of the sector before, and
an erase that a reset cut short is made again (R426). -/
def Nor.eraseDue (n : Nor) : Bool :=
  decide (256 ≤ n.logSlot % 512) &&
    n.log.any fun (r : LogRec) => r.slot / 512 = (n.logSlot / 512 + 1) % max 1 n.sectors

/-- The RAIL_EN pins are driven at their off levels, and the rail log continues (R417, R426, R432 step 5). -/
def railDrive (c : Core) : Core :=
  (List.range 24).foldl (fun (c : Core) (r : Nat) => setEnable r false c)
    (c.updRail fun (x : Rail) => { x with driven := true, next := c.nor.logNext, erasing := c.nor.eraseDue })

end Sys2Proof.Machine
end

