-- ==== Sys2Proof/Machine/Settle.lean ====
section
/-! DEFINITION. Sys2Proof/Machine/Settle.lean: the fault collector: what follows a raise (R405 to R409), FAULT_ALIVE
(R410), recovery and latching (R413, R414), the capture of R415 and the collector's own faults (R416). -/

namespace Sys2Proof.Machine

/-- Channels on which a reaction that names a channel acts (R408): the fault's own, or all. -/
def faultChannels (src : Nat) : List Nat :=
  match faultCh src with
  | some n => [n]
  | none => List.range 8

/-- A record of the fault ring (R407): it carries P_n for a fault of channel n. -/
def faultRecord (src kind cls event payload : Nat) (c : Core) : Core :=
  let code := 4096 * cls + 256 * event + kind % 256
  match faultCh src with
  | some n => c.recordCh 58 n src code payload
  | none => c.recordDev 58 src code payload

/-- Step 4 of R407 with the exception of R424: a snapshot, or one more raise to be counted in the next one. -/
def faultSnapshot (src kind cls : Nat) (c : Core) : Core :=
  let id := faultId src kind
  let f := c.faultOf id
  let again := match f.snapAt with
    | some t => decide (c.clock < t + c.get K.railLogRepeat * 1000000)
    | none => false
  if again then c.updFault id fun (x : FaultEntry) => { x with repeats := x.repeats + 1 }
  else
    snapshot 2 src kind cls f.repeats (c.updFault id fun (x : FaultEntry) =>
      { x with snapAt := some c.clock, repeats := 0 })

/-! ### Reactions (R408) -/

/-- The reason that R222 gives a HOLD-class fault. -/
def holdReason (src : Nat) : Nat :=
  let low := src % 256
  if src < 0x1000 || 0x1800 ≤ src then 4
  else if low = 0x20 then 1
  else if low = 0x10 then 2
  else if low = 0x90 || low = 0x91 then 3
  else 4

/-- The pages of channel n that a line is part of are spoiled. -/
def spoilLine (n line reason : Nat) (c : Core) : Core :=
  match c.runAt n line with
  | some p => pageSpoil p.page reason n c
  | none => c

/-- The pages of channel n that a DRAM address of its Flask belongs to are spoiled. -/
def spoilFlask (n addr reason : Nat) (c : Core) : Core :=
  (nth c.runs n).foldl (fun (c : Core) (p : PageRun) =>
    let hit := (List.range p.lines).any fun (i : Nat) =>
      let a := c.flaskAddr n (p.c0 + i)
      decide (a ≤ addr) && decide (addr < a + c.lineBytes n)
    if hit then pageSpoil p.page reason n c else c) c

/-- The causes of R199 that a fault is, whatever its class, in beam mode. -/
def spoilCause (src payload : Nat) (c : Core) : Core :=
  match faultCh src with
  | none => c
  | some n =>
    let low := src % 256
    if low = 0xD0 || low = 0xD2 then spoilStation n 2 c
    else if (0xB0 ≤ low && low < 0xB4) || (0xB8 ≤ low && low < 0xBC) then spoilStation n 3 c
    else if low = 0xD6 then
      (List.range (c.beams n)).foldl (fun (c : Core) (i : Nat) =>
        spoilLine n (payload % 2 ^ 32 * c.beams n + i) 5 c) c
    else if low = 0x20 then spoilLine n (payload % 2 ^ 40) 6 c
    else if low = 0x21 then spoilFlask n (payload % 2 ^ 48) 6 c
    else c

/-- The class causes of R199 (reason 1) and R201 in beam mode. -/
def spoilClass (src cls : Nat) (c : Core) : Core :=
  if 5 ≤ cls then spoilAll 1 ((faultCh src).getD 0xFF) c
  else if 3 ≤ cls then (faultChannels src).foldl (fun (c : Core) (n : Nat) => spoilStation n 1 c) c
  else c

/-- A channel is put into FAULTED by a fault. -/
def stopChannel (id cls n : Nat) (c : Core) : Core :=
  if c.get (K.chState n) = 7 then c
  else
    chFaulted n { c with scopes := upd c.scopes (n + 1) fun (x : Scope) => { x with id := id, cls := cls } }

/-- The RCST pins and phase of a Recast that a STOP_DEVICE or SAFE reaction ends (R230). -/
def recastCut (c : Core) : Core := if c.get K.rcstPhase = 0 then c else rcstEnd false c

/-- FAULT_ALIVE takes a level. -/
def setAlive (b : Bool) (c : Core) : Core :=
  if c.boot.aliveHigh = b then c
  else { c with boot := { c.boot with aliveHigh := b } }.emit (.pin "FAULT_ALIVE" 0 (b2n b))

/-- FAULT_ALIVE is driven low, and starts its next square wave from there. -/
def aliveStop (c : Core) : Core :=
  let c := setAlive false c
  { c with boot := { c.boot with alivePhase := 0, aliveFreq := c.get K.fltAliveFreq } }

/-- One cycle of FAULT_ALIVE (R410): a half period is complete when the phase has come to 200 MHz; a new frequency applies
from the next falling edge. -/
def aliveTick (c : Core) : Core :=
  let d := c.get K.devState
  if c.boot.step < 9 || d < 2 || d = 8 then c
  else
    let p := c.boot.alivePhase + 2 * c.boot.aliveFreq
    if p < 200000000 then { c with boot := { c.boot with alivePhase := p } }
    else
      let fall := c.boot.aliveHigh
      let c := setAlive (!fall) c
      { c with boot := { c.boot with alivePhase := p - 200000000,
                                     aliveFreq := if fall then c.get K.fltAliveFreq else c.boot.aliveFreq } }

/-- The reaction of STOP_DEVICE, and with it that of SAFE. -/
def stopDevice (id cls : Nat) (c : Core) : Core :=
  let d := c.get K.devState
  let new := if cls = 6 || d = 8 then 8 else 7
  let c := if new = d then c
    else setDevState new { c with scopes := upd c.scopes 0 fun (x : Scope) => { x with id := id, cls := cls } }
  let c := recastCut c
  let c := (List.range 8).foldl (fun (c : Core) (n : Nat) => stopChannel id cls n c) c
  let c := railFaultMove (if cls = 6 then c.get K.fltSafeRail else c.get K.fltStopRail) c
  if cls = 6 && d != 8 then
    (List.range 8).foldl (fun (c : Core) (u : Nat) => cmpSafe u c) (loopStop (lanesSafe (aliveStop c)))
  else c

/-- The reaction of a class. -/
def react (src kind cls : Nat) (c : Core) : Core :=
  let c := if c.beam then spoilClass src cls c else c
  if cls = 3 then (if c.beam then c else requestRecast (holdReason src) c)
  else if cls = 4 then
    (faultChannels src).foldl (fun (c : Core) (n : Nat) => stopChannel (faultId src kind) cls n c) c
  else if 5 ≤ cls then stopDevice (faultId src kind) cls c
  else c

/-- Whether the reaction of a class, taken for a fault that is still active, is in force (R407): that of HOLD in nozzle mode is a
Recast, and is no longer in force once it resumes or has ended, or had no effect. -/
def Core.inForce (c : Core) (cls : Nat) : Bool :=
  cls != 3 || c.beam || (c.get K.rcstPhase != 0 && c.get K.rcstPhase != 5)

/-- The raise of a fault (R407). -/
def faultRaised (r : Raise) (c : Core) : Core :=
  let id := faultId r.src r.kind
  let cls := c.classOf r.src r.kind r.payload
  let was := c.activeNow (c.faultOf id)
  let held := r.held || ((c.faultOf id).cycle.isNone && was != 0)
  let c := c.updFault id fun (x : FaultEntry) =>
    { x with sticky := true, count := satU 32 (x.count + 1), time := c.now, payload := r.payload, active := cls,
             cycle := if held then none else some c.sample }
  let scopes := c.scopes.mapIdx fun (i : Nat) (x : Scope) =>
    if holdsScope r.src cls i then { x with holdAt := some c.clock } else x
  let c := { c with scopes := scopes }
  let c := faultRecord r.src r.kind cls 1 r.payload c
  let c := faultSnapshot r.src r.kind cls c
  let c := railLostMove r.src (if c.beam then spoilCause r.src r.payload c else c)
  if was = cls && c.inForce cls then c else react r.src r.kind cls c

/-- The condition of a fault ends (R406): event 2, if the fault was active. -/
def faultEnded (src kind : Nat) (c : Core) : Core :=
  let id := faultId src kind
  let f := c.faultOf id
  if f.active = 0 || f.cycle.isSome then c
  else faultRecord src kind f.active 2 f.payload (c.updFault id fun (x : FaultEntry) => { x with active := 0 })

/-- The raises on the collector's list are processed, oldest first, with those that they cause. -/
def settleN : Nat → Core → Core
  | 0, c => c
  | k + 1, c =>
    match c.raises with
    | [] => c
    | r :: rest =>
      let c := { c with raises := rest }
      settleN k (if r.ended then faultEnded r.src r.kind c else faultRaised r c)

/-- The collector does its work for the raises of this command. -/
def settle (c : Core) : Core := settleN 4096 c

/-! ### Recovery and latching -/

/-- Whether a scope is in a fault state: channel FAULTED, or the device in FAULT or SAFE. -/
def Core.scopeDown (c : Core) (place : Nat) : Bool :=
  if place = 0 then c.get K.devState = 7 || c.get K.devState = 8 else c.get (K.chState (place - 1)) = 7

/-- A record of events 3 to 5, of the fault that put the scope into its fault state. -/
def scopeRecord (place event : Nat) (c : Core) : Core :=
  let x := nth c.scopes place
  let src := x.id / 256
  let code := 4096 * x.cls + 256 * event + x.id % 256
  let pay := 2 ^ 56 * place + c.get K.fltRecoveries
  if place = 0 then c.recordDev 58 src code pay else c.recordCh 58 (place - 1) src code pay

/-- A scope leaves its fault state. -/
def scopeRelease (place : Nat) (c : Core) : Core :=
  if place = 0 then
    let safe := c.get K.devState = 8
    let c := setDevState 2 c
    if safe then (List.range 8).foldl (fun (c : Core) (u : Nat) =>
      c.emit (.pin "CMP" u (if c.get (K.cmpPolarity u) = 1 then 1 else 0))) c
    else c
  else chStopped (place - 1) c

/-- The recoveries of the hour before this cycle (R414). -/
def Core.recentRecoveries (c : Core) : List Nat :=
  c.recoveries.filter fun (t : Nat) => decide (c.clock ≤ t + 3600000000000) && decide (t < c.clock)

/-- SCOPE_RECOVER: a scope recovers, or latches (R413, R414). While the boot runs no scope recovers (R435). -/
def scopeRecover (place : Nat) (c : Core) : Core :=
  let quiet := match (nth c.scopes place).holdAt with
    | some t => decide (t + c.get K.fltQuiet * 1000000 < c.clock)
    | none => true
  if c.boot.step < 9 || c.get K.devState = 8 || !c.scopeDown place || c.bitOf K.fltLatched place || c.scopeHeld place ||
      !quiet then c
  else if c.recoverAt = some c.sample then scopeRelease place (scopeRecord place 3 c)
  else if c.get K.fltRecoveryLimit ≤ c.recentRecoveries.length then
    scopeRecord place 4 (c.setBitOf K.fltLatched place true)
  else
    let c := { c with recoveries := c.clock :: c.recentRecoveries, recoverAt := some c.sample }
    scopeRelease place (scopeRecord place 3 (c.bump K.fltRecoveries))

/-- Whether a write of 1 to FLT.CLEAR is accepted: no scope in a fault state is held by an active fault. -/
def Core.clearOk (c : Core) : Bool :=
  (List.range 9).all fun (p : Nat) => !(c.scopeDown p && c.scopeHeld p)

/-- FLT.CLEAR, accepted: every scope in a fault state is released (R414). -/
def fltClear (c : Core) : Core :=
  let c := (c.bump K.fltClears).set K.fltLatched 0
  (List.range 9).foldl (fun (c : Core) (p : Nat) =>
    if c.scopeDown p then scopeRelease p (scopeRecord p 5 c) else c) c

/-! ### The selector (R409) -/

/-- Source and kind of the fault that FLT.SEL names, if it names one. -/
def Core.selected (c : Core) : Option (Nat × Nat) :=
  let id := c.get K.fltSel % 2 ^ 24
  if faultDefault (id / 256) (id % 256) = 0 then none else some (id / 256, id % 256)

/-- A write of FLT.SEL_CLASS, accepted. -/
def selClass (v : Nat) (c : Core) : Core :=
  match c.selected with
  | some (src, kind) => c.updFault (faultId src kind) fun (x : FaultEntry) =>
    { x with cls := if v = faultDefault src kind then 0 else v }
  | none => c

/-- A write of FLT.SEL_COUNT, accepted (R59). -/
def selCount (v : Nat) (c : Core) : Core :=
  match c.selected with
  | some (src, kind) => c.updFault (faultId src kind) fun (x : FaultEntry) => { x with count := v }
  | none => c

/-- FLT.SEL_STICKY_CLEAR. -/
def selStickyClear (c : Core) : Core :=
  match c.selected with
  | some (src, kind) => c.updFault (faultId src kind) fun (x : FaultEntry) => { x with sticky := false }
  | none => c

/-- FLT.STICKY_CLEAR_ALL. -/
def stickyClearAll (c : Core) : Core :=
  { c with faults := c.faults.map fun (x : FaultEntry) => { x with sticky := false } }

/-! ### The collector's own faults (R415, R416) -/

/-- MANUAL_SAFE: a write of 1 to FLT.TRIP. -/
def manualSafe (c : Core) : Core := c.raise 0x0407 1 0

/-- The capture of R415, unless it holds one. -/
def fecCapture (kind addr master typ : Nat) (c : Core) : Core :=
  if c.get K.fltFecValid != 0 then c
  else
    let c := ((c.set K.fltFecValid 1).set K.fltFecKind kind).set K.fltFecAddr addr
    ((c.set K.fltFecMaster master).set K.fltFecType typ).set K.fltFecTime c.now

/-- BUS_ERROR: kinds 1 to 3 on the configuration bus. -/
def busError (kind addr master typ : Nat) (c : Core) : Core :=
  if 1 ≤ kind && kind ≤ 3 then
    (fecCapture kind addr master (typ % 2) c).raise 0x0400 1 (2 ^ 56 * kind + 2 ^ 48 * (master % 256) + addr % 2 ^ 32)
  else c

/-- SUP_SRAM_UE: an uncorrectable word of the supervisor's own SRAM, found at a read of the supervisor. -/
def supSramUe (addr : Nat) (c : Core) : Core := (fecCapture 4 addr 0x38 0 c).raise 0x0401 1 (addr % 2 ^ 32)

/-- SUP_WATCHDOG: no refresh for 10 ms. -/
def supWatchdog (c : Core) : Core := c.raise 0x0402 1 0

/-- The reading of a die sensor, and the hottest of the eight with the lowest sensor that has it. -/
def Core.dieTemp (c : Core) (i : Nat) : Int := signed 16 (elemAt 16 (c.get K.fltDieTemp) i)
def Core.dieHottest (c : Core) : Nat × Int :=
  (List.range 8).foldl (fun (a : Nat × Int) (i : Nat) => if a.2 < c.dieTemp i then (i, c.dieTemp i) else a)
    (0, c.dieTemp 0)

/-- A new reading of a die sensor; input 24 of the Loop Engine follows the hottest. -/
def dieRead (sensor t : Nat) (c : Core) : Core :=
  let c := c.set K.fltDieTemp (setElem 16 (c.get K.fltDieTemp) sensor t)
  ainValue 24 (unsigned 16 c.dieHottest.2) c

/-- Payload of DIE_HOT and DIE_CRIT. -/
def Core.diePayload (c : Core) : Nat := 2 ^ 56 * c.dieHottest.1 + unsigned 16 c.dieHottest.2

/-- The hottest sensor stands at FLT.DIE_CRIT or above. -/
def Core.dieAtCrit (c : Core) : Bool := decide (c.geti K.fltDieCrit ≤ c.dieHottest.2)

/-- DIE_HOT (R416) for the reading just stored: the hottest sensor is at FLT.DIE_WARN or above, and the fault is not active
already. -/
def dieHotEdge (c : Core) : Core :=
  if c.geti K.fltDieWarn ≤ c.dieHottest.2 && !c.faultActive 0x0403 1 then c.raiseHeld 0x0403 1 c.diePayload else c

/-- DIE_CRIT (R416) for the reading just stored in `d`: the hottest sensor reaches FLT.DIE_CRIT; `was` says that it stood
there before the reading. -/
def dieCritEdge (was : Bool) (d c : Core) : Core := if d.dieAtCrit && !was then c.raise 0x0404 1 d.diePayload else c

/-- DIE_HOT: a reading with which the hottest sensor reaches FLT.DIE_WARN; a reading that reaches FLT.DIE_CRIT as well
raises both. -/
def dieHot (sensor t : Nat) (c : Core) : Core :=
  dieCritEdge c.dieAtCrit (dieRead sensor t c) (dieHotEdge (dieRead sensor t c))

/-- DIE_CRIT: a reading with which the hottest sensor reaches FLT.DIE_CRIT. -/
def dieCrit (sensor t : Nat) (c : Core) : Core :=
  dieCritEdge c.dieAtCrit (dieRead sensor t c) (dieHotEdge (dieRead sensor t c))

/-- VAON_LOW: a reading of VAON; below FLT.VAON_MIN the fault is raised. -/
def vaonLow (mv : Nat) (c : Core) : Core :=
  let was := c.faultActive 0x0405 1
  let c := c.set K.railVaon mv
  if c.get K.railVaon < c.get K.fltVaonMin && !was then c.raiseHeld 0x0405 1 (c.get K.railVaon) else c

/-- FAULT_CONDITION_END: the condition of an active fault ends. The conditions that the readings of the collector show are
those of DIE_HOT and VAON_LOW; every other condition ends with the state that its chapter names. -/
def faultConditionEnd (id : Nat) (c : Core) : Core :=
  if id = faultId 0x0403 1 && decide (c.dieHottest.2 ≤ c.geti K.fltDieWarn - 20) then c.endFault 0x0403 1
  else if id = faultId 0x0405 1 && decide (c.get K.fltVaonMin + 30 ≤ c.get K.railVaon) then c.endFault 0x0405 1
  else c

end Sys2Proof.Machine
end

