-- ==== Sys2Proof/Machine/Commit.lean ====
section
/-! DEFINITION. Sys2Proof/Machine/Commit.lean: the audit ring (R328 to R330), the sequence locks (R321 to R324), the staging
copy and the commits (R316 to R320). -/

namespace Sys2Proof.Machine

/-! ### The audit ring -/

/-- The audit ring is available: DRAM has been trained and filled, or keeps its contents (R328, R435). -/
def Core.auditOn (c : Core) : Bool := c.hub.granted || c.hub.kept

/-- Reserved payload bits of an audit entry's event record, by its code (R329). -/
def auditReserved (code : Nat) : Nat :=
  if code = 1 then 2 ^ 8 - 1 else if code = 2 then 2 ^ 40 - 2 ^ 24 else 2 ^ 48 - 2 ^ 32

/-- An audit entry (R329): the event record, then length, CRC and first bytes of the value written. -/
def auditEntry (code payload : Nat) (value : List Byte) (c : Core) : Core :=
  if !c.auditOn then c
  else
    let (v, c) := c.freeVal 76
    let r : EvRec :=
      { time := c.now, pos := c.stampPos, src := 0x0270, seq := c.auditNext,
        code := c.codeFlags (c.get K.devStampClock) + code + 2 ^ 16 * (v % 2 ^ 12),
        payload := payload % 2 ^ 64 ||| (auditReserved code &&& (v / 2 ^ 12)) }
    let tail := bytesLE 4 value.length ++ bytesLE 4 (if value.isEmpty && code != 1 then 0 else crc32 value) ++ padTo 24 value
    { c with audit := ((r.bytes ++ tail) :: c.audit).take 65536, auditNext := (c.auditNext + 1) % 2 ^ 32 }

/-- The sequence number of the oldest entry held. -/
def Core.auditOldest (c : Core) : Nat := (c.auditNext + 2 ^ 32 - c.audit.length) % 2 ^ 32

/-- The entry of a sequence number as AUDIT.WINDOW shows it: zeros where there is none (R330). -/
def Core.auditAt (c : Core) (seq : Nat) : List Byte :=
  let back := (c.auditNext + 2 ^ 32 - 1 - seq % 2 ^ 32) % 2 ^ 32
  c.audit.getD back (List.replicate 64 0#8)

/-! ### Scopes -/

/-- The channel of an index in the channel ranges. -/
def indexCh (index : Nat) : Option Nat := if 0x1000 ≤ index && index < 0x1800 then some ((index - 0x1000) / 256) else none

/-- The commit scope of an object (R317): 0 the device, n + 1 channel n. -/
def scopeOf (index : Nat) : Nat :=
  match indexCh index with
  | some n => n + 1
  | none => 0

/-- The lock whose scope covers an index (R321). -/
def lockOf (index : Nat) : Option Nat :=
  if 0x0100 ≤ index && index < 0x1000 then some 0
  else if 0x2000 ≤ index && index < 0x3000 then some 9
  else (indexCh index).map fun (n : Nat) => n + 1

/-- The owner of the lock that covers an index, if it is held. -/
def Core.lockOwner (c : Core) (index : Nat) : Option Writer :=
  match lockOf index with
  | some k => (nth c.locks k).owner
  | none => none

/-! ### Locks -/

/-- OWNER as the dictionary shows it: transport and CLIENT. -/
def ownerWord (w : Writer) : Nat := 2 ^ 16 * (w.transport % 256) + w.client % 2 ^ 16

/-- A lock changed. -/
def Core.updLock (c : Core) (k : Nat) (f : Lock → Lock) : Core := { c with locks := upd c.locks k f }

/-- The lease of lock k set anew. -/
def lockLease (k : Nat) (c : Core) : Core :=
  c.updLock k fun (x : Lock) => { x with ends := c.clock + c.get (K.devLockLease k) * 1000000 }

/-- ACQUIRE, when the lock is free or the writer's own (R322). -/
def lockAcquire (k : Nat) (w : Writer) (c : Core) : Core :=
  lockLease k ((c.updLock k fun (x : Lock) => { x with owner := some w }).set (K.devLockOwner k) (ownerWord w))

/-- The lock becomes free. -/
def lockFree (k : Nat) (c : Core) : Core :=
  (c.updLock k fun (x : Lock) => { x with owner := none }).set (K.devLockOwner k) 0

/-- RELEASE by the owner: its withheld values become ordinary staged values (R322). -/
def lockRelease (k : Nat) (c : Core) : Core :=
  let staged := c.staged.map fun (x : StagedVal) => if lockOf (x.key / 256) = some k then { x with withheld := false } else x
  lockFree k { c with staged := staged }

/-- A lock is orphaned (R324): freed, its withheld values discarded, LOCK_ORPHANED raised and an audit entry written. -/
def lockOrphan (k : Nat) (c : Core) : Core :=
  match (nth c.locks k).owner with
  | none => c
  | some w =>
    let gone := c.staged.filter fun (x : StagedVal) => lockOf (x.key / 256) = some k && x.withheld
    let keep := c.staged.filter fun (x : StagedVal) => !(lockOf (x.key / 256) = some k && x.withheld)
    let c := lockFree k { c with staged := keep }
    let c := c.bump (K.devLockOrphans k)
    let pay := 2 ^ 40 * (gone.length % 2 ^ 16) + ownerWord w
    let c := c.raise (0x0220 + k) 1 pay
    auditEntry 2 (2 ^ 56 * k + pay) [] c

/-- LOCK_LEASE_EXPIRY: the lease has run out (R324); lease clocks stop while a long operation runs. -/
def lockExpire (k : Nat) (c : Core) : Core :=
  if c.fw.op = 0 && (nth c.locks k).ends ≤ c.clock then lockOrphan k c else c

/-- A request is executed for a client: every lease it holds is refreshed (R322). -/
def lockRefresh (w : Writer) (c : Core) : Core :=
  (List.range 10).foldl (fun (c : Core) (k : Nat) => if (nth c.locks k).owner = some w then lockLease k c else c) c

/-- SEQ 0 of a client: its locks are orphaned (R324). -/
def lockRestart (w : Writer) (c : Core) : Core :=
  (List.range 10).foldl (fun (c : Core) (k : Nat) => if (nth c.locks k).owner = some w then lockOrphan k c else c) c

/-- The end of a long operation: every lease goes on with the time that was left (R324). -/
def leasesResume (c : Core) : Core :=
  { c with locks := c.locks.map fun (x : Lock) => { x with ends := x.ends + (c.clock - c.fw.opAt) } }

/-! ### Staging -/

/-- A value is staged (R316); one that the owner of a lock stages in its scope is withheld (R323). -/
def stageValue (o : Obj) (v : Nat) (w : Writer) (c : Core) : Core :=
  let held := c.lockOwner (o.key / 256) = some w
  { c with staged := stagePut { key := o.key, value := v, by_ := some w, withheld := held, at_ := c.sample } c.staged }

/-- Values staged in a scope, for DEV.STAGED and CHn.STAGED. -/
def Core.stagedCount (c : Core) (scope : Nat) : Nat :=
  (c.staged.filter fun (x : StagedVal) => scopeOf (x.key / 256) = scope).length

/-- The object with which a value of a staged object fails a condition that ties the two (R102, R125, R126), with the values
of the others that get gives. -/
def tieOf (get : Obj → Nat) (index sub v : Nat) : Option Obj :=
  match indexCh index with
  | none => none
  | some n =>
    let o := index % 256
    let against := fun (x : Obj) (bad : Bool) => if bad then some x else none
    if o = 0x80 && sub = 2 then against (K.chElemWin n) (v != 0 && decide (get (K.chElemWin n) ≤ v))
    else if o = 0x80 && sub = 5 then against (K.chHeadSoft n) (v != 0 && decide (v ≤ get (K.chHeadSoft n)))
    else if o = 0x80 && sub = 6 then
      against (K.chHeadLimit n) (get (K.chHeadLimit n) != 0 && decide (get (K.chHeadLimit n) ≤ v))
    else if o = 0x50 && sub = 3 then against (K.chScrW n) (decide (get (K.chScrW n) ≤ v))
    else if o = 0x50 && sub = 4 then against (K.chScrH n) (decide (get (K.chScrH n) ≤ v))
    else none

/-- Whether it fails such a condition. -/
def tieFails (get : Obj → Nat) (index sub v : Nat) : Bool := (tieOf get index sub v).isSome

/-! ### Commits -/

/-- The values of a scope that a trigger applies: those withheld only when the owner of their lock wrote the commit (R323). -/
def Core.committable (c : Core) (scope : Nat) (writers : List Writer) : List StagedVal :=
  c.staged.filter fun (x : StagedVal) =>
    scopeOf (x.key / 256) = scope &&
      (!x.withheld || (match c.lockOwner (x.key / 256) with
        | some w => writers.contains w
        | none => true))

/-- The value an object would have with some values applied. -/
def Core.getWith (c : Core) (l : List StagedVal) (o : Obj) : Nat :=
  match l.find? fun (x : StagedVal) => x.key = o.key with
  | some x => x.value
  | none => c.get o

/-- The first value of a commit that fails its check (R319). -/
def Core.commitBad (c : Core) (l : List StagedVal) : Option StagedVal :=
  l.find? fun (x : StagedVal) => tieFails (c.getWith l) (x.key / 256) (x.key % 256) x.value

/-- A committed value takes effect; a compare unit's waits for the end of its pulse (R55). -/
def commitValue (c : Core) (x : StagedVal) : Core :=
  let index := x.key / 256
  match descOf index (x.key % 256) with
  | none => c
  | some d =>
    if 0x0B40 ≤ index && index < 0x0B48 && (nth c.cmps (index - 0x0B40)).pulseEnd.isSome then
      { c with cmps := upd c.cmps (index - 0x0B40) fun (y : Cmp) => { y with deferred := y.deferred ++ [(x.key, x.value)] } }
    else c.set d.obj x.value

/-- Whether an object is one that the run page carries (R192): Volta offsets, sense and APC objects. -/
def pageObject (index sub : Nat) : Bool :=
  index % 256 = 0xE0 && ((1 ≤ sub && sub ≤ 2) || (9 ≤ sub && sub ≤ 14))

/-- COMMIT_FAIL (R319). -/
def commitFail (scope : Nat) (x : StagedVal) (c : Core) : Core :=
  (c.bump K.devCommitFails).raise 0x0230 1 (2 ^ 56 * scope + 2 ^ 32 * (x.key / 256) + 2 ^ 24 * (x.key % 256))

/-- The page switch that a commit of channel n causes (R192). -/
def commitPage (n : Nat) (l : List StagedVal) (before c : Core) : Core :=
  let changed := l.filter fun (x : StagedVal) => pageObject (x.key / 256) (x.key % 256) &&
    (match descOf (x.key / 256) (x.key % 256) with
      | some d => before.get d.obj != x.value
      | none => false)
  if changed.isEmpty && !(c.get (K.chSltStatus n)).testBit 7 then c
  else
    pageSwitch n (changed.map fun (x : StagedVal) =>
      match descOf (x.key / 256) (x.key % 256) with
      | some d => (x.key, d.obj.dflt, before.get d.obj, x.value)
      | none => (x.key, 0, 0, x.value)) c

/-- Staged values of a scope are committed together (R318 to R320): scope 0 is the device, n + 1 channel n; line is the line of
R320. -/
def commitApply (scope trigger : Nat) (l : List StagedVal) (line : Nat) (c : Core) : Core :=
  match c.commitBad l with
  | some x => commitFail scope x c
  | none =>
    let before := c
    let keys := l.map fun (x : StagedVal) => x.key
    let c := { c with staged := c.staged.filter fun (x : StagedVal) => !keys.contains x.key }
    let c := l.foldl commitValue c
    if scope = 0 then (if l.isEmpty then c else c.bump K.devCommits)
    else
      let n := scope - 1
      let c := c.set (K.chMaxLineRate n) (c.maxLineRate n)
      let c := commitPage n l before (nozExchange n c)
      if l.isEmpty then c
      else
        let c := (c.bump (K.chCommits n)).set (K.chLastCommitLine n) line
        c.recordCh (6 * n + 2) n (0x1008 + 0x100 * n) 7
          (2 ^ 56 * trigger + 2 ^ 48 * min 255 l.length + line % 2 ^ 40)

/-- A commit of all that is staged in a scope when it acts (R318). -/
def commitScope (scope trigger : Nat) (writers : List Writer) (line : Nat) (c : Core) : Core :=
  commitApply scope trigger (c.committable scope writers) line c

/-- Whether a channel takes line boundaries or is HELD, so that a commit of its scope waits (R318). -/
def Core.commitWaits (c : Core) (n : Nat) : Bool := c.staleJudged n

/-- Step 1 of a line boundary of channel n: the commits that were accepted before the boundary's cycle apply together, with what
was staged before it; the others wait for the next boundary (R80, R318). -/
def commitDue (n line : Nat) (c : Core) : Core :=
  let now := (nth c.commits n).filter fun (r : CommitReq) => decide (r.at_ < c.sample)
  match now with
  | [] => c
  | r :: _ =>
    let l := (c.committable (n + 1) (now.flatMap fun (x : CommitReq) => x.writers)).filter fun (x : StagedVal) =>
      decide (x.at_ < c.sample)
    commitApply (n + 1) r.trigger l line
      { c with commits := upd c.commits n fun (q : List CommitReq) => q.filter fun (x : CommitReq) => decide (c.sample ≤ x.at_) }

/-- A channel that takes no line boundaries applies a commit that waits, for the line that contains P_n. -/
def commitIdle (n : Nat) (c : Core) : Core :=
  match nth c.commits n with
  | [] => c
  | r :: q =>
    if c.commitWaits n then c
    else
      commitScope (n + 1) r.trigger ((r :: q).flatMap fun (x : CommitReq) => x.writers) (c.chPos n / 256)
        { c with commits := upd c.commits n fun (_ : List CommitReq) => [] }

/-- A commit of channel scope n is asked for; it joins one that waits (R318). -/
def commitAsk (n trigger : Nat) (writers : List Writer) (c : Core) : Core :=
  commitIdle n { c with commits := upd c.commits n fun (q : List CommitReq) =>
    q ++ [{ trigger := trigger, writers := writers, at_ := c.sample }] }

/-- DEV.COMMIT by 1: the device scope at once, and every channel scope (R318). -/
def devCommitNow (w : Writer) (c : Core) : Core :=
  (List.range 8).foldl (fun (c : Core) (n : Nat) => commitAsk n 3 [w] c) (commitScope 0 3 [w] 0 c)

/-- The commit step of the Quadrille (R318, R393): the marked scopes; one prompted by another client leaves withheld values
staged (R323). -/
def commitMarked (w : List Writer) (marked : Nat) (c : Core) : Core :=
  let c := if marked.testBit 0 then commitScope 0 4 w 0 c else c
  (List.range 8).foldl (fun (c : Core) (n : Nat) => if marked.testBit (n + 1) then commitAsk n 4 w c else c) c

end Sys2Proof.Machine
end

