-- ==== Sys2Proof/Machine/Cues.lean ====
section
/-! DEFINITION. Sys2Proof/Machine/Cues.lean: the Cue Table and its lists (R72 to R82). -/

namespace Sys2Proof.Machine

/-! ### Entries -/

/-- Whether the reserved fields of an entry are 0 (R72). -/
def cueReservedOk (e : Nat) : Bool := field e 63 48 = 0 && field e 87 82 = 0 && field e 95 88 = 0

/-- Whether an entry's operand is valid for its action; no action code above 0x0C is (R73). -/
def cueOperandOk (e : Nat) : Bool :=
  let t := cueTarget e
  let a := cueArg e
  match cueAction e with
  | 0x00 => t = 0 && a = 0
  | 0x01 => decide (a ≤ 2)
  | 0x02 => a = 0
  | 0x03 => t = 0 && a = 0
  | 0x04 => t = 0 && decide (a < 64)
  | 0x05 => t = 0 && decide (a < 64)
  | 0x06 => t = 0 && decide (a < 8)
  | 0x07 => decide (t ≤ 2)
  | 0x08 => decide (t < 8)
  | 0x09 => decide (t < 16) && decide (a ≤ 1)
  | 0x0A => t = 0
  | 0x0B => a = 0
  | 0x0C => decide (t < 8) && a = 0
  | _ => false

/-! ### Lists -/

/-- The entries of list k's range, as index and word. -/
def cueRange (c : Core) (k : Nat) : List (Nat × Nat) :=
  let lo := c.get (K.cueListFirst k)
  (List.range (c.get (K.cueListLast k) + 1 - lo)).map fun (j : Nat) => (lo + j, cueEntryOf c (lo + j))

/-- Positions are non-decreasing. -/
def nonDecreasing : List Nat → Bool
  | a :: b :: r => decide (a ≤ b) && nonDecreasing (b :: r)
  | _ => true

/-- Whether a write of 1 to ARM is rejected with RANGE (R75). -/
def cueArmFails (c : Core) (k : Nat) : Bool :=
  let l := cueRange c k
  l.isEmpty || !nonDecreasing (l.map fun (p : Nat × Nat) => cuePos p.2) ||
    l.any fun (p : Nat × Nat) => !cueReservedOk p.2 || !cueOperandOk p.2

/-- Whether list k follows a compare unit's captures, and whether it follows a channel. -/
def cueOnCapture (c : Core) (k : Nat) : Bool := decide (0x20 ≤ c.get (K.cueListClock k))
def cueOnChannel (c : Core) (k : Nat) : Bool := decide (0x10 ≤ c.get (K.cueListClock k)) && !cueOnCapture c k

/-- List k enters DONE (R75, R76). -/
def cueDone (k : Nat) (c : Core) : Core := c.set (K.cueListState k) 2

/-- The smallest number of times that REPEAT is added to the base until an entry whose position has been passed by a distance
below 2^47 is one not yet reached (R75). A REPEAT above 2^47 takes the base back around the span of positions. -/
def passesTo (rep past : Nat) : Nat :=
  if rep ≤ 2 ^ 47 then past / rep + 1 else ceilDiv (2 ^ 47 - past) (posMod - rep)

/-- Passes that an arm at position p skips: none while some entry of the range is not yet reached, or without REPEAT (R75). -/
def cueSkip (l : List (Nat × Nat)) (rep p : Nat) : Nat :=
  if rep = 0 || l.any fun (e : Nat × Nat) => !reached p (cuePos e.2) then 0
  else (l.map fun (e : Nat × Nat) => passesTo rep ((p + (posMod - cuePos e.2)) % posMod)).foldl min (2 ^ 48)

/-- An accepted arm (R75): the cursor goes to the first entry not yet reached. -/
def cueArm (k : Nat) (c : Core) : Core :=
  let first := c.get (K.cueListFirst k)
  let last := c.get (K.cueListLast k)
  let c := (c.set (K.cueListState k) 1).set (K.cueListExecuted k) 0
  let c := { c with lists := upd c.lists k fun (_ : CueList) => { cursor := first, entry := cueEntryOf c first } }
  if cueOnCapture c k then c
  else
    let p := (cueClock c k).1
    let l := cueRange c k
    let rep := c.get (K.cueListRepeat k)
    let skip := cueSkip l rep p
    let base := skip * rep % posMod
    match l.find? fun (e : Nat × Nat) => !reached p ((cuePos e.2 + base) % posMod) with
    | some (i, e) => { c with lists := upd c.lists k fun (x : CueList) =>
        { x with cursor := i, entry := e, base := base, repeated := decide (0 < skip) } }
    | none => cueDone k { c with lists := upd c.lists k fun (x : CueList) => { x with cursor := last, entry := cueEntryOf c last } }

/-- A write of 0 to ARM. -/
def cueDisarm (k : Nat) (c : Core) : Core :=
  { c.set (K.cueListState k) 0 with
    lists := upd c.lists k fun (x : CueList) => { x with captures := [], walking := false } }

/-- The cursor of list k moves past its entry (R76). -/
def cueAdvance (k : Nat) (c : Core) : Core :=
  let l := nth c.lists k
  let rep := c.get (K.cueListRepeat k)
  let first := c.get (K.cueListFirst k)
  if l.cursor < c.get (K.cueListLast k) then cueArrive k (l.cursor + 1) l.base l.repeated true c
  else if cueOnCapture c k then
    match l.captures with
    | p :: r => walkStart k p { c with lists := upd c.lists k fun (x : CueList) => { x with captures := r } }
    | [] => { c with lists := upd c.lists k fun (x : CueList) =>
        { x with cursor := first, entry := cueEntryOf c first, walking := false } }
  else if rep = 0 then cueDone k c
  else cueArrive k first ((l.base + rep) % posMod) true false c

/-- The entry under the cursor of list k with its index, when the list walks and its clock at position p has reached it: as the
list read it, so that a later write acts on the next pass (R81). -/
def cueReachedAt (c : Core) (k p : Nat) : Option (Nat × Nat) :=
  let l := nth c.lists k
  if c.get (K.cueListState k) = 1 && (!cueOnCapture c k || l.walking) &&
      reached p ((cuePos l.entry + l.base) % posMod) then some (l.cursor, l.entry)
  else none

/-- Entries that a list passes over: those not enabled, and the targets of compare units (R72, R74). -/
def cuePassed (e : Nat) : Bool := !cueEnabled e || cueAction e = 0x0C

/-- The cursor passes over reached entries that do nothing. -/
def cuePass (k p : Nat) : Nat → Core → Core
  | 0, c => c
  | n + 1, c =>
    match cueReachedAt c k p with
    | some (_, e) => if cuePassed e then cuePass k p n (cueAdvance k c) else c
    | none => c

/-- Whether lists on synthesiser and capture clocks stand still (R229). -/
def cuesFrozen (c : Core) : Bool := c.get K.rcstPhase != 0

/-- In a cycle of 200 MHz, or before an entry executes: the cursor of a list that follows no channel passes over. -/
def cueWalk (k : Nat) (c : Core) : Core :=
  if cueOnChannel c k || cuesFrozen c then c else cuePass k (cueClock c k).1 4097 c

/-! ### Actions -/

/-- Payload of the records of R82. -/
def cuePayload (i e : Nat) : Nat := 2 ^ 48 * i + 2 ^ 40 * cueAction e + 2 ^ 32 * cueTarget e + cueArg e

/-- A record to the cue-feedback ring of a channel (R82). -/
def cueRecord (k ch code i e : Nat) (c : Core) : Core := c.recordCh (6 * ch + 5) ch (0x0B60 + k) code (cuePayload i e)

/-- An entry executed late, or moved to the next boundary (R76, R79). -/
def cueLate (k i : Nat) (c : Core) : Core := (c.bump (K.cueListLate k)).raise (0x0B60 + k) 1 i

/-- LIST_ARM by entry i of list k (R73, R75). -/
def cueListAct (k i t a : Nat) (c : Core) : Core :=
  if a = 0 then cueDisarm t c
  else if t = k then c
  else if cueArmFails c t then c.raise (0x0B60 + t) 2 (2 ^ 16 * k + i)
  else cueArm t c

/-- GPIO by a cue (R73). -/
def cueGpio (t a : Nat) (c : Core) : Core :=
  let old := c.get K.loopGpioOut
  gpioOut (if t = 0 then old &&& (a ^^^ (2 ^ 32 - 1)) else if t = 1 then old ||| a else old ^^^ a) c

/-- A request for Recast by a cue with its ARG (R73, R222). In beam mode it is a HOLD in the cycle of the cue, of no source that
the manual numbers: the pages that run are spoiled, and none starts (R201, R406; log 86). -/
def cueRecast (arg : Nat) (c : Core) : Core :=
  let c := requestRecast 5 (c.updRcst fun (x : Rcst) => { x with cueArg := arg })
  if c.beam then spoilAll 1 0xFF (c.updRcst fun (x : Rcst) => { x with cueHold := some c.sample }) else c

/-- What TONE_SWAP or COMMIT does at the boundary of line L of channel n (R80). -/
def cueChannelAct (n line action arg : Nat) (c : Core) : Core :=
  if action = 1 then toneSwapDue n arg line c
  else if action = 2 then commitScope (n + 1) 2 [] line c
  else pageBegin n arg line c

/-- TONE_SWAP or COMMIT on the channels of a mask: at once on the channel whose boundary executes it, at the next boundary on
any other (R78); a COMMIT on a channel that takes no line boundaries applies at once (R318). -/
def cueChannels (k i e : Nat) (here : Option (Nat × Nat)) (c : Core) : Core :=
  (bitsOf 8 (cueTarget e)).foldl (fun (c : Core) (m : Nat) =>
    match here with
    | some (n, line) =>
      if m = n then cueChannelAct n line (cueAction e) (cueArg e) c
      else if cueAction e = 2 && !c.commitWaits m then commitScope (m + 1) 2 [] (c.chPos m / 256) c
      else { c with lines := upd c.lines m fun (x : ChLine) =>
        { x with due := x.due ++ [{ entry := i, list := k, action := cueAction e, arg := cueArg e }] } }
    | none =>
      if cueAction e = 2 && !c.commitWaits m then commitScope (m + 1) 2 [] (c.chPos m / 256) c
      else { c with lines := upd c.lines m fun (x : ChLine) =>
        { x with due := x.due ++ [{ entry := i, list := k, action := cueAction e, arg := cueArg e }] } }) c

/-- The action of entry e, index i, of list k (R73); here names the channel and line of the boundary that executes it, for
a list that follows a channel, and base is the base of the walk. -/
def cueAct (k i e base : Nat) (here : Option (Nat × Nat)) (c : Core) : Core :=
  let t := cueTarget e
  let a := cueArg e
  match cueAction e with
  | 0x01 => cueChannels k i e here c
  | 0x02 => cueChannels k i e here c
  | 0x03 => commitScope 0 2 [] 0 c
  | 0x04 => loopCue a c
  | 0x05 => bankSwap a c
  | 0x06 => adcCue a c
  | 0x07 => cueGpio t a c
  | 0x08 => cueRecord k t 2 i e c
  | 0x09 => cueListAct k i t a c
  | 0x0A => cueRecast a c
  | 0x0B => pageStart t i k (if cueOnCapture c k then some (c.get (K.cueListClock k) - 0x20, base) else none) c
  | _ => c

/-- Entry e, index i, of list k executes (R74, R76, R82). -/
def cueExecute (k i e : Nat) (here : Option (Nat × Nat)) (c : Core) : Core :=
  let l := nth c.lists k
  let c := c.bump (K.cueListExecuted k)
  let c := if l.late then cueLate k i c else c
  let ch := c.get (K.cueListRingCh k)
  let c := cueAct k i e l.base here (cueAdvance k c)
  if cueFeedback e then cueRecord k ch 1 i e c else c

/-- A cue command: the entry under the cursor of list k, on a synthesiser or capture clock, executes when its position has been
reached and its action is the one given (R78). Entries of a list on a channel clock execute in LINE_BOUNDARY. -/
def cueRun (action k : Nat) (c : Core) : Core :=
  if cueOnChannel c k || cuesFrozen c then c
  else
    let d := cueWalk k c
    match cueReachedAt d k (cueClock d k).1 with
    | some (i, e) => if cueAction e = action then cueWalk k (cueExecute k i e none d) else c
    | none => c

/-! ### Cues at a line boundary (R78, R79) -/

/-- The lists that follow channel n and are armed. -/
def channelLists (c : Core) (n : Nat) : List Nat :=
  (List.range 16).filter fun (k : Nat) => c.get (K.cueListClock k) = 0x10 + n && c.get (K.cueListState k) = 1

/-- Every list of channel n passes over what does nothing up to the boundary of a line. -/
def channelPass (n line : Nat) (c : Core) : Core :=
  (channelLists c n).foldl (fun (c : Core) (k : Nat) => cuePass k (256 * line % posMod) 4097 c) c

/-- The lowest entry index that is due on channel n: from a list, or an action that waits. -/
def cueLowest (c : Core) (n line : Nat) : Option (Nat × Nat ⊕ DueCue) :=
  let fromLists := (channelLists c n).filterMap fun (k : Nat) =>
    (cueReachedAt c k (256 * line % posMod)).map fun (p : Nat × Nat) => (k, p.1)
  let best := fromLists.foldl (fun (b : Option (Nat × Nat)) (p : Nat × Nat) =>
    match b with
    | none => some p
    | some q => if p.2 < q.2 then some p else some q) none
  let due := (nth c.lines n).due.foldl (fun (b : Option DueCue) (p : DueCue) =>
    match b with
    | none => some p
    | some q => if p.entry < q.entry then some p else some q) none
  match best, due with
  | none, none => none
  | some p, none => some (.inl p)
  | none, some d => some (.inr d)
  | some p, some d => if p.2 < d.entry then some (.inl p) else some (.inr d)

/-- An action that waited takes effect at the boundary of a line of channel n. -/
def dueAct (n line : Nat) (d : DueCue) (c : Core) : Core :=
  cueChannelAct n line d.action d.arg
    { c with lines := upd c.lines n fun (x : ChLine) => { x with due := x.due.erase d } }

/-- A COMMIT that waits for a boundary of a channel which has stopped taking any applies (R318). -/
def cueIdle (n : Nat) (c : Core) : Core :=
  if c.commitWaits n then c
  else ((nth c.lines n).due.filter fun (d : DueCue) => d.action = 2).foldl
    (fun (c : Core) (d : DueCue) => dueAct n (c.chPos n / 256) d c) c

/-- The entries due at a boundary of channel n, in ascending entry index, at most as many as given (R78, R79). -/
def cuesDue (n line : Nat) : Nat → Core → Core
  | 0, c => c
  | j + 1, c =>
    let c := channelPass n line c
    match cueLowest c n line with
    | none => c
    | some (.inr d) => cuesDue n line j (dueAct n line d c)
    | some (.inl (k, i)) =>
      let c := cueExecute k i (nth c.lists k).entry (some (n, line)) c
      let own := (nth c.lines n).due.filter fun (d : DueCue) => d.list = k && d.entry = i && d.action = 0x0B
      cuesDue n line j (own.foldl (fun (c : Core) (d : DueCue) => dueAct n line d c) c)

/-- The entries of list k still due at a boundary, from its cursor to the end of the pass. -/
def cueLeft (c : Core) (k p : Nat) : List Nat :=
  match cueReachedAt c k p with
  | none => []
  | some (i, e) =>
    let base := (nth c.lists k).base
    ((i, e) :: (cueRange c k).filter fun (q : Nat × Nat) => decide (i < q.1)).filterMap fun (q : Nat × Nat) =>
      if !cuePassed q.2 && reached p ((cuePos q.2 + base) % posMod) then some q.1 else none

/-- Step 3 of R15 at the boundary of a line of channel n: up to 64 entries; each further one is late (R79). -/
def cueStep (n line : Nat) (c : Core) : Core :=
  let c := channelPass n line (cuesDue n line 64 c)
  let c := (nth c.lines n).due.foldl (fun (c : Core) (d : DueCue) => cueLate d.list d.entry c) c
  (channelLists c n).foldl (fun (c : Core) (k : Nat) =>
    (cueLeft c k (256 * line % posMod)).foldl (fun (c : Core) (i : Nat) => cueLate k i c) c) c

end Sys2Proof.Machine
end

