-- ==== Sys2Proof/Machine/LineBoundary.lean ====
section
/-! DEFINITION. Sys2Proof/Machine/LineBoundary.lean: the line boundary (R15, R69 to R71, R92, R184) and the resume of a held
channel (R228, R230). -/

namespace Sys2Proof.Machine

/-- The row gather fetches for a channel line (R91, R92): a contone line that it needs and that is not complete is late. -/
def fetchLine (n line : Nat) (c : Core) : Core :=
  if (c.contoneNeeds n line).any fun (cl : Nat) => decide (c.get (K.chFlaskWrite n) ≤ cl) then
    if c.beam then c.raise (0x1020 + 0x100 * n) 1 (line % 2 ^ 40)
    else
      (c.updJob n fun (x : ChJob) => { x with lateLine := some (x.lateLine.getD line) }).raiseHeld
        (0x1020 + 0x100 * n) 1 (line % 2 ^ 40)
  else c

/-- Whether the line at the boundary comes too soon to be fired (R71, R184). -/
def tooSoonToFire (c : Core) (n : Nat) : Bool :=
  if c.beam then (nth c.scans n).consume
  else match (nth c.lines n).lastFired with
    | some s => decide (c.sample < s + ceilDiv 200000000 (max 1 (c.get (K.chMaxLineRate n))))
    | none => false

/-- The line is consumed: everything advances as for an empty line, and OVERSPEED says so once (R71). -/
def consumeLine (n line : Nat) (c : Core) : Core :=
  let c := c.bump (K.chSkippedLines n)
  let c := if c.beam then spoilLine n line 4 c else c
  let c := (dutyLine n line false [] c).2
  if (nth c.lines n).overspeed then c
  else
    let c := { c with lines := upd c.lines n fun (x : ChLine) => { x with overspeed := true } }
    c.raiseHeld (0x1010 + 0x100 * n) 1 (c.get (K.chSkippedLines n))

/-- The line is fired: its levels, limited in duty, go to the frames of the lanes, and its fire events wait (R110 to R119). -/
def fireLine (m : List Host.Cell) (n line : Nat) (c : Core) : Core :=
  let (levels, bad) := c.lineLevels m n line
  let c := if bad then (if c.beam then spoilLine n line 6 else id) (c.bump (K.chTableEccErrors n)) else c
  let (out, c) := dutyLine n line true levels c
  let c := c.updImg n fun (x : ChImg) => { x with bufs := ({ line := line, levels := out } :: x.bufs).take 64 }
  let c := if c.beam then c else fireQueue n line c
  let fast := c.beam && (nth c.lines n).overspeed
  let c := if fast then c.endFault (0x1010 + 0x100 * n) 1 else c
  let c := { c with lines := upd c.lines n fun (x : ChLine) =>
    { x with lastFired := some c.sample, overspeed := x.overspeed && !fast } }
  c.bump (K.chLinesFired n)

/-- Step 4 of R15 at the boundary of a line. -/
def lineStep (m : List Host.Cell) (n line : Nat) (c : Core) : Core :=
  let (go, c) := drainStep n line (jobsActivate n line (jobsDone n line c))
  let s := c.get (K.chState n)
  if !go || (s != 3 && s != 5) then c
  else
    let c := gatherRows m n line (fetchLine n (line + c.get (K.chFetchLead n)) c)
    let c := if tooSoonToFire c n then consumeLine n line c else fireLine m n line c
    let low := c.released n
    c.updImg n fun (x : ChImg) => { x with flaskBad := x.flaskBad.filter fun (p : Nat × Nat) => decide (low ≤ p.1) }

/-- An ABORT that waits for a line boundary takes effect (R207). -/
def abortStep (n : Nat) (c : Core) : Core := if (nth c.jobs n).abortReq then chStopped n (abortAll n c) else c

/-- The boundary of a line is taken: the steps of R15 in order. -/
def takeBoundary (m : List Host.Cell) (n line : Nat) (c : Core) : Core :=
  let c := c.set (K.chLineHigh n) line
  let c := { c with lines := upd c.lines n fun (x : ChLine) => { x with boundAt := some c.sample } }
  let c := trimStep n (commitDue n line c)
  let c := cueStep n line (toneStep n line c)
  lineStep m n line (abortStep n c)

/-- LINE_BOUNDARY: P_n has crossed forward into a line above CHn.LINE_HIGH (R69); the lowest such line is taken, one in a
cycle. A channel that is to be held takes none (R223). -/
def lineBoundary (m : List Host.Cell) (n : Nat) (c : Core) : Core :=
  let s := c.get (K.chState n)
  let line := c.get (K.chLineHigh n) + 1
  if (s = 2 || s = 3 || s = 5) && !(nth c.jobs n).holdReq && (nth c.lines n).boundAt != some c.sample &&
      reached (c.chPos n) (256 * line % posMod) then
    takeBoundary m n line c
  else c

/-- CHANNEL_RESUME: after GO the web crosses B_n of a held channel forward (R228). A channel that is ready goes on in the state
from which it was held and takes line S_n; one that is not makes a request with reason 8 (R230). -/
def channelResume (m : List Host.Cell) (n : Nat) (c : Core) : Core :=
  let line := c.get (K.chHeldLine n)
  if c.get K.rcstPhase = 5 && c.get (K.chState n) = 4 && (nth c.lines n).boundAt != some c.sample &&
      reached (c.chPos n) (256 * line % posMod) then
    if c.heldReady n then
      let c := c.updRcst fun (x : Rcst) => { x with resumed := true }
      let c := setChState n (nth c.jobs n).heldFrom c
      let c := c.recordCh (6 * n + 2) n (0x1008 + 0x100 * n) 6 (2 ^ 56 * (c.rcst.passes % 256) + line % 2 ^ 40)
      let late := (nth c.jobs n).lateLine
      let c := c.updJob n fun (x : ChJob) => { x with lateLine := none }
      let c := match late with
        | some l => fetchLine n l c
        | none => c
      takeBoundary m n line c
    else requestRecast 8 c
  else c

end Sys2Proof.Machine
end

