-- ==== Sys2Proof/Machine/Time.lean ====
section
/-! DEFINITION. Sys2Proof/Machine/Time.lean: device time and its steps (R372 to R375), PTP (R378 to R382) and the
reference aligner (R383 to R390). -/

namespace Sys2Proof.Machine

/-! ### Device time -/

/-- A change of the PTP port's state, or of the aligner's. -/
def Core.updPtp (c : Core) (f : Ptp → Ptp) : Core := { c with ptp := f c.ptp }
def Core.updAlign (c : Core) (f : Align → Align) : Core := { c with align := f c.align }

/-- TIME_VALID and SNAPPED. -/
def Core.timeValid (c : Core) : Bool := c.bitOf K.timeStatus 0
def Core.snapped (c : Core) : Bool := c.bitOf K.timeStatus 2

/-- Device time advances by one 200 MHz cycle (R372). -/
def advance (c : Core) : Core :=
  { c with time := ((c.time : Int) + c.cycleTime).toNat, sample := c.sample + 1 }

/-- The rate correction and its SLEWING flag (R374). -/
def setRate (r : Int) (c : Core) : Core := (c.seti K.timeRate r).setBitOf K.timeStatus 3 (r != 0)

/-- Steps are permitted (R374). -/
def Core.maySteps (c : Core) : Bool := c.get K.devState = 2 || c.get K.devState = 3

/-- Device time steps by d, in 2^-32 ns (R374, R375). The record of the step is stamped after it (R403). -/
def timeStep (d : Int) (c : Core) : Core :=
  let c := { c with time := ((c.time : Int) + d).toNat }
  let ns := roundFree d (2 ^ 32)
  let c := ((c.bump K.timeSteps).seti K.timeLastStep ns).raise 0x0300 1 (unsigned 64 ns)
  let c := c.updPtp fun (x : Ptp) => { x with dms := none, req := none, waiting := none }
  if 0 < d then loopStepTime c else c

/-- TIME_VALID is set; TIME_INVALID ends (R380, R406). -/
def timeNowValid (c : Core) : Core :=
  if c.timeValid then c
  else ((c.setBitOf K.timeStatus 0 true).updPtp fun (x : Ptp) => { x with validAt := c.clock }).endFault 0x0301 1

/-- TIME_VALID clears and TIME_INVALID is raised with the last offset (R380). -/
def timeNowInvalid (c : Core) : Core :=
  if !c.timeValid then c else (c.setBitOf K.timeStatus 0 false).raiseHeld 0x0301 1 (unsigned 32 (c.geti K.timeOffset))

/-- The device takes its time as snapped, or no longer (R390). -/
def setSnapped (b : Bool) (c : Core) : Core := c.setBitOf K.timeStatus 2 b

/-- TIME_SET: an accepted write steps device time to the value written (R373, R374, R380). -/
def timeSet (v : Nat) (c : Core) : Core :=
  let c := setSnapped false (timeStep ((v : Int) * 2 ^ 32 - (c.time : Int)) c)
  let c := c.updPtp fun (x : Ptp) => { x with setDone := true }
  let mode := c.get K.timeMode
  if mode = 0 || mode = 3 || c.get K.timePtpState = 6 then timeNowValid c else c

/-! ### The PTP port -/

/-- The MAC address of Ethernet port p, fused into the device (R461). -/
def macOf (p : Nat) : Nat := Config.identity (if p = 0 then K.devMac0.key else K.devMac1.key) % 2 ^ 48

/-- This device's clock identity: the EUI-64 of the MAC address of TIME.PTP_PORT (R461). -/
def Core.ownClock (c : Core) : Nat :=
  let m := macOf (c.get K.timePtpPort)
  m / 2 ^ 24 * 2 ^ 40 + 0xFFFE * 2 ^ 24 + m % 2 ^ 24

/-- The port changes state, and PTP_STATE is recorded (R381). -/
def ptpState (s : Nat) (c : Core) : Core :=
  let old := c.get K.timePtpState
  if old = s then c else (c.set K.timePtpState s).raise 0x0310 1 (256 * old + s)

/-- The port is master: device time is its own, and valid once TIME.SET has been written (R380). -/
def ptpMaster (c : Core) : Core :=
  let c := (ptpState 6 (setRate 0 c)).set K.timePtpGmId c.ownClock
  let c := c.updPtp fun (x : Ptp) => { x with parent := none, dms := none, delays := [], req := none, waiting := none }
  if c.ptp.setDone then timeNowValid c else c

/-- The port listens. -/
def ptpListen (c : Core) : Core :=
  ((ptpState 4 c).updPtp fun (x : Ptp) => { x with parent := none, announceAt := c.clock }).set K.timePtpGmId 0

/-- The port starts under TIME.MODE (R373, R380, R432), at the end of the boot and when the mode or the port is written. -/
def ptpStart (c : Core) : Core :=
  if !c.ptp.run then c
  else
    let c := c.updPtp fun (x : Ptp) =>
      { x with foreign := [], parent := none, waiting := none, dms := none, delays := [], req := none, good := 0 }
    match c.get K.timeMode with
    | 0 =>
      let c := if c.get K.timePtpState = 1 then setRate 0 c else ptpState 3 (setRate 0 c)
      if c.ptp.setDone then timeNowValid c else c
    | 3 => ptpMaster c
    | _ => ptpListen c

/-- An interval of 2^log seconds, in ns. -/
def logNs (log : Int) : Nat := if 0 ≤ log then 1000000000 * 2 ^ log.toNat else 1000000000 / 2 ^ (-log).toNat

/-- PTP runs on this port. -/
def Core.ptpOn (c : Core) (p : Nat) : Bool := c.ptp.run && c.get K.timeMode != 0 && c.get K.timePtpPort = p

/-- A message is for this clock's domain, on its port. -/
def Core.ptpHears (c : Core) (p : Nat) (m : PtpMsg) : Bool := c.ptpOn p && m.domain = c.get K.timePtpDomain

/-- The message comes from the master followed, and the port follows it. -/
def Core.fromParent (c : Core) (m : PtpMsg) : Bool :=
  decide (c.ptp.parent = some (m.srcId, m.srcPort)) && (c.get K.timePtpState = 8 || c.get K.timePtpState = 9)

/-- A receive stamp with TIME.PTP_RX_LAT, in 2^-16 ns (R379). -/
def Core.rxStamp (c : Core) (t : Nat) : Int := (t / 2 ^ 16 + c.get K.timePtpRxLat * 2 ^ 16 : Nat)

/-- A transmit stamp now, with TIME.PTP_TX_LAT, in 2^-16 ns (R379). -/
def Core.txStamp (c : Core) : Int := (c.time / 2 ^ 16 + c.get K.timePtpTxLat * 2 ^ 16 : Nat)

/-- A PTP message is sent: to group 224.0.1.129, UDP port 319 for event messages and 320 for the others, with this clock's
dataset values (R378). Times are in 2^-16 ns. -/
def ptpSend (p typ seq : Nat) (time corr : Int) (reqId reqPort : Nat) (c : Core) : Core :=
  let log := if typ = 0xB then c.geti K.timePtpLogAnnounce else if typ = 9 then c.geti K.timePtpLogDelayreq
    else c.geti K.timePtpLogSync
  c.emit (.ptp p 0xE0000181 (if typ < 8 then 319 else 320) typ
    { domain := c.get K.timePtpDomain, srcId := c.ownClock, srcPort := 1, seq := seq, twoStep := decide (typ = 0), rxTime := 0,
      origin := time / 2 ^ 16, correction := corr, reqId := reqId, reqPort := reqPort, logInterval := log,
      gmId := c.ownClock, priority1 := c.get K.timePtpPriority1, clockClass := c.get K.timePtpClass, accuracy := 0xFE,
      variance := 0xFFFF, priority2 := c.get K.timePtpPriority2, stepsRemoved := 0,
      utcOffset := c.geti K.timePtpUtcOffset } 0xA0)

/-- The mean of the last eight path delays. -/
def Core.pathDelay (c : Core) : Int :=
  let l := c.ptp.delays
  if l.isEmpty then 0 else roundFree (l.foldl (fun (a : Int) (d : Int) => a + d) 0) l.length

/-- The servo acts on an offset, in 2^-16 ns: a step where it is large and steps are permitted, else the rate is set; a
snapped device only measures (R374, R380, R390). -/
def servoAct (off : Int) (c : Core) : Core :=
  if c.snapped then
    if (c.get K.timeSnapTol : Int) * 2 ^ 16 < off.natAbs then
      c.raiseHeld 0x0302 1 (unsigned 32 (c.geti K.timeOffset))
    else c.endFault 0x0302 1
  else if decide ((c.get K.timeStepThresh : Int) * 2 ^ 16 < off.natAbs) && c.maySteps then timeStep (-off * 2 ^ 16) c
  else
    let r := Config.servo off (c.get K.timePtpTc) (c.geti K.timeRate)
    let lim : Int := if c.maySteps then 2 ^ 31 - 1 else c.get K.timeSlewMax
    setRate (clampI (-lim) lim r) c

/-- An offset has been formed (R380). -/
def offsetFormed (off : Int) (c : Core) : Core :=
  let c := c.satI K.timeOffset (roundFree off (2 ^ 16))
  let c := if c.get K.timePtpState = 8 then ptpState 9 c else c
  let ok := decide ((off.natAbs : Int) ≤ (c.get K.timeValidTol : Int) * 2 ^ 16)
  let c := c.updPtp fun (x : Ptp) => { x with good := if ok then x.good + 1 else 0 }
  let c := if !ok then timeNowInvalid c else if 16 ≤ c.ptp.good then timeNowValid c else c
  servoAct off c

/-- The origin time of the last Sync is known: t1 and t2 give the offset once a path delay is known. -/
def syncFormed (t2 t1 : Int) (c : Core) : Core :=
  let c := c.updPtp fun (x : Ptp) => { x with dms := some (t2 - t1), syncAt := c.clock, waiting := none }
  if c.ptp.delays.isEmpty then c else offsetFormed (t2 - t1 - c.pathDelay) c

/-- PTP_SYNC_RX. -/
def ptpSyncRx (p : Nat) (m : PtpMsg) (c : Core) : Core :=
  if !c.ptpHears p m then c
  else
    let c := c.bump K.timePtpSyncs
    if !c.fromParent m then c
    else
      let t2 := c.rxStamp m.rxTime
      if m.twoStep then
        c.updPtp fun (x : Ptp) => { x with waiting := some (m.seq, t2, m.correction), syncAt := c.clock }
      else syncFormed t2 (m.origin * 2 ^ 16 + m.correction) c

/-- PTP_FOLLOW_UP_RX. -/
def ptpFollowUpRx (p : Nat) (m : PtpMsg) (c : Core) : Core :=
  if !(c.ptpHears p m && c.fromParent m) then c
  else
    match c.ptp.waiting with
    | some (seq, t2, corr) => if seq = m.seq then syncFormed t2 (m.origin * 2 ^ 16 + m.correction + corr) c else c
    | none => c

/-- PTP_DELAY_RESP_RX: the answer to this device's own request gives one path delay. -/
def ptpDelayRespRx (p : Nat) (m : PtpMsg) (c : Core) : Core :=
  if !(c.ptpHears p m && c.fromParent m && m.reqId = c.ownClock) then c
  else
    match c.ptp.req, c.ptp.dms with
    | some (seq, t3), some dms =>
      if seq = m.seq then
        let dsm := m.origin * 2 ^ 16 - m.correction - t3
        let c := c.updPtp fun (x : Ptp) => { x with req := none, delays := (roundFree (dms + dsm) 2 :: x.delays).take 8 }
        c.satN K.timePathDelay (roundFree c.pathDelay (2 ^ 16)).toNat
      else c
    | _, _ => c

/-- PTP_DELAY_REQ_RX: a master answers with the receive stamp. -/
def ptpDelayReqRx (p : Nat) (m : PtpMsg) (c : Core) : Core :=
  if c.ptpHears p m && c.get K.timePtpState = 6 then
    let t := c.rxStamp m.rxTime
    ptpSend p 9 m.seq t (m.correction - t % 2 ^ 16) m.srcId m.srcPort c
  else c

/-! ### The best master clock algorithm -/

/-- Whether dataset a, of sender x, is better than b, of sender y: by priority1, class, accuracy, variance, priority2 and
grandmaster, then for one grandmaster by steps removed and sender. -/
def dataBetter (a b : List Nat) (x y : Nat) : Bool :=
  match a, b with
  | u :: a, v :: b => if u = v then dataBetter a b x y else decide (u < v)
  | _, _ => decide (x < y)

/-- This device's dataset as a master (R378). -/
def Core.ownData (c : Core) : List Nat :=
  [c.get K.timePtpPriority1, c.get K.timePtpClass, 0xFE, 0xFFFF, c.get K.timePtpPriority2, c.ownClock, 0]

/-- The masters that qualify: two Announce messages within four intervals. -/
def Core.qualified (c : Core) : List Foreign :=
  c.ptp.foreign.filter fun (f : Foreign) =>
    f.times.length = 2 && decide (c.clock ≤ f.times.getLastD 0 + 4 * logNs (c.geti K.timePtpLogAnnounce))

/-- The best of them. -/
def bestMaster (l : List Foreign) : Option Foreign :=
  l.foldl (fun (b : Option Foreign) (f : Foreign) =>
    match b with
    | none => some f
    | some g => if dataBetter f.data g.data f.srcId g.srcId then some f else some g) none

/-- The port follows a master. -/
def ptpFollow (f : Foreign) (c : Core) : Core :=
  let who := some (f.srcId, f.srcPort)
  let c := c.set K.timePtpGmId (f.data.getD 5 0)
  if c.ptp.parent = who && (c.get K.timePtpState = 8 || c.get K.timePtpState = 9) then
    c.updPtp fun (x : Ptp) => { x with announceAt := c.clock }
  else
    ptpState 8 (c.updPtp fun (x : Ptp) =>
      { x with parent := who, announceAt := c.clock, dms := none, delays := [], req := none, waiting := none, good := 0 })

/-- PTP_ANNOUNCE_RX. -/
def ptpAnnounceRx (p : Nat) (m : PtpMsg) (c : Core) : Core :=
  let mode := c.get K.timeMode
  if !c.ptpHears p m || !(mode = 1 || mode = 2) || m.srcId = c.ownClock || decide (255 ≤ m.stepsRemoved) then c
  else
    let data := [m.priority1, m.clockClass, m.accuracy, m.variance, m.priority2, m.gmId, m.stepsRemoved]
    let same := fun (f : Foreign) => f.srcId = m.srcId && f.srcPort = m.srcPort
    let times := match c.ptp.foreign.find? same with
      | some f => (c.clock :: f.times).take 2
      | none => [c.clock]
    let f : Foreign := { srcId := m.srcId, srcPort := m.srcPort, data := data, times := times }
    let c := c.updPtp fun (x : Ptp) => { x with foreign := f :: x.foreign.filter fun (y : Foreign) => !same y }
    match bestMaster c.qualified with
    | none => c
    | some b =>
      let own := c.ownData
      let better := mode = 2 && dataBetter own b.data c.ownClock b.srcId
      if better then (if c.get K.timePtpState = 6 then c else ptpMaster c)
      else if mode = 2 && decide (c.get K.timePtpClass ≤ 127) then
        (ptpState 7 c).updPtp fun (x : Ptp) => { x with parent := none, announceAt := c.clock }
      else ptpFollow b c

/-- PTP_ANNOUNCE_TIMEOUT: no Announce for announceReceiptTimeout intervals (R382). -/
def ptpAnnounceTimeout (p : Nat) (c : Core) : Core :=
  let s := c.get K.timePtpState
  let wait := c.get K.timePtpAnnounceTimeout * logNs (c.geti K.timePtpLogAnnounce)
  if !c.ptpOn p || !(s = 4 || s = 7 || s = 8 || s = 9) || decide (c.clock < c.ptp.announceAt + wait) then c
  else
    let c := c.updPtp fun (x : Ptp) => { x with foreign := [] }
    if c.get K.timeMode = 2 then ptpMaster c else ptpListen c

/-- PTP_SYNC_TX: as master, a Sync and its Follow_Up (two-step). -/
def ptpSyncTx (p : Nat) (c : Core) : Core :=
  if !(c.ptpOn p && c.get K.timePtpState = 6) || decide (c.clock < c.ptp.syncTx + logNs (c.geti K.timePtpLogSync)) then c
  else
    let seq := c.ptp.syncSeq
    let c := c.updPtp fun (x : Ptp) => { x with syncSeq := (seq + 1) % 2 ^ 16, syncTx := c.clock }
    ptpSend p 8 seq c.txStamp (c.txStamp % 2 ^ 16) 0 0 (ptpSend p 0 seq 0 0 0 0 c)

/-- PTP_DELAY_REQ_TX: as slave, a Delay_Req. -/
def ptpDelayReqTx (p : Nat) (c : Core) : Core :=
  if !(c.ptpOn p && (c.get K.timePtpState = 8 || c.get K.timePtpState = 9)) ||
      decide (c.clock < c.ptp.reqAt + logNs (c.geti K.timePtpLogDelayreq)) then c
  else
    let seq := c.ptp.reqSeq
    let c := c.updPtp fun (x : Ptp) =>
      { x with reqSeq := (seq + 1) % 2 ^ 16, reqAt := c.clock, req := some (seq, c.txStamp) }
    ptpSend p 1 seq 0 0 0 0 c

/-- PTP_ANNOUNCE_TX: as master, an Announce. -/
def ptpAnnounceTx (p : Nat) (c : Core) : Core :=
  if !(c.ptpOn p && c.get K.timePtpState = 6) ||
      decide (c.clock < c.ptp.announceTx + logNs (c.geti K.timePtpLogAnnounce)) then c
  else
    let seq := c.ptp.announceSeq
    let c := c.updPtp fun (x : Ptp) => { x with announceSeq := (seq + 1) % 2 ^ 16, announceTx := c.clock }
    ptpSend p 0xB seq 0 0 0 0 c

/-- TIME_VALID_HOLD: no Sync has arrived for VALID_HOLD while the port is not MASTER (R380). -/
def timeValidHold (c : Core) : Core :=
  if c.timeValid && c.get K.timePtpState != 6 &&
      decide (max c.ptp.syncAt c.ptp.validAt + c.get K.timeValidHold * 1000000000 ≤ c.clock) then timeNowInvalid c
  else c

/-! ### The aligner -/

/-- Base cycles in one comparison period: 200 MHz / f_c (R384). -/
def Core.alignRatio (c : Core) : Nat :=
  let base := if c.get K.alignRefFreq = 1 then 2 else 20
  match c.get K.alignRefScale with
  | 1 => base / 2
  | 2 => base * 2
  | _ => base

/-- D0 in 0.01 ps, and SPAN in 0.01 ps, of band j (R385). -/
def bandD0 (table j : Nat) : Nat := 10 * field (elemAt 32 table j) 31 16
def bandSpan (table j : Nat) : Nat := field (elemAt 32 table j) 15 0

/-- The first band at which a table fails R385, if any. -/
def tableBad (table : Nat) : Option Nat :=
  match (List.range 64).find? (fun (j : Nat) => decide (j ≠ 0) &&
      decide ((bandD0 table (j - 1) + bandSpan table (j - 1) : Int) - 1000 < (bandD0 table j : Int))) with
  | some j => some j
  | none => if bandD0 table 63 + bandSpan table 63 < bandD0 table 0 + 500000 then some 63 else none

/-- The delay of a band and fine code, times 1,023, in 0.01 ps. -/
def bandDelay (table j fine : Nat) : Nat := 1023 * bandD0 table j + bandSpan table j * fine

/-- The fine code of band j whose delay is nearest a delay (times 1,023). -/
def fineNear (table j : Nat) (delay : Int) : Nat :=
  (clampI 0 1023 (roundNear (delay - (1023 * bandD0 table j : Nat)) (max 1 (bandSpan table j)))).toNat

/-- The aligner's state, with REF_LOCKED of TIME.STATUS (R383, R404). -/
def alignState (s : Nat) (c : Core) : Core := (c.set K.alignState s).setBitOf K.timeStatus 1 (s = 4)

/-- Present coast in ms. -/
def Core.coastMs (c : Core) : Nat :=
  if c.get K.alignState = 5 then (c.clock - c.align.coastAt) / 1000000 else c.get K.alignCoastTime

/-- ALIGN_COAST_LIMIT: coast beyond COAST_LIMIT while a channel is ARMED, RUNNING, HELD or DRAINING (R389). -/
def alignCoastLimit (c : Core) : Core :=
  if c.get K.alignState = 5 && c.anyEngaged && decide (c.align.coastAt + c.get K.alignCoastLimit * 1000000 < c.clock) then
    c.raiseHeld 0x0D01 1 (satU 32 c.coastMs)
  else c

/-- TIME_SNAP_LOST: a coast longer than COAST_KEEP (R390). -/
def timeSnapLost (c : Core) : Core :=
  if c.snapped && c.get K.alignState = 5 && decide (c.align.coastAt + c.get K.alignCoastKeep * 1000000 < c.clock) then
    (setSnapped false c).raiseHeld 0x0303 1 (satU 32 c.coastMs)
  else c

/-- Coast ends: what its length means for the snap is settled, the length is kept, and its fault ends (R389, R390). -/
def coastEnd (c : Core) : Core :=
  if c.get K.alignState = 5 then
    let c := timeSnapLost c
    (c.satN K.alignCoastTime ((c.clock - c.align.coastAt) / 1000000)).endFault 0x0D01 1
  else c

/-- The band nearest band 31 that can give a delay, in ps modulo the base period of 5 ns, and its fine code (R388). -/
def bandFor (table : Nat) (phase : Int) : Option (Nat × Nat) :=
  let order := 31 :: (List.range 32).flatMap fun (i : Nat) => [30 - i, 32 + i].filter fun (j : Nat) => decide (j < 64)
  order.findSome? fun (j : Nat) =>
    let lo : Int := bandD0 table j
    let want := lo + (phase * 100 - lo) % 500000
    if want ≤ lo + (bandSpan table j : Nat) then some (j, fineNear table j (want * 1023)) else none

/-- ALIGN_ACQUIRE: with a valid reference, the lock takes its next step (R387): 1 ACQUIRE; 2 SEARCH with TABLE_MODE 0; 3
ALIGN, with the band and fine code for the target phase. `phase` is how far, in ps, an edge of the base clock without delay
comes before the scaled reference edge; the delay leaves it ALIGN.REF_DELAY before it (R388). -/
def alignAcquire (phase : Int) (c : Core) : Core :=
  if c.get K.alignRefFreq = 0 then c
  else
    let s := c.get K.alignState
    let finish := fun (c : Core) =>
      match bandFor (c.get K.alignBandTable) (phase - (c.get K.alignRefDelay : Nat)) with
      | none => c
      | some (j, fine) =>
        let c := c.updAlign fun (x : Align) => { x with origin := c.sample, corrAt := c.clock, okSince := none }
        alignState 3 ((c.set K.alignBand j).set K.alignFine fine)
    if s = 0 || s = 5 then
      let (v, c) := c.freeVal 17
      alignState 1 ((coastEnd c).seti K.alignRefMeas (clampI (-100000) 100000 ((v : Int) - 65536)))
    else if s = 1 then
      if c.get K.alignTableMode = 0 then
        let (v, c) := c.freeVal 2048
        alignState 2 (c.set K.alignBandTable v)
      else finish c
    else if s = 2 then
      match tableBad (c.get K.alignBandTable) with
      | some j => (alignState 0 c).raise 0x0D03 1 j
      | none => finish c
    else c

/-- The aligner loses its reference (R389). -/
def alignCoast (reason : Nat) (c : Core) : Core :=
  let c := (c.bump K.alignCoasts).updAlign fun (x : Align) => { x with coastAt := c.clock, okSince := none }
  (alignState 5 (c.set K.alignCoastTime 0)).raiseHeld 0x0D00 1 (reason % 256)

/-- ALIGN_REF_LOST: the reference is no longer valid. -/
def alignRefLost (reason : Nat) (c : Core) : Core :=
  let s := c.get K.alignState
  if s = 0 || s = 5 then c else alignCoast reason c

/-- ALIGN_CORRECTION: every 1,024 comparisons the fine code moves by at most one; past the end of a band the aligner
moves to the adjacent band (R384, R385). A positive phase error takes delay away. -/
def alignCorrection (phase : Int) (c : Core) : Core :=
  let s := c.get K.alignState
  if !(s = 3 || s = 4) || decide (c.clock < c.align.corrAt + 5 * 1024 * c.alignRatio) then c
  else
    let c := c.satI K.alignPhaseErr phase
    let since := if phase.natAbs ≤ 20 then some (c.align.okSince.getD c.clock) else none
    let c := c.updAlign fun (x : Align) => { x with corrAt := c.clock, okSince := since }
    let table := c.get K.alignBandTable
    let j := c.get K.alignBand
    let f : Int := (c.get K.alignFine : Int) - phase.sign
    if 0 ≤ f && decide (f ≤ 1023) then c.set K.alignFine f.toNat
    else
      let j' : Int := if f < 0 then (j : Int) - 1 else j + 1
      if j' < 0 || decide (63 < j') then alignCoast 3 c
      else (c.set K.alignBand j'.toNat).set K.alignFine (fineNear table j'.toNat (bandDelay table j (c.get K.alignFine)))

/-- ALIGN_LOCKED: the phase error has stayed within 20 ps for LOCK_TIME (R387). -/
def alignLocked (c : Core) : Core :=
  match c.align.okSince with
  | some t =>
    if c.get K.alignState = 3 && decide (t + c.get K.alignLockTime * 1000 ≤ c.clock) then
      ((alignState 4 (c.bump K.alignLocks)).endFault 0x0D00 1).raise 0x0D02 1
        (2 ^ 16 * c.get K.alignBand + c.get K.alignFine)
    else c
  | none => c

/-- The reference objects are written: the aligner starts again from OFF, and a snap does not outlast it. -/
def alignRestart (c : Core) : Core := setSnapped false (((alignState 0 (coastEnd c))).endFault 0x0D00 1)

/-- TIME_SNAP: at a comparison edge, device time is put on the grid once the conditions of R390 hold. -/
def timeSnap (c : Core) : Core :=
  let tol : Int := c.get K.timeSnapTol
  let near := decide ((c.geti K.timeOffset).natAbs ≤ tol.natAbs) || c.get K.timePtpState = 6
  if c.get K.timeSnapMode = 1 && !c.snapped && c.get K.alignState = 4 && c.timeValid && near && c.maySteps &&
      (c.sample - c.align.origin) % max 1 c.alignRatio = 0 then
    let t : Int := (c.time : Int) - roundFree (c.get K.alignRefDelay * 2 ^ 32 : Nat) 1000
    let g : Nat := c.get K.timeSnapGrid * 2 ^ 32
    let c := timeStep ((g : Int) * roundNear t g - t) c
    setSnapped true (setRate 0 ((c.endFault 0x0303 1).endFault 0x0302 1))
  else c

end Sys2Proof.Machine
end

