-- ==== Sys2Proof/Machine/Checks.lean ====
section
/-! DEFINITION. Sys2Proof/Machine/Checks.lean: the conditions on object accesses that involve other objects or the state of a
block: power domains (R311), ACCESS, STATE and RANGE of R315, each as the chapter that owns the object states it. -/

namespace Sys2Proof.Machine

/-! ### Power domains -/

/-- The bit of DEV.PD_STATUS for the domain that holds the objects of an index (R26, R311). -/
def objDomain (index : Nat) : Nat :=
  if 0x0B10 ≤ index && index < 0x0B70 then 4
  else if 0x0310 ≤ index && index < 0x0400 then 4
  else if 0x0710 ≤ index && index < 0x0722 then 4
  else if 0x0D00 ≤ index && index < 0x0F00 then 4
  else if 0x2000 ≤ index && index < 0x3000 then 4
  else if 0x0800 ≤ index && index < 0x0821 then 2
  else if index = 0x0740 || index = 0x0900 then 3
  else if index = 0x0A00 then 5
  else if index = 0x0C10 then 1
  else if 0x0C00 ≤ index && index < 0x0D00 then 6
  else if 0x1000 ≤ index && index < 0x1800 then
    let n := (index - 0x1000) / 256
    if 0xB0 ≤ index % 256 && index % 256 < 0xB4 then 15 + n / 4 else 7 + n
  else 1

/-- The memory hub, the host interface and the lanes, whose objects PD_SUP holds (R311). -/
def supHeld (index : Nat) : Bool :=
  let d := objDomain index
  d = 2 || d = 3 || d = 15 || d = 16

/-- The domain of an object is off. -/
def Core.domainOff (c : Core) (index : Nat) : Bool := !(c.get K.devPdStatus).testBit (objDomain index)

/-- Domains that a domain needs (R26). -/
def domainNeeds (d : Nat) : List Nat :=
  if d = 0 then [] else if d = 1 then [0] else if d = 2 || d = 4 || d = 15 || d = 16 then [1]
  else if d = 3 || d = 5 then [2] else if d = 6 then [4] else [2, 4]

/-- Whether any channel of a range is not IDLE. -/
def Core.busyIn (c : Core) (lo hi : Nat) : Bool :=
  (List.range 8).any fun (n : Nat) => decide (lo ≤ n) && decide (n < hi) && c.get (K.chState n) != 0

/-- A write of DEV.PD_ENABLE that R28 answers with STATE. -/
def pdState (c : Core) (v : Nat) : Bool :=
  let old := c.get K.devPdEnable
  let offNow := fun (d : Nat) => old.testBit d && !v.testBit d
  let s := c.get K.devState
  ((List.range 17).any fun (d : Nat) => v.testBit d && (domainNeeds d).any fun (p : Nat) => !v.testBit p) ||
    ((List.range 8).any fun (n : Nat) => offNow (7 + n) && c.get (K.chState n) != 0) ||
    (offNow 15 && c.busyIn 0 4) || (offNow 16 && c.busyIn 4 8) || (offNow 5 && c.codecOpen) ||
    (offNow 6 && c.beam && s != 2) ||
    ((old.testBit 2 != v.testBit 2 || old.testBit 4 != v.testBit 4) && s != 2)

/-! ### Channel commands -/

/-- A marking channel in a state that bars RWI writes (R314). -/
def Core.chFiring (c : Core) (n : Nat) : Bool :=
  let s := c.get (K.chState n)
  decide (2 ≤ s) && decide (s ≤ 5)

/-- Some channel is in such a state. -/
def Core.anyFiring (c : Core) : Bool := (List.range 8).any fun (n : Nat) => c.chFiring n

/-- The Flask region that channel n would use (R89): first byte and length, for a slot size. -/
def flaskRegion (c : Core) (n slot : Nat) : Nat × Nat := (c.get (K.chFlaskBase n), c.get (K.chFlaskLines n) * slot)

/-- The Flask region of channel n fails a check of R89. -/
def flaskRange (c : Core) (n : Nat) : Bool :=
  let r := flaskRegion c n (slotFor (c.lineBytes n))
  r.1 % 65536 != 0 || decide (134217728 < r.2) || decide (c.capBytes < r.1 + r.2) ||
    (List.range 8).any fun (k : Nat) =>
      k != n && c.get (K.chState k) != 0 &&
        (let q := flaskRegion c k (c.get (K.chFlaskSlot k))
         decide (r.1 < q.1 + q.2) && decide (q.1 < r.1 + r.2))

/-- CMD 1 is answered STATE (R205, R307, R436). -/
def loadState (c : Core) (n : Nat) : Bool :=
  let k := c.get (K.chIntakeDma n)
  c.get (K.chState n) != 0 || c.get K.devState = 2 ||
    (decide (k < 16) && (let s := (nth c.dmas k).state
      (s != 0 && s != 2) || (List.range 8).any fun (j : Nat) =>
        j != n && c.get (K.chState j) != 0 && c.get (K.chIntakeDma j) = k))

/-- CMD 2 is answered STATE (R139, R205, R206, R421, R436). -/
def armState (c : Core) (n : Nat) : Bool :=
  let s := c.get (K.chState n)
  let d := c.get K.devState
  (s != 1 && s != 6) || (d != 3 && d != 4 && d != 5) || !((nth c.jobs n).jobs.any fun (j : Job) => j.state = 1) ||
    !c.lanesUp n || decide (c.get K.railState < c.get K.railArmState)

/-- The arms that wait for the boards (R167): a channel whose board registers are all written enters ARMED, unless a condition
of R139, R205, R206, R421 or R436 has ceased to hold meanwhile; then the arm comes to nothing (log 83). -/
def armWatch (c : Core) : Core :=
  (List.range 8).foldl (fun (c : Core) (n : Nat) =>
    if !(nth c.jobs n).arming then c
    else if armState c n then c.updJob n fun (x : ChJob) => { x with arming := false }
    else if c.boardsWritten n then chArmed n c
    else c) c

/-- The windows of the run page of channel n in 1/64 ns (R186, R190, R191). -/
def pageWindows (c : Core) (n : Nat) : List (Int × Int) :=
  let w := c.get (K.chSenseW n)
  let sense := fun (t : Nat) => (64 * ((t : Int) - (w : Int)), 64 * ((t : Int) + (w : Int)))
  let a := c.geti (K.chApcStart n)
  [sense (c.get (K.chSenseT1 n)), sense (c.get (K.chSenseT2 n)), (64 * a, 64 * (a + (c.get (K.chApcLen n) : Nat)))].filter
    fun (p : Int × Int) => decide (p.1 < p.2)

/-- Two windows of a list overlap. -/
def windowsMeet : List (Int × Int) → Bool
  | [] => false
  | p :: r => r.any (fun (q : Int × Int) => decide (p.1 < q.2) && decide (q.1 < p.2)) || windowsMeet r

/-- The arm of channel n fails a check of R186. -/
def beamRange (c : Core) (n : Nat) : Bool :=
  let f := c.get K.beamScanFreq
  let b := c.get (K.chBeams n)
  let w := c.get (K.chWidth n)
  let ts := (List.range (w / 8 + 1)).map fun (j : Nat) => c.pixelTime n (8 * j)
  let lo := ts.foldl min (ts.headD 0)
  let hi := ts.foldl max (ts.headD 0)
  let far := ts.foldl (fun (a : Nat) (t : Int) => max a t.natAbs) 0
  let lead := c.get (K.chSweepLead n)
  let ws := pageWindows c n
  decide (1000 * c.maxLineRate n < 2 * f * b) || b % 4 != 0 || decide (b < 4) || decide (32 < b) || decide (32768 < w) ||
    decide (64 * lead < far + 64 * (c.get (K.chLinkLatency n) + 200)) || decide (1000000000000 ≤ 2 * f * lead) ||
    ws.any (fun (p : Int × Int) => decide (p.1 < hi) || decide (c.halfPeriods 1 < (p.2 - lo) * ((2 ^ 26 : Nat) : Int))) ||
    windowsMeet ws

/-- The arm of channel n fails a check of R118, R121 or R206, in nozzle mode. -/
def nozzleRange (c : Core) (n : Nat) : Bool :=
  let g := c.get (K.chGroups n)
  let late := match (nth c.jobs n).jobs.find? fun (j : Job) => j.state = 1 with
    | some j => decide ((j.lJ : Int) - (c.get (K.chFetchLead n) : Nat) ≤ ((c.chPos n / 256 : Nat) : Int))
    | none => false
  decide (c.get (K.chFireLead n) < c.get (K.chLinkLatency n) + 200) ||
    (c.get (K.chGroupMap n) = 1 &&
      (c.segs n).any fun (s : Seg) => decide (s.hi - s.lo < c.get (K.chGroupRun n) * g)) ||
    c.get (K.chClockSrc n) != c.get K.rcstClock || late

/-- CMD 2 is answered RANGE (R19, R89, R118, R121, R186, R206). -/
def armRange (c : Core) (n : Nat) : Bool :=
  let s := c.scaleOf n
  decide (c.get (K.chFlaskLines n) < ceilDiv (c.dMax n) s + ceilDiv (c.get (K.chFetchLead n)) s + 64) ||
    flaskRange c n || (if c.beam then beamRange c n else nozzleRange c n)

/-- A write of CHn.CMD is answered STATE. -/
def cmdState (c : Core) (n v : Nat) : Bool :=
  let s := c.get (K.chState n)
  if v = 1 then loadState c n
  else if v = 2 then armState c n
  else if v = 4 then s = 0 || s = 7
  else if v = 5 then s != 1 && s != 6
  else false

/-- A write of CHn.CMD is answered RANGE. -/
def cmdRange (c : Core) (n v : Nat) : Bool :=
  if v = 1 then flaskRange c n else if v = 2 then armRange c n else false

/-! ### STATE, by block -/

/-- A write of CHn.TBL_GO is answered STATE (R111). -/
def tblState (c : Core) (n v : Nat) : Bool :=
  let id := c.get (K.chTblId n)
  let s := c.get (K.chState n)
  (nth c.imgs n).tbl.isSome ||
    (v = 1 && ((id = 1 && c.nozResync n) || ((id = 2 || id = 3) && c.bankBusy n (id - 2)) || (id = 4 && s != 0 && s != 1)))

/-- A write of a channel's object is answered STATE, beyond what its access right says; o is the low byte of the index. -/
def chState (c : Core) (n o sub v : Nat) : Bool :=
  let s := c.get (K.chState n)
  if o = 0x00 then sub = 2 && cmdState c n v
  else if o = 0x10 then sub = 2 && c.trimmed n
  else if o = 0x20 then decide (sub ≤ 6) && s != 0
  else if o = 0x30 then sub = 6 && c.bankBusy n (1 - c.get (K.chToneLive n))
  else if o = 0x40 then sub = 1 && c.nozResync n
  else if o = 0x60 then sub = 5 && tblState c n v
  else if 0xB0 ≤ o && o < 0xB4 then
    let m := 4 * n + (o - 0xB0)
    let l := nth c.lanes m
    (sub = 0x10 && (l.ctrl.isSome || l.todo != [] || !c.laneUp m)) ||
      (sub = 0x15 && (l.bulk.isSome || l.queue != [] || (nth c.scans n).switch.isSome || !c.laneUp m))
  else if o = 0xD0 then
    sub = 1 && v = 0 && (nth c.runs n).any fun (r : PageRun) => !r.finished && !r.spoiled
  else if o = 0xE0 then sub = 5 && (nth c.scans n).slt.isSome
  else false

/-- A request of DEV.STATE_REQ is answered STATE (R437). -/
def reqState (c : Core) (v : Nat) : Bool :=
  let d := c.get K.devState
  let pd := c.get K.devPdStatus
  let tr := c.get K.hubTrainState
  if v = 2 then
    d != 3 || c.busyIn 0 8 || c.dmas.any (fun (x : Dma) => x.state = 1 || x.state = 3) || c.codecOpen || c.fw.op != 0
  else if v = 3 then
    d != 2 || !pd.testBit 2 || !pd.testBit 4 || (tr != 2 && tr != 3) || (c.get K.devMarkMode = 1 && !pd.testBit 6)
  else if v = 5 then d != 4 || (c.get K.qdEnable = 1 && c.get K.qdPeers != 2 ^ c.get K.qdAddr)
  else false

/-- The running firmware slot. -/
def Nor.running (n : Nor) : FwSlot := if n.runB then n.slotB else n.slotA

/-- A write of DEV.OP_START is answered STATE (R261, R325, R469, R470): also by a later item of the request that started an
operation, since only one runs at a time (log 98). -/
def opState (c : Core) (v : Nat) : Bool :=
  if c.fw.op != 0 then true
  else if v = 2 then c.get K.devState != 2
  else if v = 3 then c.get K.fwStagedState = 0
  else if v = 4 then c.get K.fwStagedState != 2 || c.nor.running.state = 1 || c.get K.fwRecovery = 2
  else if v = 5 then c.busyIn 0 8 || c.dmas.any (fun (x : Dma) => x.state = 1 || x.state = 3) || c.codecOpen
  else false

/-- A write of an object of the Loop Engine is answered STATE (R356, R371, R359). -/
def slotState (c : Core) (s sub v : Nat) : Bool :=
  let on := c.get (K.loopSlotEnable s) = 1
  let b := (nth c.slots s).bankB
  if sub = 1 then v = 1 && !on && c.enableStatus s = 7
  else if sub = 0x10 then !b
  else if sub = 0x11 then b
  else on && [0x03, 0x08, 0x09, 0x0A, 0x0B, 0x0C, 0x0D, 0x0E, 0x0F, 0x16, 0x17, 0x18, 0x19].contains sub

/-- A write of an object of rail r is answered STATE. -/
def railObjState (c : Core) (r sub v : Nat) : Bool :=
  c.get (K.railStatus r) != 0 || c.rail.step.isSome ||
    (sub = 1 && decide (1 ≤ v) && decide (v ≤ c.get K.railState))

/-- A write of an object is answered STATE, for the reasons its own chapter states; v is the whole value it would hold. -/
def stateBad (c : Core) (index sub v : Nat) : Bool :=
  let d := c.get K.devState
  if 0x1000 ≤ index && index < 0x1800 then chState c ((index - 0x1000) / 256) (index % 256) sub v
  else if index = 0x0200 then
    (sub = 2 && reqState c v) || (sub = 3 && d != 2) || (sub = 6 && (c.anyFiring || c.fw.op != 0))
  else if index = 0x0210 then sub = 1 && pdState c v
  else if index = 0x0250 then sub = 1 && (c.beam || (d != 4 && d != 5 && c.get K.rcstPhase = 0))
  else if index = 0x0260 then sub = 1 && opState c v
  else if index = 0x0300 then sub = 3 && d != 2 && d != 3
  else if index = 0x0400 then sub = 7 && !c.clearOk
  else if index = 0x0410 then (sub = 2 || sub = 6 || sub = 9) && c.selected.isNone
  else if index = 0x0500 then
    sub = 2 && ((decide (c.get K.railState < v) && (d = 7 || d = 8)) || (decide (v < c.get K.railArmState) && c.anyFiring))
  else if 0x0520 ≤ index && index < 0x0538 then railObjState c (index - 0x0520) sub v
  else if index = 0x0600 then sub = 5 && c.nor.running.state != 1
  else if index = 0x0800 then decide (sub ≤ 4) && d != 2
  else if 0x0B10 ≤ index && index < 0x0B14 then
    (sub = 5 || sub = 0x14) && (List.range 8).any fun (n : Nat) =>
      let s := c.get (K.chState n)
      c.get (K.chClockSrc n) = index - 0x0B10 && (s = 2 || s = 3 || s = 4)
  else if 0x0B60 ≤ index && index < 0x0B70 then decide (sub ≤ 4) && c.get (K.cueListState (index - 0x0B60)) = 1
  else if 0x0C40 ≤ index && index < 0x0C80 then slotState c (index - 0x0C40) sub v
  else if index = 0x0D00 then decide (sub ≤ 3) && d != 2 && d != 3
  else if index = 0x0E00 then
    (decide (sub ≤ 3) && d != 2) || (sub = 3 && !v.testBit (c.get K.qdAddr)) || (sub = 0x0A && !c.qd.props.isEmpty)
  else false

/-- A write of an object is answered STATE: its domain is off, its access right bars it now, or its chapter does (R311,
R314, R315). -/
def writeState (c : Core) (acc : Acc) (index sub v : Nat) : Bool :=
  let held := supHeld index
  (c.domainOff index && (!held || acc = .wo)) ||
    (acc = .rwi && (match indexCh index with
      | some n => c.chFiring n
      | none => c.anyFiring)) ||
    stateBad c index sub v

/-! ### RANGE, by block -/

/-- The entry of CHn.SEGMENTS fails R86: the entries from one on, with the last START. -/
def segmentsBad (w : Nat) (blob : Nat) : Nat → Nat → Option Nat → Bool
  | 0, _, _ => false
  | k + 1, i, last =>
    let e := elemAt 32 blob i
    let st := field e 9 0
    field e 30 19 != 0 || field e 15 10 != 0 ||
      (if e.testBit 31 then
        (match last with
          | none => st != 0
          | some p => decide (st ≤ p)) || decide (w ≤ 128 * st) || segmentsBad w blob k (i + 1) (some st)
      else i = 0 || (List.range k).any (fun (j : Nat) =>
        let x := elemAt 32 blob (i + 1 + j)
        field x 30 19 != 0 || field x 15 10 != 0))

/-- A load of CHn.TBL_GO would take an entry with a reserved field that is not 0 (R111). -/
def tblHolds (c : Core) (m : List Host.Cell) (n : Nat) : Bool :=
  let id := c.get (K.chTblId n)
  (entries16 (c.readBytes m (c.get (K.chTblAddr n)) (2 * c.get (K.chTblCount n)))).any
    fun (v : Nat) => tblReserved id v

/-- A write of a channel's object is answered RANGE, beyond the span its table gives. -/
def chRange (c : Core) (m : List Host.Cell) (n o sub v : Nat) : Bool :=
  if o = 0x00 then sub = 2 && cmdRange c n v
  else if o = 0x10 then
    let s := c.get (K.chState n)
    sub = 2 && (s = 2 || s = 3 || s = 4) && decide (127 < (posDiff v (c.get (K.chBarOffset n))).natAbs)
  else if o = 0x20 then sub = 0x0C && segmentsBad (c.get (K.chWidth n)) v 64 0 none
  else if o = 0x40 then
    sub = 1 && (decide (c.get (K.chWidth n) ≤ field v 48 32) || field v 63 49 != 0 || field v 31 16 != 0 ||
      nozReserved (v % 65536))
  else if o = 0x60 then
    sub = 5 && (c.get (K.chTblCount n) = 0 ||
      decide (tblEntries (c.get (K.chTblId n)) < c.get (K.chTblFirst n) + c.get (K.chTblCount n)) ||
      (v = 1 && tblHolds c m n))
  else if o = 0xE0 then
    (sub = 5 && v = 3 && !c.sltInside n) || (sub = 8 && decide (c.get (K.chBeams n) ≤ v))
  else false

/-- The timing of serial port i, with one object given another value, breaks R47. -/
def sposBreaks (c : Core) (i sub v : Nat) : Bool :=
  let g := fun (s : Nat) (o : Obj) => if sub = s then v else c.get o
  let wt := g 0x0A (K.sposWordTimeout i)
  let frame := 2 + g 9 (K.sposStartTimeout i) + g 3 (K.sposPosBits i) + g 4 (K.sposStatusBits i) +
    (sposCrc (g 5 (K.sposCrcSel i))).1
  decide (g 8 (K.sposPeriod i) < wt) || decide (wt < frame * sposClockNs (g 2 (K.sposClkFreq i)) + 2000)

/-- A write of an object of serial port i is answered RANGE (R42, R47). -/
def sposRange (c : Core) (i sub v : Nat) : Bool :=
  let on := c.get (K.sposEnable i) = 1
  if sub = 1 then v = 1 && sposBreaks c i 1 v
  else if sub = 6 then decide (2 ^ (sposCrc (c.get (K.sposCrcSel i))).1 ≤ v)
  else if sub = 8 || sub = 0x0A then sposBreaks c i sub v
  else if sub = 2 || sub = 3 || sub = 4 || sub = 5 || sub = 9 then on && sposBreaks c i sub v
  else false

/-- The cue entry that a write of a sub-index leaves (R81). -/
def cueWith (old sub v : Nat) : Nat :=
  if sub = 1 then v
  else if sub = 2 then spliceLE old 0 6 v
  else if sub = 3 then spliceLE old 8 1 v
  else if sub = 4 then spliceLE old 9 1 v
  else if sub = 5 then spliceLE old 10 1 v
  else spliceLE old 12 4 v

/-- A write of cue entry i is answered RANGE (R81). -/
def cueRangeBad (c : Core) (i e : Nat) : Bool :=
  !cueOperandOk e || (List.range 16).any fun (k : Nat) =>
    let lo := c.get (K.cueListFirst k)
    let hi := c.get (K.cueListLast k)
    c.get (K.cueListState k) = 1 && decide (lo ≤ i) && decide (i ≤ hi) &&
      ((decide (lo < i) && decide (cuePos e < cuePos (cueEntryOf c (i - 1)))) ||
       (decide (i < hi) && decide (cuePos (cueEntryOf c (i + 1)) < cuePos e)))

/-- Every element of w bits among the first k of a value passes a test. -/
def elemsOk (w k v : Nat) (ok : Nat → Bool) : Bool := (List.range k).all fun (i : Nat) => ok (elemAt w v i)

/-- LOOP.SLOTs.TRIGGER names a mode of R352 and an argument it takes. -/
def triggerOk (v : Nat) : Bool :=
  let a := v / 256
  match v % 256 with
  | 1 => true
  | 2 => true
  | 3 => decide (a < 8)
  | 4 => decide (a < 16)
  | 5 => decide (a < 8)
  | _ => false

/-- LOOP.SLOTs.DEST names a destination of R359. -/
def destOk (v : Nat) : Bool :=
  let u := field v 23 16
  match field v 31 24 with
  | 0 => true
  | 1 => decide (u < 32)
  | 2 => decide (u < 8)
  | 3 => true
  | 4 => true
  | 5 => decide (u < 8)
  | 6 => decide (u < 64)
  | _ => false

/-- A write of an object of slot s is answered RANGE. -/
def slotRange (c : Core) (s sub v : Nat) : Bool :=
  if sub = 1 then v = 1 && c.get (K.loopSlotEnable s) = 0 && c.enableStatus s = 8
  else if sub = 3 then !triggerOk v
  else if sub = 9 || sub = 0x0A || sub = 0x0B then !srcOk v
  else if sub = 0x16 then !destOk v
  else false

/-- A write of an object of the Loop Engine that no slot owns is answered RANGE. -/
def loopRange (index sub v : Nat) : Bool :=
  if 0x0C08 ≤ index && index < 0x0C10 then sub = 1 && !elemsOk 8 8 v fun (x : Nat) => decide (x < 25) || x = 0xFF
  else if index = 0x0C11 then
    (sub = 2 && !elemsOk 16 32 v fun (x : Nat) => decide (1 ≤ x)) || (sub = 3 && !elemsOk 16 32 v fun (x : Nat) => decide (2 ≤ x)) ||
      (sub = 5 && !elemsOk 2 32 v fun (x : Nat) => decide (x < 3))
  else if index = 0x0C12 then
    (sub = 2 && !elemsOk 16 8 v fun (x : Nat) => decide (x < 4096)) ||
      (sub = 3 && !elemsOk 16 8 v fun (x : Nat) => decide (x < 4096) || x = 0xFFFF)
  else if index = 0x0C13 then sub = 4 && !elemsOk 2 32 v fun (x : Nat) => decide (x < 3)
  else false

/-- An AIN input or a current slot is named by another rail. -/
def railNames (c : Core) (r sub v : Nat) : Bool :=
  v != 0xFF && (List.range 24).any fun (k : Nat) =>
    k != r && (if sub = 0x0C then c.get (K.railISlot k) = v
      else c.get (K.railVAin k) = v || c.get (K.railIAin k) = v)

/-- A write of an object of rail r is answered RANGE. -/
def railRange (c : Core) (r sub v : Nat) : Bool :=
  (sub = 5 || sub = 0x0A || sub = 0x0C) && railNames c r sub v

/-- A write of a configuration object of the hub is answered RANGE (R256, R257). -/
def hubRange (c : Core) (sub v : Nat) : Bool :=
  let g := fun (s : Nat) (o : Obj) => if sub = s then v else c.get o
  let ranks := g 4 K.hubRanks
  decide (sub ≤ 4) && ((capacityMiB (g 2 K.hubDevWidth) (g 3 K.hubDensity) ranks).isNone ||
    (ranks = 2 && decide (6400 < g 1 K.hubSpeed)))

/-- A write of QD.STEP is answered RANGE (R393): a kind that no write proposes, or an upward target that is not the next
state. -/
def qdStepRange (c : Core) (v : Nat) : Bool :=
  let kind := field v 31 24
  let t := field v 23 16
  kind = 4 || kind = 5 || decide (7 < kind) ||
    (kind = 1 && (decide (15 < t) || (decide (c.get K.qdState < t) && t != c.get K.qdState + 1)))

/-- The object with which a value fails an order or a condition that its chapter states between the two (R38, R64, R125, R224,
R257, R337, R349, R352, R390, R416, R424); a condition between two objects binds a write of either
(DEDUCED, log 30). -/
def liveTie (c : Core) (index sub v : Nat) : Option Obj :=
  let against := fun (x : Obj) (bad : Bool) => if bad then some x else none
  if index = 0x0240 then (if sub = 4 then against K.hubPlanBw (decide (c.planBw < v)) else none)
  else if index = 0x0250 then
    if sub = 0x0B then against K.rcstResumeSpeed (decide (v < c.settleDist (c.get K.rcstResumeSpeed)))
    else if sub = 0x0C then against K.rcstApproach (decide (c.get K.rcstApproach < c.settleDist v))
    else none
  else if index = 0x0300 then
    if sub = 0x0E then against K.timeSnapGrid (decide (c.get K.timeSnapGrid ≤ 4 * v))
    else none
  else if index = 0x0400 then
    if sub = 0x0C then against K.fltDieCrit (decide (c.geti K.fltDieCrit ≤ signed 16 v))
    else if sub = 0x0D then against K.fltDieWarn (decide (signed 16 v ≤ c.geti K.fltDieWarn))
    else none
  else if 0x0520 ≤ index && index < 0x0538 then
    let r := index - 0x0520
    if sub = 5 then against (K.railFlags r) (v = 0xFF && (c.get (K.railFlags r)).testBit 0)
    else if sub = 7 then against (K.railVMax r) (decide (c.get (K.railVMax r) ≤ v))
    else if sub = 8 then against (K.railVMin r) (decide (v ≤ c.get (K.railVMin r)))
    else if sub = 0x11 then against (K.railVAin r) (v.testBit 0 && c.get (K.railVAin r) = 0xFF)
    else none
  else if 0x0720 ≤ index && index < 0x0722 then
    let k := index - 0x0720
    if sub = 2 then against (K.wopCanRspId k) (v = c.get (K.wopCanRspId k))
    else if sub = 3 then against (K.wopCanReqId k) (v = c.get (K.wopCanReqId k))
    else if sub = 5 then against (K.wopCanNomRate k) (decide (v < c.get (K.wopCanNomRate k)))
    else none
  else if index = 0x0820 then
    if sub = 5 then against K.hubWqLow (decide (v ≤ c.get K.hubWqLow))
    else if sub = 6 then against K.hubWqHigh (decide (c.get K.hubWqHigh ≤ v))
    else none
  else if 0x0B50 ≤ index && index < 0x0B54 then
    let n := index - 0x0B50
    if sub = 8 then against (K.lcUnlockTol n) (decide (c.get (K.lcUnlockTol n) ≤ v))
    else if sub = 0x0A then against (K.lcLockTol n) (decide (v ≤ c.get (K.lcLockTol n)))
    else none
  else if 0x0C40 ≤ index && index < 0x0C80 then
    let s := index - 0x0C40
    if sub = 4 then against (K.loopSlotPhase s) (decide (v ≤ c.get (K.loopSlotPhase s)))
    else if sub = 5 then against (K.loopSlotPeriod s) (decide (c.get (K.loopSlotPeriod s) ≤ v))
    else if sub = 0x14 then against (K.loopSlotOutMax s) (dLe (bf24 (c.get (K.loopSlotOutMax s))) (bf24 v))
    else if sub = 0x15 then against (K.loopSlotOutMin s) (dLe (bf24 v) (bf24 (c.get (K.loopSlotOutMin s))))
    else none
  else
    match indexCh index with
    | some n =>
      if index % 256 = 0x80 && sub = 1 then
        against (K.chElemMax n) (c.get (K.chElemMax n) != 0 && decide (v ≤ c.get (K.chElemMax n)))
      else none
    | none => none

/-- A write of an object is answered RANGE, for the reasons its own chapter states beyond the span of its table. -/
def rangeBad (c : Core) (m : List Host.Cell) (index sub v : Nat) : Bool :=
  if 0x1000 ≤ index && index < 0x1800 then chRange c m ((index - 0x1000) / 256) (index % 256) sub v
  else if 0x2000 ≤ index && index < 0x3000 then
    cueRangeBad c (index - 0x2000) (cueWith (cueEntryOf c (index - 0x2000)) sub v)
  else if 0x4000 ≤ index && index < 0x4400 then
    v != 0 && ((descOf (v / 256 % 65536) (v % 256)).isNone || v / 0x100000 = 4)
  else if index = 0x0210 then sub = 1 && v % 4 != 3
  else if index = 0x0300 then sub = 0x0D && c.get K.alignRefFreq != 0 && v % (5 * c.alignRatio) != 0
  else if index = 0x0410 then
    (sub = 1 && (decide (2 ^ 24 ≤ v) || faultDefault (v / 256) (v % 256) = 0)) ||
      (sub = 2 && (match c.selected with
        | some (src, kind) => decide (v < faultMin src kind)
        | none => false))
  else if index = 0x0420 then sub = 1 && v != 0
  else if 0x0520 ≤ index && index < 0x0538 then railRange c (index - 0x0520) sub v
  else if index = 0x0740 then sub = 5 && decide (c.capBytes ≤ v)
  else if index = 0x0800 then hubRange c sub v
  else if index = 0x0810 then
    (sub = 8 && v != 0) || (sub = 0x0F && (decide (38 < v % 256) || (v.testBit 16 && decide (38 < field v 15 8))))
  else if 0x0B10 ≤ index && index < 0x0B14 then
    let i := index - 0x0B10
    let g := fun (s : Nat) (o : Obj) => if sub = s then v else c.get o
    (sub = 7 || sub = 8 || sub = 0x0A) && g 7 (K.encIndexMode i) != 0 &&
      decide (g 8 (K.encIndexPeriod i) < 2 * g 0x0A (K.encIndexTol i) + 2)
  else if 0x0B20 ≤ index && index < 0x0B24 then sposRange c (index - 0x0B20) sub v
  else if 0x0B40 ≤ index && index < 0x0B48 then sub = 0x0D && v = 1 && cmpRangeBad c (index - 0x0B40)
  else if 0x0B50 ≤ index && index < 0x0B54 then sub = 2 && v = 0
  else if 0x0B60 ≤ index && index < 0x0B70 then sub = 5 && v = 1 && cueArmFails c (index - 0x0B60)
  else if 0x0C40 ≤ index && index < 0x0C80 then slotRange c (index - 0x0C40) sub v
  else if 0x0C00 ≤ index && index < 0x0C20 then loopRange index sub v
  else if index = 0x0D00 then sub = 4 && (tableBad v).isSome
  else if index = 0x0E00 then
    (sub = 0x0A && qdStepRange c v) || (sub = 0x10 && !elemsOk 32 64 v fun (x : Nat) =>
      x = 0 || (decide (x < 2 ^ 24) && (descOf (x / 256) (x % 256)).isSome))
  else false

/-- The integer that a value of a type stands for, as its range is stated: two's complement for I16, I32 and the U64 objects
whose tables say so are counts without a range (R312). -/
def typedInt (typ v : Nat) : Int :=
  if typ = 5 then signed 16 v else if typ = 6 then signed 32 v else (v : Int)

/-- A write of an object is answered RANGE (R59, R315, R316). -/
def writeRange (c : Core) (m : List Host.Cell) (d : Desc) (v : Nat) : Bool :=
  let index := d.obj.key / 256
  let sub := d.obj.key % 256
  (d.counter && v != 0) || !rngOk d.rng (typedInt d.typ v) ||
    (d.acc = .rws && tieFails c.getStaged index sub v) || (liveTie c index sub v).isSome || rangeBad c m index sub v

/-- INFO with RANGE (R332): the one object with which the value conflicts; 0 where it conflicts with none, or the check takes in
more objects than one other. -/
def rangeInfo (c : Core) (d : Desc) (v : Nat) : Nat :=
  let index := d.obj.key / 256
  let sub := d.obj.key % 256
  match (if d.acc = .rws then tieOf c.getStaged index sub v else liveTie c index sub v) with
  | some o => o.key
  | none => 0

/-- A write of an object is answered ACCESS (R156, R314, R409). -/
def writeAccess (c : Core) (d : Desc) (v : Nat) : Bool :=
  let index := d.obj.key / 256
  let sub := d.obj.key % 256
  d.acc = .ro ||
    (index = 0x0410 && sub = 2 && (match c.selected with
      | some (src, kind) => faultDefault src kind = 7
      | none => false)) ||
    (match indexCh index with
      | some n => 0xB0 ≤ index % 256 && index % 256 < 0xB4 && sub = 0x10 && v = 2 &&
          decide (c.get (K.klCtrlAddr (4 * n + (index % 256 - 0xB0))) < 0x100)
      | none => false)

end Sys2Proof.Machine
end

