-- ==== Sys2Proof/Machine/Read.lean ====
section
/-! DEFINITION. Sys2Proof/Machine/Read.lean: the value every readable object shows. Most objects hold a value; the ones
below are formed from the state of their block when they are read. -/

namespace Sys2Proof.Machine

/-! ### Jobs and image path -/

/-- The job now ACTIVE on channel n. -/
def Core.activeJob (c : Core) (n : Nat) : Option Job := (nth c.jobs n).jobs.find? fun (j : Job) => j.state = 2

/-- C_J of a job: contone lines of the jobs before it (R87). -/
def Core.cFirst (c : Core) (n uid : Nat) : Nat :=
  let l := (nth c.jobs n).jobs
  cJOf l ((l.findIdx? fun (j : Job) => j.uid = uid).getD 0)

/-- Element lines beyond line `line` whose contone lines the Flask holds, counted without a gap. -/
def Core.aheadFrom (c : Core) (n stop : Nat) : Nat → Nat → Nat
  | 0, _ => 0
  | k + 1, line =>
    if decide (line < stop) && (c.contoneNeeds n line).all fun (cl : Nat) => c.resident n cl then
      c.aheadFrom n stop k (line + 1) + 1
    else 0

/-- CHn.RUN_AHEAD (R221): element lines beyond the current fetch that the Flask already holds. -/
def Core.runAhead (c : Core) (n : Nat) : Nat :=
  let line := c.get (K.chLineHigh n) + c.get (K.chFetchLead n) + 1
  let stop := c.lastEnd n + c.dMax n
  if c.get (K.chState n) = 0 then 0 else c.aheadFrom n stop (stop - line) line

/-- CHn.INTAKE_MEAS (R221), in MB/s. -/
def Core.intakeMeas (c : Core) (n : Nat) : Nat :=
  let b := (nth c.jobs n).meas.foldl (fun (a : Nat) (p : Nat × Nat) => if c.clock < p.1 + 100000000 then a + p.2 else a) 0
  (roundFree (b : Int) 100000).toNat

/-- Channels that are held and ready (R227). -/
def Core.readyMap (c : Core) : Nat :=
  c.heldChannels.foldl (fun (a : Nat) (n : Nat) => if c.heldReady n then a + 2 ^ n else a) 0

/-! ### Faults, rails, locks -/

/-- Identities as a list object shows them: ascending, then zeros (R406, R407). -/
def idList (bytes : Nat) (l : List FaultEntry) : Nat :=
  natLE (padTo bytes (l.flatMap fun (f : FaultEntry) => bytesLE 4 f.id))

/-- The objects that speak of the fault FLT.SEL names; 0 while it names none (R409). -/
def Core.selValue (c : Core) (sub : Nat) : Nat :=
  match c.selected with
  | none => 0
  | some (src, kind) =>
    let f := c.faultOf (faultId src kind)
    let d := faultDefault src kind
    if sub = 2 then c.classOf src kind f.payload
    else if sub = 3 then (if d = 7 then c.classOf src kind f.payload else d)
    else if sub = 4 then faultMin src kind
    else if sub = 5 then b2n (c.activeNow f != 0) + 2 * b2n f.sticky
    else if sub = 6 then f.count
    else if sub = 7 then f.time
    else f.payload

/-- Records of the rail log with a sequence number at or above from, ascending and not torn (R427). -/
def Core.logFrom (c : Core) (start : Nat) : List LogRec :=
  (c.nor.log.filter fun (r : LogRec) => !r.torn && decide (start ≤ r.seq)).mergeSort
    fun (a b : LogRec) => decide (a.seq ≤ b.seq)

/-- RAIL.LOG_OLDEST: the lowest sequence number of the records held; the next one when there is none. -/
def Core.logOldest (c : Core) : Nat :=
  (c.nor.log.filter fun (r : LogRec) => !r.torn).foldl (fun (a : Nat) (r : LogRec) => min a r.seq) c.rail.next

/-- DEV.LOCKk.REMAINING in ms (R322). -/
def Core.lockLeft (c : Core) (k : Nat) : Nat :=
  let l := nth c.locks k
  if l.owner.isSome then (roundFree ((l.ends - c.clock : Nat) : Int) 1000000).toNat else 0

/-! ### Profile T -/

/-- The fields of PROF.SNAPSHOT below its reserved bytes (R343). -/
def Core.snapshotBytes (c : Core) : List Byte :=
  bytesLE 8 c.now ++ bytesLE 6 c.stampPos ++ bytesLE 1 (c.get K.devState) ++ bytesLE 1 (c.get K.rcstPhase) ++
    ((List.range 8).flatMap fun (n : Nat) => bytesLE 1 (c.get (K.chState n))) ++
    ((List.range 8).flatMap fun (n : Nat) => bytesLE 6 (c.chPos n)) ++
    bytesLE 1 c.highest ++ bytesLE 1 (c.get K.qdState) ++
    ((List.range 4).flatMap fun (i : Nat) => bytesLE 2 (c.get (K.lcStatus i)))

/-! ### Firmware -/

/-- FW.TRIALS: trial boots of the TRIAL slot (R471). -/
def Nor.trials (n : Nor) : Nat := if n.slotA.state = 1 then n.slotA.trials else if n.slotB.state = 1 then n.slotB.trials else 0

/-! ### The objects that are formed -/

/-- Objects of a channel, by offset of the index and sub-index; none for one that holds its value. -/
def Core.chObject (c : Core) (n o sub : Nat) : Option Nat :=
  if o = 0x10 && sub = 3 then some (c.chPos n)
  else if o = 0x20 && sub = 10 then some (c.get (K.chFlaskWrite n) - c.released n)
  else if o = 0x00 then
    let j := c.activeJob n
    if sub = 3 then some ((j.map fun (x : Job) => x.id).getD 0)
    else if sub = 4 then some ((j.map fun (x : Job) => x.lJ).getD 0)
    else if sub = 5 then some ((j.map fun (x : Job) => if x.final then c.jobEnd n x else 0).getD 0)
    else if sub = 6 then some ((j.map fun (x : Job) => c.cFirst n x.uid).getD 0)
    else if sub = 7 then some (satU 8 ((nth c.jobs n).jobs.filter fun (x : Job) => x.state = 1).length)
    else if sub = 9 then some (c.runAhead n)
    else if sub = 0x11 then some (c.stagedCount (n + 1))
    else none
  else if o = 0xA0 && sub = 4 then
    some ((nth c.jobs n).spaces.foldl (fun (a : Nat) (p : Nat × Nat × Nat × Bool) => a + p.2.2.1) 0)
  else if o = 0xA0 && sub = 6 then some (c.intakeMeas n)
  else if o = 0xF0 && sub = 1 then some (c.sprueState n)
  else none

/-- Objects of the device that are formed when read; none for one that holds its value. -/
def Core.devObject (c : Core) (index sub : Nat) : Option Nat :=
  if index = 0x0100 then
    (if sub = 3 then some (1 + Config.identity K.devVariant.key % 2)
    else if sub = 4 then some (Config.identity K.devUnitSerial.key % 2 ^ 64)
    else if sub = 6 then some (Config.identity K.devLot.key % 2 ^ 32)
    else if sub = 7 then some (Config.identity K.devTestDate.key % 2 ^ 32)
    else if sub = 8 then some (macOf 0)
    else if sub = 9 then some (macOf 1)
    else if sub = 10 then some c.nor.revoked
    else if sub = 11 then some c.nor.running.version
    else none)
  else if 0x0220 ≤ index && index < 0x022A && sub = 5 then some (c.lockLeft (index - 0x0220))
  else if index = 0x0230 && sub = 2 then some (c.stagedCount 0)
  else if index = 0x0250 && sub = 13 then some (c.settleDist (c.get K.rcstResumeSpeed))
  else if index = 0x0250 && sub = 0x15 then some c.readyMap
  else if index = 0x0270 then
    (if sub = 1 then some c.auditNext
    else if sub = 2 then some c.auditOldest
    else if sub = 4 then
      some (natLE ((List.range 64).flatMap fun (i : Nat) => c.auditAt (c.get K.auditFrom + i)))
    else none)
  else if index = 0x0300 && sub = 1 then some c.now
  else if index = 0x0400 then
    (if sub = 1 then some c.highest
    else if sub = 15 then some (idList 1024 (c.faults.filter fun (f : FaultEntry) => c.activeNow f != 0))
    else if sub = 16 then some (idList 2048 (c.faults.filter fun (f : FaultEntry) => f.sticky))
    else none)
  else if index = 0x0410 then (if 2 ≤ sub && sub ≤ 8 then some (c.selValue sub) else none)
  else if index = 0x0510 then
    (if sub = 1 then some c.rail.next
    else if sub = 2 then some c.logOldest
    else if sub = 3 then some ((c.nor.sectors - 2) * 512)
    else if sub = 5 then
      some (natLE (padTo 1024 (((c.logFrom (c.get K.railLogFrom)).take 8).flatMap fun (r : LogRec) => r.bytes)))
    else none)
  else if 0x0520 ≤ index && index < 0x0538 then
    (if sub = 0x13 then some (c.railMvWord (index - 0x0520))
    else if sub = 0x14 then some ((c.railMa (index - 0x0520)).getD 0xFFFF)
    else none)
  else if 0x0580 ≤ index && index < 0x0590 && sub = 2 then
    some ((c.railsOf (index - 0x0580)).foldl (fun (a : Nat) (r : Nat) => a + 2 ^ r) 0)
  else if index = 0x0600 then
    (if sub = 3 then some c.fw.blocks.length
    else if sub = 6 then some (b2n c.nor.runB)
    else if sub = 7 then some c.nor.slotA.state
    else if sub = 8 then some c.nor.slotB.state
    else if sub = 9 then some c.nor.slotA.version
    else if sub = 10 then some c.nor.slotB.version
    else if sub = 11 then some c.nor.trials
    else if sub = 14 then some (c.nor.frozen.getD 0xFF)
    else if sub = 15 then some (natLE (padTo 32 (c.nor.running.formats.flatMap fun (v : Nat) => bytesLE 2 v)))
    else if sub = 16 then some c.nor.mib
    else none)
  else if index = 0x0700 && sub = 6 then some c.clients.length
  else if index = 0x0800 then
    (if sub = 5 then some c.capMiB
    else if sub = 6 then some c.peakBw
    else if sub = 7 then some c.planBw
    else if sub = 14 then some c.hubLoadNow
    else none)
  else if index = 0x0900 then
    (if sub = 1 then some ((List.range 16).foldl (fun (a : Nat) (k : Nat) =>
        let s := (nth c.dmas k).state
        if s = 1 || s = 3 then a + 2 ^ k else a) 0)
    else if sub = 2 then some ((List.range 16).foldl (fun (a : Nat) (k : Nat) => if c.dmaOwned k then a + 2 ^ k else a) 0)
    else none)
  else if 0x0B10 ≤ index && index < 0x0B14 && sub = 0x06 then some (encStatusNow c (index - 0x0B10))
  else if 0x0B10 ≤ index && index < 0x0B14 && sub = 0x12 then some (unsigned 32 (encVelocity c (index - 0x0B10)))
  else if 0x0B40 ≤ index && index < 0x0B48 && sub = 0x10 then some (cmpNext c (index - 0x0B40))
  else if 0x0B50 ≤ index && index < 0x0B54 && sub = 5 then some (lcBwEff c (index - 0x0B50))
  else if 0x0B60 ≤ index && index < 0x0B70 && sub = 7 then some (nth c.lists (index - 0x0B60)).cursor
  else if index = 0x0C00 then
    (if sub = 1 then
      let l := c.loadOf c.slotsOn
      some (roundFree (l.num : Int) (1000 * max 1 l.den)).toNat
    else if sub = 3 then some (c.lanesOf c.slotsOn)
    else none)
  else if index = 0x0C13 && sub = 3 then
    some c.gpioIn
  else if index = 0x0D00 && sub = 14 then some c.coastMs
  else if index = 0x0E00 && sub = 13 then
    some (b2n c.qd.high + 2 * b2n c.qd.holds + 4 * b2n c.qd.busy + 8 * b2n c.qd.joined)
  else if index = 0x4400 then some (natLE (padTo 128 c.snapshotBytes))
  else none

/-- Entry i of the Cue Table by sub-index: the whole entry, or one of its fields (R72, R84). -/
def cueField (e sub : Nat) : Nat :=
  if sub = 2 then cuePos e
  else if sub = 3 then cueAction e
  else if sub = 4 then cueTarget e
  else if sub = 5 then field e 87 80
  else if sub = 6 then cueArg e
  else e

/-- The value that the object shows when read; bits whose value a rule calls undefined are 0 here (`reservedMask` names them,
and a read fills them with a free value). -/
def Core.objValue (c : Core) (d : Desc) : Nat :=
  let index := d.obj.key / 256
  let sub := d.obj.key % 256
  let held := c.get d.obj
  if 0x1000 ≤ index && index < 0x1800 then (c.chObject ((index - 0x1000) / 256) (index % 256) sub).getD held
  else if 0x2000 ≤ index && index < 0x3000 then cueField (cueEntryOf c (index - 0x2000)) sub
  else (c.devObject index sub).getD held

/-- The reserved bits of the first n entries of CHn.SEGMENTS (R85). -/
def segReserved : Nat → Nat
  | 0 => 0
  | n + 1 => (2 ^ 31 - 2 ^ 19 + (2 ^ 16 - 2 ^ 10)) + 2 ^ 32 * segReserved n

/-- The bits of an object whose value on a read is undefined (R11). -/
def reservedMask (c : Core) (index sub : Nat) : Nat :=
  if index = 0x0210 && (sub = 1 || sub = 2) then 2 ^ 32 - 2 ^ 17
  else if 0x1000 ≤ index && index < 0x1800 && index % 256 = 0x20 && sub = 12 then segReserved 64
  else if 0x1000 ≤ index && index < 0x1800 && index % 256 = 0x70 && sub = 13 then 0xF0
  else if 0x2000 ≤ index && index < 0x3000 then cueField (2 ^ 96 - 2 ^ 82 + (2 ^ 64 - 2 ^ 48)) sub
  else if 0x0B10 ≤ index && index < 0x0B14 && sub = 6 then 2 ^ 16 - 2 ^ 6
  else if 0x0B50 ≤ index && index < 0x0B54 && sub = 0x10 then 2 ^ 16 - 2 ^ 6
  else if index = 0x0810 && sub = 14 then 2 ^ 16 - 2 ^ 7
  else if index = 0x0300 && sub = 4 then 0xF0
  else if index = 0x0E00 && sub = 13 then 0xF0
  else if index = 0x0410 && sub = 1 then 0xFF000000
  else if index = 0x4400 then 2 ^ 1024 - 2 ^ (8 * 0x52)
  else if 0x0520 ≤ index && index < 0x0538 && sub = 0x11 then 0xFE
  else if 0x0C40 ≤ index && index < 0x0C80 && sub = 2 then 2 ^ 16 - 2 ^ 7
  else if 0x0C40 ≤ index && index < 0x0C80 && sub = 15 then 0xE0
  else if index = 0x0C13 && sub = 3 then
    (List.range 32).foldl (fun (a : Nat) (k : Nat) => if c.gpioPin k == .z then a + 2 ^ k else a) 0
  else 0

/-! ### Values on the wire (R312) -/

/-- A value as it travels: big-endian, a BF24 as its mantissa and its exponent, a BLOB byte for byte. -/
def wireBytes (typ size v : Nat) : List Byte :=
  if typ = 10 then bytesLE size v
  else if typ = 7 then bytesBE 3 (v % 2 ^ 24) ++ bytesBE 1 (v / 2 ^ 24)
  else bytesBE size v

/-- The value that bytes on the wire spell. -/
def wireValue (typ : Nat) (data : List Byte) : Nat :=
  if typ = 10 then natLE data
  else if typ = 7 then natBE (data.take 3) + 2 ^ 24 * natBE (data.drop 3)
  else natBE data

/-- The value in memory form, as the audit ring keeps it. -/
def memBytes (size v : Nat) : List Byte := bytesLE size v

end Sys2Proof.Machine
end

