-- ==== Sys2Proof/Machine/Arbiter.lean ====
section
/-! DEFINITION. Sys2Proof/Machine/Arbiter.lean: the order of access to DRAM and the arbitration (R269 to R274, R277): in each
age unit every arbiter grants the request that ranks highest, and the queues of the subchannels issue what was granted, in
order. How long an issue takes is the transfer alone (log 11, log 91). -/

namespace Sys2Proof.Machine

/-! ### Panics (R274) -/

/-- Element lines fetched ahead of the line that channel n processes: those up to FETCH_LEAD whose contone lines are there. -/
def Core.fetchedAhead (c : Core) (n : Nat) : Nat :=
  let line := c.get (K.chLineHigh n) + 1
  let lead := c.get (K.chFetchLead n)
  c.aheadFrom n (line + lead) lead line

/-- A panic below its threshold begins, and at twice the threshold ends. -/
def panicNext (was : Bool) (level limit : Nat) : Bool := decide (level < limit) || (was && decide (level < 2 * limit))

/-- The panics of channel n now: of its row gather while lines are processed, of its Sprue read and write (log 91). -/
def Core.panicOf (c : Core) (n : Nat) : Bool × Bool :=
  let was := nth c.hub.panics n
  let st := c.get (K.chState n)
  let runs := st = 3 || st = 4 || st = 5
  (runs && panicNext was.1 (c.fetchedAhead n) (c.get K.hubPanicLines),
   panicNext was.2 (c.runAhead n) (c.get K.hubPanicRunahead))

/-! ### Grants (R272) -/

/-- The requests that are heads at an arbiter: for each requester the oldest. -/
def headsOf : List HubReq → List Nat → List HubReq
  | [], _ => []
  | r :: l, seen => if seen.contains r.master then headsOf l seen else r :: headsOf l (r.master :: seen)

/-- The heads at the arbiter of DRAM channel ch. -/
def Core.hubHeads (c : Core) (ch : Nat) : List HubReq := headsOf (c.hub.waits.filter fun (r : HubReq) => r.arbiter = ch) []

/-- The age of a head, saturating at 4,095. -/
def Core.hubAge (c : Core) (r : HubReq) : Nat := min 4095 (c.hub.unit - r.since)

/-- Its class: 2 panicking, 1 saturated, 0 the rest. -/
def Core.hubClass (c : Core) (r : HubReq) : Nat :=
  if c.masterPanics r.master then 2 else if c.hubAge r = 4095 then 1 else 0

/-- Its key: the age and the bias of the requester, as HUB.BIASm stands in this unit (R273). -/
def Core.hubKey (c : Core) (r : HubReq) : Int := (c.hubAge r : Int) + signed 16 (c.get (K.hubBias r.master))

/-- Whether a queue has room for a head (R269). -/
def Core.hubEligible (c : Core) (r : HubReq) : Bool :=
  let q := nth c.hub.queues (c.subOf (64 * r.next))
  decide ((if r.write then q.writes else q.reads).length < 64)

/-- Whether head r ranks above head x: by class, then by key, then by the lower master ID. -/
def Core.ranksAbove (c : Core) (r x : HubReq) : Bool :=
  if c.hubClass r != c.hubClass x then decide (c.hubClass x < c.hubClass r)
  else if c.hubKey r != c.hubKey x then decide (c.hubKey x < c.hubKey r)
  else decide (r.master < x.master)

/-- The head that the arbiter of channel ch grants in this unit, if any. -/
def Core.hubChoice (c : Core) (ch : Nat) : Option HubReq :=
  ((c.hubHeads ch).filter c.hubEligible).foldl (fun (best : Option HubReq) (r : HubReq) =>
    match best with
    | none => some r
    | some x => if c.ranksAbove r x then some r else some x) none

/-- What is left of the waiting requests once the head r is granted in `unit`: the requester's next head there takes its stamp
in the next unit. -/
def granted (r : HubReq) (unit : Nat) : List HubReq → List HubReq
  | [] => []
  | x :: l =>
    if x.arbiter = r.arbiter && x.master = r.master then
      let b := nextOn r.arbiter (r.next + 1)
      if b < x.stop then { x with next := b, since := unit + 1 } :: l
      else restamp l
    else x :: granted r unit l
where
  /-- The requester's next request becomes its head. -/
  restamp : List HubReq → List HubReq
    | [] => []
    | y :: l => if y.arbiter = r.arbiter && y.master = r.master then { y with since := unit + 1 } :: l else y :: restamp l

/-- The arbiter of channel ch makes its grant of this unit. -/
def hubGrant (ch : Nat) (c : Core) : Core :=
  match c.hubChoice ch with
  | none => c
  | some r =>
    let c' := if c.hubClass r = 1 then c.bump K.hubStarved else c
    let e : HubEntry := { burst := r.next, master := r.master, order := c.hub.grants }
    c'.updHub fun (h : Hub) => { h with
      waits := granted r h.unit h.waits, grants := h.grants + 1,
      queues := upd h.queues (c.subOf (64 * r.next)) fun (q : HubQueue) =>
        if r.write then { q with writes := q.writes ++ [e] } else { q with reads := q.reads ++ [e] } }

/-! ### Issue (R269 to R271, R277) -/

/-- The head read waits for a write of its burst that was accepted before it (R270). -/
def HubQueue.readWaits (q : HubQueue) : Bool :=
  match q.reads with
  | r :: _ => q.writes.any fun (w : HubEntry) => w.burst = r.burst && decide (w.order < r.order)
  | [] => false

/-- The head write waits for a read of its burst that arrived before it (R270). -/
def HubQueue.writeWaits (q : HubQueue) : Bool :=
  match q.writes with
  | w :: _ => q.reads.any fun (r : HubEntry) => r.burst = w.burst && decide (r.order < w.order)
  | [] => false

/-- Whether a subchannel that issues writes for a reason goes back to reads (R271). -/
def HubQueue.back (q : HubQueue) (why : WriteWhy) (high low : Nat) : Bool :=
  q.writes.isEmpty || q.writeWaits || (!q.reads.isEmpty && decide (q.writes.length ≤ low)) ||
    (decide (q.writes.length < high) &&
      (match why with
        | .high => false
        | .empty => true
        | .forRead _ => !q.readWaits))

/-- Whether a subchannel that issues reads goes over to writes, and why (R271). -/
def HubQueue.over (q : HubQueue) (high : Nat) : Option WriteWhy :=
  if q.writes.isEmpty || q.writeWaits then none
  else if high ≤ q.writes.length then some .high
  else if q.reads.isEmpty then some .empty
  else if q.readWaits then some (.forRead ((q.reads.head?.map fun (r : HubEntry) => r.order).getD 0))
  else none

/-- The queue after the switch that is due. -/
def HubQueue.turned (q : HubQueue) (high low : Nat) : HubQueue :=
  let q := match q.why with
    | some w => if q.back w high low then { q with why := none } else q
    | none => q
  match q.why with
  | some _ => q
  | none => { q with why := q.over high }

/-- The number of the bank that a burst lies in, and its row. -/
def Core.bankOf (c : Core) (burst : Nat) : Nat × Nat :=
  let p := c.dramPlace (64 * burst)
  (32 * p.rank + 4 * p.bg + p.bank, p.row)

/-- What an access of a row does to its bank (R277): none when its activate has to wait. -/
def HubBank.access (b : HubBank) (row now window limit spacing : Nat) : Option HubBank :=
  if b.row = some row then some b
  else
    let b := if b.window = window then b else { b with window := window, count := 0, hit := false }
    if decide (limit ≤ b.count) && decide (now < b.lastAt + spacing) then none
    else
      let rfm := match Config.raaimt with
        | some k => decide (k ≤ b.rolling + 1)
        | none => false
      some { b with row := some row, count := b.count + 1, lastAt := now, hit := b.hit || decide (limit ≤ b.count + 1),
                    rolling := if rfm then 0 else b.rolling + 1, rfms := b.rfms + b2n rfm }

/-- A burst of subchannel s is issued, when its bank lets it. -/
def hubIssueOf (s : Nat) (e : HubEntry) (rest : HubQueue) (c : Core) : Core :=
  let (k, row) := c.bankOf e.burst
  let b := sget {} rest.banks k
  match b.access row c.clock (c.clock / c.refreshNs s) (c.get K.hubActThrottle) (c.get K.hubActSpacing) with
  | none => c.updHub fun (h : Hub) => { h with queues := upd h.queues s fun (q : HubQueue) =>
      { q with why := rest.why, waited := rest.waited } }
  | some b' =>
    let c' := if b'.hit && (!b.hit || b.window != b'.window) then c.bump K.hubThrottleEvents else c
    c'.updHub fun (h : Hub) => { h with queues := upd h.queues s fun (_ : HubQueue) =>
      { rest with freeAt := h.unit + 2, banks := sput {} rest.banks k b' } }

/-- Subchannel s issues its next burst, when it is free: a burst takes two age units of its half of the bus. -/
def hubIssue (s : Nat) (c : Core) : Core :=
  let q := nth c.hub.queues s
  if (q.reads.isEmpty && q.writes.isEmpty) || decide (c.hub.unit < q.freeAt) then c
  else
    let waits := q.readWaits
    let c := if waits && !q.waited then c.bump K.hubRawWaits else c
    let q := { q with waited := waits }.turned (c.get K.hubWqHigh) (c.get K.hubWqLow)
    match q.why, q.reads, q.writes with
    | some _, _, w :: l => hubIssueOf s w { q with writes := l } c
    | none, r :: l, _ =>
      if waits then c.updHub fun (h : Hub) => { h with queues := upd h.queues s fun (_ : HubQueue) => q }
      else hubIssueOf s r { q with reads := l, waited := false } c
    | _, _, _ => c

/-! ### Age units -/

/-- A request that waits or has been granted and not issued panics (R274). -/
def Core.anyPanic (c : Core) : Bool :=
  c.hub.waits.any (fun (r : HubReq) => c.masterPanics r.master) ||
    c.hub.queues.any fun (q : HubQueue) => (q.reads ++ q.writes).any fun (e : HubEntry) => c.masterPanics e.master

/-- One age unit: PANIC_UNITS, the grants of the four arbiters, the issues of the eight subchannels. -/
def hubUnit (c : Core) : Core :=
  let c := if c.anyPanic then c.bump K.hubPanicUnits else c
  let c := (List.range 4).foldl (fun (c : Core) (ch : Nat) => hubGrant ch c) c
  let c := (List.range 8).foldl (fun (c : Core) (s : Nat) => hubIssue s c) c
  c.updHub fun (h : Hub) => { h with unit := h.unit + 1 }

/-- n age units. -/
def hubUnits : Nat → Core → Core
  | 0, c => c
  | n + 1, c => hubUnits n (hubUnit c)

/-- Whether anything waits for an arbiter or in a queue. -/
def Core.hubBusy (c : Core) : Bool :=
  !c.hub.waits.isEmpty || c.hub.queues.any fun (q : HubQueue) => !q.reads.isEmpty || !q.writes.isEmpty

/-- The age units of a 200 MHz cycle: one every 4 CK, SPEED / 8 of them in a microsecond (R257). -/
def hubTick (c : Core) : Core :=
  if !(c.hubOn && c.hub.granted) || c.hub.retrain then c
  else
    let part := c.hub.unitPart + 5 * c.hub.cfg.1
    let c := c.updHub fun (h : Hub) => { h with
      unitPart := part % 8000, panics := (List.range 8).map fun (n : Nat) => c.panicOf n }
    let c := if c.hubBusy then hubUnits (part / 8000) c
      else c.updHub fun (h : Hub) => { h with unit := h.unit + part / 8000 }
    (List.range 8).foldl (fun (c : Core) (s : Nat) =>
      if nth c.hub.postponed s != 0 && !c.headPanics s then refreshIssue s c else c) c

end Sys2Proof.Machine
end

