-- ==== Sys2Proof/Machine/HostIf.lean ====
section
/-! DEFINITION. Sys2Proof/Machine/HostIf.lean: the PCIe host interface (R284 to R297, R309): resets and link, BAR2, the
mailbox registers, the host's side of the rings, MSI-X, and the register writes of BAR0 and BAR4. -/

namespace Sys2Proof.Machine

/-- A ring changed. -/
def Core.updRing (c : Core) (k : Nat) (f : Ring → Ring) : Core := { c with rings := upd c.rings k f }

/-- Whether ring k goes from the host to the device (R24). -/
def ringToDevice (k : Nat) : Bool := (decide (k < 48) && decide (k % 6 = 0)) || (decide (48 ≤ k) && decide (k ≤ 51))

/-! ### Link and resets -/

/-- DEV.ADM_HOST_LINK for a generation and width, in MB/s (R219). -/
def hostLink (gen width : Nat) : Nat :=
  (if gen = 5 then 26000 else if gen = 4 then 13000 else if gen = 3 then 6500 else 0) * width / 8

/-- PCIE_LINK_UP (R284): the link trains at a generation up to PCIE.MAX_GEN. -/
def pcieLinkUp (gen width : Nat) (c : Core) : Core :=
  if decide (3 ≤ gen) && decide (gen ≤ c.get K.pcieMaxGen) && [1, 2, 4, 8].contains width then
    let c := { c with pcieCfg := { c.pcieCfg with retry := false } }
    ((c.set K.pcieLinkGen gen).set K.pcieLinkWidth width).set K.devAdmHostLink (hostLink gen width)
  else c

/-- The link is down. -/
def pcieDown (c : Core) : Core := ((c.set K.pcieLinkGen 0).set K.pcieLinkWidth 0).set K.devAdmHostLink 0

/-- The configuration space after an event of R285. PERST_N resets it and latches PCIE.SUBSYSTEM (R310), a switch of PD_PCIE
loses it; a Function Level Reset keeps Max_Payload_Size, the sticky AER status and what PERST_N latched, and a link that goes
down keeps all (PRESUMED, log 96). -/
def cfgReset (cause : Nat) (c : Core) : PcieCfg :=
  let x := c.pcieCfg
  if cause = 1 then { subsystem := c.get K.pcieSubsystem }
  else if cause = 2 then
    { retry := x.retry, payload := x.payload, aerUncorr := x.aerUncorr, aerCorr := x.aerCorr, subsystem := x.subsystem }
  else if cause = 3 then x
  else { subsystem := x.subsystem }

/-- Every register of BAR0, the MSI-X table and the mailbox takes its reset value; DMA transfers in progress end, a band fetch
among them as an error under R214 (R285). -/
def hostReset (cause : Nat) (c : Core) : Core :=
  let busy := (c.dmas.filter fun (d : Dma) => d.state = 1 || d.state = 3).length
  let fetches := (List.range 16).filter fun (k : Nat) => (nth c.dmas k).intake.isSome && (nth c.dmas k).state = 1
  let c := { c with rings := (List.range 64).map fun (k : Nat) => ({ vec := k } : Ring), vectors := List.replicate 128 {},
                    dmas := (List.range 16).map fun (k : Nat) => ({ vec := 64 + k } : Dma), pcie := {},
                    pcieCfg := cfgReset cause c,
                    clients := c.clients.filter fun (x : Client) => x.transport != 5 }
  let c := (List.range 4).foldl (fun (c : Core) (j : Nat) => codecRingGone j c) c
  let c := ((c.addTo K.dmaResetAborts busy).bump K.pcieResets).raise 0x0740 1 cause
  fetches.foldl (fun (c : Core) (k : Nat) => intakeFailed k c) c

/-- PCIE_AER (R309): an error is logged in the AER capability, an uncorrectable one raised with the whole status register, a
correctable one counted. -/
def pcieAer (status : Nat) (correctable : Bool) (c : Core) : Core :=
  let x := c.pcieCfg
  if correctable then
    { c with pcieCfg := { x with aerCorr := x.aerCorr ||| (status % 2 ^ 32) } }.bump K.pcieCorrErrors
  else
    let s := x.aerUncorr ||| (status % 2 ^ 32)
    ({ c with pcieCfg := { x with aerUncorr := s } }.bump K.pcieUncorrErrors).raise 0x0741 1 s

/-! ### BAR2 -/

/-- Address that BAR2 offset x maps to (R289). -/
def Core.bar2Addr (c : Core) (x : Nat) : Nat := c.get K.pcieBar2Base + x

/-- A BAR2 read is served: poisoned data for an uncorrectable error, all-ones for a refusal (R289). -/
def bar2Serve (m : List Host.Cell) (x len : Nat) (c : Core) : Core :=
  let a := c.bar2Addr x
  let ref := c.refusedIn (burstsOf a len).1 (burstsOf a len).2
  let data := c.readBytes m a len
  let (bad, c) := c.hubRead 0x3C 0 a len
  if ref != [] then c.emit (.completion 2 x (List.replicate len 0xFF#8) false)
  else c.emit (.completion 2 x data bad.isSome)

/-- A BAR2 access waits for the hub. -/
def barHold (w : BarWait) (c : Core) : Core := { c with pcie := { c.pcie with waits := c.pcie.waits ++ [w] } }

/-- BAR2_READ (R289). It waits while no request is granted (R260). -/
def bar2Read (m : List Host.Cell) (x len : Nat) (c : Core) : Core :=
  if 2 ^ 26 < x + len then c else if c.hubWaits then barHold (.read x len) c else bar2Serve m x len c

/-- BAR2_WRITE: posted to DRAM; a poisoned one is discarded and reported through AER as Poisoned TLP Received, bit 12
(R289; PRESUMED, log 15). It waits while no request is granted (R260). -/
def bar2Write (m : List Host.Cell) (x : Nat) (data : List Byte) (poisoned : Bool) (c : Core) : Core × List Host.Cell :=
  if 2 ^ 26 < x + data.length then (c, m)
  else if poisoned then (pcieAer (2 ^ 12) false c, m)
  else if c.hubWaits then (barHold (.write x data) c, m)
  else (c.hubWrite m 0x3C (c.bar2Addr x) data).2

/-- Once the hub no longer makes requests wait, the BAR2 accesses that arrived meanwhile are served, in order. -/
def barServe (c : Core) (m : List Host.Cell) : Core × List Host.Cell :=
  if c.hubWaits then (c, m)
  else
    c.pcie.waits.foldl (fun (s : Core × List Host.Cell) (w : BarWait) =>
      match w with
      | .read x len => (bar2Serve s.2 x len s.1, s.2)
      | .write x data => (s.1.hubWrite s.2 0x3C (s.1.bar2Addr x) data).2)
      ({ c with pcie := { c.pcie with waits := [] } }, m)

/-! ### Global registers -/

/-- A read of the low half of GLB_TIME latches the high half and GLB_POS (R288). -/
def glbLatch (c : Core) : Core := { c with pcie := { c.pcie with timeHi := c.now / 2 ^ 32 % 2 ^ 32, pos := c.stampPos } }

/-! ### Mailbox -/

/-- A write that the mailbox discards (R290). -/
def mbxDiscard (c : Core) : Core := c.bump K.pcieMbxDiscards

/-- MBX_SUBMIT (R290). -/
def mbxSubmit (len : Nat) (c : Core) : Core :=
  if c.pcie.reqBusy || c.pcie.rspReady || len = 0 || decide (16384 < len) then mbxDiscard c
  else { c with pcie := { c.pcie with reqBusy := true, reqLen := len } }

/-- MBX_RSP_ACK (R290). -/
def mbxRspAck (c : Core) : Core := { c with pcie := { c.pcie with rspReady := false } }

/-- A write of MBX_REQ bytes (R290). -/
def mbxReqWrite (off size v : Nat) (c : Core) : Core :=
  if c.pcie.reqBusy || c.pcie.rspReady then mbxDiscard c
  else { c with pcie := { c.pcie with req := sputs 0#8 c.pcie.req off (bytesLE size v) } }

/-- A write of MBX_VEC (R290, R296). -/
def mbxVec (v : Nat) (c : Core) : Core :=
  let v := v % 256
  if decide (128 ≤ v) && decide (v ≤ 254) then mbxDiscard c else { c with pcie := { c.pcie with mbxVec := v } }

/-- The request message that waits in the mailbox. -/
def Core.mbxMsg (c : Core) : List Byte := sgets 0#8 c.pcie.req 0 c.pcie.reqLen

/-- The server has answered the mailbox, or discarded the message (R290). -/
def mbxAnswer (rsp : Option (List Byte)) (c : Core) : Core :=
  match rsp with
  | some r => ({ c with pcie := { c.pcie with reqBusy := false, rspReady := true, rsp := r } }).signal c.pcie.mbxVec
  | none => mbxDiscard { c with pcie := { c.pcie with reqBusy := false } }

/-! ### Rings -/

/-- RING_ENABLE (R291). -/
def ringEnable (k v : Nat) (c : Core) : Core :=
  let r := nth c.rings k
  let size := v % 32
  if r.enable || !(decide (4 ≤ size) && decide (size ≤ 16)) || !v.testBit 31 then c
  else
    let c := if 48 ≤ k && k ≤ 51 then codecRingGone (k - 48) c else c
    c.updRing k fun (x : Ring) => { x with enable := true, size := size, prod := 0, cons := 0, overflowed := false }

/-- RING_DISABLE (R291). -/
def ringDisable (k : Nat) (c : Core) : Core := c.updRing k fun (x : Ring) => { x with enable := false }

/-- A write of RING_CFG (R291): ENABLE, and the size while ENABLE is 0. -/
def ringCfg (k v : Nat) (c : Core) : Core :=
  let r := nth c.rings k
  let size := v % 32
  if r.enable then (if v.testBit 31 then c else ringDisable k c)
  else if !(decide (4 ≤ size) && decide (size ≤ 16)) then c
  else if v.testBit 31 then ringEnable k v c
  else c.updRing k fun (x : Ring) => { x with size := size }

/-- Entry size of a ring in bytes. -/
def ringEntrySize (k : Nat) : Nat := if ringToDevice k then 64 else 32

/-- The read of the entry at RING_CONS goes out, when there is one to read (R293). -/
def ringFetch (k : Nat) (c : Core) : Core :=
  let r := nth c.rings k
  if ringToDevice k && r.enable && !r.readFailed && r.cons != r.prod then
    c.emit (.hostRead k (r.base + r.cons % 2 ^ r.size * 64) 64)
  else c

/-- A doorbell that is discarded (R292). -/
def ringDbBad (k v : Nat) (c : Core) : Core :=
  (c.updRing k fun (x : Ring) => { x with dbErrs := satU 32 (x.dbErrs + 1) }).raise 0x0743 1 (2 ^ 56 * k + v % 2 ^ 32)

/-- RING_DB (R292, R293). -/
def ringDb (k v : Nat) (c : Core) : Core :=
  let r := nth c.rings k
  let v := v % 2 ^ 32
  let d := (v + (2 ^ 32 - r.cons)) % 2 ^ 32
  if !r.enable then ringDbBad k v c
  else if ringToDevice k then
    if 2 ^ r.size < d then ringDbBad k v c
    else if v = r.prod && !r.readFailed then c
    else ringFetch k (c.updRing k fun (x : Ring) => { x with prod := v, readFailed := false })
  else if (r.prod + (2 ^ 32 - r.cons)) % 2 ^ 32 < d then ringDbBad k v c
  else c.updRing k fun (x : Ring) =>
    { x with cons := v, overflowed := x.overflowed && decide (2 ^ x.size ≤ (x.prod + (2 ^ 32 - v)) % 2 ^ 32) }

/-- RING_ENTRY_READ: the read of the entry at RING_CONS completes; err is 0, or the kind 1 to 4 of its failure (R293).
Entries of a band-submission ring wait for the channel, those of a codec ring for a compressor. -/
def ringEntryRead (k : Nat) (data : List Byte) (err : Nat) (c : Core) : Core :=
  let r := nth c.rings k
  if ringToDevice k && r.enable && !r.readFailed && r.cons != r.prod then
    if err = 0 then
      let cons := (r.cons + 1) % 2 ^ 32
      let c := (c.updRing k fun (x : Ring) => { x with cons := cons }).ringShadow k cons
      let e := padTo 64 data
      let c := if k < 48 then { c with jobs := upd c.jobs (k / 6) fun (x : ChJob) => { x with entries := x.entries ++ [e] } }
        else codecRead (k - 48) e c
      ringFetch k c
    else
      (c.updRing k fun (x : Ring) => { x with readFailed := true }).raise 0x0744 1
        (2 ^ 56 * k + 2 ^ 48 * min err 4 + r.cons)
  else c

/-- RING_INTERRUPT_DUE: the count or the timer of RING_MOD is reached (R296). -/
def ringInterruptDue (k : Nat) (c : Core) : Core :=
  let r := nth c.rings k
  let byTime := r.modTimer != 0 && decide (r.firstAt + r.modTimer * 1000 ≤ c.clock)
  if r.since != 0 && (decide (max 1 r.modCount ≤ r.since) || byTime) then
    (c.updRing k fun (x : Ring) => { x with since := 0 }).signal r.vec
  else c

/-- MSIX_UNMASK: a vector is unmasked; a pending message is delivered (R296). -/
def msixUnmask (v : Nat) (c : Core) : Core :=
  let e := nth c.vectors v
  let c := { c with vectors := upd c.vectors v fun (x : Vector) => { x with masked := false, pending := false } }
  if e.pending then c.signal v else c

/-! ### Register writes -/

/-- The bytes of a 64-bit register with a 4- or 8-byte write at offset off of it. -/
def regMerge (old off size v : Nat) : Nat := spliceLE old off size v % 2 ^ 64

/-- A write in the register block of ring k, at offset off of it (R291). -/
def ringRegWrite (k off size v : Nat) (c : Core) : Core :=
  let r := nth c.rings k
  let half := fun (base old : Nat) => regMerge old (off - base) size v
  if decide (off < 8) then
    let b := half 0 r.base
    if r.enable || b % 64 != 0 then c else c.updRing k fun (x : Ring) => { x with base := b }
  else if off = 8 then ringCfg k (v % 2 ^ 32) c
  else if off = 12 then
    let w := v % 256
    if decide (128 ≤ w) && decide (w ≤ 254) then c else c.updRing k fun (x : Ring) => { x with vec := w }
  else if decide (0x18 ≤ off) && decide (off < 0x20) then
    let s := half 0x18 r.shadow
    if s % 8 != 0 then c else c.updRing k fun (x : Ring) => { x with shadow := s }
  else if off = 0x20 then c.updRing k fun (x : Ring) => { x with modTimer := field v 31 16, modCount := field v 15 0 }
  else if off = 0x24 then (if v % 2 ^ 32 = 0 then c.updRing k fun (x : Ring) => { x with dropped := 0 } else c)
  else if off = 0x2C then (if v % 2 ^ 32 = 0 then c.updRing k fun (x : Ring) => { x with dbErrs := 0 } else c)
  else c

/-- A write in the register block of DMA channel k, at offset off of it (R297, R298): to one that the intake owns, a bad write
whatever it names. -/
def dmaRegWrite (k off size v : Nat) (c : Core) : Core :=
  if c.dmaOwned k then dmaBadWrite c
  else if decide (off < 8) then dmaHeadWrite k (regMerge (nth c.dmas k).head off size v) c
  else if off = 8 then dmaCtrl k v c
  else if off = 0x1C then dmaHopLimit k v c
  else if off = 0x20 then dmaVec k v c
  else c

/-- A write in the MSI-X table (R288, R296): address, data and the mask bit of entry e. -/
def msixWrite (e off size v : Nat) (c : Core) : Core :=
  let x := nth c.vectors e
  if decide (off < 8) then
    let a := regMerge x.addr off size v
    { c with vectors := upd c.vectors e fun (y : Vector) => { y with addr := a } }
  else
    let whole := spliceLE (x.data + 2 ^ 32 * b2n x.masked) (off - 8) size v
    let c := { c with vectors := upd c.vectors e fun (y : Vector) => { y with data := whole % 2 ^ 32 } }
    if whole.testBit 32 then { c with vectors := upd c.vectors e fun (y : Vector) => { y with masked := true } }
    else if x.masked then msixUnmask e c else c

/-- A 4-byte write at an aligned offset of BAR0, or an 8-byte write to a 64-bit register or an MSI-X entry. -/
def bar0Reg (off size v : Nat) (c : Core) : Core :=
  if decide (0x18 ≤ off) && decide (off < 0x20) then
    { c with pcie := { c.pcie with scratch := regMerge c.pcie.scratch (off - 0x18) size v } }
  else if decide (0x10000 ≤ off) && decide (off < 0x11000) then ringRegWrite ((off - 0x10000) / 64) (off % 64) size v c
  else if decide (0x20000 ≤ off) && decide (off < 0x20100) then ringDb ((off - 0x20000) / 4) v c
  else if decide (0x30000 ≤ off) && decide (off < 0x31000) then dmaRegWrite ((off - 0x30000) / 256) (off % 256) size v c
  else if decide (0x31000 ≤ off) && decide (off < 0x31040) then dmaKick ((off - 0x31000) / 4) c
  else if decide (0x200000 ≤ off) && decide (off < 0x200800) then msixWrite ((off - 0x200000) / 16) (off % 16) size v c
  else c

/-- A 4-byte write at an aligned offset of BAR4 (R290). -/
def bar4Reg (off size v : Nat) (c : Core) : Core :=
  if off < 0x4000 then mbxReqWrite off size v c
  else if off = 0x8000 then mbxSubmit (v % 2 ^ 32) c
  else if off = 0x800C then mbxRspAck c
  else if off = 0x8010 then mbxVec v c
  else c

/-- Whether an 8-byte write at an offset takes effect as one write: a 64-bit register, the MSI-X table or MBX_REQ. -/
def wideReg (bar off : Nat) : Bool :=
  if bar = 0 then
    off = 0x18 || (decide (0x10000 ≤ off) && decide (off < 0x11000) && (off % 64 = 0 || off % 64 = 0x18)) ||
      (decide (0x30000 ≤ off) && decide (off < 0x31000) && off % 256 = 0) ||
      (decide (0x200000 ≤ off) && decide (off < 0x200800))
  else decide (off < 0x4000)

/-! ### Configuration space (R284 to R286) -/

/-- The command and address registers of the configuration space lie at the offsets of the base specification's header; the
control and status registers of its capabilities, to which no rule gives an offset, at ones of the model: power management at
0x44, MSI-X at 0x50, Device Control at 0x68, AER status at 0x104 and 0x110 (DESIGN CHOICE, log 95). -/
def cfgWrite (off v : Nat) (c : Core) : Core :=
  let x := c.pcieCfg
  let half := fun (old base sizeBits : Nat) => spliceLE old (off - base) 4 v / 2 ^ sizeBits * 2 ^ sizeBits % 2 ^ 64
  let put := fun (y : PcieCfg) => { c with pcieCfg := y }
  if x.retry then c
  else if off = 4 then put { x with command := v % 2 ^ 11 }
  else if off = 0x10 || off = 0x14 then put { x with bar0 := half x.bar0 0x10 22 }
  else if off = 0x18 || off = 0x1C then put { x with bar2 := half x.bar2 0x18 26 }
  else if off = 0x20 || off = 0x24 then put { x with bar4 := half x.bar4 0x20 16 }
  else if off = 0x44 then (if v % 4 = 0 || v % 4 = 3 then put { x with power := v % 4 } else c)
  else if off = 0x50 then
    let c := put { x with msixOn := v.testBit 31, msixMask := v.testBit 30 }
    if x.msixMask && !v.testBit 30 then
      (List.range 128).foldl (fun (c : Core) (e : Nat) =>
        if (nth c.vectors e).pending && !(nth c.vectors e).masked then msixUnmask e c else c) c
    else c
  else if off = 0x68 then put { x with payload := min 2 (field v 7 5), readReq := min 5 (field v 14 12) }
  else if off = 0x104 then put { x with aerUncorr := x.aerUncorr &&& (2 ^ 32 - 1 - v % 2 ^ 32) }
  else if off = 0x110 then put { x with aerCorr := x.aerCorr &&& (2 ^ 32 - 1 - v % 2 ^ 32) }
  else c

/-- BAR0_WRITE: a register write in BAR0 or BAR4 (R287): naturally aligned, of 4 or 8 bytes, or discarded. An 8-byte write
over two 32-bit registers writes both, the lower first. Window 6 is the configuration space, written by 4 bytes. -/
def bar0Write (bar off size v : Nat) (c : Core) : Core :=
  let one := fun (o s w : Nat) (c : Core) => if bar = 0 then bar0Reg o s w c else bar4Reg o s w c
  if bar = 6 then (if size = 4 && off % 4 = 0 then cfgWrite off (v % 2 ^ 32) c else c)
  else if !(bar = 0 || bar = 4) || !(size = 4 || size = 8) || off % max 1 size != 0 then c
  else if size = 8 && !wideReg bar off then one (off + 4) 4 (v / 2 ^ 32 % 2 ^ 32) (one off 4 (v % 2 ^ 32) c)
  else one off size (v % 256 ^ size) c

/-! ### The intake's channels -/

/-- DMA_ERROR (R306): a host read of the descriptor in progress fails; a band fetch so ended is an error under R214. -/
def dmaHostError (k kind typ addr : Nat) (c : Core) (m : List Host.Cell) : Core × List Host.Cell :=
  let intake := (nth c.dmas k).intake.isSome
  let (c, m) := dmaError k kind typ addr c m
  (if intake && (nth c.dmas k).state = 4 then intakeFailed k c else c, m)

end Sys2Proof.Machine
end

