-- ==== Sys2Proof/Machine/BarRead.lean ====
section
/-! DEFINITION. Sys2Proof/Machine/BarRead.lean: what the host reads in BAR0, BAR4 and the configuration space (R284, R286 to
R291, R297, R309), by GLB_TIME_READ and by BAR0_WRITE. -/

namespace Sys2Proof.Machine

/-- A register of 32 bits as the host reads it: the value, and the bits whose value is undefined (R11, R288). -/
abbrev RegView := Nat × Nat

/-- An offset at which nothing is to be read: reserved, or write-only (R287, R288). -/
def regOpen : RegView := (0, 2 ^ 32 - 1)

/-- Half of a 64-bit register: the lower at an offset that is a multiple of 8. -/
def regHalf (v off : Nat) : Nat := v / 2 ^ (8 * (off % 8)) % 2 ^ 32

/-- The registers of ring k at offset off of their block (R291). -/
def Core.ringView (c : Core) (k off : Nat) : RegView :=
  let r := nth c.rings k
  if off < 8 then (regHalf r.base off, 0)
  else if off = 8 then (r.size + 2 ^ 31 * b2n r.enable, 2 ^ 31 - 2 ^ 5)
  else if off = 0x0C then (r.vec, 2 ^ 32 - 2 ^ 8)
  else if off = 0x10 then (r.prod, 0)
  else if off = 0x14 then (r.cons, 0)
  else if off = 0x18 || off = 0x1C then (regHalf r.shadow off, 0)
  else if off = 0x20 then (2 ^ 16 * r.modTimer + r.modCount, 0)
  else if off = 0x24 then (r.dropped, 0)
  else if off = 0x28 then (r.seq, 0)
  else if off = 0x2C then (r.dbErrs, 0)
  else regOpen

/-- DMA_STATUS of channel k without its reserved bits: the kind of the capture, OWNED, KICK_LATCHED and the state (R297). -/
def Core.dmaStatus (c : Core) (k : Nat) : Nat :=
  let d := nth c.dmas k
  2 ^ 24 * (d.errInfo / 2 ^ 24 % 256) + 2 ^ 9 * b2n (c.dmaOwned k) + 2 ^ 8 * b2n d.kick + d.state

/-- The registers of DMA channel k at offset off of their block (R297). -/
def Core.dmaView (c : Core) (k off : Nat) : RegView :=
  let d := nth c.dmas k
  if off = 0 then (d.head % 2 ^ 32, 0x3D)
  else if off = 4 then (d.head / 2 ^ 32, 0)
  else if off = 0x0C then (c.dmaStatus k, 2 ^ 24 - 2 ^ 10 + (2 ^ 8 - 2 ^ 3))
  else if off = 0x10 then (d.cur % 2 ^ 32, 0x3D)
  else if off = 0x14 then (d.cur / 2 ^ 32, 0)
  else if off = 0x18 then (d.hops % 2 ^ 32, 0)
  else if off = 0x1C then (d.hopLimit, 0)
  else if off = 0x20 then (d.vec, 2 ^ 32 - 2 ^ 8)
  else if off = 0x28 || off = 0x2C then (regHalf d.bytes off, 0)
  else if off = 0x30 || off = 0x34 then (regHalf d.errAddr off, 0)
  else if off = 0x38 then (d.errInfo, 0xFF00)
  else if off = 0x40 || off = 0x44 then (regHalf d.errTime off, 0)
  else regOpen

/-- An entry of the MSI-X table: address, data, and the mask bit (R288, R296). -/
def Core.vectorView (c : Core) (e off : Nat) : RegView :=
  let v := nth c.vectors e
  if off < 8 then (regHalf v.addr off, 0) else if off = 8 then (v.data, 0) else (b2n v.masked, 2 ^ 32 - 2)

/-- 32 bits of the MSI-X pending bit array from vector e on. -/
def Core.pendingView (c : Core) (e : Nat) : RegView :=
  ((List.range 32).foldl (fun (a i : Nat) => a + 2 ^ i * b2n (nth c.vectors (e + i)).pending) 0, 0)

/-- BAR0 at an aligned offset (R288). -/
def Core.bar0View (c : Core) (off : Nat) : RegView :=
  if off = 0 then (0x816001B2, 0)
  else if off = 8 then (c.now % 2 ^ 32, 0)
  else if off = 0x0C then (c.pcie.timeHi, 0)
  else if off = 0x10 then (c.pcie.pos % 2 ^ 32, 0)
  else if off = 0x14 then (c.pcie.pos / 2 ^ 32 % 2 ^ 16, 2 ^ 32 - 2 ^ 16)
  else if off = 0x18 || off = 0x1C then (regHalf c.pcie.scratch off, 0)
  else if decide (0x10000 ≤ off) && decide (off < 0x11000) then c.ringView ((off - 0x10000) / 64) (off % 64)
  else if decide (0x30000 ≤ off) && decide (off < 0x31000) then c.dmaView ((off - 0x30000) / 256) (off % 256)
  else if decide (0x200000 ≤ off) && decide (off < 0x200800) then c.vectorView ((off - 0x200000) / 16) (off % 16)
  else if decide (0x201000 ≤ off) && decide (off < 0x201010) then c.pendingView (8 * (off - 0x201000))
  else regOpen

/-- MBX_STATUS without its reserved bits (R290). -/
def Core.mbxStatus (c : Core) : Nat := 2 * b2n c.pcie.rspReady + b2n c.pcie.reqBusy

/-- BAR4 at an aligned offset (R290): of MBX_RSP the bytes beyond MBX_RSP_LEN are undefined. -/
def Core.bar4View (c : Core) (off : Nat) : RegView :=
  if decide (0x4000 ≤ off) && decide (off < 0x8000) then
    let l := slice c.pcie.rsp (off - 0x4000) 4
    (natLE l, 2 ^ 32 - 2 ^ (8 * min 4 l.length))
  else if off = 0x8004 then (c.pcie.rsp.length, 0)
  else if off = 0x8008 then (c.mbxStatus, 2 ^ 32 - 4)
  else if off = 0x8010 then (c.pcie.mbxVec, 2 ^ 32 - 2 ^ 8)
  else regOpen

/-- The configuration space at an aligned offset: identity (R284, R310, R461), the three 64-bit memory BARs, BAR2 prefetchable
(R286), and the registers of PcieCfg at the offsets of cfgWrite (log 95). -/
def Core.cfgView (c : Core) (off : Nat) : RegView :=
  let x := c.pcieCfg
  if off = 0 then (0x8160 * 2 ^ 16 + c.get K.devVendorId, 0)
  else if off = 4 then (x.command, 2 ^ 32 - 2 ^ 11)
  else if off = 8 then (0x118000B2, 0)
  else if off = 0x10 || off = 0x14 then (regHalf (x.bar0 + 0x4) (off - 0x10), 0)
  else if off = 0x18 || off = 0x1C then (regHalf (x.bar2 + 0xC) (off - 0x18), 0)
  else if off = 0x20 || off = 0x24 then (regHalf (x.bar4 + 0x4) (off - 0x20), 0)
  else if off = 0x2C then
    (2 ^ 16 * (x.subsystem % 2 ^ 16) + (if x.subsystem / 2 ^ 16 = 0 then c.get K.devVendorId else x.subsystem / 2 ^ 16), 0)
  else if off = 0x3C then (0, 2 ^ 32 - 1 - 0xFF00)
  else if off = 0x44 then (x.power, 2 ^ 32 - 4)
  else if off = 0x50 then (2 ^ 31 * b2n x.msixOn + 2 ^ 30 * b2n x.msixMask + 2 ^ 16 * 127, 2 ^ 30 - 2 ^ 27 + 0xFFFF)
  else if off = 0x68 then (2 ^ 12 * x.readReq + 2 ^ 5 * x.payload, 2 ^ 32 - 1 - 0x70E0)
  else if off = 0x104 then (x.aerUncorr, 0)
  else if off = 0x110 then (x.aerCorr, 0)
  else regOpen

/-- The register at an aligned offset of a window: BAR0, BAR4, or 6 for the configuration space. -/
def Core.regView (c : Core) (bar off : Nat) : RegView :=
  if bar = 0 then c.bar0View off else if bar = 4 then c.bar4View off else c.cfgView off

/-- The four bytes that a read of a register delivers; undefined bits are free. -/
def regBytes (bar off : Nat) (c : Core) : List Byte × Core :=
  let (v, mask) := c.regView bar off
  if mask = 0 then (bytesLE 4 v, c)
  else
    let (w, c) := c.freeVal 32
    (bytesLE 4 ((v &&& (2 ^ 32 - 1 - mask)) ||| (w &&& mask)), c)

/-- A read of a register of BAR0 or BAR4, naturally aligned and of 4 or 8 bytes; any other returns undefined data, and every
completion is successful (R287). The read of the low half of GLB_TIME latches its high half and GLB_POS (R288). Window 6 is the
configuration space, which completes with Retry Status, without data, until the link is up (R285). -/
def barRead (bar off size : Nat) (c : Core) : Core :=
  if !(bar = 0 || bar = 4 || bar = 6) then c
  else if bar = 6 && c.pcieCfg.retry then c.emit (.completion bar off [] false)
  else if !(size = 4 || size = 8) || off % max 1 size != 0 then
    let (l, c) := freeBytes size c
    c.emit (.completion bar off l false)
  else
    let c := if bar = 0 && off = 8 then glbLatch c else c
    let (lo, c) := regBytes bar off c
    let (hi, c) := if size = 8 then regBytes bar (off + 4) c else ([], c)
    c.emit (.completion bar off (lo ++ hi) false)

/-- BAR0_WRITE, and the reads that have no row of their own: a window number above 7 is a read of that less 8 (log 95). -/
def barAccess (bar off size v : Nat) (c : Core) : Core :=
  if 8 ≤ bar then barRead (bar - 8) off size c else bar0Write bar off size v c

end Sys2Proof.Machine
end

