-- ==== Sys2Proof/Machine/Sha.lean ====
section
/-! DEFINITION. Sys2Proof/Machine/Sha.lean: SHA-256, which R397 and R465 name. The function itself is that of FIPS 180-4
(PRESUMED, log 12); its constants are computed from the roots of primes that define them. -/

namespace Sys2Proof.Machine

/-- The largest number of the given number of bits, the leading ones as in `top`, whose e-th power is at most v. -/
def rootBelow (e v : Nat) : Nat → Nat → Nat
  | 0, top => top
  | bit + 1, top => rootBelow e v bit (if (top + 2 ^ bit) ^ e ≤ v then top + 2 ^ bit else top)

/-- The first 32 fractional bits of the e-th root of p, for a root below 32. -/
def rootFraction (e p : Nat) : Nat := rootBelow e (p * 2 ^ (32 * e)) 37 0 % 2 ^ 32

/-- The primes below n. -/
def primesBelow (n : Nat) : List Nat :=
  (List.range n).filter fun (p : Nat) => decide (2 ≤ p) && !(List.range p).any fun (q : Nat) => decide (2 ≤ q) && p % q = 0

/-- The 64 constants of the steps: from the cube roots of the primes up to 311. -/
def shaStepConstants : List Nat := (primesBelow 312).map (rootFraction 3)

/-- A digest in the making: its eight words, each below 2^32, the first in `w0`. -/
structure Digest where
  w0 : Nat
  w1 : Nat
  w2 : Nat
  w3 : Nat
  w4 : Nat
  w5 : Nat
  w6 : Nat
  w7 : Nat
deriving DecidableEq, Repr

/-- The digest of nothing: from the square roots of the eight primes below 20. -/
def Digest.start : Digest :=
  match (primesBelow 20).map (rootFraction 2) with
  | [a, b, c, d, e, f, g, h] => ⟨a, b, c, d, e, f, g, h⟩
  | _ => ⟨0, 0, 0, 0, 0, 0, 0, 0⟩

/-- Exclusive-or of a word turned right by each of some distances; a distance of 32 and more stands for a shift by that less
32, which drops bits. -/
def mixTurns (v : Nat) (by_ : List Nat) : Nat :=
  by_.foldl (fun (acc d : Nat) =>
    acc ^^^ (if d < 32 then (v + 2 ^ 32 * v) / 2 ^ d % 2 ^ 32 else v / 2 ^ (d - 32))) 0

/-- The words of a block's schedule behind those in `last`, the sixteen latest with the latest first: n of them. -/
def scheduleFrom (last : List Nat) : Nat → List Nat
  | 0 => []
  | n + 1 =>
    let word := (mixTurns (last.getD 1 0) [17, 19, 32 + 10] + last.getD 6 0 + mixTurns (last.getD 14 0) [7, 18, 32 + 3] +
      last.getD 15 0) % 2 ^ 32
    word :: scheduleFrom (word :: last.take 15) n

/-- One step: `add` is the sum of the step's constant and its word of the schedule. Each bit of w4 selects that of w5 or of
w6; the majority of w0, w1 and w2 is what two of them share. -/
def Digest.stepWith (x : Digest) (add : Nat) : Digest :=
  let select := (x.w4 &&& x.w5) + (x.w6 - (x.w6 &&& x.w4))
  let major := (x.w0 &&& x.w1) ||| (x.w2 &&& (x.w0 ||| x.w1))
  let fresh := x.w7 + mixTurns x.w4 [6, 11, 25] + select + add
  { w0 := (fresh + mixTurns x.w0 [2, 13, 22] + major) % 2 ^ 32, w1 := x.w0, w2 := x.w1, w3 := x.w2,
    w4 := (x.w3 + fresh) % 2 ^ 32, w5 := x.w4, w6 := x.w5, w7 := x.w6 }

/-- The sum of two digests, word by word. -/
def Digest.plus (x y : Digest) : Digest :=
  let s := fun (a b : Nat) => (a + b) % 2 ^ 32
  ⟨s x.w0 y.w0, s x.w1 y.w1, s x.w2 y.w2, s x.w3 y.w3, s x.w4 y.w4, s x.w5 y.w5, s x.w6 y.w6, s x.w7 y.w7⟩

/-- The digest after one more block of 64 bytes. -/
def Digest.absorb (x : Digest) (block : List Byte) : Digest :=
  let first := (List.range 16).map fun (i : Nat) => beAt block (4 * i) 4
  let words := first ++ scheduleFrom first.reverse 48
  x.plus ((List.zipWith (fun (k w : Nat) => k + w) shaStepConstants words).foldl Digest.stepWith x)

/-- The digest after n blocks from the front of a byte string. -/
def Digest.absorbAll (l : List Byte) (x : Digest) (n : Nat) : Digest :=
  (List.range n).foldl (fun (x : Digest) (i : Nat) => x.absorb (slice l (64 * i) 64)) x

/-- SHA-256 of a byte string, as 32 bytes: the string is closed by a bit 1 and its length in bits, with zeros between that make
it whole blocks. -/
def sha256 (l : List Byte) : List Byte :=
  let n := (l.length + 8) / 64 + 1
  let whole := padTo (64 * n - 8) (l ++ [0x80#8]) ++ bytesBE 8 (8 * l.length)
  let x := Digest.start.absorbAll whole n
  [x.w0, x.w1, x.w2, x.w3, x.w4, x.w5, x.w6, x.w7].flatMap (bytesBE 4)

end Sys2Proof.Machine
end

