-- ==== Sys2Proof/Machine/Quadrille.lean ====
section
/-! DEFINITION. Sys2Proof/Machine/Quadrille.lean: the Quadrille (R391 to R401): the shared line, the proposals, the step
records and the steps. -/

namespace Sys2Proof.Machine

/-- The Quadrille's state changed. -/
def Core.updQd (c : Core) (f : Qd → Qd) : Core := { c with qd := f c.qd }

/-- The device takes part: QD.ENABLE is 1, the boot has reached step 9 and PD_FIELD is on (R392, R432). -/
def Core.qdActive (c : Core) : Bool := c.get K.qdEnable = 1 && c.boot.step = 9 && (c.get K.devPdStatus).testBit 4

/-- The word of "no proposal" and of "undecided" (R395). -/
def qdNone : Nat := 0xFF000000

/-- Kind and target of a proposal. -/
def qdKind (word : Nat) : Nat := field word 31 24
def qdTarget (word : Nat) : Nat := field word 23 16

/-- The rank of a proposal of a device in a state (R393). -/
def qdRank (state word : Nat) : Nat :=
  match qdKind word with
  | 0 => 0
  | 1 => if qdTarget word < state then 6 else 1
  | 4 => 7
  | 5 => 2
  | 6 => 6
  | _ => 1

/-- The proposal of this device that its record carries: of those pending the one of highest rank, and of these the oldest. -/
def Core.qdOwn (c : Core) : Option QdProp :=
  c.qd.props.foldl (fun (b : Option QdProp) (p : QdProp) =>
    match b with
    | none => some p
    | some q => if qdRank (c.get K.qdState) q.word < qdRank (c.get K.qdState) p.word then some p else b) none

/-- The peers that are expected, this device left out. -/
def Core.qdPeersOf (c : Core) : List Nat := (bitsOf 8 (c.get K.qdPeers)).filter fun (k : Nat) => k != c.get K.qdAddr

/-- The record held of a peer. -/
def Core.qdRecOf (c : Core) (k : Nat) : Option QdRec := c.qd.recs.find? fun (r : QdRec) => r.addr = k

/-! ### DIGEST (R397) -/

/-- The keys of the press-shared objects, ascending. -/
def Core.sharedKeys (c : Core) : List Nat :=
  let fixed := [K.devMarkMode, K.beamScanFreq, K.alignRefFreq, K.rcstClock, K.rcstApproach, K.rcstResumeSpeed, K.rcstOverrunMax,
    K.rcstDataAhead, K.rcstMaxPasses, K.rcstHoldTimeout, K.timeSnapGrid, K.qdPeers, K.qdTimeTol, K.qdStepTimeout].map
      fun (o : Obj) => o.key
  let listed := ((List.range 64).map fun (i : Nat) => elemAt 32 (c.get K.qdSharedList) i % 2 ^ 24).filter
    fun (k : Nat) => k != 0
  (fixed ++ listed).foldl (fun (l : List Nat) (k : Nat) => markIns k l) []

/-- The values that a COMMIT step would make live: those of the marked scopes. -/
def Core.markedValues (c : Core) : List StagedVal :=
  (bitsOf 9 c.qd.marked).flatMap fun (s : Nat) => c.committable s c.qd.markers

/-- Index, sub-index, type, length and value of one press-shared object. -/
def Core.sharedItem (c : Core) (commit : Bool) (key : Nat) : List Byte :=
  match descOf (key / 256) (key % 256) with
  | none => []
  | some d =>
    let v := match if commit then c.markedValues.find? fun (x : StagedVal) => x.key = key else none with
      | some x => x.value
      | none => c.objValue d
    bytesBE 3 key ++ bytesBE 1 d.typ ++ bytesBE 4 d.obj.bytes ++ wireBytes d.typ d.obj.bytes v

/-- DIGEST of this device for a step. -/
def Core.qdDigestOf (c : Core) (step : Nat) : Nat :=
  natBE ((sha256 (c.sharedKeys.flatMap (c.sharedItem (qdKind step = 7)))).take 8)

/-! ### READY, the winner and the release -/

/-- Whether this device is ready for a step (R393); force marks its own fault move (R399). -/
def Core.qdReady (c : Core) (word : Nat) : Bool :=
  match qdKind word with
  | 1 => c.railReady (qdTarget word) || c.qd.props.any fun (p : QdProp) => p.force && p.word = word
  | 2 => (bitsOf 8 (c.get K.qdArmMask)).all fun (n : Nat) => c.get (K.chState n) = 0 || (!armState c n && !armRange c n)
  | 3 => c.get K.devState = 4
  | 5 => c.get K.rcstPhase = 4
  | 7 => (bitsOf 9 c.qd.marked).all fun (s : Nat) => (c.commitBad (c.committable s c.qd.markers)).isNone
  | _ => true

/-- The better of two proposals, each with its rank and its sender: higher rank, then lower ADDR (R396). -/
def qdBetter (a b : Nat × Nat × Nat) : Nat × Nat × Nat :=
  if a.1 < b.1 || (a.1 = b.1 && b.2.1 < a.2.1) then b else a

/-- The winning proposal and its sender, once a record of every expected peer is held; after a timeout SYNC, of no sender
(R396, R398). own is the proposal that this device carries. -/
def Core.qdWinner (c : Core) (own : Nat) : Option (Nat × Option Nat) :=
  if c.qd.failed then some (0, none)
  else if c.qdPeersOf.all fun (k : Nat) => (c.qdRecOf k).isSome then
    let mine := if own = qdNone then [] else [(qdRank (c.get K.qdState) own, c.get K.qdAddr, own)]
    let theirs := (c.qd.recs.filter fun (r : QdRec) => r.prop != qdNone).map
      fun (r : QdRec) => (qdRank r.state r.prop, r.addr, r.prop)
    match mine ++ theirs with
    | [] => none
    | p :: l =>
      let w := l.foldl qdBetter p
      some (w.2.2, some w.2.1)
  else none

/-- The proposal that this device carries now. After it has released the line, only one that it had carried stays. -/
def Core.qdCarried (c : Core) : Nat :=
  if c.qd.holds then (match c.qdOwn with
    | some p => p.word
    | none => qdNone)
  else match c.qd.sent with
    | some r => if c.qd.props.any fun (p : QdProp) => p.word = r.prop then r.prop else qdNone
    | none => qdNone

/-- The step record of this device as it stands (R395). -/
def Core.qdRecord (c : Core) (rev : Nat) : QdRec :=
  let own := c.qdCarried
  let step := match c.qdWinner own with
    | some w => w.1
    | none => qdNone
  let st := c.get K.timeStatus
  let ready := step != qdNone && c.qdReady step
  { addr := c.get K.qdAddr, stepNo := (c.get K.qdStepNo + 1) % 2 ^ 32, rev := rev, state := c.get K.qdState,
    flags := 128 * b2n ready + 64 * b2n c.qd.joined + 32 * bitN st 0 + 16 * bitN st 2 + 8 * bitN st 1,
    prop := own, step := step, fw := c.nor.running.version, serial := Config.identity K.devUnitSerial.key % 2 ^ 64,
    digest := c.qdDigestOf step, tFall := c.qd.tFall, tRisePrev := c.get K.qdTRise, pFall := c.qd.pFall }

/-- The datagram of a record (R395). -/
def QdRec.bytes (r : QdRec) : List Byte :=
  let body := bytesBE 2 0x5144 ++ bytesBE 1 1 ++ bytesBE 1 r.addr ++ bytesBE 4 r.stepNo ++ bytesBE 2 r.rev ++
    bytesBE 1 r.state ++ bytesBE 1 r.flags ++ bytesBE 4 r.prop ++ bytesBE 4 r.step ++ bytesBE 4 r.fw ++ bytesBE 8 r.serial ++
    bytesBE 8 r.digest ++ bytesBE 8 r.tFall ++ bytesBE 8 r.tRisePrev ++ bytesBE 6 r.pFall ++ bytesBE 2 0
  body ++ bytesBE 4 (crc32 body)

/-- The record that a datagram carries, if its magic, version and CRC are right (R395). -/
def qdParse (l : List Byte) : Option QdRec :=
  if l.length != 68 || beAt l 0 2 != 0x5144 || beAt l 2 1 != 1 || beAt l 64 4 != crc32 (l.take 64) then none
  else some { addr := beAt l 3 1, stepNo := beAt l 4 4, rev := beAt l 8 2, state := beAt l 0x0A 1, flags := beAt l 0x0B 1,
              prop := beAt l 0x0C 4, step := beAt l 0x10 4, fw := beAt l 0x14 4, serial := beAt l 0x18 8,
              digest := beAt l 0x20 8, tFall := beAt l 0x28 8, tRisePrev := beAt l 0x30 8, pFall := beAt l 0x38 6 }

/-- A record is sent to the group (R394, R395). The source port is free (log 101). -/
def qdSend (r : QdRec) (c : Core) : Core :=
  let (from_, c) := (c.updQd fun (q : Qd) => { q with sent := some r, sentAt := c.clock }).freeVal 16
  udpSend (c.get K.qdPort) (c.route (c.get K.qdPort) (c.get K.qdGroup)) (c.get K.qdGroup) from_ 47251 r.bytes c

/-- T_FALL of a peer less one's own (R397). -/
def qdOffset (own r : QdRec) : Int := (r.tFall : Int) - (own.tFall : Int)

/-- A RAIL step whose target is at or below every STATE (R397). -/
def Core.qdDownOk (c : Core) (own : QdRec) : Bool :=
  qdKind own.step = 1 && (own :: c.qd.recs).all fun (r : QdRec) => decide (qdTarget own.step ≤ r.state)

/-- The flags of QD.DIFF for a peer (R397). -/
def Core.qdFlags (c : Core) (own : QdRec) (k : Nat) : Nat :=
  match c.qdRecOf k with
  | none => 1
  | some r =>
    let sync := own.step != qdNone && qdKind own.step = 0
    2 * b2n (!sync && r.state != own.state && !c.qdDownOk own) + 4 * b2n (!sync && r.digest != own.digest) +
      8 * b2n (!sync && r.fw != own.fw) +
      16 * b2n (decide ((c.get K.qdTimeTol : Int) < qdOffset own r) || decide (qdOffset own r < -(c.get K.qdTimeTol : Int))) +
      32 * b2n (own.step = qdNone || r.step != own.step) + 64 * b2n (!r.flags.testBit 7)

/-- QD.DIFF, QD.PEER_OFFSET and QD_DISAGREE for a peer while the device holds. -/
def qdPeer (own : QdRec) (k : Nat) (c : Core) : Core :=
  let f := c.qdFlags own k
  let off := match c.qdRecOf k with
    | some r => qdOffset own r
    | none => 0
  let c := c.set K.qdDiff (setElem 8 (c.get K.qdDiff) k f)
  let c := if (c.qdRecOf k).isSome then c.set K.qdPeerOffset (setElem 32 (c.get K.qdPeerOffset) k (satS 32 off)) else c
  let told := nth c.qd.told k
  if f &&& (127 - told % 128) = 0 then c
  else
    (c.updQd fun (q : Qd) => { q with told := q.told.set k (told ||| f) }).raise 0x0E01 1
      (2 ^ 56 * k + 2 ^ 48 * f + satS 32 off)

/-- The step in progress: the record is sent again when it has changed, the peers are compared, and the line is released when
R397 holds (R394). -/
def qdStepRun (c : Core) : Core :=
  let rev := match c.qd.sent with
    | some r => r.rev
    | none => 0
  let now := c.qdRecord rev
  let own := if c.qd.sent = some now then now else { now with rev := (rev + 1) % 2 ^ 16 }
  let c := if c.qd.sent = some now then c else qdSend own c
  if !c.qd.holds then c
  else
    let c := c.qdPeersOf.foldl (fun (c : Core) (k : Nat) => qdPeer own k c) c
    let clear := c.qdPeersOf.all fun (k : Nat) => c.qdFlags own k = 0
    if clear && own.step != qdNone && own.flags.testBit 7 then c.updQd fun (q : Qd) => { q with holds := false } else c

/-! ### Actions -/

/-- The action of a step at its instant (R393). own: this device's sequencer or fault reaction proposed it. -/
def qdAction (word : Nat) (own : Bool) (c : Core) : Core :=
  let mask := (bitsOf 8 (c.get K.qdArmMask)).filter fun (n : Nat) => c.get (K.chState n) != 0
  match qdKind word with
  | 1 => railStepTaken (qdTarget word) own c
  | 2 => mask.foldl (fun (c : Core) (n : Nat) => if armState c n || armRange c n then c else chArm n c) c
  | 3 => if c.get K.devState = 4 then setDevState 5 c else c
  | 5 => c.updRcst fun (x : Rcst) => { x with goArmed := true }
  | 6 => mask.foldl (fun (c : Core) (n : Nat) => if cmdState c n 4 then c else chAbort n c) c
  | 7 =>
    let by_ := c.qd.markers
    let marked := c.qd.marked
    commitMarked by_ marked (c.updQd fun (q : Qd) => { q with marked := 0, markers := [] })
  | _ => c

/-- A step completes: T_RISE, the step number, the device's own proposal won or lost, the action and the record QD_STEP. -/
def qdComplete (word : Nat) (sender : Option Nat) (stepNo digest : Nat) (c : Core) : Core :=
  let mine := sender = some (c.get K.qdAddr)
  let prop := if mine then c.qd.props.find? fun (p : QdProp) => p.word = word else none
  let auto := match prop with
    | some p => !p.written
    | none => false
  let lost := !mine && !c.qd.props.isEmpty
  let c := c.updQd fun (q : Qd) =>
    { q with joined := true, busy := false, failed := false, sent := none, recs := [], told := List.replicate 8 0,
             props := q.props.filter fun (p : QdProp) =>
               some p != prop && (p.written || qdKind p.word != 0) }
  let c := ((c.set K.qdStepNo stepNo).set K.qdTRise c.now).set K.qdDigest digest
  let c := if prop.isSome then c.set K.qdLastResult 1 else if lost then c.set K.qdLastResult 2 else c
  let c := qdAction word auto c
  let (none_, c) := if sender.isSome then (0, c) else c.freeVal 8
  let state := if qdKind word = 1 then qdTarget word else c.get K.qdState
  let c := c.raise 0x0E00 1 (2 ^ 56 * qdKind word + 2 ^ 48 * qdTarget word + 2 ^ 40 * sender.getD none_ + 2 ^ 32 * state + stepNo)
  (c.endFault 0x0E02 1).endFault 0x0E03 1

/-- With QD.ENABLE = 0 a step completes locally as soon as the device is ready (R392). -/
def qdLocal : Nat → Core → Core
  | 0, c => c
  | n + 1, c =>
    match c.qdOwn with
    | some p =>
      if c.qdReady p.word then
        qdLocal n (qdComplete p.word (some (c.get K.qdAddr)) ((c.get K.qdStepNo + 1) % 2 ^ 32) (c.qdDigestOf p.word) c)
      else c
    | none => c

/-- GO is withdrawn once phase 4 is left (R401). -/
def qdWithdrawGo (c : Core) : Core :=
  if c.get K.rcstPhase = 4 then c
  else c.updQd fun (q : Qd) => { q with props := q.props.filter fun (p : QdProp) => qdKind p.word != 5 }

/-- What follows every change of the machine for the Quadrille: a local step, a pull of the line, or the step in progress. -/
def qdWatch (c : Core) : Core :=
  let c := qdWithdrawGo c
  if c.boot.step != 9 then c
  else if c.get K.qdEnable = 0 then (if c.qd.props.isEmpty then c else qdLocal 8 c)
  else if !c.qdActive then c
  else if c.qd.busy then qdStepRun c
  else if c.qd.high && !c.qd.props.isEmpty then c.updQd fun (q : Qd) => { q with holds := true }
  else c

/-! ### Commands -/

/-- A proposal is made. -/
def qdPropose (p : QdProp) (c : Core) : Core := c.updQd fun (q : Qd) => { q with props := q.props ++ [p] }

/-- A write of QD.STEP, accepted (R393). -/
def qdStepWrite (word : Nat) (c : Core) : Core := qdPropose { word := word, written := true } (c.set K.qdLastResult 0)

/-- The device begins to take part, at the end of its boot or when QD.ENABLE is written to 1: until it has completed a step it
holds the line low and proposes SYNC (R400). A line that was low before has had no fall that this device saw: its stamps of
the fall are free. With QD.ENABLE = 0 the line is released (R392). -/
def qdJoin (c : Core) : Core :=
  if c.get K.qdEnable = 0 then
    c.updQd fun (q : Qd) => { q with holds := false, busy := false, sent := none, recs := [], failed := false }
  else
    let c := if c.qd.joined || c.qd.props.any (fun (p : QdProp) => !p.written && qdKind p.word = 0) then c
      else qdPropose { word := 0, written := false } c
    if c.qd.high then c
    else
      let (t, c) := c.freeVal 64
      let (p, c) := c.freeVal 48
      c.updQd fun (q : Qd) => { q with holds := true, busy := true, fallAt := c.clock, tFall := t, pFall := p }

/-- QD_LINE_FALL: the filtered line falls (R394). -/
def qdLineFall (c : Core) : Core :=
  if !c.qd.high then c
  else
    let c := c.updQd fun (q : Qd) => { q with high := false }
    if c.qdActive then
      c.updQd fun (q : Qd) =>
        { q with holds := true, busy := true, fallAt := c.clock, tFall := c.now, pFall := c.stampPos, recs := [], sent := none,
                 failed := false, told := List.replicate 8 0 }
    else c

/-- QD_RECORD: a step record arrives on Ethernet port p (R394, R395). -/
def qdRecordRx (p : Nat) (payload : List Byte) (c : Core) : Core :=
  if !c.qdActive || p != c.get K.qdPort then c
  else match qdParse payload with
    | none => c
    | some r =>
      let mine := Config.identity K.devUnitSerial.key % 2 ^ 64
      let seen := if r.addr = c.get K.qdAddr then some mine else (c.qd.serials.find? fun (x : Nat × Nat) => x.1 = r.addr).map Prod.snd
      let c := match seen with
        | some s => if s = r.serial then c else c.raise 0x0E04 1 (2 ^ 56 * r.addr + r.serial % 2 ^ 48)
        | none => c
      if r.addr = c.get K.qdAddr then c
      else
        let c := if seen.isNone then c.updQd fun (q : Qd) => { q with serials := (r.addr, r.serial) :: q.serials } else c
        if c.qd.high || !(c.get K.qdPeers).testBit r.addr then c.bump K.qdStrays
        else
          let before := c.qd.recs.any fun (x : QdRec) => qdKind x.prop = 4
          let others := c.qd.recs.filter fun (x : QdRec) => x.addr != r.addr
          let c := c.updQd fun (q : Qd) => { q with recs := r :: others }
          if qdKind r.prop = 4 && !before then requestRecast 7 c else c

/-- QD_REPEAT: the record is sent again while the device holds (R394). -/
def qdRepeat (c : Core) : Core :=
  match c.qd.sent with
  | some r =>
    if c.qdActive && c.qd.busy && c.qd.holds && decide (c.qd.sentAt + c.get K.qdRepeat * 1000 ≤ c.clock) then qdSend r c else c
  | none => c

/-- QD_LINE_RISE: the filtered line rises, which it does only when every device has released it: the step instant (R394). -/
def qdLineRise (c : Core) : Core :=
  if c.qd.high || c.qd.holds then c
  else
    let c := c.updQd fun (q : Qd) => { q with high := true }
    if !c.qdActive || !c.qd.busy then c
    else
      match c.qd.sent, c.qdWinner c.qdCarried with
      | some r, some w =>
        let no := c.qd.recs.foldl (fun (a : Nat) (x : QdRec) => max a x.stepNo) r.stepNo
        qdComplete w.1 w.2 no r.digest c
      | _, _ => c.updQd fun (q : Qd) => { q with busy := false, sent := none, recs := [] }

/-- Number of the lowest peer with a flag, its flags, and bit k for each peer k with any. -/
def Core.qdDisagreeing (c : Core) : Nat × Nat :=
  let l := (List.range 8).filter fun (k : Nat) => elemAt 8 (c.get K.qdDiff) k != 0 && c.qdPeersOf.contains k
  (l.foldl (fun (a : Nat) (k : Nat) => a + 2 ^ k) 0, match l with
    | k :: _ => elemAt 8 (c.get K.qdDiff) k
    | [] => 0)

/-- QD_STEP_TIMEOUT: the line has not been released within STEP_TIMEOUT of the fall (R398). -/
def qdStepTimeout (c : Core) : Core :=
  if !c.qdActive || !c.qd.busy || !c.qd.holds || c.qd.failed || decide (c.clock < c.qd.fallAt + c.get K.qdStepTimeout * 1000000) then c
  else
    let own := c.qdOwn
    let any := own.isSome || c.qd.recs.any fun (r : QdRec) => r.prop != qdNone
    let word := match c.qdWinner c.qdCarried with
      | some w => w.1
      | none => match own with
        | some p => p.word
        | none => (c.qd.recs.head?.map fun (r : QdRec) => r.prop).getD 0
    let c := c.bump K.qdFails
    let c := if any then
        let d := c.qdDisagreeing
        c.raiseHeld 0x0E02 1 (2 ^ 56 * qdKind word + 2 ^ 8 * d.1 + d.2)
      else c.raiseHeld 0x0E03 1 (c.qd.tFall % 2 ^ 32)
    let c := match own with
      | some p =>
        if !p.written && qdKind p.word = 0 then c
        else
          let c := if p.written then c.set K.qdLastResult 3 else c
          c.updQd fun (q : Qd) => { q with props := q.props.erase p }
      | none => c
    c.updQd fun (q : Qd) => { q with failed := true }

/-- QD_RECAST_REQ: a Recast request of this device is proposed to the press (R232, R393). -/
def qdRecastReq (c : Core) : Core :=
  if c.rcst.tellPeers && c.get K.qdEnable = 1 then
    qdPropose { word := 0x04000000, written := false } (c.updRcst fun (x : Rcst) => { x with tellPeers := false })
  else c

/-- QD_RECAST_GO: a device that entered phase 4 proposes GO (R393, R401). -/
def qdRecastGo (c : Core) : Core :=
  if c.rcst.tellGo && c.get K.rcstPhase = 4 && c.get K.qdEnable = 1 then
    qdPropose { word := 0x05000000, written := false } (c.updRcst fun (x : Rcst) => { x with tellGo := false })
  else c

end Sys2Proof.Machine
end

