-- ==== Sys2Proof/Machine/Hooks.lean ====
section
/-! DEFINITION. Sys2Proof/Machine/Hooks.lean: what a write of a readable object does when it applies: it stores the value,
and its block takes it. -/

namespace Sys2Proof.Machine

/-! ### Power domains (R28) -/

/-- How many prerequisites stand below a domain: a domain that depends on another has the higher number. -/
def domainDepth (d : Nat) : Nat :=
  if d = 0 then 0 else if d = 1 then 1 else if d = 2 || d = 4 || d = 15 || d = 16 then 2 else 3

/-- Domains to switch off, the most dependent first, and on, the least dependent first. -/
def pdPlan (status want : Nat) : List Nat × List Nat :=
  let byDepth := fun (l : List Nat) => l.filter (fun (d : Nat) => domainDepth d = 2) ++ l.filter fun (d : Nat) => domainDepth d = 3
  let offs := (List.range 17).filter fun (d : Nat) => status.testBit d && !want.testBit d
  let ons := (List.range 17).filter fun (d : Nat) => !status.testBit d && want.testBit d
  ((byDepth offs.reverse).reverse, byDepth ons)

/-- A write of DEV.PD_ENABLE, accepted: the switching begins. -/
def pdSwitch (c : Core) : Core :=
  let p := pdPlan (c.get K.devPdStatus) (c.get K.devPdEnable)
  { c with boot := { c.boot with offs := p.1, ons := p.2 } }

/-! ### Values that their blocks own in part -/

/-- Entries of w bits of a written value whose pin an enabled slot owns or a mirror drive has taken keep their value (R176,
R359). -/
def keepOwned (c : Core) (code w n old v : Nat) : Nat :=
  (List.range n).foldl (fun (a : Nat) (k : Nat) => if c.slotOwns code k || c.mirrorOwns code k then setElem w a k (elemAt w old k) else a) v

/-- PWM pins that a write of LOOP.PWM_ENABLE switches on start a period at once (R365). -/
def pwmEnabled (old v : Nat) (c : Core) : Core :=
  (List.range 32).foldl (fun (c : Core) (k : Nat) =>
    if v.testBit k && !old.testBit k then
      { c with pwms := upd c.pwms k fun (_ : Pwm) => { duty := elemAt 16 (c.get K.loopPwmDuty) k } }
    else c) c

/-! ### Effects by block -/

/-- What a write of a channel's object does beyond storing it. -/
def chHook (n o sub old v : Nat) (c : Core) : Core :=
  if 0xB0 ≤ o && o < 0xB4 then (if sub = 1 && v = 0 then laneOff (4 * n + (o - 0xB0)) c else c)
  else if o = 0xD0 && sub = 1 then (if v = 1 then scanEnable n c else if old = 1 then scanDisable n c else c)
  else if o = 0x90 && sub = 6 then tempMasked n c
  else if o = 0xE0 && sub = 0x11 then powerSend n c
  else c

/-- What a write of an object at 0x0B10 to 0x0B5F does beyond storing it. Every write of CMPn.MODE ends the holdoff of the last
capture, the same value included (DESIGN CHOICE, log 72). -/
def fieldHook (index sub old v : Nat) (c : Core) : Core :=
  if index < 0x0B14 then
    (if sub = 7 then { c with encs := upd c.encs (index - 0x0B10) fun (e : Enc) => { e with homeAwait := decide (v = 2) } } else c)
  else if 0x0B20 ≤ index && index < 0x0B24 then
    (let i := index - 0x0B20
     if sub = 1 && old != v then
       { sposClk c i true with sposs := upd c.sposs i fun (x : Spos) => { nextReq := c.sample, stamp := x.stamp } }
     else c)
  else if 0x0B30 ≤ index && index < 0x0B32 then
    (let p := index - 0x0B30
     if sub ≤ 2 && old != v then passStart c p
     else if sub = 3 && c.get (K.passMode p) = 2 then passDrive c p (emulated (nth c.passes p).count v)
     else c)
  else if 0x0B40 ≤ index && index < 0x0B48 then
    (if sub = 1 then
      { c with cmps := upd c.cmps (index - 0x0B40) fun (x : Cmp) =>
        { x with captured := false, history := [], armed := x.armed && decide (old = v) } } else c)
  else if 0x0B50 ≤ index && index < 0x0B54 then (if sub = 1 then lcEnableWritten c (index - 0x0B50) old v else c)
  else c

/-- What a write of an object of the device does beyond storing it. -/
def devHook (index sub old v off len : Nat) (c : Core) : Core :=
  if index = 0x0200 then (if sub = 11 then { c with nor := { c.nor with boots := v } } else c)
  else if index = 0x0210 then (if sub = 1 then pdSwitch c else c)
  else if index = 0x0300 then (if sub = 2 && c.ptp.run then ptpStart c else c)
  else if index = 0x0310 then (if (sub = 1 || sub = 2) && c.ptp.run then ptpStart c else c)
  else if index = 0x0500 then (if sub = 2 then railTarget v c else c)
  else if 0x0520 ≤ index && index < 0x0538 then (if sub = 3 then setEnable (index - 0x0520) false c else railRun c)
  else if 0x0720 ≤ index && index < 0x0722 then (if sub = 1 then c.set (K.wopCanState (index - 0x0720)) v else c)
  else if 0x0C40 ≤ index && index < 0x0C80 then slotStatus (index - 0x0C40) c
  else if 0x0C20 ≤ index && index < 0x0C30 then (if sub = 1 then measWritten (index - 0x0C20) off len c else c)
  else if index = 0x0C11 then (if sub = 1 then pwmEnabled old v c else c)
  else if index = 0x0D00 then (if 1 ≤ sub && sub ≤ 3 then alignRestart c else c)
  else if index = 0x0E00 then (if sub = 1 && old != v && c.boot.step = 9 then qdJoin c else c)
  else c

/-- A value of a readable object applies (R314). off and len are the bytes that a write of a BLOB covers. -/
def applyValue (o : Obj) (v off len : Nat) (c : Core) : Core :=
  let index := o.key / 256
  let sub := o.key % 256
  let old := c.get o
  if index = 0x0410 && sub = 2 then selClass v c
  else if index = 0x0410 && sub = 6 then selCount v c
  else if 0x0C40 ≤ index && index < 0x0C80 && sub = 1 then
    (if v = 1 then slotEnable (index - 0x0C40) c else if c.slotOn (index - 0x0C40) then slotDisable (index - 0x0C40) c else c)
  else if index = 0x0C13 && sub = 2 then gpioOut v c
  else if index = 0x0C11 && sub = 4 then c.set o (keepOwned c 1 16 32 old v)
  else if index = 0x0C12 && sub = 2 then c.set o (keepOwned c 2 16 8 old v)
  else
    let c := c.set o v
    if 0x1000 ≤ index && index < 0x1800 then chHook ((index - 0x1000) / 256) (index % 256) sub old v c
    else if 0x0B10 ≤ index && index < 0x0B60 then fieldHook index sub old v c
    else devHook index sub old v off len c

end Sys2Proof.Machine
end

