-- ==== Sys2Proof/Machine/Firmware.lean ====
section
/-! DEFINITION. Sys2Proof/Machine/Firmware.lean: what the SPI NOR keeps (R462 to R477) and the long operations that change it
(R325 to R327): images, slots, settings. -/

namespace Sys2Proof.Machine

/-- The unit serial number of this device. -/
def unitSerial : Nat := Config.identity K.devUnitSerial.key % 2 ^ 64

/-- What the SPI NOR keeps, changed. -/
def Core.updNor (c : Core) (f : Nor → Nor) : Core := { c with nor := f c.nor }

/-- Staged firmware and long operation changed. -/
def Core.updFw (c : Core) (f : Fw → Fw) : Core := { c with fw := f c.fw }

/-! ### Images (R465 to R467) -/

/-- Fields of an image header. -/
def imgHw (h : List Byte) : Nat := leAt h 6 2
def imgUnit (h : List Byte) : Nat := leAt h 8 8
def imgVersion (h : List Byte) : Nat := leAt h 0x10 4
def imgBody (h : List Byte) : Nat := leAt h 0x14 4
def imgKey (h : List Byte) : Nat := leAt h 0x18 1
def imgRevoke (h : List Byte) : Nat := leAt h 0x19 1 % 16
def imgFormats (h : List Byte) : List Nat := (List.range 16).map fun (g : Nat) => leAt h (0x40 + 2 * g) 2

/-- MAGIC, FORMAT and BODY_LEN are valid. -/
def imgValid (h : List Byte) : Bool :=
  leAt h 0 4 = 0x38465450 && leAt h 4 2 = 1 && decide (1 ≤ imgBody h) && decide (imgBody h ≤ 4193792)

/-- Bytes of the whole image. -/
def imgLen (h : List Byte) : Nat := 512 + imgBody h

/-- Every reserved field of the header is 0, and KEY_INDEX names a key. -/
def imgReservedOk (h : List Byte) : Bool :=
  leAt h 0x19 1 < 16 && leAt h 0x1A 6 = 0 && (slice h 0x60 352).all (fun (b : Byte) => b = 0#8) && decide (imgKey h < 4)

/-- An image for hardware type and unit is bound to this unit, or to any (R467). -/
def boundHere (hw unit : Nat) : Bool := hw = 0x8160 && (unit = 0 || unit = unitSerial)

/-- The staged header: the first bytes of block 0. -/
def Core.stagedHead (c : Core) : List Byte := (sget [] c.fw.blocks 0).take 512

/-- The staged image, as far as its blocks are held. -/
def Core.stagedImage (c : Core) : List Byte := c.fw.blocks.flatMap Prod.snd

/-- The first block of the staged image that is missing. -/
def Core.missingBlock (c : Core) : Option Nat :=
  (List.range (ceilDiv (imgLen c.stagedHead) 4096)).find? fun (b : Nat) => (sget [] c.fw.blocks b).isEmpty

/-- IMAGE_VERIFY's failure code, with the missing block for code 4; 0 when the image passes (R469). -/
def Core.verifyCode (c : Core) : Nat :=
  let h := c.stagedHead
  if !imgValid h || !imgReservedOk h then 1
  else if imgHw h != 0x8160 then 2
  else if imgUnit h != 0 && imgUnit h != unitSerial then 3
  else match c.missingBlock with
    | some b => 4 + 2 ^ 16 * b
    | none =>
      if sha256 ((c.stagedImage.drop 512).take (imgBody h)) != slice h 0x20 32 then 5
      else if !Config.signatureOk (imgKey h) (natBE (sha256 (h.take 0x1C0))) (natBE (slice h 0x1C0 64)) then 6
      else if c.nor.revoked.testBit (imgKey h) || (imgRevoke h).testBit (imgKey h) then 7
      else 0

/-- A write of FW.IMAGE does not fit in length or offset (R313, R468). -/
def imageLength (c : Core) (off : Nat) (data : List Byte) : Bool :=
  let len := data.length
  let h := if off = 0 then data.take 512 else c.stagedHead
  let whole := imgLen h
  off % 4096 != 0 || len = 0 || decide (4096 < len) || decide (4194304 < off + len) || (off = 0 && decide (len < 512)) ||
    (if (off = 0 || c.get K.fwStagedState != 0) && imgValid h && decide (off < whole) then len != min 4096 (whole - off)
     else len != 4096 && off = 0)

/-- A write of FW.IMAGE is answered STATE (R468). -/
def imageState (c : Core) (off : Nat) : Bool :=
  (c.get K.hubTrainState != 2 && c.get K.hubTrainState != 3) || (off != 0 && c.get K.fwStagedState = 0)

/-- A write of FW.IMAGE is answered RANGE (R468). -/
def imageRange (c : Core) (off : Nat) (data : List Byte) : Bool :=
  if off = 0 then !imgValid (data.take 512) else decide (imgLen c.stagedHead ≤ off)

/-- A write of FW.IMAGE is answered BOUND (R467). -/
def imageBound (off : Nat) (data : List Byte) : Bool := off = 0 && !boundHere (imgHw data) (imgUnit data)

/-- A block of a firmware image is staged (R468). -/
def imageStage (off : Nat) (data : List Byte) (c : Core) : Core :=
  let c := c.updFw fun (x : Fw) => { x with blocks := sput [] (if off = 0 then [] else x.blocks) (off / 4096) data }
  let c := if off = 0 then c.set K.fwStagedVersion (imgVersion data) else c
  c.set K.fwStagedState 1

/-! ### Slots (R471, R472) -/

/-- The slot that does not run, and a change of one slot. -/
def Nor.slot (n : Nor) (b : Bool) : FwSlot := if b then n.slotB else n.slotA
def Nor.setSlot (n : Nor) (b : Bool) (s : FwSlot) : Nor := if b then { n with slotB := s } else { n with slotA := s }

/-- A slot passes R466 and R467. -/
def Nor.passes (n : Nor) (s : FwSlot) : Bool :=
  s.passes && !n.revoked.testBit s.keyIndex && !s.revoke.testBit s.keyIndex && boundHere s.hwType s.unit

/-- The outcome of the choice of a slot: the NOR after it, the faults to raise after boot, and whether a slot starts. -/
structure SlotChoice where
  nor : Nor
  raises : List Raise
  starts : Bool

/-- The slots that are CONFIRMED, then VALID, are tried in turn (R471). -/
def tryConfirmed (n : Nor) (raises : List Raise) : List Bool → SlotChoice
  | [] => { nor := n, raises := raises, starts := false }
  | b :: r =>
    let s := n.slot b
    if n.passes s then { nor := { n.setSlot b { s with state := 2 } with runB := b }, raises := raises, starts := true }
    else tryConfirmed (n.setSlot b { s with state := 4 }) raises r

/-- Slots of a state, A first. -/
def Nor.slotsIn (n : Nor) (state : Nat) : List Bool := [false, true].filter fun (b : Bool) => (n.slot b).state = state

/-- The boot code chooses a slot (R471). -/
def chooseSlot (n : Nor) : SlotChoice :=
  match n.slotsIn 1 with
  | b :: _ =>
    let s := { n.slot b with trials := (n.slot b).trials + 1 }
    let n := n.setSlot b s
    if s.trials ≤ 3 && n.passes s then
      { nor := { n with runB := b }, starts := true,
        raises := [{ src := 0x0602, kind := 1, payload := 2 ^ 32 * s.trials + s.version }] }
    else
      let n := n.setSlot b { s with state := 4 }
      let why := if 3 < s.trials then 1 else 2
      tryConfirmed n [{ src := 0x0601, kind := 1, payload := 2 ^ 56 * b2n b + why }] (n.slotsIn 2 ++ n.slotsIn 3)
  | [] => tryConfirmed n [] (n.slotsIn 2 ++ n.slotsIn 3)

/-- FW.CONFIRM, accepted (R472). -/
def fwConfirm (c : Core) : Core :=
  let n := c.nor
  let s := n.slot n.runB
  let o := n.slot (!n.runB)
  let n := (n.setSlot n.runB { s with state := 2 }).setSlot (!n.runB) { o with state := 3 }
  { c with nor := { n with revoked := n.revoked ||| s.revoke, frozen := none } }

/-! ### Settings (R474 to R477) -/

/-- The settings group that holds an object beyond group 0. -/
def settingsGroup (key : Nat) : Nat :=
  let index := key / 256
  let sub := key % 256
  if 0x1000 ≤ index && index < 0x1800 then
    (if index % 256 = 0x30 && (sub = 1 || sub = 2) then 3
    else if (index % 256 = 0xE0 && (sub = 1 || sub = 2)) || (index % 256 = 0xD0 && sub = 10) then 4
    else 0)
  else if 0x0520 ≤ index && index < 0x0538 && (sub = 6 || sub = 11) then 5
  else if index = 0x0110 then 6
  else 0

/-- Objects that STORE leaves out by name (R325). -/
def notStored (key : Nat) : Bool :=
  let index := key / 256
  let sub := key % 256
  (decide (0x0220 ≤ index) && decide (index < 0x0231)) || index = 0x0260 || index = 0x0270 || index = 0x0600 ||
    (decide (0x1000 ≤ index) && decide (index < 0x1800) && decide (0xB0 ≤ index % 256) && decide (index % 256 < 0xB4) &&
      decide (14 ≤ sub) && decide (sub ≤ 22))

/-- STORE saves an object (R325). -/
def storedKey (key : Nat) : Bool :=
  match descOf (key / 256) (key % 256) with
  | none => false
  | some d => d.acc != .ro && d.acc != .wo && !d.counter && !notStored key

/-- The objects of a group that hold another value than their default. -/
def Core.groupObjs (c : Core) (g : Nat) : List (Nat × Nat) :=
  c.objs.filter fun (p : Nat × Nat) => storedKey p.1 && settingsGroup p.1 = g

/-- One settings record as STORE writes it. -/
def Core.groupRecord (c : Core) (g : Nat) : Group :=
  { id := g, format := c.nor.running.formats.getD g 0, version := c.nor.running.version, objs := c.groupObjs g,
    classes := if g = 0 then (c.faults.filter fun (f : FaultEntry) => f.cls != 0).map fun (f : FaultEntry) => (f.id, f.cls) else [],
    tables := if g = 2 then c.imgs.map (fun (x : ChImg) => x.nozLive) else if g = 3 then c.imgs.map (fun (x : ChImg) => x.toneA)
      else if g = 4 then c.scans.map (fun (x : Scan) => x.knots) else [],
    tablesB := if g = 3 then c.imgs.map (fun (x : ChImg) => x.toneB) else [] }

/-- Settings bank k. -/
def Nor.bank (n : Nor) (k : Nat) : Bank := nth n.banks k

/-- The complete bank with the highest SEQ among those that pass a test. -/
def Nor.newest (n : Nor) (ok : Bank → Bool) : Option Nat :=
  [0, 1].foldl (fun (b : Option Nat) (k : Nat) =>
    if (n.bank k).complete && ok (n.bank k) then
      (match b with
        | none => some k
        | some j => if (n.bank j).seq < (n.bank k).seq then some k else some j)
    else b) none

/-- The bank that STORE writes: the one not frozen, else the one that is not the newest complete (R475, R477). -/
def Nor.storeBank (n : Nor) : Nat :=
  match n.frozen with
  | some k => 1 - k
  | none => match n.newest fun (_ : Bank) => true with
    | some k => 1 - k
    | none => 0

/-- STORE starts: its bank is incomplete until it ends. -/
def storeBegin (c : Core) : Core :=
  let k := c.nor.storeBank
  (c.updNor fun (n : Nor) => { n with banks := n.banks.set k { seq := (n.bank k).seq } }).updFw fun (x : Fw) => { x with bank := k }

/-- STORE ends well: the bank is complete, with the highest SEQ, and the tag region holds DEV.TAG. -/
def storeEnd (c : Core) : Core :=
  let k := c.fw.bank
  let seq := max (c.nor.bank 0).seq (c.nor.bank 1).seq + 1
  let b : Bank := { seq := seq, complete := true, groups := [0, 2, 3, 4, 5].map c.groupRecord }
  (c.updNor fun (n : Nor) => { n with banks := n.banks.set k b, tag := c.get K.devTag }).set K.fwSettingsBank k

/-- RESTORE_DEFAULTS (R325): what STORE would save returns to its default, but for the privileged groups; nothing is staged. -/
def restoreDefaults (c : Core) : Core :=
  let keys := (c.groupObjs 0).map Prod.fst
  let c := { c with staged := [], faults := c.faults.map fun (f : FaultEntry) => { f with cls := 0 } }
  keys.foldl (fun (c : Core) (k : Nat) =>
    match descOf (k / 256) (k % 256) with
    | some d => applyValue d.obj d.obj.dflt 0 d.obj.bytes c
    | none => c) c

/-- A bank qualifies for a firmware: no privileged record has a later FORMAT (R476). -/
def bankFits (formats : List Nat) (b : Bank) : Bool :=
  b.groups.all fun (g : Group) => g.id = 0 || g.format ≤ formats.getD g.id 0

/-- The reason for which a record of the chosen bank takes its defaults; 0 when it is applied (R476). -/
def recordReason (formats : List Nat) (g : Group) : Nat :=
  if !g.ok then 1 else if g.id = 0 && g.format != formats.getD 0 0 then 2 else 0

/-- Objects of a record take their saved values. -/
def applyObjs (l : List (Nat × Nat)) (c : Core) : Core :=
  l.foldl (fun (c : Core) (p : Nat × Nat) =>
    match descOf (p.1 / 256) (p.1 % 256) with
    | some d => c.set d.obj p.2
    | none => c) c

/-- SETTINGS_RESET for the records that took their defaults for a reason (R476, R478). -/
def settingsReset (formats : List Nat) (b : Bank) (reason : Nat) : List Raise :=
  let mask := b.groups.foldl (fun (a : Nat) (g : Group) => if recordReason formats g = reason then a + 2 ^ g.id else a) 0
  if mask = 0 then [] else [{ src := 0x0600, kind := 1, payload := 2 ^ 56 * reason + mask }]

/-- The boot chooses a bank, applies its records and freezes the confirmed one while a trial runs (R476, R477). -/
def restoreSettings (c : Core) : Core :=
  let formats := c.nor.running.formats
  let c := c.set K.devTag c.nor.tag
  let chosen := c.nor.newest (bankFits formats)
  let frozen := if c.nor.running.state = 1 then
      (match c.nor.frozen with
        | some k => some k
        | none => c.nor.newest fun (_ : Bank) => true)
    else none
  let c := c.updNor fun (n : Nor) => { n with frozen := frozen }
  match chosen with
  | none => c.set K.fwSettingsBank 0xFF
  | some k =>
    let b := c.nor.bank k
    let c := c.set K.fwSettingsBank k
    let good := b.groups.filter fun (g : Group) => recordReason formats g = 0
    let c := good.foldl (fun (c : Core) (g : Group) =>
      g.classes.foldl (fun (c : Core) (p : Nat × Nat) => c.updFault p.1 fun (f : FaultEntry) => { f with cls := p.2 })
        (applyObjs g.objs c)) c
    { c with boot := { c.boot with raises := c.boot.raises ++ settingsReset formats b 1 ++ settingsReset formats b 2 } }

/-- The record of a group in the bank in use, if it applies. -/
def Core.savedGroup (c : Core) (g : Nat) : Option Group :=
  if c.get K.fwSettingsBank < 2 then
    (c.nor.bank (c.get K.fwSettingsBank)).groups.find? fun (x : Group) => x.id = g && recordReason c.nor.running.formats x = 0
  else none

/-- The tables of channel n load when PD_MCn becomes usable (R474): the saved ones, or their defaults; the nozzle table into
both its copies, with PENDING clear. -/
def loadTables (n : Nat) (c : Core) : Core :=
  let table := fun (g : Nat) (f : Group → List (List (Nat × Nat))) =>
    match c.savedGroup g with
    | some x => nth (f x) n
    | none => []
  let noz := table 2 fun (x : Group) => x.tables
  let img : ChImg := { toneA := table 3 fun (x : Group) => x.tables, toneB := table 3 fun (x : Group) => x.tablesB,
                       nozLive := noz, nozShadow := noz }
  let knots := table 4 fun (x : Group) => x.tables
  let c := { c with imgs := c.imgs.set n img }
  let c := c.updScan n fun (x : Scan) => { x with knots := knots }
  let c := ((c.set (K.chToneLive n) 0).set (K.chToneState n) 0).set (K.chNozState n) 0
  c.set (K.chNozDead n) (noz.filter fun (p : Nat × Nat) => p.2.testBit 15).length

/-! ### Long operations (R325 to R327) -/

/-- The maximum duration of an operation, in ms. -/
def opMax (op : Nat) : Nat :=
  match op with
  | 1 => 10000
  | 2 => 1000
  | 3 => 4000
  | 4 => 15000
  | _ => 400

/-- Remaining time of the operation that runs, in ms, rounded up and at least 1 (R326). -/
def Core.opLeft (c : Core) : Nat := max 1 (ceilDiv (c.fw.opAt + opMax c.fw.op * 1000000 - c.clock) 1000000)

/-- The slot that IMAGE_COMMIT writes: the one that does not run; in recovery slot A (R470, R473). -/
def Core.commitSlot (c : Core) : Bool := c.get K.fwRecovery = 0 && !c.nor.runB

/-- A long operation starts. -/
def opStart (op : Nat) (c : Core) : Core :=
  let c := c.updFw fun (x : Fw) => { x with op := op, opAt := c.clock }
  if op = 1 then storeBegin c
  else if op = 4 then c.updNor fun (n : Nor) => n.setSlot c.commitSlot {}
  else if op = 5 then c.updHub fun (h : Hub) => { h with retrain := true }
  else c

/-- The slot as IMAGE_COMMIT leaves it: TRIAL with no trial boots, or VALID in recovery. -/
def Core.committedSlot (c : Core) : FwSlot :=
  let h := c.stagedHead
  { state := if c.get K.fwRecovery = 0 then 1 else 3, trials := 0, version := imgVersion h, formats := imgFormats h,
    keyIndex := imgKey h, revoke := imgRevoke h, unit := imgUnit h, hwType := imgHw h, passes := true }

/-- The operation that runs ends with a result and a detail: the objects, the audit entry and OP_FAIL (R327). -/
def opDone (result detail : Nat) (c : Core) : Core :=
  let op := c.fw.op
  let c := leasesResume c
  let c := c.updFw fun (x : Fw) => { x with op := 0 }
  let c := (((c.set K.devOpLast op).set K.devOpResult result).set K.devOpDetail detail).set K.devOpEnd c.now
  let pay := 2 ^ 56 * op + 2 ^ 48 * result + detail % 2 ^ 32
  let c := auditEntry 3 pay [] c
  if result = 1 then c else c.raise 0x0260 1 pay

/-- The operation ends with a detail that the spec does not state: a free value. -/
def opDoneFree (result : Nat) (c : Core) : Core :=
  let (v, c) := c.freeVal 32
  opDone result v c

/-- OP_END: the long operation that runs ends. ok and detail say how the storage or the training fared; the outcome of a
verification follows from the staged image. -/
def opEnd (ok : Bool) (detail : Nat) (c : Core) : Core :=
  let detail := detail % 2 ^ 32
  match c.fw.op with
  | 0 => c
  | 1 => if ok then opDoneFree 1 (storeEnd c) else opDone 2 detail c
  | 2 => opDoneFree 1 (restoreDefaults c)
  | 3 =>
    let code := c.verifyCode
    if code = 0 then opDoneFree 1 (c.set K.fwStagedState 2) else opDone 2 code (c.set K.fwStagedState 3)
  | 4 =>
    if ok then opDoneFree 1 (c.updNor fun (n : Nor) => n.setSlot c.commitSlot c.committedSlot)
    else opDone 2 (if detail = 8 then 8 else 9) c
  | _ => if ok then opDoneFree 1 (retrainEnd true detail c) else opDone 2 detail (retrainEnd false detail c)

/-- OP_TIMEOUT: an operation still running at its maximum duration is ended there (R327). -/
def opTimeout (c : Core) : Core :=
  if c.fw.op = 0 || decide (c.clock < c.fw.opAt + opMax c.fw.op * 1000000) then c
  else
    let c := if c.fw.op = 5 then c.updHub fun (h : Hub) => { h with retrain := false } else c
    opDoneFree 3 c

end Sys2Proof.Machine
end

