-- ==== Sys2Proof/Machine/Startup.lean ====
section
/-! DEFINITION. Sys2Proof/Machine/Startup.lean: reset, boot, power domains and the requests for a device state (R28, R429 to
R438). -/

namespace Sys2Proof.Machine

/-! ### Power domains -/

/-- What a domain's block does when the domain goes off (R28, R29, R279, R285, R362). -/
def domainOffEff (d : Nat) (c : Core) : Core :=
  if d = 2 then hubOff c
  else if d = 3 then hostReset 4 (pcieDown c)
  else if d = 4 then
    let c := fieldPinsSafe { c with reasms := List.replicate 2 [], cans := List.replicate 2 {} }
    let c := (List.range 2).foldl (fun (c : Core) (p : Nat) => (c.set (K.wopEthLink p) 0).set (K.wopCanState p) 0) c
    c.updQd fun (q : Qd) => { q with busy := false, holds := false, sent := none, recs := [], failed := false }
  else if d = 6 then loopStop c
  else if d = 15 || d = 16 then (List.range 16).foldl (fun (c : Core) (k : Nat) => laneOff (16 * (d - 15) + k) c) c
  else if 7 ≤ d && d < 15 then scanOff (d - 7) c
  else c

/-- Slots whose saved ENABLE is 1 start when PD_LOOP comes on at boot, where a write of ENABLE would be accepted. -/
def slotsStart (c : Core) : Core :=
  (c.slotsOn).foldl (fun (c : Core) (s : Nat) =>
    let c := c.set (K.loopSlotEnable s) 0
    if c.enableStatus s = 0 then slotEnable s c else c) c

/-- The field blocks take the values that their objects hold: at boot, and whenever PD_FIELD comes on. -/
def fieldStart (c : Core) : Core :=
  let c := (List.range 4).foldl (fun (c : Core) (i : Nat) =>
    let c := { c with encs := upd c.encs i fun (e : Enc) => { e with homeAwait := decide (c.get (K.encIndexMode i) = 2) } }
    let c := { sposClk c i true with sposs := upd c.sposs i fun (_ : Spos) => { nextReq := c.sample } }
    lcEnableWritten c i 0 (c.get (K.lcEnable i))) c
  let c := (List.range 2).foldl (fun (c : Core) (p : Nat) => passStart (c.set (K.wopCanState p) (c.get (K.wopCanEnable p))) p) c
  let c := if c.ptp.run then ptpStart c else c
  if c.boot.step = 9 then qdJoin c else c

/-- What a domain's block does when the domain has become usable. -/
def domainOnEff (d : Nat) (c : Core) : Core :=
  if d = 2 then hubStart c
  else if d = 4 then fieldStart c
  else if d = 6 then pwmEnabled 0 (c.get K.loopPwmEnable) (slotsStart c)
  else if 7 ≤ d && d < 15 then loadTables (d - 7) c
  else c

/-- One domain switches. -/
def domainSet (d : Nat) (on : Bool) (c : Core) : Core :=
  if on then domainOnEff d (c.setBitOf K.devPdStatus d true) else (domainOffEff d c).setBitOf K.devPdStatus d false

/-- PD_SWITCH_DONE: the switch of domain d completes, in the order of R28. -/
def pdSwitchDone (d : Nat) (c : Core) : Core :=
  match c.boot.offs, c.boot.ons with
  | x :: r, _ => if x = d then domainSet d false { c with boot := { c.boot with offs := r } } else c
  | [], x :: r => if x = d then domainSet d true { c with boot := { c.boot with ons := r } } else c
  | [], [] => c

/-- Every switch that is due is made at once, as at step 8 of the boot. -/
def pdAll (c : Core) : Core :=
  let p := pdPlan (c.get K.devPdStatus) (c.get K.devPdEnable)
  let c := { c with boot := { c.boot with offs := [], ons := [] } }
  p.2.foldl (fun (c : Core) (d : Nat) => domainSet d true c) (p.1.foldl (fun (c : Core) (d : Nat) => domainSet d false c) c)

/-! ### Reset (R429 to R431) -/

/-- The machine held in reset after a cause: what the SPI NOR and the fuses keep stays; the model's own log, reply and
counter of free values stay too. -/
def doReset (cause : Nat) (c : Core) : Core :=
  let c := fieldPinsSafe (setAlive false (logCut c))
  let fresh : Core := {}
  { fresh with nor := c.nor, out := c.out, reply := c.reply, fresh := c.fresh,
               hub := { fresh.hub with stored := c.hub.stored },
               boot := { fresh.boot with cause := cause } }

/-- RESET_N_ASSERT. -/
def resetNAssert (c : Core) : Core :=
  let c := if c.boot.inReset then c else doReset 2 c
  { c with boot := { c.boot with resetLow := true } }

/-- SUPPLY_OUT_OF_RANGE. -/
def supplyOutOfRange (c : Core) : Core :=
  let c := if c.boot.inReset then c else doReset 4 c
  { c with boot := { c.boot with supplyBad := true } }

/-- A write of DEV.RESET, accepted: the device resets once its response has been sent (R430). -/
def resetAsk (c : Core) : Core := { c with boot := { c.boot with resetAsked := true } }

/-- The reset that a write of DEV.RESET asked for. -/
def resetAsked (c : Core) : Core := if c.boot.resetAsked then doReset 3 c else c

/-! ### Boot (R432 to R435) -/

/-- Steps 1 to 3: the objects that say how the reset came about and how the NOR answers. -/
def bootBegin (c : Core) : Core :=
  let c := { c with boot := { c.boot with inReset := false, resetLow := false, supplyBad := false, step := 6 } }
  let c := ((c.set K.devState 1).set K.devResetCause c.boot.cause).set K.devBootBus (if c.nor.octal then 2 else 1)
  c.set K.devBoots c.nor.boots

/-- Step 4: a slot is chosen, or the device enters recovery (R463, R471). -/
def bootSlot (c : Core) : Core :=
  if !c.nor.supported then c.set K.fwRecovery 2
  else
    let s := chooseSlot c.nor
    let c := { c with nor := s.nor, boot := { c.boot with raises := s.raises } }
    if s.starts then c else c.set K.fwRecovery 1

/-- Steps 5 and 6: saved settings apply, the rails are driven at their off levels, PD_FIELD comes on with the domains of step
2, and a training is due. In recovery no settings apply but the tag, where the NOR can be read (R462, R473). -/
def bootSettings (c : Core) : Core :=
  let c := if c.get K.fwRecovery = 0 then railDrive (restoreSettings c)
    else if c.get K.fwRecovery = 1 then c.set K.devTag c.nor.tag else c
  let c := c.set K.devPdStatus 0x1F
  let c := hubStart (fieldStart c)
  if c.get K.fwRecovery = 0 then railRun c else c

/-- RESET_END: the reset ends and the boot runs to step 6. -/
def resetEnd (c : Core) : Core := if c.boot.inReset then bootSettings (bootSlot (bootBegin c)) else c

/-- Step 8: the saved bits of DEV.PD_ENABLE apply. In recovery no further domain is needed. -/
def bootDomains (c : Core) : Core :=
  let c := { c with boot := { c.boot with step := 8 } }
  if c.get K.fwRecovery = 0 then pdAll c else c

/-- DRAM_TRAIN_DONE, with what it means for the boot: step 7, or after a failure step 8 without DRAM (R432, R435). -/
def trainDone (ok : Bool) (result : Nat) (c : Core) : Core :=
  let was := c.get K.hubTrainState
  let c := dramTrainDone ok result c
  let now := c.get K.hubTrainState
  if c.boot.step != 6 || was != 1 then c
  else if now = 2 || now = 3 then { c with boot := { c.boot with step := 7 } }
  else if now = 4 then bootDomains c
  else c

/-- DRAM_FILL_DONE, with step 8 of the boot. -/
def fillDone (c : Core) (m : List Host.Cell) : Core × List Host.Cell :=
  let due := c.hub.fillNext
  let (c, m) := dramFillDone c m
  (if due && !c.hub.fillNext && c.boot.step = 7 then bootDomains c else c, m)

/-- The transition from STANDBY to READY: DEV.MARK_MODE takes effect (R1, R437). -/
def toReady (c : Core) : Core :=
  let beam := c.get K.devMarkMode = 1
  let c := if c.beam && !beam then (List.range 8).foldl (fun (c : Core) (n : Nat) => scanOff n c) c else c
  setDevState 3 { c with beam := beam }

/-- A write of DEV.STATE_REQ, accepted (R437). -/
def stateReq (v : Nat) (c : Core) : Core :=
  if v = 2 then setDevState 2 c else if v = 3 then toReady c else if v = 5 then setDevState 5 c else c

/-- The state in which a boot without a stopping fault ends (R435). -/
def bootState (c : Core) : Core :=
  if c.get K.devState != 1 then c
  else
    let c := setDevState 2 c
    if c.get K.devBootState != 3 then c
    else if reqState c 3 then c.set K.devBootResult 7
    else toReady c

/-- BOOT_COMPLETE: step 9 (R432). The device leaves BOOT, PTP and the Quadrille start, and the faults that the boot code found
are raised. -/
def bootComplete (c : Core) : Core :=
  if c.boot.step != 8 || c.get K.fwRecovery != 0 then c
  else
    let kept := c.boot.raises
    let c := { c with boot := { c.boot with step := 9, raises := [] } }
    let us := c.clock / 1000
    let c := c.set K.devBootTime us
    let boots := satU 32 (c.nor.boots + 1)
    let c := { c.set K.devBoots boots with nor := { c.nor with boots := boots } }
    let c := c.raise 0x0201 1 (2 ^ 56 * c.boot.cause + us % 2 ^ 32)
    let c := { c with raises := c.raises ++ kept }
    let c := aliveStop (bootState c)
    let c := ptpStart (c.updPtp fun (x : Ptp) => { x with run := true })
    qdJoin c

/-- PERST_N_ASSERT, FUNCTION_LEVEL_RESET and PCIE_LINK_DOWN (R285): cause 1, 2 or 3. -/
def hostResetBy (cause : Nat) (c : Core) : Core := hostReset cause (if cause = 2 then c else pcieDown c)

end Sys2Proof.Machine
end

