-- ==== Sys2Proof/Machine/Tick.lean ====
section
/-! DEFINITION. Sys2Proof/Machine/Tick.lean: one cycle of the 200 MHz clock, which is what step does when no command waits
(DESIGN CHOICE, log 1), and what follows every change of the machine. -/

namespace Sys2Proof.Machine

/-- The scan drive in a cycle: a rising edge where the phase passes over (R176). -/
def driveTick (c : Core) : Core :=
  if !c.beam then c
  else
    let p := c.drivePhase + c.driveStep
    { c with drivePhase := p % 2 ^ 48, driveCount := c.driveCount + p / 2 ^ 48 }

/-- The position inputs and outputs and the synthesisers in a cycle (R34, R48, R49, R56, R61). -/
def fieldTick (c : Core) : Core :=
  if !(c.get K.devPdStatus).testBit 4 then c
  else
    let c := (List.range 4).foldl (fun (c : Core) (i : Nat) => sposSample (lcSample (encSample i c) i) i) c
    let c := (List.range 2).foldl (fun (c : Core) (p : Nat) => passSample c p) c
    let c := (List.range 8).foldl (fun (c : Core) (u : Nat) => cmpSample c u) c
    (List.range 16).foldl (fun (c : Core) (k : Nat) => cueWalk k c) c

/-- The scanners in a cycle (R176, R183). -/
def scanTick (c : Core) : Core :=
  if !c.beam then c else (List.range 8).foldl (fun (c : Core) (n : Nat) => sweepLine n c) (driveTick c)

/-- The fire events of the channels whose cycle has come (R120). -/
def fireTick (c : Core) : Core :=
  (List.range 8).foldl (fun (c : Core) (n : Nat) => if (c.get K.devPdStatus).testBit (7 + n) then fireMark n c else c) c

/-- PWM counters and GPIO inputs in a cycle (R365, R367). -/
def loopTick (c : Core) : Core :=
  let c := gpioTick c
  if !c.loopOn then c else (List.range 32).foldl (fun (c : Core) (k : Nat) => pwmTick k c) c

/-- Host reads of the DMA engine in a cycle (R308). -/
def dmaTick (c : Core) : Core := if (c.get K.devPdStatus).testBit 3 then dmaTurn c else c

/-- What waits for nothing but time: rails, commits of channels without line boundaries, FAULT_ALIVE. -/
def restTick (c : Core) : Core :=
  aliveTick ((List.range 8).foldl (fun (c : Core) (n : Nat) => cueIdle n (commitIdle n c)) (railRun c))

/-- What follows every change of the machine: arms that have waited for the boards are made, raised faults are processed, Recast and the Quadrille look at the new state,
DEV.STATE follows the channels (R436), and what they raise is processed. -/
def follow (c : Core) : Core := settle (devFollow (settle (qdWatch (rcstWatch (settle (armWatch c))))))

/-- The end of the present cycle: what waits for everything that happens in it (R38, R480). -/
def closeCycle (c : Core) : Core :=
  if (c.get K.devPdStatus).testBit 4 then (List.range 4).foldl (fun (c : Core) (i : Nat) => indexClose c i) c else c

/-- One cycle of 200 MHz. In reset nothing runs. -/
def tick (c : Core) : Core :=
  if c.boot.inReset then c
  else
    let c := closeCycle c
    let c := advance { c with lcs := c.lcs.mapIdx fun (i : Nat) (l : Lc) => { l with prevP := c.get (K.lcPosition i) } }
    follow (hubTick (dmaTick (linkTick (restTick (loopTick (fireTick (scanTick (fieldTick c))))))))

end Sys2Proof.Machine
end

