-- ==== Sys2Proof/Machine/Server.lean ====
section
/-! DEFINITION. Sys2Proof/Machine/Server.lean: the object server: one access to one object (R311 to R316, R322 to R330, R342).
Every write command is one call of `serverWrite`. -/

namespace Sys2Proof.Machine

/-! ### Actions of WO objects -/

/-- The action of a WO object of channel n, at offset o of its index (R55, R95, R97, R101, R110, R156, R157, R187, R205, R318). -/
def chAction (w : Writer) (m : List Host.Cell) (n o sub v : Nat) (c : Core) : Core :=
  if o = 0x00 then
    (if sub = 2 then (if v = 1 then chLoad n c else if v = 2 then chArm n c else if v = 4 then chAbort n c else chUnload n c)
    else commitAsk n 1 [w] c)
  else if o = 0x30 then (if sub = 6 then toneCopyStart n c else toneRequest n v c)
  else if o = 0x40 then nozPatch n v c
  else if o = 0x60 then tblStart n (decide (v = 1)) c
  else if 0xB0 ≤ o && o < 0xB4 then
    (if sub = 0x10 then ctrlStart (4 * n + (o - 0xB0)) (decide (v = 2)) c else bulkGo m (4 * n + (o - 0xB0)) c)
  else if o = 0xE0 then sltStart n v c
  else c

/-- A write of 2 to DEV.COMMIT marks the scopes for the next commit step of the Quadrille (R318). -/
def commitMark (w : Writer) (c : Core) : Core :=
  c.updQd fun (q : Qd) => { q with marked := 2 ^ 9 - 1, markers := q.markers ++ [w] }

/-- The action of a WO object of the device, but for CODEC.ABORT. -/
def devAction (w : Writer) (index sub v : Nat) (c : Core) : Core :=
  if index = 0x0200 then (if sub = 2 then stateReq v c else resetAsk c)
  else if 0x0220 ≤ index && index < 0x022A then
    (if sub = 1 then lockAcquire (index - 0x0220) w c else lockRelease (index - 0x0220) c)
  else if index = 0x0230 then (if v = 1 then devCommitNow w c else commitMark w c)
  else if index = 0x0250 then requestRecast 6 c
  else if index = 0x0260 then opStart v c
  else if index = 0x0300 then timeSet v c
  else if index = 0x0400 then (if sub = 7 then fltClear c else if sub = 11 then manualSafe c else stickyClearAll c)
  else if index = 0x0410 then selStickyClear c
  else if index = 0x0600 then fwConfirm c
  else if index = 0x0810 then hubInject v c
  else if 0x0B10 ≤ index && index < 0x0B14 then
    (if sub = 5 then encPreset (index - 0x0B10) v c else encRehome (index - 0x0B10) c)
  else if 0x0B40 ≤ index && index < 0x0B48 then
    (if v = 1 then cmpArm (index - 0x0B40) c else cmpDisarm (index - 0x0B40) c)
  else if 0x0B60 ≤ index && index < 0x0B70 then
    (if v = 1 then cueArm (index - 0x0B60) c else cueDisarm (index - 0x0B60) c)
  else if index = 0x0B70 then pageAbort c
  else if 0x0C20 ≤ index && index < 0x0C30 then publish (index - 0x0C20) c
  else if 0x0C40 ≤ index && index < 0x0C80 then
    (if sub = 0x13 then slotPreset (index - 0x0C40) v c else bankSwap (index - 0x0C40) c)
  else if index = 0x0E00 then qdStepWrite v c
  else c

/-- The action of a WO object. -/
def woAction (w : Writer) (index sub v : Nat) (c : Core) (m : List Host.Cell) : Core × List Host.Cell :=
  if index = 0x0A00 then codecAbort v c m
  else
    match indexCh index with
    | some n => (chAction w m n (index % 256) sub v c, m)
    | none => (devAction w index sub v c, m)

/-! ### Resolving and checking an access -/

/-- The object that an access names: an alias of Profile T stands for its target (R311, R342). -/
def Core.resolve (c : Core) (index sub : Nat) : Option Desc :=
  if 0x4000 ≤ index && index < 0x4400 && sub = 1 then
    let t := c.get (K.profTarget (index - 0x4000))
    if t = 0 then none else descOf (t / 256 % 65536) (t % 256)
  else descOf index sub

/-- FW.IMAGE and the entries of the Cue Table have checks and effects of their own. -/
def isImage (index sub : Nat) : Bool := index = 0x0600 && sub = 1
def isCue (index : Nat) : Bool := 0x2000 ≤ index && index < 0x3000

/-- Objects of which a write may cover a part (R313, R368, R462). -/
def partialOk (index sub : Nat) : Bool := (0x0C20 ≤ index && index < 0x0C30 && sub = 1) || index = 0x0110

/-- An access does not fit its object (R313). -/
def readLength (d : Desc) (off len : Nat) : Bool :=
  if d.typ = 10 then decide (4096 < len) || decide (d.obj.bytes < off + len) else off != 0 || len != d.obj.bytes

/-- A write does not fit its object (R313, R468). -/
def writeLength (c : Core) (d : Desc) (off : Nat) (data : List Byte) : Bool :=
  let index := d.obj.key / 256
  let sub := d.obj.key % 256
  if isImage index sub then imageLength c off data
  else readLength d off data.length ||
    (d.typ = 10 && !partialOk index sub && (off != 0 || data.length != d.obj.bytes))

/-- The whole value that an object has after a write of some of its bytes (R313); FW.IMAGE is checked by block. -/
def writeWhole (c : Core) (d : Desc) (off : Nat) (data : List Byte) : Nat :=
  if d.typ = 10 then
    (if isImage (d.obj.key / 256) (d.obj.key % 256) then 0
    else spliceLE (if d.acc = .rws then c.getStaged d.obj else c.get d.obj) off data.length (natLE data))
  else wireValue d.typ data

/-- The owner of a lock that forbids a write (R322, R323). -/
def Core.lockedBy (c : Core) (d : Desc) (w : Writer) : Option Nat :=
  let index := d.obj.key / 256
  let sub := d.obj.key % 256
  let other := fun (o : Option Writer) => match o with
    | some x => if x = w then none else some (ownerWord x)
    | none => none
  if d.acc = .rws then other (c.lockOwner index)
  else if d.acc = .rwl then (if c.lockOwner index = some w then none else some (((c.lockOwner index).map ownerWord).getD 0))
  else if 0x0220 ≤ index && index < 0x022A && sub ≤ 2 then other (nth c.locks (index - 0x0220)).owner
  else none

/-- In recovery the server serves only some objects, and every other answers STATE (R473). -/
def recoveryBars (c : Core) (index sub v : Nat) : Bool :=
  c.get K.fwRecovery != 0 &&
    !(index = 0x0100 || index = 0x0110 || index = 0x0600 || (index = 0x0200 && (sub ≤ 1 || sub = 6)) ||
      (index = 0x0260 && (sub != 1 || v = 3 || v = 4)))

/-- INFO with STATE: the present state of the owning channel, or of the device (R332). -/
def Core.stateInfo (c : Core) (index : Nat) : Nat :=
  match indexCh index with
  | some n => c.get (K.chState n)
  | none => c.get K.devState

/-- INFO of a write that is answered OK (R332). -/
def Core.okInfo (c : Core) (index sub v : Nat) : Nat :=
  if 0x0220 ≤ index && index < 0x022A && sub = 1 then c.get (K.devLockLease (index - 0x0220))
  else if index = 0x0260 && sub = 1 then opMax v
  else 0

/-- Status and INFO of a write: the first check of R315 that fails decides. -/
def writeCheck (w : Writer) (d : Desc) (typ off : Nat) (data : List Byte) (c : Core) (m : List Host.Cell) : Nat × Nat :=
  let index := d.obj.key / 256
  let sub := d.obj.key % 256
  let v := writeWhole c d off data
  if writeAccess c d v then (3, 0)
  else if typ != 0 && typ != d.typ then (4, 0)
  else if writeLength c d off data then (5, 0)
  else
    match c.lockedBy d w with
    | some owner => (6, owner)
    | none =>
      if recoveryBars c index sub v || writeState c d.acc index sub v || (isImage index sub && imageState c off) then
        (7, c.stateInfo index)
      else if writeRange c m d v || (isImage index sub && imageRange c off data) then (8, rangeInfo c d v)
      else if isImage index sub && imageBound off data then (9, 0)
      else (0, c.okInfo index sub v)

/-! ### A write -/

/-- The value written in memory form, for the audit entry (R312, R329). -/
def auditValue (d : Option Desc) (data : List Byte) : List Byte :=
  match d with
  | none => data
  | some d => if d.typ = 10 then data else if data.length = d.obj.bytes then memBytes d.obj.bytes (wireValue d.typ data) else data.reverse

/-- The audit entry of a write item, unless it writes AUDIT.FROM (R328, R329). -/
def auditWrite (w : Writer) (index sub status : Nat) (value : List Byte) (c : Core) : Core :=
  if index = 0x0270 && sub = 3 then c
  else
    auditEntry 1 (2 ^ 48 * (index % 2 ^ 16) + 2 ^ 40 * (sub % 256) + 2 ^ 32 * status + 2 ^ 16 * (w.client % 2 ^ 16) +
      2 ^ 8 * (w.transport % 256)) value c

/-- An accepted write takes effect under its access right (R314). -/
def writeEffect (w : Writer) (d : Desc) (off : Nat) (data : List Byte) (c : Core) (m : List Host.Cell) :
    Core × List Host.Cell :=
  let index := d.obj.key / 256
  let sub := d.obj.key % 256
  let v := writeWhole c d off data
  if d.acc = .wo then woAction w index sub v c m
  else if d.acc = .rws then (stageValue d.obj v w c, m)
  else if isImage index sub then (imageStage off data c, m)
  else if isCue index then
    (c.set (K.cueEntry (index - 0x2000)) (cueWith (cueEntryOf c (index - 0x2000)) sub v), m)
  else (applyValue d.obj v off data.length c, m)

/-- The answer to an item (R332): status, type, INFO, the data read, and whether a staged value is pending. -/
structure ItemRes where
  status : Nat
  typ : Nat := 0
  info : Nat := 0
  data : List Byte := []
  pending : Bool := false
deriving DecidableEq, Repr, Inhabited

/-- A write item: checked, audited, and applied when every check passes. The flag of a pending staged value is that from before
the write, as the worked example of the chapter shows it (DEDUCED, log 56). -/
def serverItem (w : Writer) (index sub typ off : Nat) (data : List Byte) (c : Core) (m : List Host.Cell) :
    ItemRes × Core × List Host.Cell :=
  match c.resolve index sub with
  | none => ({ status := 2 }, auditWrite w index sub 2 data c, m)
  | some d =>
    let pend := d.acc = .rws && (c.stagedOf d.obj.key).isSome
    let r := writeCheck w d typ off data c m
    let c := auditWrite w (d.obj.key / 256) (d.obj.key % 256) r.1 (auditValue (some d) data) c
    let s := if r.1 = 0 then writeEffect w d off data c m else (c, m)
    ({ status := r.1, typ := d.typ, info := r.2, pending := pend }, s.1, s.2)

/-! ### A read -/

/-- A value as it is shown: each bit whose value a rule calls undefined is free (R11). -/
def shown (d : Desc) (v : Nat) (c : Core) : Nat × Core :=
  let mask := reservedMask c (d.obj.key / 256) (d.obj.key % 256)
  if mask = 0 then (v, c)
  else
    let (f, c) := c.freeVal (8 * d.obj.bytes)
    (v ^^^ (v &&& mask) ||| (mask &&& f), c)

/-- Bytes of FW.IMAGE: those of the staged blocks; bytes that no block holds are free. -/
def imageRead (off : Nat) : Nat → Core → List Byte × Core
  | 0, c => ([], c)
  | n + 1, c =>
    let (r, c) := match (sget [] c.fw.blocks (off / 4096))[off % 4096]? with
      | some b => (b, c)
      | none => let (v, c) := c.freeVal 8; (BitVec.ofNat 8 v, c)
    let (l, c) := imageRead (off + 1) n c
    (r :: l, c)

/-- Torn records that a read of RAIL.LOG_WINDOW skips are counted (R427): those at or above RAIL.LOG_FROM and below the last
record it shows. -/
def logSkipped (c : Core) : Nat :=
  let from_ := c.get K.railLogFrom
  let shownRecs := (c.logFrom from_).take 8
  let last := (shownRecs.getLast?.map fun (r : LogRec) => r.seq).getD (2 ^ 32)
  (c.nor.log.filter fun (r : LogRec) => r.torn && decide (from_ ≤ r.seq) && (decide (r.seq < last) || decide (shownRecs.length < 8))).length

/-- What a read changes: RAIL.LOG_TORN. -/
def readEffect (index sub : Nat) (c : Core) : Core :=
  if index = 0x0510 && sub = 5 then c.addTo K.railLogTorn (logSkipped c) else c

/-- A read is answered STATE: the domain of the object is off and no other holds its value, or recovery bars it (R311, R473). -/
def readState (c : Core) (index sub : Nat) : Bool :=
  (c.domainOff index && !supHeld index) || recoveryBars c index sub 3

/-- A read item (R313 to R315, R332). staged asks for the staged value of an RWS object. -/
def serverRead (index sub typ off len : Nat) (staged : Bool) (c : Core) : ItemRes × Core :=
  match c.resolve index sub with
  | none => ({ status := 2 }, c)
  | some d =>
    let i := d.obj.key / 256
    let s := d.obj.key % 256
    let pend := (c.stagedOf d.obj.key).isSome
    if d.acc = .wo then ({ status := 3, typ := d.typ, pending := pend }, c)
    else if typ != 0 && typ != d.typ then ({ status := 4, typ := d.typ, pending := pend }, c)
    else if readLength d off len then ({ status := 5, typ := d.typ, pending := pend }, c)
    else if readState c i s then ({ status := 7, typ := d.typ, info := c.stateInfo i, pending := pend }, c)
    else if isImage i s then
      let (l, c) := imageRead off len c
      ({ status := 0, typ := d.typ, info := d.obj.bytes, data := l }, c)
    else
      let (v, c) := shown d (if staged && d.acc = .rws then c.getStaged d.obj else c.objValue d) c
      let c := readEffect i s c
      if d.typ = 10 then
        ({ status := 0, typ := 10, info := d.obj.bytes, data := slice (bytesLE d.obj.bytes v) off len, pending := pend }, c)
      else ({ status := 0, typ := d.typ, data := wireBytes d.typ d.obj.bytes v, pending := pend }, c)

/-! ### When the server answers -/

/-- The server answers BUSY, with the ms that DETAIL shows: a long operation runs (R326), or the boot has not ended (R433). -/
def Core.serverBusy (c : Core) : Option Nat :=
  if c.fw.op != 0 then some c.opLeft
  else if c.boot.step < 9 && (c.get K.fwRecovery = 0 || c.boot.step != 8) then
    some (max 1 (ceilDiv (1500000000 - c.clock) 1000000))
  else none

/-- The server is silent: in reset and before step 6 of the boot (R340, R433). -/
def Core.serverSilent (c : Core) : Bool := c.boot.inReset || decide (c.boot.step < 6)

/-- The reply of the last item (the model's own). -/
def setReply (status info : Nat) (c : Core) : Core := { c with reply := { status := status, info := info } }

/-- A write command: one write item of a client, outside a message. Its reply is `reply`; the client's leases are refreshed
(R322), and a reset that it asks for follows the reply (R430). -/
def serverWrite (w : Writer) (index sub typ off : Nat) (data : List Byte) (c : Core) (m : List Host.Cell) :
    Core × List Host.Cell :=
  if c.serverSilent then (c, m)
  else
    match c.serverBusy with
    | some left => (setReply 1 left c, m)
    | none =>
      let (r, c, m) := serverItem w index sub typ off data c m
      (setReply r.status r.info (lockRefresh w c), m)

/-- A write command that gives the object's value as a number. -/
def serverPut (w : Writer) (o : Obj) (v : Nat) (c : Core) (m : List Host.Cell) : Core × List Host.Cell :=
  match descOf (o.key / 256) (o.key % 256) with
  | some d => serverWrite w (o.key / 256) (o.key % 256) 0 0 (wireBytes d.typ d.obj.bytes v) c m
  | none => (c, m)

end Sys2Proof.Machine
end

