-- ==== Sys2Proof/Machine/Wop.lean ====
section
/-! DEFINITION. Sys2Proof/Machine/Wop.lean: messages of the Wygan Object Protocol (R331 to R334) and the transports that carry
them: UDP (R336), CAN FD (R337, R338) and the mailbox (R290, R339). -/

namespace Sys2Proof.Machine

/-! ### Messages -/

/-- An item of a request (R332). -/
structure Item where
  op : Nat
  typ : Nat
  index : Nat
  sub : Nat
  staged : Bool
  len : Nat
  off : Nat
  data : List Byte
deriving DecidableEq, Repr, Inhabited

/-- Length rounded up to a multiple of 4. -/
def pad4 (n : Nat) : Nat := (n + 3) / 4 * 4

/-- The items of a body, when it parses into exactly that many (R332, R333). -/
def parseItems : Nat → List Byte → Option (List Item)
  | 0, b => if b.isEmpty then some [] else none
  | n + 1, b =>
    let op := beAt b 0 1
    let len := beAt b 6 2
    let size := 12 + (if op = 2 then pad4 len else 0)
    if b.length < size || (op != 1 && op != 2) then none
    else
      let i : Item := { op := op, typ := beAt b 1 1, index := beAt b 2 2, sub := beAt b 4 1,
                        staged := (beAt b 5 1).testBit 0, len := len, off := beAt b 8 4,
                        data := if op = 2 then slice b 12 len else [] }
      (parseItems n (b.drop size)).map fun (l : List Item) => i :: l

/-- The bytes of an item of a response (R332). -/
def itemBytes (i : Item) (r : ItemRes) : List Byte :=
  [BitVec.ofNat 8 r.status, BitVec.ofNat 8 r.typ] ++ bytesBE 2 i.index ++ bytesBE 1 i.sub ++ bytesBE 1 (b2n r.pending) ++
    bytesBE 2 r.data.length ++ bytesBE 4 r.info ++ padTo (pad4 r.data.length) r.data

/-- Bytes that a response can take for an item at most. -/
def itemMax (i : Item) : Nat := 12 + (if i.op = 1 then pad4 i.len else 0)

/-- The largest message of a transport (R336, R338, R339). -/
def maxMessage (transport : Nat) : Nat := if transport ≤ 2 then 8164 else if transport ≤ 4 then 4410 else 16384

/-- Whether a transport's messages carry a CRC trailer (R331, R339). -/
def hasTrailer (transport : Nat) : Bool := transport != 5

/-- Bytes of the trailer. -/
def trailerLen (transport : Nat) : Nat := if hasTrailer transport then 4 else 0

/-- A response to the request whose header is given (R331). -/
def response (transport : Nat) (req : List Byte) (status detail : Nat) (items : List (List Byte)) : List Byte :=
  let body := items.flatten
  let m := bytesBE 2 0x5747 ++ bytesBE 1 1 ++ bytesBE 1 2 ++ slice req 4 5 ++ bytesBE 1 status ++
    bytesBE 2 items.length ++ bytesBE 2 body.length ++ bytesBE 2 detail ++ body
  if hasTrailer transport then m ++ bytesBE 4 (crc32 m) else m

/-- A request whose header is not legible or whose MAGIC is another, or a response: discarded without an answer (R333, R336). -/
def discarded (msg : List Byte) : Bool := decide (msg.length < 16) || beAt msg 0 2 != 0x5747 || beAt msg 3 1 = 2

/-- The CRC trailer fails (R331, R336). -/
def crcFails (transport : Nat) (msg : List Byte) : Bool :=
  hasTrailer transport &&
    (decide (msg.length < 20) || crc32 (msg.take (msg.length - 4)) != natBE (msg.drop (msg.length - 4)))

/-- The items of a request, or none where it is malformed or too long (R331, R333). -/
def requestItems (transport : Nat) (msg : List Byte) : Option (List Item) :=
  let len := beAt msg 12 2
  let count := beAt msg 10 2
  if msg.length != 16 + len + trailerLen transport || decide (maxMessage transport < msg.length) || count = 0 ||
      decide (256 < count) then none
  else
    match parseItems count (slice msg 16 len) with
    | none => none
    | some l =>
      if maxMessage transport < 16 + trailerLen transport + l.foldl (fun (a : Nat) (i : Item) => a + itemMax i) 0 then none
      else some l

/-! ### Clients (R334) -/

/-- The entry of a client in the table. -/
def Core.clientOf (c : Core) (w : Writer) : Option Client :=
  c.clients.find? fun (x : Client) => x.transport = w.transport && x.addr = w.addr && x.client = w.client

/-- SEQ that follows another: 1 to 65,535, then 1 again. -/
def seqNext (s : Nat) : Nat := if s = 65535 then 1 else s + 1

/-- The table without a client. -/
def Core.dropClient (c : Core) (w : Writer) : Core :=
  { c with clients := c.clients.filter fun (x : Client) =>
    !(x.transport = w.transport && x.addr = w.addr && x.client = w.client) }

/-- The entry idle the longest, when it has not been used within the last 60 s. -/
def Core.idleClient (c : Core) : Option Client :=
  c.clients.foldl (fun (b : Option Client) (x : Client) =>
    if c.clock < x.at_ + 60000000000 then b
    else match b with
      | none => some x
      | some y => if x.at_ < y.at_ then some x else some y) none

/-- Room for a new client: as the table is, with the entry idle the longest removed, or none. -/
def Core.roomForClient (c : Core) : Option Core :=
  if c.clients.length < 32 then some c
  else c.idleClient.map fun (x : Client) => c.dropClient { transport := x.transport, addr := x.addr, client := x.client }

/-- The client has executed a request: its entry holds the SEQ and the response sent. -/
def keepClient (w : Writer) (seq : Nat) (rsp : List Byte) (c : Core) : Core :=
  let c := c.dropClient w
  { c with clients := c.clients ++
    [{ transport := w.transport, addr := w.addr, client := w.client, seq := seq, rsp := rsp, at_ := c.clock }] }

/-! ### Requests (R333) -/

/-- One item of a request is executed. -/
def runItem (w : Writer) (i : Item) (c : Core) (m : List Host.Cell) : ItemRes × Core × List Host.Cell :=
  if i.op = 1 then
    let (r, c) := serverRead i.index i.sub i.typ i.off i.len i.staged c
    (r, c, m)
  else serverItem w i.index i.sub i.typ i.off i.data c m

/-- The items of a request, in order. What an item causes follows before the next; after a failure under STOP_ON_ERROR each
later item is responded STATE with INFO 0xFFFF_FFFF and not executed. -/
def runItems (w : Writer) (stop : Bool) : List Item → Core → List Host.Cell → List (List Byte) × Core × List Host.Cell
  | [], c, m => ([], c, m)
  | i :: r, c, m =>
    let (a, c, m) := runItem w i c m
    let c := follow c
    if stop && a.status != 0 then
      let rest := r.map fun (j : Item) => itemBytes j { status := 7, info := 0xFFFFFFFF }
      (itemBytes i a :: rest, setReply a.status a.info c, m)
    else
      let (l, c, m) := runItems w stop r (setReply a.status a.info c) m
      (itemBytes i a :: l, c, m)

/-- A request whose SEQ is in order is executed, and the client entered (R322, R333, R334). -/
def runRequest (w : Writer) (msg : List Byte) (items : List Item) (c : Core) (m : List Host.Cell) :
    List Byte × Core × List Host.Cell :=
  let (l, c, m) := runItems w ((beAt msg 8 1).testBit 0) items c m
  let c := lockRefresh w (c.bump K.wopRequests)
  let rsp := response w.transport msg 0 0 l
  (rsp, keepClient w (beAt msg 6 2) rsp c, m)

/-- A legible request with a good CRC, a known version and well-formed items, by its SEQ (R334). -/
def requestBySeq (w : Writer) (msg : List Byte) (items : List Item) (c : Core) (m : List Host.Cell) :
    List Byte × Core × List Host.Cell :=
  let seq := beAt msg 6 2
  match c.clientOf w with
  | none =>
    (match c.roomForClient with
      | none => (response w.transport msg 1 1000 [], c.bump K.wopBusyAnswers, m)
      | some c => runRequest w msg items (if seq = 0 then lockRestart w c else c) m)
  | some x =>
    if seq = 0 then runRequest w msg items (lockRestart w c) m
    else if seq = seqNext x.seq then runRequest w msg items c m
    else if seq = x.seq then
      let c := { c with clients := c.clients.map fun (y : Client) => if y = x then { y with at_ := c.clock } else y }
      (x.rsp, c.bump K.wopDuplicates, m)
    else (response w.transport msg 11 (seqNext x.seq) [], c.bump K.wopSeqErrors, m)

/-- A message as the server takes it: its response, or none where it is discarded (R331 to R334, R326, R433). addr is the source
address of the client on its transport. -/
def request (transport addr : Nat) (msg : List Byte) (c : Core) (m : List Host.Cell) :
    Option (List Byte) × Core × List Host.Cell :=
  if discarded msg then (none, c, m)
  else if crcFails transport msg then (some (response transport msg 10 0 []), c.bump K.wopCrcErrors, m)
  else if beAt msg 2 1 != 1 || beAt msg 3 1 != 1 then (some (response transport msg 4 1 []), c, m)
  else
    match c.serverBusy with
    | some left => (some (response transport msg 1 left []), c.bump K.wopBusyAnswers, m)
    | none =>
      match requestItems transport msg with
      | none => (some (response transport msg 5 (maxMessage transport) []), c, m)
      | some items =>
        let (r, c, m) := requestBySeq { transport := transport, addr := addr, client := beAt msg 4 2 } msg items c m
        (some r, c, m)

/-- Bytes of item data of a message, with their padding (R332). -/
def itemData (msg : List Byte) : Nat := beAt msg 12 2 - 12 * beAt msg 10 2

/-- A response leaves: its time is free up to the bound of R335, 2 ms and 1 us for each byte of item data, and
WOP.RESPONSE_MAX keeps the longest (log 102). -/
def responded (msg rsp : List Byte) (c : Core) : Core :=
  let (v, c) := c.freeVal 32
  c.set K.wopResponseMax (max (c.get K.wopResponseMax) (v % (2001 + itemData msg + itemData rsp)))

/-! ### UDP (R336) -/

/-- WOP is up on Ethernet port p: in recovery on ETH0 only (R473). -/
def Core.ethUp (c : Core) (p : Nat) : Bool :=
  !c.serverSilent && (c.get K.devPdStatus).testBit 4 && c.get (K.wopEthEnable p) = 1 && (c.get K.fwRecovery = 0 || p = 0)

/-- A UDP checksum that is not 0 fails, over the pseudo header of IPv4. -/
def udpChecksumFails (src dst : Nat) (d : List Byte) : Bool :=
  beAt d 6 2 != 0 && udpSum src dst d != 65535

/-- A message came on Ethernet port p from an address and source port: the response goes back to them, by the addresses that
held before the request (R336). -/
def ethMessage (p src port : Nat) (msg : List Byte) (c : Core) (m : List Host.Cell) : Core × List Host.Cell :=
  let route := c.route p src
  let (r, c, m) := request (p + 1) src msg c m
  match r with
  | some rsp => (udpSend p route src 47250 port rsp (responded msg rsp c), m)
  | none => (c, m)

/-- A whole UDP datagram came on Ethernet port p. -/
def udpWhole (p src : Nat) (d : List Byte) (c : Core) (m : List Host.Cell) : Core × List Host.Cell :=
  let len := beAt d 4 2
  if d.length < 8 || len < 8 || d.length < len || beAt d 2 2 != 47250 ||
      udpChecksumFails src (c.get (K.wopEthIpAddr p)) (d.take len) then (c.bump (K.wopEthDropped p), m)
  else ethMessage p src (beAt d 0 2) (slice d 8 (len - 8)) c m

/-- The reassemblies of a port changed. -/
def updReasm (p : Nat) (f : List Reasm → List Reasm) (c : Core) : Core := { c with reasms := upd c.reasms p f }

/-- The byte at a place of a reassembly, if a fragment holds it. -/
def fragByte (l : List (Nat × List Byte)) (i : Nat) : Option Byte :=
  l.findSome? fun (f : Nat × List Byte) => if f.1 ≤ i then f.2[i - f.1]? else none

/-- The bytes of a reassembly, when none is missing. -/
def Reasm.whole (r : Reasm) : Option (List Byte) :=
  match r.total with
  | none => none
  | some n => (List.range n).mapM fun (i : Nat) => fragByte r.frags i

/-- A reassembly is discarded and counted. -/
def reasmFail (p : Nat) (r : Reasm) (c : Core) : Core :=
  (updReasm p (fun (l : List Reasm) => l.erase r) c).bump (K.wopEthReassemblyFails p)

/-- A fragment joins its reassembly: whole, it becomes a datagram; with more than 8 fragments or 8,192 bytes it is discarded. -/
def fragment (p src ident off : Nat) (more : Bool) (data : List Byte) (c : Core) (m : List Host.Cell) :
    Core × List Host.Cell :=
  let l := nth c.reasms p
  match l.find? fun (r : Reasm) => r.addr = src && r.ident = ident with
  | none =>
    if 4 ≤ l.length || decide (8172 < off + data.length) then (c.bump (K.wopEthReassemblyFails p), m)
    else
      let r : Reasm := { addr := src, ident := ident, at_ := c.clock, frags := [(off, data)],
                         total := if more then none else some (off + data.length) }
      (updReasm p (fun (l : List Reasm) => l ++ [r]) c, m)
  | some r =>
    let r' : Reasm := { r with frags := r.frags ++ [(off, data)], total := if more then r.total else some (off + data.length) }
    if 8 < r'.frags.length || decide (8172 < off + data.length) then (reasmFail p r c, m)
    else
      match r'.whole with
      | some d => udpWhole p src d (updReasm p (fun (l : List Reasm) => l.erase r) c) m
      | none => (updReasm p (fun (l : List Reasm) => l.map fun (x : Reasm) => if x = r then r' else x) c, m)

/-- UDP_DATAGRAM: an IP packet for the port, whole or a fragment; data is its IP payload. -/
def udpDatagram (p src ident off : Nat) (more : Bool) (data : List Byte) (c : Core) (m : List Host.Cell) :
    Core × List Host.Cell :=
  if !c.ethUp p then (c, m)
  else if off = 0 && !more then udpWhole p src data c m
  else fragment p src ident off more data c m

/-- REASSEMBLY_TIMEOUT: a reassembly not complete within 100 ms is discarded. -/
def reassemblyTimeout (c : Core) : Core :=
  (List.range 2).foldl (fun (c : Core) (p : Nat) =>
    (nth c.reasms p).foldl (fun (c : Core) (r : Reasm) =>
      if r.at_ + 100000000 < c.clock then reasmFail p r c else c) c) c

/-- The Ethernet port answers the network. -/
def Core.ethAnswers (c : Core) (p : Nat) : Bool :=
  !c.serverSilent && (c.get K.devPdStatus).testBit 4 && (c.get K.fwRecovery = 0 || p = 0)

/-- ARP_REQUEST: responded for the port's own address. -/
def arpRequest (p ip : Nat) (c : Core) : Core :=
  if c.ethAnswers p && ip = c.get (K.wopEthIpAddr p) then c.emit (.arp p ip) else c

/-- ICMP_ECHO: an echo request from an address is responded. -/
def icmpEcho (p ip : Nat) (payload : List Byte) (c : Core) : Core :=
  if c.ethAnswers p then c.emit (.icmp p ip payload) else c

/-- ETH_LINK_CHANGE (R345). -/
def ethLinkChange (p : Nat) (on : Bool) (c : Core) : Core :=
  if (c.get K.devPdStatus).testBit 4 then c.set (K.wopEthLink p) (b2n on) else c

/-! ### CAN FD (R337, R338) -/

/-- WOP is up on CAN controller k. -/
def Core.canUp (c : Core) (k : Nat) : Bool :=
  !c.serverSilent && (c.get K.devPdStatus).testBit 4 && c.get (K.wopCanEnable k) = 1 && c.get K.fwRecovery = 0

/-- The shortest FD data length that holds some bytes. -/
def fdLength (n : Nat) : Nat :=
  if n ≤ 8 then n else if n ≤ 12 then 12 else if n ≤ 16 then 16 else if n ≤ 20 then 20 else if n ≤ 24 then 24
  else if n ≤ 32 then 32 else if n ≤ 48 then 48 else 64

/-- The frame that carries segment i of a message. -/
def canSegment (msg : List Byte) (i : Nat) : List Byte :=
  let s := slice msg (63 * i) 63
  let last := decide (msg.length ≤ 63 * (i + 1))
  let ctl := 128 * b2n (decide (i = 0)) + 64 * b2n last + i % 64
  padTo (fdLength (1 + s.length)) (BitVec.ofNat 8 ctl :: s)

/-- A response is sent on an identifier, segment by segment. -/
def canSend (k id : Nat) (msg : List Byte) (c : Core) : Core :=
  (List.range (ceilDiv msg.length 63)).foldl (fun (c : Core) (i : Nat) => c.emit (.can k id (canSegment msg i))) c

/-- A message came on CAN controller k; the response goes out on the identifier that held before the request. -/
def canMessage (k : Nat) (msg : List Byte) (c : Core) (m : List Host.Cell) : Core × List Host.Cell :=
  let id := c.get (K.wopCanRspId k)
  let (r, c, m) := request (k + 3) 0 msg c m
  match r with
  | some rsp => (canSend k id rsp (responded msg rsp c), m)
  | none => (c, m)

/-- The receiver of controller k changed. -/
def setCan (k : Nat) (x : CanRx) (c : Core) : Core := { c with cans := upd c.cans k fun (_ : CanRx) => x }

/-- The open message is discarded and counted. -/
def canError (k : Nat) (c : Core) : Core := (setCan k {} c).bump (K.wopCanSegErrors k)

/-- SEG_TIMEOUT: too long since the last frame of an open message. -/
def segTimeout (k : Nat) (c : Core) : Core :=
  let x := nth c.cans k
  if x.msg.isSome && decide (x.at_ + c.get (K.wopCanSegTimeout k) * 1000000 < c.clock) then canError k c else c

/-- A message is complete: its end is found from LENGTH, and the padding is ignored. -/
def canComplete (k : Nat) (bytes : List Byte) (c : Core) (m : List Host.Cell) : Core × List Host.Cell :=
  canMessage k (bytes.take (20 + beAt bytes 12 2)) (setCan k {} c) m

/-- A segment joins the message: bytes and segments before it are given. -/
def canSegmentIn (k : Nat) (before : List Byte) (count : Nat) (last : Bool) (seg : List Byte) (c : Core) (m : List Host.Cell) :
    Core × List Host.Cell :=
  if 70 ≤ count then (canError k c, m)
  else if last then canComplete k (before ++ seg) c m
  else (setCan k { msg := some (before ++ seg, count + 1), at_ := c.clock } c, m)

/-- CAN_FRAME: an FD frame on REQ_ID adds one segment; every other frame is ignored. -/
def canFrame (k id : Nat) (fd : Bool) (data : List Byte) (c : Core) (m : List Host.Cell) : Core × List Host.Cell :=
  if !c.canUp k || !fd || id != c.get (K.wopCanReqId k) || data.isEmpty || decide (64 < data.length) then (c, m)
  else
    let c := segTimeout k c
    let ctl := beAt data 0 1
    let seg := data.drop 1
    let last := ctl.testBit 6
    if ctl.testBit 7 then
      (if ctl % 64 != 0 then (canError k c, m) else canSegmentIn k [] 0 last seg c m)
    else
      match (nth c.cans k).msg with
      | none => (canError k c, m)
      | some (bytes, count) =>
        if ctl % 64 != count % 64 then (canError k c, m) else canSegmentIn k bytes count last seg c m

/-- CAN_BUS_OFF: recovered by the standard's rule, and counted (R337); a message in reception is lost with it. -/
def canBusOff (k : Nat) (c : Core) : Core :=
  if c.canUp k then ((setCan k {} c).bump (K.wopCanBusOffs k)).set (K.wopCanState k) 1 else c

/-! ### Any transport -/

/-- WOP_REQUEST: a complete message. On Ethernet addr is 65,536 times the IPv4 address plus the source port; on the mailbox
the message is the one that MBX_REQ holds. -/
def wopRequest (transport addr : Nat) (msg : List Byte) (c : Core) (m : List Host.Cell) : Core × List Host.Cell :=
  match transport with
  | 1 => if c.ethUp 0 then ethMessage 0 (addr / 65536) (addr % 65536) msg c m else (c, m)
  | 2 => if c.ethUp 1 then ethMessage 1 (addr / 65536) (addr % 65536) msg c m else (c, m)
  | 3 => if c.canUp 0 then canMessage 0 msg c m else (c, m)
  | 4 => if c.canUp 1 then canMessage 1 msg c m else (c, m)
  | 5 =>
    if !c.serverSilent && c.pcie.reqBusy then
      let msg := c.mbxMsg
      let (r, c, m) := request 5 0 msg c m
      (mbxAnswer r (match r with
        | some rsp => responded msg rsp c
        | none => c), m)
    else (c, m)
  | _ => (c, m)

end Sys2Proof.Machine
end

