-- ==== Sys2Proof/Machine/Run.lean ====
section
/-! DEFINITION. Sys2Proof/Machine/Run.lean: how a command's effect becomes the outcome of `exec`. A command that names a unit
which the hardware does not have is a fault. In reset, and while the power domain of its block is off, an event does not
happen (R28, R29, R429): the machine is unchanged (DESIGN CHOICE, log 2 and log 55). -/

namespace Sys2Proof.Machine

/-- The machine after a command: what it causes follows, and a reset that it asked for (R430). -/
def finish (c : Core) : Core := resetAsked (follow c)

/-- The domain of the block is usable and the device is out of reset. -/
def Core.alive (c : Core) (d : Nat) : Bool := !c.boot.inReset && (c.get K.devPdStatus).testBit d

/-- Runs a command whose units exist, in power domain d, and which does not write DRAM. -/
def run (ok : Bool) (d : Nat) (s : State) (f : Core → Core) : Host.Outcome State Fault Refusal :=
  if ok then (if s.core.alive d then .next { s with core := finish (f s.core) } else .next s) else .fault .noSuchUnit

/-- Runs a command that may write DRAM. -/
def runMem (ok : Bool) (d : Nat) (s : State) (f : Core → List Host.Cell → Core × List Host.Cell) :
    Host.Outcome State Fault Refusal :=
  if ok then
    (if s.core.alive d then
      let r := f s.core s.dram
      .next { s with core := finish r.1, dram := r.2 }
    else .next s)
  else .fault .noSuchUnit

/-- An event that ends an access of DRAM: it does not come while the hub grants none (R260; log 90). -/
def served (f : Core → Core) (c : Core) : Core := if c.hubWaits then c else f c

/-- As `served`, for an event that writes DRAM. -/
def servedMem (f : Core → List Host.Cell → Core × List Host.Cell) (c : Core) (m : List Host.Cell) : Core × List Host.Cell :=
  if c.hubWaits then (c, m) else f c m

/-- Runs a command of the reset and the supplies, which acts in reset too. -/
def runReset (s : State) (f : Core → Core) : Host.Outcome State Fault Refusal := .next { s with core := follow (f s.core) }

/-- Runs a write of an object of an existing unit. -/
def runPut (ok : Bool) (s : State) (w : Writer) (o : Obj) (v : Nat) : Host.Outcome State Fault Refusal :=
  runMem ok 1 s (serverPut w o v)

/-- Runs a write that gives bytes. -/
def runWrite (ok : Bool) (s : State) (w : Writer) (index sub typ off : Nat) (data : List Byte) :
    Host.Outcome State Fault Refusal :=
  runMem ok 1 s (serverWrite w index sub typ off data)

end Sys2Proof.Machine
end

