-- ==== Sys2Proof/Machine/ExecBeam.lean ====
section
/-! DEFINITION. Sys2Proof/Machine/ExecBeam.lean: the meanings of the commands of
the beam stations. Each names the units that exist, the power domain of its block, and
its effect. -/

namespace Sys2Proof.Machine

/-- The conversion of an APC sample: a timed sample of the converter (R363), stored, and offered to the slots in mode 5 of
this channel (R193, R352). -/
def apcTaken (n code : Nat) (c : Core) : Core :=
  if (c.apcDue n).isSome then loopTriggerAll 5 n (apcSample n code (ainTimed c)) else c

/-- SCAN_PULSE (R174). -/
def execScanPulse (n : Nat) (sensorB : Bool) (rise fall : Nat) (s : State) : Host.Outcome State Fault Refusal :=
  run (n < 8) (7 + n) s (scanPulse n sensorB rise fall)

/-- SCAN_MISS (R179). -/
def execScanMiss (n : Nat) (s : State) : Host.Outcome State Fault Refusal :=
  run (n < 8) (7 + n) s (scanMiss n)

/-- SCAN_LOST (R179). -/
def execScanLost (n : Nat) (s : State) : Host.Outcome State Fault Refusal :=
  run (n < 8) (7 + n) s (scanLost n)

/-- SCAN_ENABLE (R182). -/
def execScanEnable (w : Writer) (n : Nat) (s : State) : Host.Outcome State Fault Refusal :=
  runPut (n < 8) s w (K.chScanEnable n) 1

/-- SCAN_DISABLE (R182). -/
def execScanDisable (w : Writer) (n : Nat) (s : State) : Host.Outcome State Fault Refusal :=
  runPut (n < 8) s w (K.chScanEnable n) 0

/-- SCAN_SPINUP_DONE (R182). -/
def execScanSpinupDone (n : Nat) (s : State) : Host.Outcome State Fault Refusal :=
  run (n < 8) (7 + n) s (scanSpinupDone n)

/-- SCAN_ACQUIRED (R182). -/
def execScanAcquired (n : Nat) (s : State) : Host.Outcome State Fault Refusal :=
  run (n < 8) (7 + n) s (scanAcquired n)

/-- SCAN_ACQ_TIMEOUT (R182). -/
def execScanAcqTimeout (n : Nat) (s : State) : Host.Outcome State Fault Refusal :=
  run (n < 8) (7 + n) s (scanAcqTimeout n)

/-- SCAN_LOST_RETRY (R182). -/
def execScanLostRetry (n : Nat) (s : State) : Host.Outcome State Fault Refusal :=
  run (n < 8) (7 + n) s (scanLostRetry n)

/-- SWEEP_COMMIT (R183). -/
def execSweepCommit (n : Nat) (s : State) : Host.Outcome State Fault Refusal :=
  run (n < 8) (7 + n) s (sweepCommit n)

/-- SCAN_PAGE_PHASE2 (R192). -/
def execScanPagePhase2 (n : Nat) (s : State) : Host.Outcome State Fault Refusal :=
  run (n < 8) (7 + n) s (scanPagePhase2 n)

/-- SCAN_SPLIT (R192). -/
def execScanSplit (n : Nat) (s : State) : Host.Outcome State Fault Refusal :=
  run (n < 8) (7 + n) s (scanSplit n)

/-- SLT_LOAD (R187). -/
def execSltLoad (w : Writer) (n : Nat) (s : State) : Host.Outcome State Fault Refusal :=
  runPut (n < 8) s w (K.chSltGo n) 1

/-- SLT_READBACK (R187). -/
def execSltReadback (w : Writer) (n : Nat) (s : State) : Host.Outcome State Fault Refusal :=
  runPut (n < 8) s w (K.chSltGo n) 2

/-- SLT_GENERATE (R187). -/
def execSltGenerate (w : Writer) (n : Nat) (s : State) : Host.Outcome State Fault Refusal :=
  runPut (n < 8) s w (K.chSltGo n) 3

/-- SLT_DONE (R187). -/
def execSltDone (n : Nat) (s : State) : Host.Outcome State Fault Refusal :=
  runMem (n < 8) (7 + n) s fun (c : Core) (m : List Host.Cell) => sltDone m n c

/-- APC_SAMPLE (R193). -/
def execApcSample (n code : Nat) (s : State) : Host.Outcome State Fault Refusal :=
  run (n < 8) (7 + n) s (apcTaken n code)

/-- STATION_FINISHED (R199). -/
def execStationFinished (n : Nat) (s : State) : Host.Outcome State Fault Refusal :=
  run (n < 8) (7 + n) s (stationFinished n)

/-- PAGE_SPOILED_REPORT (R202). -/
def execPageSpoiledReport (n : Nat) (s : State) : Host.Outcome State Fault Refusal :=
  run (n < 8) (7 + n) s (pageSpoiledReport n)

/-- PAGE_ABORT (R199). -/
def execPageAbort (w : Writer) (s : State) : Host.Outcome State Fault Refusal :=
  runPut true s w K.beamPageAbort 1

end Sys2Proof.Machine
end

