-- ==== Sys2Proof/Machine/ExecClock.lean ====
section
/-! DEFINITION. Sys2Proof/Machine/ExecClock.lean: the meanings of the commands of
the line clock synthesisers and the Cue Table. Each names the units that exist, the power domain of its block, and
its effect. -/

namespace Sys2Proof.Machine

/-- LC_TRACK_EXIT (R63). -/
def execLcTrackExit (n : Nat) (s : State) : Host.Outcome State Fault Refusal :=
  run (n < 4) 4 s (lcTrackExit n)

/-- LC_STILL (R63). -/
def execLcStill (n : Nat) (s : State) : Host.Outcome State Fault Refusal :=
  run (n < 4) 4 s (lcStill n)

/-- LC_UNLOCK (R64). -/
def execLcUnlock (n : Nat) (s : State) : Host.Outcome State Fault Refusal :=
  run (n < 4) 4 s (lcUnlock n)

/-- LC_RELOCK (R64). -/
def execLcRelock (n : Nat) (s : State) : Host.Outcome State Fault Refusal :=
  run (n < 4) 4 s (lcRelock n)

/-- LC_SETTLED (R64). -/
def execLcSettled (n : Nat) (s : State) : Host.Outcome State Fault Refusal :=
  run (n < 4) 4 s (lcSettled n)

/-- NOP (R73). -/
def execNop (k : Nat) (s : State) : Host.Outcome State Fault Refusal :=
  run (k < 16) 4 s (cueRun 0x00 k)

/-- TONE_SWAP (R95). -/
def execToneSwap (k : Nat) (s : State) : Host.Outcome State Fault Refusal :=
  run (k < 16) 4 s (cueRun 0x01 k)

/-- COMMIT (R80). -/
def execCommit (k : Nat) (s : State) : Host.Outcome State Fault Refusal :=
  run (k < 16) 4 s (cueRun 0x02 k)

/-- DEV_COMMIT (R318). -/
def execDevCommit (k : Nat) (s : State) : Host.Outcome State Fault Refusal :=
  run (k < 16) 4 s (cueRun 0x03 k)

/-- LOOP_SAMPLE (R352). -/
def execLoopSample (k : Nat) (s : State) : Host.Outcome State Fault Refusal :=
  run (k < 16) 4 s (cueRun 0x04 k)

/-- LOOP_BANK (R356). -/
def execLoopBank (k : Nat) (s : State) : Host.Outcome State Fault Refusal :=
  run (k < 16) 4 s (cueRun 0x05 k)

/-- ADC_TRIGGER (R364). -/
def execAdcTrigger (k : Nat) (s : State) : Host.Outcome State Fault Refusal :=
  run (k < 16) 4 s (cueRun 0x06 k)

/-- GPIO (R73). -/
def execGpio (k : Nat) (s : State) : Host.Outcome State Fault Refusal :=
  run (k < 16) 4 s (cueRun 0x07 k)

/-- EVENT (R82). -/
def execEvent (k : Nat) (s : State) : Host.Outcome State Fault Refusal :=
  run (k < 16) 4 s (cueRun 0x08 k)

/-- LIST_ARM (R75). -/
def execListArm (k : Nat) (s : State) : Host.Outcome State Fault Refusal :=
  run (k < 16) 4 s (cueRun 0x09 k)

/-- RECAST_REQ (R222). -/
def execRecastReq (k : Nat) (s : State) : Host.Outcome State Fault Refusal :=
  run (k < 16) 4 s (cueRun 0x0A k)

/-- PAGE_START (R196). -/
def execPageStart (k : Nat) (s : State) : Host.Outcome State Fault Refusal :=
  run (k < 16) 4 s (cueRun 0x0B k)

/-- CUE_LIST_ARM (R75). -/
def execCueListArm (w : Writer) (k : Nat) (s : State) : Host.Outcome State Fault Refusal :=
  runPut (k < 16) s w (K.cueListArm k) 1

/-- CUE_LIST_DISARM (R75). -/
def execCueListDisarm (w : Writer) (k : Nat) (s : State) : Host.Outcome State Fault Refusal :=
  runPut (k < 16) s w (K.cueListArm k) 0

/-- CUE_ENTRY_WRITE (R81). -/
def execCueEntryWrite (w : Writer) (entry sub offset : Nat) (data : List Byte) (s : State) :
    Host.Outcome State Fault Refusal :=
  runWrite (entry < 4096) s w (0x2000 + entry) sub 0 offset data

end Sys2Proof.Machine
end

