-- ==== Sys2Proof/Machine/ExecCodec.lean ====
section
/-! DEFINITION. Sys2Proof/Machine/ExecCodec.lean: the meanings of the commands of
the compressors. Each names the units that exist, the power domain of its block, and
its effect. -/

namespace Sys2Proof.Machine

/-- CODEC_JOB_START (R246). -/
def execCodecJobStart (u : Nat) (s : State) : Host.Outcome State Fault Refusal :=
  run (u < 2) 5 s (codecJobStart u)

/-- CODEC_JOB_DONE (R252). -/
def execCodecJobDone (u : Nat) (s : State) : Host.Outcome State Fault Refusal :=
  runMem (u < 2) 5 s fun (c : Core) (m : List Host.Cell) => servedMem (fun (c : Core) (m : List Host.Cell) => codecJobDone m u c) c m

/-- CODEC_ABORT (R253). -/
def execCodecAbort (w : Writer) (v : Nat) (s : State) : Host.Outcome State Fault Refusal :=
  runPut true s w K.codecAbort v

end Sys2Proof.Machine
end

