-- ==== Sys2Proof/Machine/ExecFaults.lean ====
section
/-! DEFINITION. Sys2Proof/Machine/ExecFaults.lean: the meanings of the commands of
the fault collector and the rail sequencer. Each names the units that exist, the power domain of its block, and
its effect. -/

namespace Sys2Proof.Machine

/-- FAULT_CONDITION_END (R406). -/
def execFaultConditionEnd (id : Nat) (s : State) : Host.Outcome State Fault Refusal :=
  run true 1 s (faultConditionEnd id)

/-- SCOPE_RECOVER (R413). -/
def execScopeRecover (scope : Nat) (s : State) : Host.Outcome State Fault Refusal :=
  run (scope < 9) 1 s (scopeRecover scope)

/-- FLT_CLEAR (R414). -/
def execFltClear (w : Writer) (s : State) : Host.Outcome State Fault Refusal :=
  runPut true s w K.fltClear 1

/-- FLT_SEL_CLASS_WRITE (R409). -/
def execFltSelClassWrite (w : Writer) (v : Nat) (s : State) : Host.Outcome State Fault Refusal :=
  runPut true s w K.fltSelClass v

/-- SEL_STICKY_CLEAR (R409). -/
def execSelStickyClear (w : Writer) (s : State) : Host.Outcome State Fault Refusal :=
  runPut true s w K.fltSelStickyClear 1

/-- STICKY_CLEAR_ALL (R407). -/
def execStickyClearAll (w : Writer) (s : State) : Host.Outcome State Fault Refusal :=
  runPut true s w K.fltStickyClearAll 1

/-- MANUAL_SAFE (R416). -/
def execManualSafe (w : Writer) (s : State) : Host.Outcome State Fault Refusal :=
  runPut true s w K.fltTrip 1

/-- FLT_FEC_REARM (R415). -/
def execFltFecRearm (w : Writer) (s : State) : Host.Outcome State Fault Refusal :=
  runPut true s w K.fltFecValid 0

/-- BUS_ERROR (R415). -/
def execBusError (kind addr master typ : Nat) (s : State) : Host.Outcome State Fault Refusal :=
  run true 1 s (busError kind addr master typ)

/-- SUP_SRAM_UE (R416). -/
def execSupSramUe (addr : Nat) (s : State) : Host.Outcome State Fault Refusal :=
  run true 1 s (supSramUe addr)

/-- SUP_WATCHDOG (R412). -/
def execSupWatchdog (s : State) : Host.Outcome State Fault Refusal :=
  run true 1 s supWatchdog

/-- DIE_HOT (R416). -/
def execDieHot (sensor t : Nat) (s : State) : Host.Outcome State Fault Refusal :=
  run (sensor < 8) 1 s (dieHot sensor t)

/-- DIE_CRIT (R416). -/
def execDieCrit (sensor t : Nat) (s : State) : Host.Outcome State Fault Refusal :=
  run (sensor < 8) 1 s (dieCrit sensor t)

/-- VAON_LOW (R416). -/
def execVaonLow (mv : Nat) (s : State) : Host.Outcome State Fault Refusal :=
  run true 1 s (vaonLow mv)

/-- RAIL_TARGET_WRITE (R421). -/
def execRailTargetWrite (w : Writer) (v : Nat) (s : State) : Host.Outcome State Fault Refusal :=
  runPut true s w K.railTarget v

/-- RAIL_GOOD (R418). -/
def execRailGood (r : Nat) (s : State) : Host.Outcome State Fault Refusal :=
  run (r < 24) 1 s (railGood r)

/-- RAIL_DISCHARGED (R418). -/
def execRailDischarged (r : Nat) (s : State) : Host.Outcome State Fault Refusal :=
  run (r < 24) 1 s (railDischarged r)

/-- RAIL_ON_DELAY (R419). -/
def execRailOnDelay (r : Nat) (s : State) : Host.Outcome State Fault Refusal :=
  run (r < 24) 1 s railOnDelay

/-- RAIL_SETTLE_DONE (R419). -/
def execRailSettleDone (s : State) : Host.Outcome State Fault Refusal :=
  run true 1 s railSettleDone

/-- RAIL_ON_TIMEOUT (R419). -/
def execRailOnTimeout (r : Nat) (s : State) : Host.Outcome State Fault Refusal :=
  run (r < 24) 1 s (railOnTimeout r)

/-- RAIL_OFF_TIMEOUT (R419). -/
def execRailOffTimeout (r : Nat) (s : State) : Host.Outcome State Fault Refusal :=
  run (r < 24) 1 s (railOffTimeout r)

/-- RAIL_LOST (R420). -/
def execRailLost (r : Nat) (s : State) : Host.Outcome State Fault Refusal :=
  run (r < 24) 1 s (railLost r)

/-- RAIL_LOG_PROGRAM_DONE (R426). -/
def execRailLogProgramDone (ok : Bool) (s : State) : Host.Outcome State Fault Refusal :=
  run true 1 s (railLogProgramDone ok)

end Sys2Proof.Machine
end

