-- ==== Sys2Proof/Machine/ExecHost.lean ====
section
/-! DEFINITION. Sys2Proof/Machine/ExecHost.lean: the meanings of the commands of
the PCIe host interface, the rings and the DMA engine. Each names the units that exist, the power domain of its block, and
its effect. -/

namespace Sys2Proof.Machine

/-- PERST_N_ASSERT (R285). -/
def execPerstNAssert (s : State) : Host.Outcome State Fault Refusal :=
  run true 3 s (hostResetBy 1)

/-- FUNCTION_LEVEL_RESET (R285). -/
def execFunctionLevelReset (s : State) : Host.Outcome State Fault Refusal :=
  run true 3 s (hostResetBy 2)

/-- PCIE_LINK_DOWN (R285). -/
def execPcieLinkDown (s : State) : Host.Outcome State Fault Refusal :=
  run true 3 s (hostResetBy 3)

/-- PCIE_AER (R309). -/
def execPcieAer (status : Nat) (s : State) : Host.Outcome State Fault Refusal :=
  run true 3 s (pcieAer (status % 2 ^ 32) (status.testBit 32))

/-- BAR0_WRITE (R287). -/
def execBar0Write (bar offset size v : Nat) (s : State) : Host.Outcome State Fault Refusal :=
  run true 3 s (barAccess bar offset size v)

/-- GLB_TIME_READ (R288). -/
def execGlbTimeRead (s : State) : Host.Outcome State Fault Refusal :=
  run true 3 s (barRead 0 8 4)

/-- BAR2_READ (R289). -/
def execBar2Read (x len : Nat) (s : State) : Host.Outcome State Fault Refusal :=
  run true 3 s (bar2Read s.dram x len)

/-- BAR2_WRITE (R289). -/
def execBar2Write (x : Nat) (data : List Byte) (poisoned : Bool) (s : State) : Host.Outcome State Fault Refusal :=
  runMem true 3 s fun (c : Core) (m : List Host.Cell) => bar2Write m x data poisoned c

/-- MBX_SUBMIT (R290). -/
def execMbxSubmit (len : Nat) (s : State) : Host.Outcome State Fault Refusal :=
  run true 3 s (mbxSubmit len)

/-- MBX_RSP_ACK (R290). -/
def execMbxRspAck (s : State) : Host.Outcome State Fault Refusal :=
  run true 3 s mbxRspAck

/-- RING_ENABLE (R291). -/
def execRingEnable (k v : Nat) (s : State) : Host.Outcome State Fault Refusal :=
  run (k < 64) 3 s (ringEnable k v)

/-- RING_DISABLE (R291). -/
def execRingDisable (k : Nat) (s : State) : Host.Outcome State Fault Refusal :=
  run (k < 64) 3 s (ringDisable k)

/-- RING_DB (R292). -/
def execRingDb (k v : Nat) (s : State) : Host.Outcome State Fault Refusal :=
  run (k < 64) 3 s (ringDb k v)

/-- RING_ENTRY_READ (R293). -/
def execRingEntryRead (k : Nat) (data : List Byte) (err : Nat) (s : State) : Host.Outcome State Fault Refusal :=
  run (k < 64) 3 s (ringEntryRead k data err)

/-- RING_INTERRUPT_DUE (R296). -/
def execRingInterruptDue (k : Nat) (s : State) : Host.Outcome State Fault Refusal :=
  run (k < 64) 3 s (ringInterruptDue k)

/-- MSIX_UNMASK (R296). -/
def execMsixUnmask (v : Nat) (s : State) : Host.Outcome State Fault Refusal :=
  run (v < 128) 3 s (msixUnmask v)

/-- DMA_START (R298). -/
def execDmaStart (ch : Nat) (s : State) : Host.Outcome State Fault Refusal :=
  run (ch < 16) 3 s (dmaStart ch)

/-- DMA_STOP (R298). -/
def execDmaStop (ch : Nat) (s : State) : Host.Outcome State Fault Refusal :=
  run (ch < 16) 3 s (dmaStop ch)

/-- DMA_RESET (R298). -/
def execDmaReset (ch : Nat) (s : State) : Host.Outcome State Fault Refusal :=
  run (ch < 16) 3 s (dmaReset ch)

/-- DMA_HEAD_WRITE (R298). -/
def execDmaHeadWrite (ch v : Nat) (s : State) : Host.Outcome State Fault Refusal :=
  run (ch < 16) 3 s (dmaHeadWrite ch v)

/-- DMA_KICK (R304). -/
def execDmaKick (ch : Nat) (s : State) : Host.Outcome State Fault Refusal :=
  run (ch < 16) 3 s (dmaKick ch)

/-- DMA_DESC_FETCHED (R304). -/
def execDmaDescFetched (ch : Nat) (desc : List Byte) (err : Nat) (s : State) : Host.Outcome State Fault Refusal :=
  run (ch < 16) 3 s (dmaDescFetched s.dram ch desc err)

/-- DMA_LINK_REREAD (R304). -/
def execDmaLinkReread (ch link err : Nat) (s : State) : Host.Outcome State Fault Refusal :=
  run (ch < 16) 3 s (dmaLinkReread s.dram ch link err)

/-- DMA_HALF_POINT (R302). -/
def execDmaHalfPoint (ch : Nat) (data : List Byte) (s : State) : Host.Outcome State Fault Refusal :=
  runMem (ch < 16) 3 s fun (c : Core) (m : List Host.Cell) => servedMem (dmaHalfPoint ch data) c m

/-- DMA_DESC_DONE (R302). -/
def execDmaDescDone (ch : Nat) (data : List Byte) (s : State) : Host.Outcome State Fault Refusal :=
  runMem (ch < 16) 3 s fun (c : Core) (m : List Host.Cell) => servedMem (dmaDescDone ch data) c m

/-- DMA_STOPPED (R298). -/
def execDmaStopped (ch upTo : Nat) (data : List Byte) (s : State) : Host.Outcome State Fault Refusal :=
  runMem (ch < 16) 3 s fun (c : Core) (m : List Host.Cell) => servedMem (dmaStopped ch upTo data) c m

/-- DMA_ERROR (R306). -/
def execDmaError (ch kind typ addr : Nat) (s : State) : Host.Outcome State Fault Refusal :=
  runMem (ch < 16) 3 s fun (c : Core) (m : List Host.Cell) => dmaHostError ch kind typ addr c m

/-- PCIE_LINK_UP (R284). -/
def execPcieLinkUp (gen width : Nat) (s : State) : Host.Outcome State Fault Refusal :=
  run true 3 s (pcieLinkUp gen width)

end Sys2Proof.Machine
end

