-- ==== Sys2Proof/Machine/ExecHub.lean ====
section
/-! DEFINITION. Sys2Proof/Machine/ExecHub.lean: the meanings of the commands of
the memory hub. Each names the units that exist, the power domain of its block, and
its effect. -/

namespace Sys2Proof.Machine

/-- DRAM_TRAINING (R259). -/
def execDramTraining (s : State) : Host.Outcome State Fault Refusal :=
  run true 2 s dramTraining

/-- DRAM_TRAIN_DONE (R259). -/
def execDramTrainDone (ok : Bool) (result : Nat) (s : State) : Host.Outcome State Fault Refusal :=
  runMem true 2 s fun (c : Core) (m : List Host.Cell) => barServe (trainDone ok result c) m

/-- DRAM_FILL_DONE (R260). -/
def execDramFillDone (s : State) : Host.Outcome State Fault Refusal :=
  runMem true 2 s fun (c : Core) (m : List Host.Cell) => barServe (fillDone c m).1 (fillDone c m).2

/-- DRAM_READ_RETURN (R266). -/
def execDramReadReturn (master addr len : Nat) (errs : List (Nat × Nat)) (s : State) :
    Host.Outcome State Fault Refusal :=
  run true 0 s (dramReadReturn master addr len errs)

/-- PARTIAL_WRITE_MERGE (R267). -/
def execPartialWriteMerge (master addr : Nat) (errs : List (Nat × Nat)) (data : List Byte) (s : State) :
    Host.Outcome State Fault Refusal :=
  runMem true 0 s fun (c : Core) (m : List Host.Cell) => partialWriteMerge master addr errs data c m

/-- SCRUB_READ (R268). -/
def execScrubRead (errs : List (Nat × Nat)) (s : State) : Host.Outcome State Fault Refusal :=
  run true 2 s (scrubRead errs)

/-- REFRESH_DUE (R275). -/
def execRefreshDue (ch sub : Nat) (panic : Bool) (s : State) : Host.Outcome State Fault Refusal :=
  run (ch < 4 && sub < 2) 2 s (refreshDue ch sub panic)

/-- DRAM_TEMP_POLL (R275). -/
def execDramTempPoll (ch sub : Nat) (hot : Bool) (s : State) : Host.Outcome State Fault Refusal :=
  run (ch < 4 && sub < 2) 2 s (dramTempPoll ch sub hot)

/-- ZQ_CAL (R276). -/
def execZqCal (ch : Nat) (s : State) : Host.Outcome State Fault Refusal :=
  run (ch < 4) 2 s (zqCal ch)

/-- DQS_OSC_READ (R276). -/
def execDqsOscRead (ch sub drift : Nat) (s : State) : Host.Outcome State Fault Refusal :=
  run (ch < 4 && sub < 2) 2 s (dqsOscRead ch sub drift)

/-- SR_ENTRY (R278). -/
def execSrEntry (ch sub : Nat) (s : State) : Host.Outcome State Fault Refusal :=
  run (ch < 4 && sub < 2) 2 s (srEntry ch sub)

/-- SR_EXIT (R278). -/
def execSrExit (ch sub : Nat) (s : State) : Host.Outcome State Fault Refusal :=
  run (ch < 4 && sub < 2) 2 s (srExit ch sub)

/-- HUB_BIAS_WRITE (R273). -/
def execHubBiasWrite (w : Writer) (m v : Nat) (s : State) : Host.Outcome State Fault Refusal :=
  runPut (m < 64) s w (K.hubBias m) v

/-- HUB_FEC_REARM (R281). -/
def execHubFecRearm (w : Writer) (s : State) : Host.Outcome State Fault Refusal :=
  runPut true s w K.hubFecValid 0

/-- HUB_INJECT (R283). -/
def execHubInject (w : Writer) (v : Nat) (s : State) : Host.Outcome State Fault Refusal :=
  runPut true s w K.hubInject v

end Sys2Proof.Machine
end

