-- ==== Sys2Proof/Machine/ExecImage.lean ====
section
/-! DEFINITION. Sys2Proof/Machine/ExecImage.lean: the meanings of the commands of
the image path, firing and the tables. Each names the units that exist, the power domain of its block, and
its effect. -/

namespace Sys2Proof.Machine

/-- FIRE_ISSUE (R120). -/
def execFireIssue (n : Nat) (s : State) : Host.Outcome State Fault Refusal :=
  run (n < 8) (7 + n) s (fireIssue n)

/-- FLASK_READ_DONE (R93). -/
def execFlaskReadDone (n line burst : Nat) (late : Bool) (s : State) : Host.Outcome State Fault Refusal :=
  run (n < 8) (7 + n) s (served (flaskReadDone n line burst late))

/-- CH_TONE_SWAP (R95). -/
def execChToneSwap (w : Writer) (n v : Nat) (s : State) : Host.Outcome State Fault Refusal :=
  runPut (n < 8) s w (K.chToneSwap n) v

/-- TONE_DRAIN_END (R96). -/
def execToneDrainEnd (n : Nat) (s : State) : Host.Outcome State Fault Refusal :=
  run (n < 8) (7 + n) s (toneDrainEnd n)

/-- TONE_COPY (R97). -/
def execToneCopy (w : Writer) (n : Nat) (s : State) : Host.Outcome State Fault Refusal :=
  runPut (n < 8) s w (K.chToneCopy n) 1

/-- TONE_COPY_DONE (R97). -/
def execToneCopyDone (n : Nat) (s : State) : Host.Outcome State Fault Refusal :=
  run (n < 8) (7 + n) s (toneCopyDone n)

/-- NOZ_PATCH (R101). -/
def execNozPatch (w : Writer) (n v : Nat) (s : State) : Host.Outcome State Fault Refusal :=
  runPut (n < 8) s w (K.chNozPatch n) v

/-- NOZ_RESYNC_DONE (R101). -/
def execNozResyncDone (n : Nat) (s : State) : Host.Outcome State Fault Refusal :=
  run (n < 8) (7 + n) s (nozResyncDone n)

/-- TBL_LOAD (R110). -/
def execTblLoad (w : Writer) (n : Nat) (s : State) : Host.Outcome State Fault Refusal :=
  runPut (n < 8) s w (K.chTblGo n) 1

/-- TBL_READBACK (R110). -/
def execTblReadback (w : Writer) (n : Nat) (s : State) : Host.Outcome State Fault Refusal :=
  runPut (n < 8) s w (K.chTblGo n) 2

/-- TBL_LOAD_DONE (R112). -/
def execTblLoadDone (n : Nat) (s : State) : Host.Outcome State Fault Refusal :=
  runMem (n < 8) (7 + n) s fun (c : Core) (m : List Host.Cell) => servedMem (fun (c : Core) (m : List Host.Cell) => tblLoadDone m n c) c m

/-- SRAM_SCRUB_READ (R268). -/
def execSramScrubRead (n table entry flips : Nat) (s : State) : Host.Outcome State Fault Refusal :=
  run (n < 8) (if table = 6 then 4 else 7 + n) s (sramScrubRead n table entry flips)

/-- HEAD_TEMP_STALE (R130). -/
def execHeadTempStale (n h : Nat) (s : State) : Host.Outcome State Fault Refusal :=
  run (n < 8) (7 + n) s (headTempStale n h)

end Sys2Proof.Machine
end

