-- ==== Sys2Proof/Machine/ExecJobs.lean ====
section
/-! DEFINITION. Sys2Proof/Machine/ExecJobs.lean: the meanings of the commands of
channel commands, jobs, bands and Sprue. Each names the units that exist, the power domain of its block, and
its effect. -/

namespace Sys2Proof.Machine

/-- LOAD (R205). -/
def execLoad (w : Writer) (n : Nat) (s : State) : Host.Outcome State Fault Refusal :=
  runPut (n < 8) s w (K.chCmd n) 1

/-- ARM (R206). -/
def execArm (w : Writer) (n : Nat) (s : State) : Host.Outcome State Fault Refusal :=
  runPut (n < 8) s w (K.chCmd n) 2

/-- ABORT (R207). -/
def execAbort (w : Writer) (n : Nat) (s : State) : Host.Outcome State Fault Refusal :=
  runPut (n < 8) s w (K.chCmd n) 4

/-- UNLOAD (R207). -/
def execUnload (w : Writer) (n : Nat) (s : State) : Host.Outcome State Fault Refusal :=
  runPut (n < 8) s w (K.chCmd n) 5

/-- JOB_DESCRIPTOR (R220). -/
def execJobDescriptor (n : Nat) (s : State) : Host.Outcome State Fault Refusal :=
  run (n < 8) (7 + n) s (jobDescriptor n)

/-- BAND_DESCRIPTOR (R208). -/
def execBandDescriptor (n : Nat) (s : State) : Host.Outcome State Fault Refusal :=
  run (n < 8) (7 + n) s (bandDescriptor s.dram n)

/-- STOP_DESCRIPTOR (R205). -/
def execStopDescriptor (n : Nat) (s : State) : Host.Outcome State Fault Refusal :=
  run (n < 8) (7 + n) s (stopDescriptor n)

/-- BAND_FETCH_START (R213). -/
def execBandFetchStart (n : Nat) (s : State) : Host.Outcome State Fault Refusal :=
  run (n < 8) (7 + n) s (bandFetchStart n)

/-- BAND_FETCHED (R214). -/
def execBandFetched (n : Nat) (data : List Byte) (err : Nat) (s : State) : Host.Outcome State Fault Refusal :=
  runMem (n < 8) (7 + n) s fun (c : Core) (m : List Host.Cell) => servedMem (bandFetched n data err) c m

/-- SPRUE_BAND_START (R243). -/
def execSprueBandStart (n : Nat) (s : State) : Host.Outcome State Fault Refusal :=
  run (n < 8) (7 + n) s (sprueBandStart s.dram n)

/-- SPRUE_LINE (R243). -/
def execSprueLine (n : Nat) (s : State) : Host.Outcome State Fault Refusal :=
  runMem (n < 8) (7 + n) s fun (c : Core) (m : List Host.Cell) => servedMem (fun (c : Core) (m : List Host.Cell) => sprueLine m n c) c m

end Sys2Proof.Machine
end

