-- ==== Sys2Proof/Machine/ExecLines.lean ====
section
/-! DEFINITION. Sys2Proof/Machine/ExecLines.lean: the meanings of the commands of
the line boundary and its commits. Each names the units that exist, the power domain of its block, and
its effect. -/

namespace Sys2Proof.Machine

/-- LINE_BOUNDARY (R15). -/
def execLineBoundary (n : Nat) (s : State) : Host.Outcome State Fault Refusal :=
  run (n < 8) (7 + n) s (lineBoundary s.dram n)

end Sys2Proof.Machine
end

