-- ==== Sys2Proof/Machine/ExecLink.lean ====
section
/-! DEFINITION. Sys2Proof/Machine/ExecLink.lean: the meanings of the commands of
the lanes. Each names the units that exist, the power domain of its block, and
its effect. -/

namespace Sys2Proof.Machine

/-- TEMP (R160). -/
def execTemp (m head t sensor : Nat) (s : State) : Host.Outcome State Fault Refusal :=
  run (m < 32) (15 + m / 16) s (tempBlock m head t sensor)

/-- NOZZLE (R161). -/
def execNozzle (m entry value health : Nat) (s : State) : Host.Outcome State Fault Refusal :=
  run (m < 32) (15 + m / 16) s (nozzleBlock m entry value health)

/-- FAULT (R162). -/
def execFault (m code severity detail : Nat) (s : State) : Host.Outcome State Fault Refusal :=
  run (m < 32) (15 + m / 16) s (faultBlock m code severity detail)

/-- STATUS (R163). -/
def execStatus (m : Nat) (safe _enabled : Bool) (blank late _naks invalid : Nat) (s : State) :
    Host.Outcome State Fault Refusal :=
  run (m < 32) (15 + m / 16) s (statusBlock m safe blank late invalid)

/-- LINE_NAK (R152). -/
def execLineNak (m line _reason : Nat) (s : State) : Host.Outcome State Fault Refusal :=
  run (m < 32) (15 + m / 16) s (lineNak m line)

/-- CTRL_ACK (R156). -/
def execCtrlAck (m status addr data : Nat) (s : State) : Host.Outcome State Fault Refusal :=
  run (m < 32) (15 + m / 16) s (ctrlAck s.dram m status addr data)

/-- ECHO_RSP (R166). -/
def execEchoRsp (m t1 tau t4 : Nat) (s : State) : Host.Outcome State Fault Refusal :=
  run (m < 32) (15 + m / 16) s (echoRsp m t1 tau t4)

/-- TRAIN (R165). -/
def execTrain (m laneNo stage : Nat) (s : State) : Host.Outcome State Fault Refusal :=
  run (m < 32) (15 + m / 16) s (trainRx m laneNo stage)

/-- KL_INVALID_BLOCK (R143). -/
def execKlInvalidBlock (m block : Nat) (s : State) : Host.Outcome State Fault Refusal :=
  run (m < 32) (15 + m / 16) s (klInvalidBlock m (block / 2 ^ 64 % 4) (block % 2 ^ 64))

/-- KL_LOCK_LOSS (R170). -/
def execKlLockLoss (m : Nat) (s : State) : Host.Outcome State Fault Refusal :=
  run (m < 32) (15 + m / 16) s (klLockLoss m)

/-- KL_SILENCE (R170). -/
def execKlSilence (m : Nat) (s : State) : Host.Outcome State Fault Refusal :=
  run (m < 32) (15 + m / 16) s (klSilence m)

/-- KL_BLOCK_LOCK (R165). -/
def execKlBlockLock (m echo : Nat) (s : State) : Host.Outcome State Fault Refusal :=
  run (m < 32) (15 + m / 16) s (klBlockLock m echo)

/-- KL_STAGE_TIMER (R165). -/
def execKlStageTimer (m : Nat) (s : State) : Host.Outcome State Fault Refusal :=
  run (m < 32) (15 + m / 16) s (klStageTimer m)

/-- LANE_TRAIN_START (R165). -/
def execLaneTrainStart (m : Nat) (s : State) : Host.Outcome State Fault Refusal :=
  run (m < 32) (15 + m / 16) s (laneTrainStart m)

/-- KL_TRAIN_TIMEOUT (R165). -/
def execKlTrainTimeout (m : Nat) (s : State) : Host.Outcome State Fault Refusal :=
  run (m < 32) (15 + m / 16) s (klTrainTimeout m)

/-- KL_RETRY_TIMER (R164). -/
def execKlRetryTimer (m : Nat) (s : State) : Host.Outcome State Fault Refusal :=
  run (m < 32) (15 + m / 16) s (klRetryTimer m)

/-- KL_SYNC_DUE (R153). -/
def execKlSyncDue (s : State) : Host.Outcome State Fault Refusal :=
  run true 1 s klSyncDue

/-- KEEPALIVE_DUE (R168). -/
def execKeepaliveDue (m : Nat) (s : State) : Host.Outcome State Fault Refusal :=
  run (m < 32) (15 + m / 16) s (keepaliveDue m)

/-- LINE_FRAME_OPEN (R150). -/
def execLineFrameOpen (m : Nat) (s : State) : Host.Outcome State Fault Refusal :=
  run (m < 32) (15 + m / 16) s (lineFrameOpen m)

/-- CTRL_READ (R156). -/
def execCtrlRead (w : Writer) (m : Nat) (s : State) : Host.Outcome State Fault Refusal :=
  runPut (m < 32) s w (K.klCtrlGo m) 1

/-- CTRL_WRITE (R156). -/
def execCtrlWrite (w : Writer) (m : Nat) (s : State) : Host.Outcome State Fault Refusal :=
  runPut (m < 32) s w (K.klCtrlGo m) 2

/-- KL_CTRL_TIMEOUT (R156). -/
def execKlCtrlTimeout (m : Nat) (s : State) : Host.Outcome State Fault Refusal :=
  run (m < 32) (15 + m / 16) s (klCtrlTimeout s.dram m)

/-- BULK_GO (R157). -/
def execBulkGo (w : Writer) (m : Nat) (s : State) : Host.Outcome State Fault Refusal :=
  runPut (m < 32) s w (K.klBulkGo m) 1

/-- ECHO_REQ_DUE (R165). -/
def execEchoReqDue (m : Nat) (s : State) : Host.Outcome State Fault Refusal :=
  run (m < 32) (15 + m / 16) s (echoReqDue m)

/-- LINE_FRAME_COMPLETE (R151). -/
def execLineFrameComplete (m : Nat) (s : State) : Host.Outcome State Fault Refusal :=
  run (m < 32) (15 + m / 16) s (lineFrameComplete m)

end Sys2Proof.Machine
end

