-- ==== Sys2Proof/Machine/ExecLoop.lean ====
section
/-! DEFINITION. Sys2Proof/Machine/ExecLoop.lean: the meanings of the commands of
the Loop Engine and its inputs and outputs. Each names the units that exist, the power domain of its block, and
its effect. -/

namespace Sys2Proof.Machine

/-- SLOT_ENABLE (R355). -/
def execSlotEnable (w : Writer) (slot : Nat) (s : State) : Host.Outcome State Fault Refusal :=
  runPut (slot < 64) s w (K.loopSlotEnable slot) 1

/-- SLOT_DISABLE (R362). -/
def execSlotDisable (w : Writer) (slot : Nat) (s : State) : Host.Outcome State Fault Refusal :=
  runPut (slot < 64) s w (K.loopSlotEnable slot) 0

/-- LOOP_PERIOD_TRIGGER (R352). -/
def execLoopPeriodTrigger (slot : Nat) (s : State) : Host.Outcome State Fault Refusal :=
  run (slot < 64) 6 s (loopPeriodTrigger slot)

/-- LOOP_SAMPLE_RUN (R349). -/
def execLoopSampleRun (s : State) : Host.Outcome State Fault Refusal :=
  run true 6 s loopSampleRun

/-- LOOP_DEADLINE_MISS (R354). -/
def execLoopDeadlineMiss (slot : Nat) (s : State) : Host.Outcome State Fault Refusal :=
  run (slot < 64) 6 s (loopDeadlineMiss slot)

/-- LOOP_TONE_WRITE (R360). -/
def execLoopToneWrite (slot : Nat) (s : State) : Host.Outcome State Fault Refusal :=
  run (slot < 64) 6 s (loopToneWrite slot)

/-- LOOP_TONE_WRITE_DONE (R360). -/
def execLoopToneWriteDone (slot : Nat) (s : State) : Host.Outcome State Fault Refusal :=
  run (slot < 64) 6 s (served (loopToneWriteDone s.dram slot))

/-- LOOP_PENDING_WRITE (R360). -/
def execLoopPendingWrite (slot : Nat) (s : State) : Host.Outcome State Fault Refusal :=
  run (slot < 64) 6 s (loopPendingWrite slot)

/-- BANK_SWAP (R356). -/
def execBankSwap (w : Writer) (slot : Nat) (s : State) : Host.Outcome State Fault Refusal :=
  runPut (slot < 64) s w (K.loopSlotBankSwap slot) 1

/-- PRESET (R357). -/
def execPreset (w : Writer) (slot v : Nat) (s : State) : Host.Outcome State Fault Refusal :=
  runPut (slot < 64) s w (K.loopSlotPreset slot) v

/-- PUBLISH (R368). -/
def execPublish (w : Writer) (j : Nat) (s : State) : Host.Outcome State Fault Refusal :=
  runPut (j < 16) s w (K.loopMeasPublish j) 1

/-- AIN_SEQ_PERIOD (R364). -/
def execAinSeqPeriod (q : Nat) (s : State) : Host.Outcome State Fault Refusal :=
  run (q < 8) 6 s (ainSeqPeriod q)

/-- AIN_SEQ_DONE (R364). -/
def execAinSeqDone (q : Nat) (codes : List Nat) (s : State) : Host.Outcome State Fault Refusal :=
  run (q < 8) 6 s (ainSeqDone q codes)

/-- GPIO_OUT_WRITE (R367). -/
def execGpioOutWrite (w : Writer) (v : Nat) (s : State) : Host.Outcome State Fault Refusal :=
  runPut true s w K.loopGpioOut v

/-- AIN_SCAN_CONVERSION (R363). -/
def execAinScanConversion (input code : Nat) (s : State) : Host.Outcome State Fault Refusal :=
  run (input < 25) 1 s (ainScanConversion input code)

end Sys2Proof.Machine
end

