-- ==== Sys2Proof/Machine/ExecObjects.lean ====
section
/-! DEFINITION. Sys2Proof/Machine/ExecObjects.lean: the meanings of the commands of
the dictionary's own writes, commits, locks, long operations, firmware and the power domains. Each names the units that exist, the power domain of its block, and
its effect. -/

namespace Sys2Proof.Machine

/-- DEV_MARK_MODE_WRITE (R1). -/
def execDevMarkModeWrite (w : Writer) (v : Nat) (s : State) : Host.Outcome State Fault Refusal :=
  runPut true s w K.devMarkMode v

/-- OBJECT_WRITE (R314). -/
def execObjectWrite (w : Writer) (index sub typ offset : Nat) (data : List Byte) (s : State) :
    Host.Outcome State Fault Refusal :=
  runWrite true s w index sub typ offset data

/-- STAGED_WRITE (R316). -/
def execStagedWrite (w : Writer) (index sub typ offset : Nat) (data : List Byte) (s : State) :
    Host.Outcome State Fault Refusal :=
  runWrite true s w index sub typ offset data

/-- PD_ENABLE_WRITE (R28). -/
def execPdEnableWrite (w : Writer) (v : Nat) (s : State) : Host.Outcome State Fault Refusal :=
  runPut true s w K.devPdEnable v

/-- PD_SWITCH_DONE (R28). -/
def execPdSwitchDone (d : Nat) (s : State) : Host.Outcome State Fault Refusal :=
  run (d < 17) 0 s (pdSwitchDone d)

/-- CH_COMMIT (R318). -/
def execChCommit (w : Writer) (n : Nat) (s : State) : Host.Outcome State Fault Refusal :=
  runPut (n < 8) s w (K.chCommit n) 1

/-- DEV_COMMIT_NOW (R318). -/
def execDevCommitNow (w : Writer) (s : State) : Host.Outcome State Fault Refusal :=
  runPut true s w K.devCommit 1

/-- DEV_COMMIT_STEP (R318). -/
def execDevCommitStep (w : Writer) (s : State) : Host.Outcome State Fault Refusal :=
  runPut true s w K.devCommit 2

/-- LOCK_ACQUIRE (R322). -/
def execLockAcquire (w : Writer) (k : Nat) (s : State) : Host.Outcome State Fault Refusal :=
  runPut (k < 10) s w (K.devLockAcquire k) 1

/-- LOCK_RELEASE (R322). -/
def execLockRelease (w : Writer) (k : Nat) (s : State) : Host.Outcome State Fault Refusal :=
  runPut (k < 10) s w (K.devLockRelease k) 1

/-- LOCK_LEASE_EXPIRY (R324). -/
def execLockLeaseExpiry (k : Nat) (s : State) : Host.Outcome State Fault Refusal :=
  run (k < 10) 1 s (lockExpire k)

/-- STORE (R325). -/
def execStore (w : Writer) (s : State) : Host.Outcome State Fault Refusal :=
  runPut true s w K.devOpStart 1

/-- RESTORE_DEFAULTS (R325). -/
def execRestoreDefaults (w : Writer) (s : State) : Host.Outcome State Fault Refusal :=
  runPut true s w K.devOpStart 2

/-- IMAGE_VERIFY (R469). -/
def execImageVerify (w : Writer) (s : State) : Host.Outcome State Fault Refusal :=
  runPut true s w K.devOpStart 3

/-- IMAGE_COMMIT (R470). -/
def execImageCommit (w : Writer) (s : State) : Host.Outcome State Fault Refusal :=
  runPut true s w K.devOpStart 4

/-- DRAM_RETRAIN (R261). -/
def execDramRetrain (w : Writer) (s : State) : Host.Outcome State Fault Refusal :=
  runPut true s w K.devOpStart 5

/-- OP_END (R327). -/
def execOpEnd (ok : Bool) (detail : Nat) (s : State) : Host.Outcome State Fault Refusal :=
  run true 1 s (opEnd ok detail)

/-- OP_TIMEOUT (R327). -/
def execOpTimeout (s : State) : Host.Outcome State Fault Refusal :=
  run true 1 s opTimeout

/-- PROF_TARGET_WRITE (R342). -/
def execProfTargetWrite (w : Writer) (a v : Nat) (s : State) : Host.Outcome State Fault Refusal :=
  runPut (a < 1024) s w (K.profTarget a) v

/-- FW_IMAGE_WRITE (R468). -/
def execFwImageWrite (w : Writer) (offset : Nat) (data : List Byte) (s : State) : Host.Outcome State Fault Refusal :=
  runWrite true s w 0x0600 1 0 offset data

/-- FW_CONFIRM (R472). -/
def execFwConfirm (w : Writer) (s : State) : Host.Outcome State Fault Refusal :=
  runPut true s w K.fwConfirm 1

end Sys2Proof.Machine
end

