-- ==== Sys2Proof/Machine/ExecPosition.lean ====
section
/-! DEFINITION. Sys2Proof/Machine/ExecPosition.lean: the meanings of the commands of
the position inputs and outputs. Each names the units that exist, the power domain of its block, and
its effect. -/

namespace Sys2Proof.Machine

/-- ENC_EDGE (R33). -/
def execEncEdge (n : Nat) (a b : Bool) (s : State) : Host.Outcome State Fault Refusal :=
  run (n < 4) 4 s fun (c : Core) => dropReversedAll (encEdge n a b c)

/-- ENC_UNRELIABLE (R34). -/
def execEncUnreliable (n : Nat) (s : State) : Host.Outcome State Fault Refusal :=
  run (n < 4) 4 s (encUnreliable n)

/-- ENC_INDEX (R36). -/
def execEncIndex (n : Nat) (z : Bool) (s : State) : Host.Outcome State Fault Refusal :=
  run (n < 4) 4 s (encIndex n z)

/-- ENC_PRESET (R35). -/
def execEncPreset (w : Writer) (n v : Nat) (s : State) : Host.Outcome State Fault Refusal :=
  runPut (n < 4) s w (K.encPreset n) v

/-- REHOME (R37). -/
def execRehome (w : Writer) (n v : Nat) (s : State) : Host.Outcome State Fault Refusal :=
  runPut (n < 4) s w (K.encRehome n) v

/-- SPOS_REQUEST (R40). -/
def execSposRequest (n : Nat) (dataHigh : Bool) (s : State) : Host.Outcome State Fault Refusal :=
  run (n < 4) 4 s (sposRequest n dataHigh)

/-- SPOS_WORD (R46). -/
def execSposWord (n startClocks delay word : Nat) (s : State) : Host.Outcome State Fault Refusal :=
  run (n < 4) 4 s fun (c : Core) => dropReversedAll (sposWord n startClocks delay word c)

/-- SPOS_WORD_TIMEOUT (R44). -/
def execSposWordTimeout (n : Nat) (s : State) : Host.Outcome State Fault Refusal :=
  run (n < 4) 4 s (sposWordTimeout n)

/-- SPOS_LOST (R45). -/
def execSposLost (n : Nat) (s : State) : Host.Outcome State Fault Refusal :=
  run (n < 4) 4 s (sposLost n)

/-- PASS_OVERRUN (R49). -/
def execPassOverrun (p : Nat) (s : State) : Host.Outcome State Fault Refusal :=
  run (p < 2) 4 s (passOverrun p)

/-- COMPARE_TARGET (R52). -/
def execCompareTarget (n : Nat) (s : State) : Host.Outcome State Fault Refusal :=
  run (n < 8) 4 s (compareTarget n)

/-- CMP_PULSE (R53). -/
def execCmpPulse (n : Nat) (s : State) : Host.Outcome State Fault Refusal :=
  run (n < 8) 4 s (cmpPulse n)

/-- CMP_PULSE_END (R51). -/
def execCmpPulseEnd (n : Nat) (s : State) : Host.Outcome State Fault Refusal :=
  run (n < 8) 4 s (cmpPulseEnd n)

/-- CMP_ARM (R55). -/
def execCmpArm (w : Writer) (n : Nat) (s : State) : Host.Outcome State Fault Refusal :=
  runPut (n < 8) s w (K.cmpArm n) 1

/-- CMP_DISARM (R55). -/
def execCmpDisarm (w : Writer) (n : Nat) (s : State) : Host.Outcome State Fault Refusal :=
  runPut (n < 8) s w (K.cmpArm n) 0

/-- CMP_CAPTURE (R56). -/
def execCmpCapture (n : Nat) (rising : Bool) (s : State) : Host.Outcome State Fault Refusal :=
  run (n < 8) 4 s (cmpCapture n rising)

/-- ENC_RAW_PULSE (R31). -/
def execEncRawPulse (n : Nat) (s : State) : Host.Outcome State Fault Refusal :=
  run (n < 4) 4 s (encRawPulse n)

end Sys2Proof.Machine
end

