-- ==== Sys2Proof/Machine/ExecQuadrille.lean ====
section
/-! DEFINITION. Sys2Proof/Machine/ExecQuadrille.lean: the meanings of the commands of
the Quadrille. Each names the units that exist, the power domain of its block, and
its effect. -/

namespace Sys2Proof.Machine

/-- QD_SYNC (R393). -/
def execQdSync (w : Writer) (s : State) : Host.Outcome State Fault Refusal :=
  runPut true s w K.qdStep 0

/-- QD_RAIL (R393). -/
def execQdRail (w : Writer) (target : Nat) (s : State) : Host.Outcome State Fault Refusal :=
  runPut true s w K.qdStep (2 ^ 24 + 2 ^ 16 * (target % 256))

/-- QD_ARM (R393). -/
def execQdArm (w : Writer) (s : State) : Host.Outcome State Fault Refusal :=
  runPut true s w K.qdStep (2 * 2 ^ 24)

/-- QD_START (R393). -/
def execQdStart (w : Writer) (s : State) : Host.Outcome State Fault Refusal :=
  runPut true s w K.qdStep (3 * 2 ^ 24)

/-- QD_RECAST_REQ (R393). -/
def execQdRecastReq (s : State) : Host.Outcome State Fault Refusal :=
  run true 4 s qdRecastReq

/-- QD_RECAST_GO (R393). -/
def execQdRecastGo (s : State) : Host.Outcome State Fault Refusal :=
  run true 4 s qdRecastGo

/-- QD_STOP (R393). -/
def execQdStop (w : Writer) (s : State) : Host.Outcome State Fault Refusal :=
  runPut true s w K.qdStep (6 * 2 ^ 24)

/-- QD_COMMIT (R393). -/
def execQdCommit (w : Writer) (s : State) : Host.Outcome State Fault Refusal :=
  runPut true s w K.qdStep (7 * 2 ^ 24)

/-- QD_LINE_FALL (R394). -/
def execQdLineFall (s : State) : Host.Outcome State Fault Refusal :=
  run true 4 s qdLineFall

/-- QD_RECORD (R395). -/
def execQdRecord (p : Nat) (payload : List Byte) (s : State) : Host.Outcome State Fault Refusal :=
  run (p < 2) 4 s (qdRecordRx p payload)

/-- QD_REPEAT (R394). -/
def execQdRepeat (s : State) : Host.Outcome State Fault Refusal :=
  run true 4 s qdRepeat

/-- QD_LINE_RISE (R394). -/
def execQdLineRise (s : State) : Host.Outcome State Fault Refusal :=
  run true 4 s qdLineRise

/-- QD_STEP_TIMEOUT (R398). -/
def execQdStepTimeout (s : State) : Host.Outcome State Fault Refusal :=
  run true 4 s qdStepTimeout

end Sys2Proof.Machine
end

