-- ==== Sys2Proof/Machine/ExecRecast.lean ====
section
/-! DEFINITION. Sys2Proof/Machine/ExecRecast.lean: the meanings of the commands of
Recast. Each names the units that exist, the power domain of its block, and
its effect. -/

namespace Sys2Proof.Machine

/-- RCST_REQUEST (R222). -/
def execRcstRequest (w : Writer) (v : Nat) (s : State) : Host.Outcome State Fault Refusal :=
  runPut true s w K.rcstRequest v

/-- HELD_STOP (R223). -/
def execHeldStop (n : Nat) (s : State) : Host.Outcome State Fault Refusal :=
  run (n < 8) (7 + n) s (heldStop n)

/-- RECAST_BACKUP (R226). -/
def execRecastBackup (s : State) : Host.Outcome State Fault Refusal :=
  run true 1 s recastBackup

/-- RECAST_WAIT (R226). -/
def execRecastWait (s : State) : Host.Outcome State Fault Refusal :=
  run true 1 s recastWait

/-- RECAST_APPROACH (R226). -/
def execRecastApproach (s : State) : Host.Outcome State Fault Refusal :=
  run true 1 s recastApproach

/-- RECAST_DECIDE (R228). -/
def execRecastDecide (s : State) : Host.Outcome State Fault Refusal :=
  run true 1 s recastDecide

/-- CHANNEL_RESUME (R228). -/
def execChannelResume (n : Nat) (s : State) : Host.Outcome State Fault Refusal :=
  run (n < 8) (7 + n) s (channelResume s.dram n)

/-- RECAST_OVERRUN (R225). -/
def execRecastOverrun (s : State) : Host.Outcome State Fault Refusal :=
  run true 1 s recastOverrun

/-- RECAST_HOLD_TIMEOUT (R231). -/
def execRecastHoldTimeout (s : State) : Host.Outcome State Fault Refusal :=
  run true 1 s recastHoldTimeout

/-- RECAST_PASS_LIMIT (R231). -/
def execRecastPassLimit (s : State) : Host.Outcome State Fault Refusal :=
  run true 1 s recastPassLimit

end Sys2Proof.Machine
end

