-- ==== Sys2Proof/Machine/ExecStartup.lean ====
section
/-! DEFINITION. Sys2Proof/Machine/ExecStartup.lean: the meanings of the commands of
reset, boot and device states. Each names the units that exist, the power domain of its block, and
its effect. -/

namespace Sys2Proof.Machine

/-- RESET_N_ASSERT (R429). -/
def execResetNAssert (s : State) : Host.Outcome State Fault Refusal :=
  runReset s resetNAssert

/-- SUPPLY_OUT_OF_RANGE (R429). -/
def execSupplyOutOfRange (s : State) : Host.Outcome State Fault Refusal :=
  runReset s supplyOutOfRange

/-- DEV_RESET_WRITE (R430). -/
def execDevResetWrite (w : Writer) (v : Nat) (s : State) : Host.Outcome State Fault Refusal :=
  runPut true s w K.devReset v

/-- RESET_END (R432). -/
def execResetEnd (s : State) : Host.Outcome State Fault Refusal :=
  runReset s resetEnd

/-- BOOT_COMPLETE (R432). -/
def execBootComplete (s : State) : Host.Outcome State Fault Refusal :=
  run true 1 s bootComplete

/-- STATE_REQ_STANDBY (R437). -/
def execStateReqStandby (w : Writer) (s : State) : Host.Outcome State Fault Refusal :=
  runPut true s w K.devStateReq 2

/-- STATE_REQ_READY (R437). -/
def execStateReqReady (w : Writer) (s : State) : Host.Outcome State Fault Refusal :=
  runPut true s w K.devStateReq 3

/-- STATE_REQ_PRINTING (R437). -/
def execStateReqPrinting (w : Writer) (s : State) : Host.Outcome State Fault Refusal :=
  runPut true s w K.devStateReq 5

end Sys2Proof.Machine
end

