-- ==== Sys2Proof/Machine/ExecTime.lean ====
section
/-! DEFINITION. Sys2Proof/Machine/ExecTime.lean: the meanings of the commands of
device time, PTP and the aligner. Each names the units that exist, the power domain of its block, and
its effect. -/

namespace Sys2Proof.Machine

/-- TIME_SET (R374). -/
def execTimeSet (w : Writer) (v : Nat) (s : State) : Host.Outcome State Fault Refusal :=
  runPut true s w K.timeSet v

/-- PTP_SYNC_RX (R380). -/
def execPtpSyncRx (p : Nat) (msg : PtpMsg) (s : State) : Host.Outcome State Fault Refusal :=
  run (p < 2) 4 s (ptpSyncRx p msg)

/-- PTP_FOLLOW_UP_RX (R378). -/
def execPtpFollowUpRx (p : Nat) (msg : PtpMsg) (s : State) : Host.Outcome State Fault Refusal :=
  run (p < 2) 4 s (ptpFollowUpRx p msg)

/-- PTP_DELAY_RESP_RX (R380). -/
def execPtpDelayRespRx (p : Nat) (msg : PtpMsg) (s : State) : Host.Outcome State Fault Refusal :=
  run (p < 2) 4 s (ptpDelayRespRx p msg)

/-- PTP_DELAY_REQ_RX (R378). -/
def execPtpDelayReqRx (p : Nat) (msg : PtpMsg) (s : State) : Host.Outcome State Fault Refusal :=
  run (p < 2) 4 s (ptpDelayReqRx p msg)

/-- PTP_ANNOUNCE_RX (R378). -/
def execPtpAnnounceRx (p : Nat) (msg : PtpMsg) (s : State) : Host.Outcome State Fault Refusal :=
  run (p < 2) 4 s (ptpAnnounceRx p msg)

/-- PTP_SYNC_TX (R378). -/
def execPtpSyncTx (p : Nat) (s : State) : Host.Outcome State Fault Refusal :=
  run (p < 2) 4 s (ptpSyncTx p)

/-- PTP_DELAY_REQ_TX (R378). -/
def execPtpDelayReqTx (p : Nat) (s : State) : Host.Outcome State Fault Refusal :=
  run (p < 2) 4 s (ptpDelayReqTx p)

/-- PTP_ANNOUNCE_TX (R378). -/
def execPtpAnnounceTx (p : Nat) (s : State) : Host.Outcome State Fault Refusal :=
  run (p < 2) 4 s (ptpAnnounceTx p)

/-- PTP_ANNOUNCE_TIMEOUT (R382). -/
def execPtpAnnounceTimeout (p : Nat) (s : State) : Host.Outcome State Fault Refusal :=
  run (p < 2) 4 s (ptpAnnounceTimeout p)

/-- TIME_VALID_HOLD (R380). -/
def execTimeValidHold (s : State) : Host.Outcome State Fault Refusal :=
  run true 4 s timeValidHold

/-- TIME_SNAP (R390). -/
def execTimeSnap (s : State) : Host.Outcome State Fault Refusal :=
  run true 4 s timeSnap

/-- TIME_SNAP_LOST (R390). -/
def execTimeSnapLost (s : State) : Host.Outcome State Fault Refusal :=
  run true 4 s timeSnapLost

/-- ALIGN_ACQUIRE (R387). -/
def execAlignAcquire (phase : Int) (s : State) : Host.Outcome State Fault Refusal :=
  run true 4 s (alignAcquire phase)

/-- ALIGN_LOCKED (R387). -/
def execAlignLocked (s : State) : Host.Outcome State Fault Refusal :=
  run true 4 s alignLocked

/-- ALIGN_CORRECTION (R384). -/
def execAlignCorrection (phase : Int) (s : State) : Host.Outcome State Fault Refusal :=
  run true 4 s (alignCorrection phase)

/-- ALIGN_REF_LOST (R389). -/
def execAlignRefLost (reason : Nat) (s : State) : Host.Outcome State Fault Refusal :=
  run true 4 s (alignRefLost reason)

/-- ALIGN_COAST_LIMIT (R389). -/
def execAlignCoastLimit (s : State) : Host.Outcome State Fault Refusal :=
  run true 4 s alignCoastLimit

end Sys2Proof.Machine
end

