-- ==== Sys2Proof/Machine/ExecWop.lean ====
section
/-! DEFINITION. Sys2Proof/Machine/ExecWop.lean: the meanings of the commands of
the transports of the object server. Each names the units that exist, the power domain of its block, and
its effect. -/

namespace Sys2Proof.Machine

/-- WOP_REQUEST (R333). -/
def execWopRequest (transport addr : Nat) (msg : List Byte) (s : State) : Host.Outcome State Fault Refusal :=
  runMem true 1 s fun (c : Core) (m : List Host.Cell) => wopRequest transport addr msg c m

/-- UDP_DATAGRAM (R336). -/
def execUdpDatagram (p addr ident fragOffset : Nat) (more : Bool) (payload : List Byte) (s : State) :
    Host.Outcome State Fault Refusal :=
  runMem (p < 2) 4 s fun (c : Core) (m : List Host.Cell) => udpDatagram p addr ident fragOffset more payload c m

/-- REASSEMBLY_TIMEOUT (R336). -/
def execReassemblyTimeout (s : State) : Host.Outcome State Fault Refusal :=
  run true 4 s reassemblyTimeout

/-- ARP_REQUEST (R336). -/
def execArpRequest (p ip : Nat) (s : State) : Host.Outcome State Fault Refusal :=
  run (p < 2) 4 s (arpRequest p ip)

/-- ICMP_ECHO (R336). -/
def execIcmpEcho (p ip : Nat) (payload : List Byte) (s : State) : Host.Outcome State Fault Refusal :=
  run (p < 2) 4 s (icmpEcho p ip payload)

/-- CAN_FRAME (R338). -/
def execCanFrame (ch id : Nat) (fd : Bool) (data : List Byte) (s : State) : Host.Outcome State Fault Refusal :=
  runMem (ch < 2) 4 s fun (c : Core) (m : List Host.Cell) => canFrame ch id fd data c m

/-- SEG_TIMEOUT (R338). -/
def execSegTimeout (ch : Nat) (s : State) : Host.Outcome State Fault Refusal :=
  run (ch < 2) 4 s (segTimeout ch)

/-- CAN_BUS_OFF (R337). -/
def execCanBusOff (ch : Nat) (s : State) : Host.Outcome State Fault Refusal :=
  run (ch < 2) 4 s (canBusOff ch)

/-- ETH_LINK_CHANGE (R345). -/
def execEthLinkChange (p : Nat) (up : Bool) (s : State) : Host.Outcome State Fault Refusal :=
  run (p < 2) 4 s (ethLinkChange p up)

end Sys2Proof.Machine
end

