-- ==== Sys2Proof/Machine/Dispatch.lean ====
section
/-! DEFINITION. Sys2Proof/Machine/Dispatch.lean: every command, and the one meaning it calls. -/

namespace Sys2Proof.Machine

/-- The effect of a command on everything but the queue. -/
def exec (i : Instr) (s : State) : Host.Outcome State Fault Refusal :=
  match i with
  | .devMarkModeWrite w v => Sys2Proof.Machine.execDevMarkModeWrite w v s
  | .objectWrite w index sub typ offset data => Sys2Proof.Machine.execObjectWrite w index sub typ offset data s
  | .stagedWrite w index sub typ offset data => Sys2Proof.Machine.execStagedWrite w index sub typ offset data s
  | .pdEnableWrite w v => Sys2Proof.Machine.execPdEnableWrite w v s
  | .pdSwitchDone d => Sys2Proof.Machine.execPdSwitchDone d s
  | .lineBoundary n => Sys2Proof.Machine.execLineBoundary n s
  | .encEdge n a b => Sys2Proof.Machine.execEncEdge n a b s
  | .encUnreliable n => Sys2Proof.Machine.execEncUnreliable n s
  | .encIndex n z => Sys2Proof.Machine.execEncIndex n z s
  | .encPreset w n v => Sys2Proof.Machine.execEncPreset w n v s
  | .rehome w n v => Sys2Proof.Machine.execRehome w n v s
  | .sposRequest n dataHigh => Sys2Proof.Machine.execSposRequest n dataHigh s
  | .sposWord n startClocks delay word => Sys2Proof.Machine.execSposWord n startClocks delay word s
  | .sposWordTimeout n => Sys2Proof.Machine.execSposWordTimeout n s
  | .sposLost n => Sys2Proof.Machine.execSposLost n s
  | .passOverrun p => Sys2Proof.Machine.execPassOverrun p s
  | .compareTarget n => Sys2Proof.Machine.execCompareTarget n s
  | .cmpPulse n => Sys2Proof.Machine.execCmpPulse n s
  | .cmpPulseEnd n => Sys2Proof.Machine.execCmpPulseEnd n s
  | .cmpArm w n => Sys2Proof.Machine.execCmpArm w n s
  | .cmpDisarm w n => Sys2Proof.Machine.execCmpDisarm w n s
  | .cmpCapture n rising => Sys2Proof.Machine.execCmpCapture n rising s
  | .lcTrackExit n => Sys2Proof.Machine.execLcTrackExit n s
  | .lcStill n => Sys2Proof.Machine.execLcStill n s
  | .lcUnlock n => Sys2Proof.Machine.execLcUnlock n s
  | .lcRelock n => Sys2Proof.Machine.execLcRelock n s
  | .lcSettled n => Sys2Proof.Machine.execLcSettled n s
  | .nop k => Sys2Proof.Machine.execNop k s
  | .toneSwap k => Sys2Proof.Machine.execToneSwap k s
  | .commit k => Sys2Proof.Machine.execCommit k s
  | .devCommit k => Sys2Proof.Machine.execDevCommit k s
  | .loopSample k => Sys2Proof.Machine.execLoopSample k s
  | .loopBank k => Sys2Proof.Machine.execLoopBank k s
  | .adcTrigger k => Sys2Proof.Machine.execAdcTrigger k s
  | .gpio k => Sys2Proof.Machine.execGpio k s
  | .event k => Sys2Proof.Machine.execEvent k s
  | .listArm k => Sys2Proof.Machine.execListArm k s
  | .recastReq k => Sys2Proof.Machine.execRecastReq k s
  | .pageStart k => Sys2Proof.Machine.execPageStart k s
  | .cueListArm w k => Sys2Proof.Machine.execCueListArm w k s
  | .cueListDisarm w k => Sys2Proof.Machine.execCueListDisarm w k s
  | .cueEntryWrite w entry sub offset data => Sys2Proof.Machine.execCueEntryWrite w entry sub offset data s
  | .fireIssue n => Sys2Proof.Machine.execFireIssue n s
  | .flaskReadDone n line burst late => Sys2Proof.Machine.execFlaskReadDone n line burst late s
  | .chToneSwap w n v => Sys2Proof.Machine.execChToneSwap w n v s
  | .toneDrainEnd n => Sys2Proof.Machine.execToneDrainEnd n s
  | .toneCopy w n => Sys2Proof.Machine.execToneCopy w n s
  | .toneCopyDone n => Sys2Proof.Machine.execToneCopyDone n s
  | .nozPatch w n v => Sys2Proof.Machine.execNozPatch w n v s
  | .nozResyncDone n => Sys2Proof.Machine.execNozResyncDone n s
  | .tblLoad w n => Sys2Proof.Machine.execTblLoad w n s
  | .tblReadback w n => Sys2Proof.Machine.execTblReadback w n s
  | .tblLoadDone n => Sys2Proof.Machine.execTblLoadDone n s
  | .sramScrubRead n table entry flips => Sys2Proof.Machine.execSramScrubRead n table entry flips s
  | .headTempStale n h => Sys2Proof.Machine.execHeadTempStale n h s
  | .temp m head t sensor => Sys2Proof.Machine.execTemp m head t sensor s
  | .nozzle m entry value health => Sys2Proof.Machine.execNozzle m entry value health s
  | .fault m code severity detail => Sys2Proof.Machine.execFault m code severity detail s
  | .status m safe enabled blank late naks invalid => Sys2Proof.Machine.execStatus m safe enabled blank late naks invalid s
  | .lineNak m line reason => Sys2Proof.Machine.execLineNak m line reason s
  | .ctrlAck m status addr data => Sys2Proof.Machine.execCtrlAck m status addr data s
  | .echoRsp m t1 tau t4 => Sys2Proof.Machine.execEchoRsp m t1 tau t4 s
  | .train m laneNo stage => Sys2Proof.Machine.execTrain m laneNo stage s
  | .klInvalidBlock m block => Sys2Proof.Machine.execKlInvalidBlock m block s
  | .klLockLoss m => Sys2Proof.Machine.execKlLockLoss m s
  | .klSilence m => Sys2Proof.Machine.execKlSilence m s
  | .klBlockLock m echo => Sys2Proof.Machine.execKlBlockLock m echo s
  | .klStageTimer m => Sys2Proof.Machine.execKlStageTimer m s
  | .laneTrainStart m => Sys2Proof.Machine.execLaneTrainStart m s
  | .klTrainTimeout m => Sys2Proof.Machine.execKlTrainTimeout m s
  | .klRetryTimer m => Sys2Proof.Machine.execKlRetryTimer m s
  | .klSyncDue => Sys2Proof.Machine.execKlSyncDue s
  | .keepaliveDue m => Sys2Proof.Machine.execKeepaliveDue m s
  | .lineFrameOpen m => Sys2Proof.Machine.execLineFrameOpen m s
  | .ctrlRead w m => Sys2Proof.Machine.execCtrlRead w m s
  | .ctrlWrite w m => Sys2Proof.Machine.execCtrlWrite w m s
  | .klCtrlTimeout m => Sys2Proof.Machine.execKlCtrlTimeout m s
  | .bulkGo w m => Sys2Proof.Machine.execBulkGo w m s
  | .scanPulse n sensorB rise fall => Sys2Proof.Machine.execScanPulse n sensorB rise fall s
  | .scanMiss n => Sys2Proof.Machine.execScanMiss n s
  | .scanLost n => Sys2Proof.Machine.execScanLost n s
  | .scanEnable w n => Sys2Proof.Machine.execScanEnable w n s
  | .scanDisable w n => Sys2Proof.Machine.execScanDisable w n s
  | .scanSpinupDone n => Sys2Proof.Machine.execScanSpinupDone n s
  | .scanAcquired n => Sys2Proof.Machine.execScanAcquired n s
  | .scanAcqTimeout n => Sys2Proof.Machine.execScanAcqTimeout n s
  | .scanLostRetry n => Sys2Proof.Machine.execScanLostRetry n s
  | .sweepCommit n => Sys2Proof.Machine.execSweepCommit n s
  | .scanPagePhase2 n => Sys2Proof.Machine.execScanPagePhase2 n s
  | .scanSplit n => Sys2Proof.Machine.execScanSplit n s
  | .sltLoad w n => Sys2Proof.Machine.execSltLoad w n s
  | .sltReadback w n => Sys2Proof.Machine.execSltReadback w n s
  | .sltGenerate w n => Sys2Proof.Machine.execSltGenerate w n s
  | .sltDone n => Sys2Proof.Machine.execSltDone n s
  | .apcSample n code => Sys2Proof.Machine.execApcSample n code s
  | .stationFinished n => Sys2Proof.Machine.execStationFinished n s
  | .pageSpoiledReport n => Sys2Proof.Machine.execPageSpoiledReport n s
  | .pageAbort w => Sys2Proof.Machine.execPageAbort w s
  | .load w n => Sys2Proof.Machine.execLoad w n s
  | .arm w n => Sys2Proof.Machine.execArm w n s
  | .abort w n => Sys2Proof.Machine.execAbort w n s
  | .unload w n => Sys2Proof.Machine.execUnload w n s
  | .jobDescriptor n => Sys2Proof.Machine.execJobDescriptor n s
  | .bandDescriptor n => Sys2Proof.Machine.execBandDescriptor n s
  | .stopDescriptor n => Sys2Proof.Machine.execStopDescriptor n s
  | .bandFetchStart n => Sys2Proof.Machine.execBandFetchStart n s
  | .bandFetched n data err => Sys2Proof.Machine.execBandFetched n data err s
  | .sprueBandStart n => Sys2Proof.Machine.execSprueBandStart n s
  | .sprueLine n => Sys2Proof.Machine.execSprueLine n s
  | .rcstRequest w v => Sys2Proof.Machine.execRcstRequest w v s
  | .heldStop n => Sys2Proof.Machine.execHeldStop n s
  | .recastBackup => Sys2Proof.Machine.execRecastBackup s
  | .recastWait => Sys2Proof.Machine.execRecastWait s
  | .recastApproach => Sys2Proof.Machine.execRecastApproach s
  | .recastDecide => Sys2Proof.Machine.execRecastDecide s
  | .channelResume n => Sys2Proof.Machine.execChannelResume n s
  | .recastOverrun => Sys2Proof.Machine.execRecastOverrun s
  | .recastHoldTimeout => Sys2Proof.Machine.execRecastHoldTimeout s
  | .recastPassLimit => Sys2Proof.Machine.execRecastPassLimit s
  | .codecJobStart u => Sys2Proof.Machine.execCodecJobStart u s
  | .codecJobDone u => Sys2Proof.Machine.execCodecJobDone u s
  | .codecAbort w v => Sys2Proof.Machine.execCodecAbort w v s
  | .dramTraining => Sys2Proof.Machine.execDramTraining s
  | .dramTrainDone ok result => Sys2Proof.Machine.execDramTrainDone ok result s
  | .dramFillDone => Sys2Proof.Machine.execDramFillDone s
  | .dramReadReturn master addr len errs => Sys2Proof.Machine.execDramReadReturn master addr len errs s
  | .partialWriteMerge master addr errs data => Sys2Proof.Machine.execPartialWriteMerge master addr errs data s
  | .scrubRead errs => Sys2Proof.Machine.execScrubRead errs s
  | .refreshDue ch sub panic => Sys2Proof.Machine.execRefreshDue ch sub panic s
  | .dramTempPoll ch sub hot => Sys2Proof.Machine.execDramTempPoll ch sub hot s
  | .zqCal ch => Sys2Proof.Machine.execZqCal ch s
  | .dqsOscRead ch sub drift => Sys2Proof.Machine.execDqsOscRead ch sub drift s
  | .srEntry ch sub => Sys2Proof.Machine.execSrEntry ch sub s
  | .srExit ch sub => Sys2Proof.Machine.execSrExit ch sub s
  | .hubBiasWrite w m v => Sys2Proof.Machine.execHubBiasWrite w m v s
  | .hubFecRearm w => Sys2Proof.Machine.execHubFecRearm w s
  | .hubInject w v => Sys2Proof.Machine.execHubInject w v s
  | .perstNAssert => Sys2Proof.Machine.execPerstNAssert s
  | .functionLevelReset => Sys2Proof.Machine.execFunctionLevelReset s
  | .pcieLinkDown => Sys2Proof.Machine.execPcieLinkDown s
  | .pcieAer status => Sys2Proof.Machine.execPcieAer status s
  | .bar0Write bar offset size v => Sys2Proof.Machine.execBar0Write bar offset size v s
  | .glbTimeRead => Sys2Proof.Machine.execGlbTimeRead s
  | .bar2Read x len => Sys2Proof.Machine.execBar2Read x len s
  | .bar2Write x data poisoned => Sys2Proof.Machine.execBar2Write x data poisoned s
  | .mbxSubmit len => Sys2Proof.Machine.execMbxSubmit len s
  | .mbxRspAck => Sys2Proof.Machine.execMbxRspAck s
  | .ringEnable k v => Sys2Proof.Machine.execRingEnable k v s
  | .ringDisable k => Sys2Proof.Machine.execRingDisable k s
  | .ringDb k v => Sys2Proof.Machine.execRingDb k v s
  | .ringEntryRead k data err => Sys2Proof.Machine.execRingEntryRead k data err s
  | .ringInterruptDue k => Sys2Proof.Machine.execRingInterruptDue k s
  | .msixUnmask v => Sys2Proof.Machine.execMsixUnmask v s
  | .dmaStart ch => Sys2Proof.Machine.execDmaStart ch s
  | .dmaStop ch => Sys2Proof.Machine.execDmaStop ch s
  | .dmaReset ch => Sys2Proof.Machine.execDmaReset ch s
  | .dmaHeadWrite ch v => Sys2Proof.Machine.execDmaHeadWrite ch v s
  | .dmaKick ch => Sys2Proof.Machine.execDmaKick ch s
  | .dmaDescFetched ch desc err => Sys2Proof.Machine.execDmaDescFetched ch desc err s
  | .dmaLinkReread ch link err => Sys2Proof.Machine.execDmaLinkReread ch link err s
  | .dmaHalfPoint ch data => Sys2Proof.Machine.execDmaHalfPoint ch data s
  | .dmaDescDone ch data => Sys2Proof.Machine.execDmaDescDone ch data s
  | .dmaStopped ch upTo data => Sys2Proof.Machine.execDmaStopped ch upTo data s
  | .dmaError ch kind typ addr => Sys2Proof.Machine.execDmaError ch kind typ addr s
  | .wopRequest transport addr msg => Sys2Proof.Machine.execWopRequest transport addr msg s
  | .udpDatagram p addr ident fragOffset more payload => Sys2Proof.Machine.execUdpDatagram p addr ident fragOffset more payload s
  | .reassemblyTimeout => Sys2Proof.Machine.execReassemblyTimeout s
  | .arpRequest p ip => Sys2Proof.Machine.execArpRequest p ip s
  | .icmpEcho p ip payload => Sys2Proof.Machine.execIcmpEcho p ip payload s
  | .canFrame ch id fd data => Sys2Proof.Machine.execCanFrame ch id fd data s
  | .segTimeout ch => Sys2Proof.Machine.execSegTimeout ch s
  | .canBusOff ch => Sys2Proof.Machine.execCanBusOff ch s
  | .chCommit w n => Sys2Proof.Machine.execChCommit w n s
  | .devCommitNow w => Sys2Proof.Machine.execDevCommitNow w s
  | .devCommitStep w => Sys2Proof.Machine.execDevCommitStep w s
  | .lockAcquire w k => Sys2Proof.Machine.execLockAcquire w k s
  | .lockRelease w k => Sys2Proof.Machine.execLockRelease w k s
  | .lockLeaseExpiry k => Sys2Proof.Machine.execLockLeaseExpiry k s
  | .store w => Sys2Proof.Machine.execStore w s
  | .restoreDefaults w => Sys2Proof.Machine.execRestoreDefaults w s
  | .imageVerify w => Sys2Proof.Machine.execImageVerify w s
  | .imageCommit w => Sys2Proof.Machine.execImageCommit w s
  | .dramRetrain w => Sys2Proof.Machine.execDramRetrain w s
  | .opEnd ok detail => Sys2Proof.Machine.execOpEnd ok detail s
  | .opTimeout => Sys2Proof.Machine.execOpTimeout s
  | .profTargetWrite w a v => Sys2Proof.Machine.execProfTargetWrite w a v s
  | .slotEnable w slot => Sys2Proof.Machine.execSlotEnable w slot s
  | .slotDisable w slot => Sys2Proof.Machine.execSlotDisable w slot s
  | .loopPeriodTrigger slot => Sys2Proof.Machine.execLoopPeriodTrigger slot s
  | .loopSampleRun => Sys2Proof.Machine.execLoopSampleRun s
  | .loopDeadlineMiss slot => Sys2Proof.Machine.execLoopDeadlineMiss slot s
  | .loopToneWrite slot => Sys2Proof.Machine.execLoopToneWrite slot s
  | .loopToneWriteDone slot => Sys2Proof.Machine.execLoopToneWriteDone slot s
  | .loopPendingWrite slot => Sys2Proof.Machine.execLoopPendingWrite slot s
  | .bankSwap w slot => Sys2Proof.Machine.execBankSwap w slot s
  | .preset w slot v => Sys2Proof.Machine.execPreset w slot v s
  | .publish w j => Sys2Proof.Machine.execPublish w j s
  | .ainSeqPeriod q => Sys2Proof.Machine.execAinSeqPeriod q s
  | .ainSeqDone q codes => Sys2Proof.Machine.execAinSeqDone q codes s
  | .gpioOutWrite w v => Sys2Proof.Machine.execGpioOutWrite w v s
  | .timeSet w v => Sys2Proof.Machine.execTimeSet w v s
  | .ptpSyncRx p msg => Sys2Proof.Machine.execPtpSyncRx p msg s
  | .ptpFollowUpRx p msg => Sys2Proof.Machine.execPtpFollowUpRx p msg s
  | .ptpDelayRespRx p msg => Sys2Proof.Machine.execPtpDelayRespRx p msg s
  | .ptpDelayReqRx p msg => Sys2Proof.Machine.execPtpDelayReqRx p msg s
  | .ptpAnnounceRx p msg => Sys2Proof.Machine.execPtpAnnounceRx p msg s
  | .ptpSyncTx p => Sys2Proof.Machine.execPtpSyncTx p s
  | .ptpDelayReqTx p => Sys2Proof.Machine.execPtpDelayReqTx p s
  | .ptpAnnounceTx p => Sys2Proof.Machine.execPtpAnnounceTx p s
  | .ptpAnnounceTimeout p => Sys2Proof.Machine.execPtpAnnounceTimeout p s
  | .timeValidHold => Sys2Proof.Machine.execTimeValidHold s
  | .timeSnap => Sys2Proof.Machine.execTimeSnap s
  | .timeSnapLost => Sys2Proof.Machine.execTimeSnapLost s
  | .alignAcquire phase => Sys2Proof.Machine.execAlignAcquire phase s
  | .alignLocked => Sys2Proof.Machine.execAlignLocked s
  | .alignCorrection phase => Sys2Proof.Machine.execAlignCorrection phase s
  | .alignRefLost reason => Sys2Proof.Machine.execAlignRefLost reason s
  | .alignCoastLimit => Sys2Proof.Machine.execAlignCoastLimit s
  | .qdSync w => Sys2Proof.Machine.execQdSync w s
  | .qdRail w target => Sys2Proof.Machine.execQdRail w target s
  | .qdArm w => Sys2Proof.Machine.execQdArm w s
  | .qdStart w => Sys2Proof.Machine.execQdStart w s
  | .qdRecastReq => Sys2Proof.Machine.execQdRecastReq s
  | .qdRecastGo => Sys2Proof.Machine.execQdRecastGo s
  | .qdStop w => Sys2Proof.Machine.execQdStop w s
  | .qdCommit w => Sys2Proof.Machine.execQdCommit w s
  | .qdLineFall => Sys2Proof.Machine.execQdLineFall s
  | .qdRecord p payload => Sys2Proof.Machine.execQdRecord p payload s
  | .qdRepeat => Sys2Proof.Machine.execQdRepeat s
  | .qdLineRise => Sys2Proof.Machine.execQdLineRise s
  | .qdStepTimeout => Sys2Proof.Machine.execQdStepTimeout s
  | .faultConditionEnd id => Sys2Proof.Machine.execFaultConditionEnd id s
  | .scopeRecover scope => Sys2Proof.Machine.execScopeRecover scope s
  | .fltClear w => Sys2Proof.Machine.execFltClear w s
  | .fltSelClassWrite w v => Sys2Proof.Machine.execFltSelClassWrite w v s
  | .selStickyClear w => Sys2Proof.Machine.execSelStickyClear w s
  | .stickyClearAll w => Sys2Proof.Machine.execStickyClearAll w s
  | .manualSafe w => Sys2Proof.Machine.execManualSafe w s
  | .fltFecRearm w => Sys2Proof.Machine.execFltFecRearm w s
  | .busError kind addr master typ => Sys2Proof.Machine.execBusError kind addr master typ s
  | .supSramUe addr => Sys2Proof.Machine.execSupSramUe addr s
  | .supWatchdog => Sys2Proof.Machine.execSupWatchdog s
  | .dieHot sensor t => Sys2Proof.Machine.execDieHot sensor t s
  | .dieCrit sensor t => Sys2Proof.Machine.execDieCrit sensor t s
  | .vaonLow mv => Sys2Proof.Machine.execVaonLow mv s
  | .railTargetWrite w v => Sys2Proof.Machine.execRailTargetWrite w v s
  | .railGood r => Sys2Proof.Machine.execRailGood r s
  | .railDischarged r => Sys2Proof.Machine.execRailDischarged r s
  | .railOnDelay r => Sys2Proof.Machine.execRailOnDelay r s
  | .railSettleDone => Sys2Proof.Machine.execRailSettleDone s
  | .railOnTimeout r => Sys2Proof.Machine.execRailOnTimeout r s
  | .railOffTimeout r => Sys2Proof.Machine.execRailOffTimeout r s
  | .railLost r => Sys2Proof.Machine.execRailLost r s
  | .railLogProgramDone ok => Sys2Proof.Machine.execRailLogProgramDone ok s
  | .resetNAssert => Sys2Proof.Machine.execResetNAssert s
  | .supplyOutOfRange => Sys2Proof.Machine.execSupplyOutOfRange s
  | .devResetWrite w v => Sys2Proof.Machine.execDevResetWrite w v s
  | .resetEnd => Sys2Proof.Machine.execResetEnd s
  | .bootComplete => Sys2Proof.Machine.execBootComplete s
  | .stateReqStandby w => Sys2Proof.Machine.execStateReqStandby w s
  | .stateReqReady w => Sys2Proof.Machine.execStateReqReady w s
  | .stateReqPrinting w => Sys2Proof.Machine.execStateReqPrinting w s
  | .fwImageWrite w offset data => Sys2Proof.Machine.execFwImageWrite w offset data s
  | .fwConfirm w => Sys2Proof.Machine.execFwConfirm w s
  | .encRawPulse n => Sys2Proof.Machine.execEncRawPulse n s
  | .echoReqDue m => Sys2Proof.Machine.execEchoReqDue m s
  | .lineFrameComplete m => Sys2Proof.Machine.execLineFrameComplete m s
  | .pcieLinkUp gen width => Sys2Proof.Machine.execPcieLinkUp gen width s
  | .ethLinkChange p up => Sys2Proof.Machine.execEthLinkChange p up s
  | .ainScanConversion input code => Sys2Proof.Machine.execAinScanConversion input code s

end Sys2Proof.Machine
end

