-- ==== Sys2Proof/Machine/Step.lean ====
section
/-! DEFINITION. Sys2Proof/Machine/Step.lean: one step of the block. -/

namespace Sys2Proof.Machine

/-- One step: the command at the front of the queue takes effect on the machine with the rest of the queue. With no command
waiting a cycle of the 200 MHz clock passes (DESIGN CHOICE, log 1). -/
def step (s : State) : Host.Outcome State Fault Refusal :=
  match s.pending with
  | [] => .next { s with core := tick s.core }
  | i :: r => exec i { s with pending := r }

/-- The machine with the command that a word spells at the front of its queue; unchanged where the word spells none. -/
def State.withFetchWord (s : State) (nbits w : Nat) : State :=
  match decodeTableWord nbits w with
  | some i => { s with pending := i :: s.pending }
  | none => s

end Sys2Proof.Machine
end

