-- ==== Sys2Proof/WellFormed.lean ====
section
/-! DEFINITION. Sys2Proof/WellFormed.lean: which commands are well formed: the units they name exist, a writer is one that the
object server can tell apart, and numbers that travel in fields fit them. -/

namespace Sys2Proof

/-- A writer names a transport of R329, an address that fits 32 bits and a CLIENT of R331. -/
def Writer.wf (w : Writer) : Bool :=
  decide (1 ≤ w.transport) && decide (w.transport ≤ 5) && decide (w.addr < 2 ^ 32) && decide (1 ≤ w.client) &&
    decide (w.client ≤ 0xFFFF)

/-- An index, a sub-index, a type and an offset fit the fields of an item (R332). -/
def itemWf (index sub typ offset : Nat) (data : List Byte) : Bool :=
  decide (index < 2 ^ 16) && decide (sub < 2 ^ 8) && decide (typ < 2 ^ 8) && decide (offset < 2 ^ 32) &&
    decide (data.length < 2 ^ 16)

/-- The units that a command names exist. -/
def Instr.unitsOk (i : Instr) : Bool :=
  match i with
  | .devMarkModeWrite _ _ => true
  | .objectWrite _ _ _ _ _ _ => true
  | .stagedWrite _ _ _ _ _ _ => true
  | .pdEnableWrite _ _ => true
  | .pdSwitchDone d => d < 17
  | .lineBoundary n => n < 8
  | .encEdge n _ _ => n < 4
  | .encUnreliable n => n < 4
  | .encIndex n _ => n < 4
  | .encPreset _ n _ => n < 4
  | .rehome _ n _ => n < 4
  | .sposRequest n _ => n < 4
  | .sposWord n _ _ _ => n < 4
  | .sposWordTimeout n => n < 4
  | .sposLost n => n < 4
  | .passOverrun p => p < 2
  | .compareTarget n => n < 8
  | .cmpPulse n => n < 8
  | .cmpPulseEnd n => n < 8
  | .cmpArm _ n => n < 8
  | .cmpDisarm _ n => n < 8
  | .cmpCapture n _ => n < 8
  | .lcTrackExit n => n < 4
  | .lcStill n => n < 4
  | .lcUnlock n => n < 4
  | .lcRelock n => n < 4
  | .lcSettled n => n < 4
  | .nop k => k < 16
  | .toneSwap k => k < 16
  | .commit k => k < 16
  | .devCommit k => k < 16
  | .loopSample k => k < 16
  | .loopBank k => k < 16
  | .adcTrigger k => k < 16
  | .gpio k => k < 16
  | .event k => k < 16
  | .listArm k => k < 16
  | .recastReq k => k < 16
  | .pageStart k => k < 16
  | .cueListArm _ k => k < 16
  | .cueListDisarm _ k => k < 16
  | .cueEntryWrite _ entry _ _ _ => entry < 4096
  | .fireIssue n => n < 8
  | .flaskReadDone n _ _ _ => n < 8
  | .chToneSwap _ n _ => n < 8
  | .toneDrainEnd n => n < 8
  | .toneCopy _ n => n < 8
  | .toneCopyDone n => n < 8
  | .nozPatch _ n _ => n < 8
  | .nozResyncDone n => n < 8
  | .tblLoad _ n => n < 8
  | .tblReadback _ n => n < 8
  | .tblLoadDone n => n < 8
  | .sramScrubRead n _ _ _ => n < 8
  | .headTempStale n _ => n < 8
  | .temp m _ _ _ => m < 32
  | .nozzle m _ _ _ => m < 32
  | .fault m _ _ _ => m < 32
  | .status m _ _ _ _ _ _ => m < 32
  | .lineNak m _ _ => m < 32
  | .ctrlAck m _ _ _ => m < 32
  | .echoRsp m _ _ _ => m < 32
  | .train m _ _ => m < 32
  | .klInvalidBlock m _ => m < 32
  | .klLockLoss m => m < 32
  | .klSilence m => m < 32
  | .klBlockLock m _ => m < 32
  | .klStageTimer m => m < 32
  | .laneTrainStart m => m < 32
  | .klTrainTimeout m => m < 32
  | .klRetryTimer m => m < 32
  | .klSyncDue => true
  | .keepaliveDue m => m < 32
  | .lineFrameOpen m => m < 32
  | .ctrlRead _ m => m < 32
  | .ctrlWrite _ m => m < 32
  | .klCtrlTimeout m => m < 32
  | .bulkGo _ m => m < 32
  | .scanPulse n _ _ _ => n < 8
  | .scanMiss n => n < 8
  | .scanLost n => n < 8
  | .scanEnable _ n => n < 8
  | .scanDisable _ n => n < 8
  | .scanSpinupDone n => n < 8
  | .scanAcquired n => n < 8
  | .scanAcqTimeout n => n < 8
  | .scanLostRetry n => n < 8
  | .sweepCommit n => n < 8
  | .scanPagePhase2 n => n < 8
  | .scanSplit n => n < 8
  | .sltLoad _ n => n < 8
  | .sltReadback _ n => n < 8
  | .sltGenerate _ n => n < 8
  | .sltDone n => n < 8
  | .apcSample n _ => n < 8
  | .stationFinished n => n < 8
  | .pageSpoiledReport n => n < 8
  | .pageAbort _ => true
  | .load _ n => n < 8
  | .arm _ n => n < 8
  | .abort _ n => n < 8
  | .unload _ n => n < 8
  | .jobDescriptor n => n < 8
  | .bandDescriptor n => n < 8
  | .stopDescriptor n => n < 8
  | .bandFetchStart n => n < 8
  | .bandFetched n _ _ => n < 8
  | .sprueBandStart n => n < 8
  | .sprueLine n => n < 8
  | .rcstRequest _ _ => true
  | .heldStop n => n < 8
  | .recastBackup => true
  | .recastWait => true
  | .recastApproach => true
  | .recastDecide => true
  | .channelResume n => n < 8
  | .recastOverrun => true
  | .recastHoldTimeout => true
  | .recastPassLimit => true
  | .codecJobStart u => u < 2
  | .codecJobDone u => u < 2
  | .codecAbort _ _ => true
  | .dramTraining => true
  | .dramTrainDone _ _ => true
  | .dramFillDone => true
  | .dramReadReturn _ _ _ _ => true
  | .partialWriteMerge _ _ _ _ => true
  | .scrubRead _ => true
  | .refreshDue ch sub _ => ch < 4 && sub < 2
  | .dramTempPoll ch sub _ => ch < 4 && sub < 2
  | .zqCal ch => ch < 4
  | .dqsOscRead ch sub _ => ch < 4 && sub < 2
  | .srEntry ch sub => ch < 4 && sub < 2
  | .srExit ch sub => ch < 4 && sub < 2
  | .hubBiasWrite _ m _ => m < 64
  | .hubFecRearm _ => true
  | .hubInject _ _ => true
  | .perstNAssert => true
  | .functionLevelReset => true
  | .pcieLinkDown => true
  | .pcieAer _ => true
  | .bar0Write _ _ _ _ => true
  | .glbTimeRead => true
  | .bar2Read _ _ => true
  | .bar2Write _ _ _ => true
  | .mbxSubmit _ => true
  | .mbxRspAck => true
  | .ringEnable k _ => k < 64
  | .ringDisable k => k < 64
  | .ringDb k _ => k < 64
  | .ringEntryRead k _ _ => k < 64
  | .ringInterruptDue k => k < 64
  | .msixUnmask v => v < 128
  | .dmaStart ch => ch < 16
  | .dmaStop ch => ch < 16
  | .dmaReset ch => ch < 16
  | .dmaHeadWrite ch _ => ch < 16
  | .dmaKick ch => ch < 16
  | .dmaDescFetched ch _ _ => ch < 16
  | .dmaLinkReread ch _ _ => ch < 16
  | .dmaHalfPoint ch _ => ch < 16
  | .dmaDescDone ch _ => ch < 16
  | .dmaStopped ch _ _ => ch < 16
  | .dmaError ch _ _ _ => ch < 16
  | .wopRequest _ _ _ => true
  | .udpDatagram p _ _ _ _ _ => p < 2
  | .reassemblyTimeout => true
  | .arpRequest p _ => p < 2
  | .icmpEcho p _ _ => p < 2
  | .canFrame ch _ _ _ => ch < 2
  | .segTimeout ch => ch < 2
  | .canBusOff ch => ch < 2
  | .chCommit _ n => n < 8
  | .devCommitNow _ => true
  | .devCommitStep _ => true
  | .lockAcquire _ k => k < 10
  | .lockRelease _ k => k < 10
  | .lockLeaseExpiry k => k < 10
  | .store _ => true
  | .restoreDefaults _ => true
  | .imageVerify _ => true
  | .imageCommit _ => true
  | .dramRetrain _ => true
  | .opEnd _ _ => true
  | .opTimeout => true
  | .profTargetWrite _ a _ => a < 1024
  | .slotEnable _ slot => slot < 64
  | .slotDisable _ slot => slot < 64
  | .loopPeriodTrigger slot => slot < 64
  | .loopSampleRun => true
  | .loopDeadlineMiss slot => slot < 64
  | .loopToneWrite slot => slot < 64
  | .loopToneWriteDone slot => slot < 64
  | .loopPendingWrite slot => slot < 64
  | .bankSwap _ slot => slot < 64
  | .preset _ slot _ => slot < 64
  | .publish _ j => j < 16
  | .ainSeqPeriod q => q < 8
  | .ainSeqDone q _ => q < 8
  | .gpioOutWrite _ _ => true
  | .timeSet _ _ => true
  | .ptpSyncRx p _ => p < 2
  | .ptpFollowUpRx p _ => p < 2
  | .ptpDelayRespRx p _ => p < 2
  | .ptpDelayReqRx p _ => p < 2
  | .ptpAnnounceRx p _ => p < 2
  | .ptpSyncTx p => p < 2
  | .ptpDelayReqTx p => p < 2
  | .ptpAnnounceTx p => p < 2
  | .ptpAnnounceTimeout p => p < 2
  | .timeValidHold => true
  | .timeSnap => true
  | .timeSnapLost => true
  | .alignAcquire _ => true
  | .alignLocked => true
  | .alignCorrection _ => true
  | .alignRefLost _ => true
  | .alignCoastLimit => true
  | .qdSync _ => true
  | .qdRail _ _ => true
  | .qdArm _ => true
  | .qdStart _ => true
  | .qdRecastReq => true
  | .qdRecastGo => true
  | .qdStop _ => true
  | .qdCommit _ => true
  | .qdLineFall => true
  | .qdRecord p _ => p < 2
  | .qdRepeat => true
  | .qdLineRise => true
  | .qdStepTimeout => true
  | .faultConditionEnd _ => true
  | .scopeRecover scope => scope < 9
  | .fltClear _ => true
  | .fltSelClassWrite _ _ => true
  | .selStickyClear _ => true
  | .stickyClearAll _ => true
  | .manualSafe _ => true
  | .fltFecRearm _ => true
  | .busError _ _ _ _ => true
  | .supSramUe _ => true
  | .supWatchdog => true
  | .dieHot sensor _ => sensor < 8
  | .dieCrit sensor _ => sensor < 8
  | .vaonLow _ => true
  | .railTargetWrite _ _ => true
  | .railGood r => r < 24
  | .railDischarged r => r < 24
  | .railOnDelay r => r < 24
  | .railSettleDone => true
  | .railOnTimeout r => r < 24
  | .railOffTimeout r => r < 24
  | .railLost r => r < 24
  | .railLogProgramDone _ => true
  | .resetNAssert => true
  | .supplyOutOfRange => true
  | .devResetWrite _ _ => true
  | .resetEnd => true
  | .bootComplete => true
  | .stateReqStandby _ => true
  | .stateReqReady _ => true
  | .stateReqPrinting _ => true
  | .fwImageWrite _ _ _ => true
  | .fwConfirm _ => true
  | .encRawPulse n => n < 4
  | .echoReqDue m => m < 32
  | .lineFrameComplete m => m < 32
  | .pcieLinkUp _ _ => true
  | .ethLinkChange p _ => p < 2
  | .ainScanConversion input _ => input < 25

/-- Who writes, what is written: the rest of the operands fits. -/
def Instr.operandsOk (i : Instr) : Bool :=
  match i with
  | .devMarkModeWrite w _ => w.wf
  | .objectWrite w index sub typ offset data => w.wf && itemWf index sub typ offset data
  | .stagedWrite w index sub typ offset data => w.wf && itemWf index sub typ offset data
  | .pdEnableWrite w _ => w.wf
  | .pdSwitchDone _ => true
  | .lineBoundary _ => true
  | .encEdge _ _ _ => true
  | .encUnreliable _ => true
  | .encIndex _ _ => true
  | .encPreset w _ _ => w.wf
  | .rehome w _ _ => w.wf
  | .sposRequest _ _ => true
  | .sposWord _ _ _ _ => true
  | .sposWordTimeout _ => true
  | .sposLost _ => true
  | .passOverrun _ => true
  | .compareTarget _ => true
  | .cmpPulse _ => true
  | .cmpPulseEnd _ => true
  | .cmpArm w _ => w.wf
  | .cmpDisarm w _ => w.wf
  | .cmpCapture _ _ => true
  | .lcTrackExit _ => true
  | .lcStill _ => true
  | .lcUnlock _ => true
  | .lcRelock _ => true
  | .lcSettled _ => true
  | .nop _ => true
  | .toneSwap _ => true
  | .commit _ => true
  | .devCommit _ => true
  | .loopSample _ => true
  | .loopBank _ => true
  | .adcTrigger _ => true
  | .gpio _ => true
  | .event _ => true
  | .listArm _ => true
  | .recastReq _ => true
  | .pageStart _ => true
  | .cueListArm w _ => w.wf
  | .cueListDisarm w _ => w.wf
  | .cueEntryWrite w _ sub offset data => w.wf && itemWf 0 sub 0 offset data
  | .fireIssue _ => true
  | .flaskReadDone _ _ _ _ => true
  | .chToneSwap w _ _ => w.wf
  | .toneDrainEnd _ => true
  | .toneCopy w _ => w.wf
  | .toneCopyDone _ => true
  | .nozPatch w _ _ => w.wf
  | .nozResyncDone _ => true
  | .tblLoad w _ => w.wf
  | .tblReadback w _ => w.wf
  | .tblLoadDone _ => true
  | .sramScrubRead _ _ _ _ => true
  | .headTempStale _ _ => true
  | .temp _ _ _ _ => true
  | .nozzle _ _ _ _ => true
  | .fault _ _ _ _ => true
  | .status _ _ _ _ _ _ _ => true
  | .lineNak _ _ _ => true
  | .ctrlAck _ _ _ _ => true
  | .echoRsp _ _ _ _ => true
  | .train _ _ _ => true
  | .klInvalidBlock _ block => block < 2 ^ 66
  | .klLockLoss _ => true
  | .klSilence _ => true
  | .klBlockLock _ _ => true
  | .klStageTimer _ => true
  | .laneTrainStart _ => true
  | .klTrainTimeout _ => true
  | .klRetryTimer _ => true
  | .klSyncDue => true
  | .keepaliveDue _ => true
  | .lineFrameOpen _ => true
  | .ctrlRead w _ => w.wf
  | .ctrlWrite w _ => w.wf
  | .klCtrlTimeout _ => true
  | .bulkGo w _ => w.wf
  | .scanPulse _ _ _ _ => true
  | .scanMiss _ => true
  | .scanLost _ => true
  | .scanEnable w _ => w.wf
  | .scanDisable w _ => w.wf
  | .scanSpinupDone _ => true
  | .scanAcquired _ => true
  | .scanAcqTimeout _ => true
  | .scanLostRetry _ => true
  | .sweepCommit _ => true
  | .scanPagePhase2 _ => true
  | .scanSplit _ => true
  | .sltLoad w _ => w.wf
  | .sltReadback w _ => w.wf
  | .sltGenerate w _ => w.wf
  | .sltDone _ => true
  | .apcSample _ _ => true
  | .stationFinished _ => true
  | .pageSpoiledReport _ => true
  | .pageAbort w => w.wf
  | .load w _ => w.wf
  | .arm w _ => w.wf
  | .abort w _ => w.wf
  | .unload w _ => w.wf
  | .jobDescriptor _ => true
  | .bandDescriptor _ => true
  | .stopDescriptor _ => true
  | .bandFetchStart _ => true
  | .bandFetched _ _ _ => true
  | .sprueBandStart _ => true
  | .sprueLine _ => true
  | .rcstRequest w _ => w.wf
  | .heldStop _ => true
  | .recastBackup => true
  | .recastWait => true
  | .recastApproach => true
  | .recastDecide => true
  | .channelResume _ => true
  | .recastOverrun => true
  | .recastHoldTimeout => true
  | .recastPassLimit => true
  | .codecJobStart _ => true
  | .codecJobDone _ => true
  | .codecAbort w _ => w.wf
  | .dramTraining => true
  | .dramTrainDone _ _ => true
  | .dramFillDone => true
  | .dramReadReturn _ _ _ _ => true
  | .partialWriteMerge _ _ _ _ => true
  | .scrubRead _ => true
  | .refreshDue _ _ _ => true
  | .dramTempPoll _ _ _ => true
  | .zqCal _ => true
  | .dqsOscRead _ _ _ => true
  | .srEntry _ _ => true
  | .srExit _ _ => true
  | .hubBiasWrite w _ _ => w.wf
  | .hubFecRearm w => w.wf
  | .hubInject w _ => w.wf
  | .perstNAssert => true
  | .functionLevelReset => true
  | .pcieLinkDown => true
  | .pcieAer _ => true
  | .bar0Write bar _ size _ => [0, 4, 6, 8, 12, 14].contains bar && (size = 4 || size = 8)
  | .glbTimeRead => true
  | .bar2Read _ _ => true
  | .bar2Write _ _ _ => true
  | .mbxSubmit _ => true
  | .mbxRspAck => true
  | .ringEnable _ _ => true
  | .ringDisable _ => true
  | .ringDb _ _ => true
  | .ringEntryRead _ _ _ => true
  | .ringInterruptDue _ => true
  | .msixUnmask _ => true
  | .dmaStart _ => true
  | .dmaStop _ => true
  | .dmaReset _ => true
  | .dmaHeadWrite _ _ => true
  | .dmaKick _ => true
  | .dmaDescFetched _ _ _ => true
  | .dmaLinkReread _ _ _ => true
  | .dmaHalfPoint _ _ => true
  | .dmaDescDone _ _ => true
  | .dmaStopped _ _ _ => true
  | .dmaError _ _ _ _ => true
  | .wopRequest transport _ _ => decide (1 ≤ transport) && decide (transport ≤ 5)
  | .udpDatagram _ _ _ fragOffset _ _ => fragOffset % 8 = 0
  | .reassemblyTimeout => true
  | .arpRequest _ _ => true
  | .icmpEcho _ _ _ => true
  | .canFrame _ id _ data => decide (id < 2 ^ 11) && decide (data.length ≤ 64)
  | .segTimeout _ => true
  | .canBusOff _ => true
  | .chCommit w _ => w.wf
  | .devCommitNow w => w.wf
  | .devCommitStep w => w.wf
  | .lockAcquire w _ => w.wf
  | .lockRelease w _ => w.wf
  | .lockLeaseExpiry _ => true
  | .store w => w.wf
  | .restoreDefaults w => w.wf
  | .imageVerify w => w.wf
  | .imageCommit w => w.wf
  | .dramRetrain w => w.wf
  | .opEnd _ _ => true
  | .opTimeout => true
  | .profTargetWrite w _ _ => w.wf
  | .slotEnable w _ => w.wf
  | .slotDisable w _ => w.wf
  | .loopPeriodTrigger _ => true
  | .loopSampleRun => true
  | .loopDeadlineMiss _ => true
  | .loopToneWrite _ => true
  | .loopToneWriteDone _ => true
  | .loopPendingWrite _ => true
  | .bankSwap w _ => w.wf
  | .preset w _ _ => w.wf
  | .publish w _ => w.wf
  | .ainSeqPeriod _ => true
  | .ainSeqDone _ _ => true
  | .gpioOutWrite w _ => w.wf
  | .timeSet w _ => w.wf
  | .ptpSyncRx _ _ => true
  | .ptpFollowUpRx _ _ => true
  | .ptpDelayRespRx _ _ => true
  | .ptpDelayReqRx _ _ => true
  | .ptpAnnounceRx _ _ => true
  | .ptpSyncTx _ => true
  | .ptpDelayReqTx _ => true
  | .ptpAnnounceTx _ => true
  | .ptpAnnounceTimeout _ => true
  | .timeValidHold => true
  | .timeSnap => true
  | .timeSnapLost => true
  | .alignAcquire _ => true
  | .alignLocked => true
  | .alignCorrection _ => true
  | .alignRefLost _ => true
  | .alignCoastLimit => true
  | .qdSync w => w.wf
  | .qdRail w _ => w.wf
  | .qdArm w => w.wf
  | .qdStart w => w.wf
  | .qdRecastReq => true
  | .qdRecastGo => true
  | .qdStop w => w.wf
  | .qdCommit w => w.wf
  | .qdLineFall => true
  | .qdRecord _ _ => true
  | .qdRepeat => true
  | .qdLineRise => true
  | .qdStepTimeout => true
  | .faultConditionEnd _ => true
  | .scopeRecover _ => true
  | .fltClear w => w.wf
  | .fltSelClassWrite w _ => w.wf
  | .selStickyClear w => w.wf
  | .stickyClearAll w => w.wf
  | .manualSafe w => w.wf
  | .fltFecRearm w => w.wf
  | .busError _ _ _ _ => true
  | .supSramUe _ => true
  | .supWatchdog => true
  | .dieHot _ _ => true
  | .dieCrit _ _ => true
  | .vaonLow _ => true
  | .railTargetWrite w _ => w.wf
  | .railGood _ => true
  | .railDischarged _ => true
  | .railOnDelay _ => true
  | .railSettleDone => true
  | .railOnTimeout _ => true
  | .railOffTimeout _ => true
  | .railLost _ => true
  | .railLogProgramDone _ => true
  | .resetNAssert => true
  | .supplyOutOfRange => true
  | .devResetWrite w _ => w.wf
  | .resetEnd => true
  | .bootComplete => true
  | .stateReqStandby w => w.wf
  | .stateReqReady w => w.wf
  | .stateReqPrinting w => w.wf
  | .fwImageWrite w offset data => w.wf && itemWf 0 0 0 offset data
  | .fwConfirm w => w.wf
  | .encRawPulse _ => true
  | .echoReqDue _ => true
  | .lineFrameComplete _ => true
  | .pcieLinkUp _ _ => true
  | .ethLinkChange _ _ => true
  | .ainScanConversion _ _ => true

/-- A well-formed command. -/
def Instr.wf (i : Instr) : Bool := i.unitsOk && i.operandsOk

end Sys2Proof
end

