-- ==== Sys2Proof/Safety.lean ====
section
/-! DEFINITION. Sys2Proof/Safety.lean: what counts as a safe run, in the terms the claims use. -/

namespace Sys2Proof.Machine

/-- The command ends in a next state whose core is a given one, after what follows every change (`finish`). -/
def Does (i : Instr) (s : State) (c : Core) : Prop := exec i s = .next { s with core := finish c }

/-- The same for a command that may write DRAM: core and DRAM are given. -/
def DoesMem (i : Instr) (s : State) (r : Core × List Host.Cell) : Prop :=
  exec i s = .next { s with core := finish r.1, dram := r.2 }

/-- The device is out of reset and power domain d is usable. -/
abbrev Live (s : State) (d : Nat) : Prop := s.core.alive d = true

/-- The same for a command of the reset and the supplies, after which no reset that was asked for is looked at. -/
def DoesReset (i : Instr) (s : State) (c : Core) : Prop := exec i s = .next { s with core := follow c }

/-- Row d of the dictionary is that of object o, with access a; its value is one whole value, not a byte string. -/
abbrev Row (o : Obj) (a : Acc) (d : Desc) : Prop :=
  descOf (o.key / 256) (o.key % 256) = some d ∧ d.obj = o ∧ d.acc = a ∧ d.typ ≠ 10 ∧ (d.typ = 7 → o.bytes = 4)

/-- The object server accepts a write of the object with row d: it is neither silent nor busy, and every check of R315
passes. -/
abbrev Accepts (s : State) (w : Writer) (d : Desc) (v : Nat) : Prop :=
  Live s 1 ∧ s.core.serverSilent = false ∧ s.core.serverBusy = none ∧
    (writeCheck w d 0 0 (wireBytes d.typ d.obj.bytes v) s.core s.dram).1 = 0

/-- The answer to an accepted write of an object with row d whose action is given: the audit entry, the action, the leases of
the client refreshed, and the reply with status OK. -/
def answered (w : Writer) (d : Desc) (v : Nat) (act : Core → List Host.Cell → Core × List Host.Cell) (s : State) :
    Core × List Host.Cell :=
  let data := wireBytes d.typ d.obj.bytes v
  let r := act (auditWrite w (d.obj.key / 256) (d.obj.key % 256) 0 (auditValue (some d) data) s.core) s.dram
  (setReply 0 (writeCheck w d 0 0 data s.core s.dram).2 (lockRefresh w r.1), r.2)

/-- Nothing follows by itself from this core: no raise waits, no Recast is in progress, no proposal and no step of Quadrille
is, no reset is asked for, and DEV.STATE is none of those that follow the channels. -/
abbrev Calm (c : Core) : Prop :=
  c.raises = [] ∧ c.get K.rcstPhase = 0 ∧ c.qd.props = [] ∧ c.qd.busy = false ∧ c.boot.resetAsked = false ∧
    c.get K.devState ≠ 3 ∧ c.get K.devState ≠ 4 ∧ c.get K.devState ≠ 5

/-- The invariant of every step: DRAM has its canonical form. -/
def State.Inv (s : State) : Prop := Memory.wf s.dram = true

/-- One step leads from a state to another. -/
def Steps (s t : State) : Prop := step s = .next t

end Sys2Proof.Machine
end

