-- ==== Sys2Proof/Effects/Beam.lean ====
section
/-! DEFINITION. Sys2Proof/Effects/Beam.lean: what the commands of family Beam do:
for each, conditions on the machine and the operands under which it completes, and the machine it leaves. -/

namespace Sys2Proof.Effect
open Sys2Proof.Machine

/-- SCAN_PULSE (R174). An accepted pulse of a sweep before lock that follows none of its sensor is noted. -/
def ScanPulse : Prop :=
  ∀ (s : State) (c : Core) (n : Nat) (sensorB : Bool) (rise fall : Nat) (k : Nat),
    c = s.core →
    n < 8 →
    Live s (7 + n) →
    sensorB = false →
    c.sweeping n = true →
    rise + 4 * c.get (K.chScanMinPulse n) ≤ fall →
    c.sweepAt n false (((rise + fall : Nat) : Int) * 2 ^ 29) = some k →
    (nth c.scans n).lastA = none →
    c.get (K.chScanState n) = 2 →
    Does (.scanPulse n sensorB rise fall) s (c.updScan n fun (y : Scan) => { y with lastA := some (k, ((rise + fall : Nat) : Int) * 2 ^ 29), seenA := k :: y.seenA })

/-- SCAN_MISS (R179). A sweep whose windows have passed without both pulses counts as a miss. -/
def ScanMiss : Prop :=
  ∀ (s : State) (c : Core) (n : Nat),
    c = s.core →
    n < 8 →
    Live s (7 + n) →
    c.get (K.chScanState n) = 3 →
    ((∀ b : Bool, match c.pulseWindow n (nth c.scans n).judged b with | some (_, hi) => hi ≤ (c.time : Int) | none => c.sweepExact n (nth c.scans n).judged + c.quarterPeriod ≤ (c.time : Int))) →
    ((nth c.scans n).seenA.contains (nth c.scans n).judged && (nth c.scans n).seenB.contains (nth c.scans n).judged) = false →
    Does (.scanMiss n) s ((let k := (nth c.scans n).judged
  ((c.updScan n fun (y : Scan) =>
    judgeOn 64 { y with judged := k + 1, missRun := y.missRun + 1, missed := (k :: y.missed).take 8,
                        seenA := y.seenA.filter (fun (j : Nat) => j != k), seenB := y.seenB.filter fun (j : Nat) => j != k }).bump
    (K.chScanMisses n)).raise (0x10D1 + 0x100 * n) 1 (k % 2 ^ 32)))

/-- SCAN_LOST (R179). SCAN_MISS_LIMIT consecutive misses lose the scan, with reason 1. -/
def ScanLost : Prop :=
  ∀ (s : State) (c : Core) (n : Nat),
    c = s.core →
    n < 8 →
    Live s (7 + n) →
    c.get (K.chScanState n) = 3 →
    c.get (K.chScanMissLimit n) ≤ (nth c.scans n).missRun →
    Does (.scanLost n) s (scanFails n 1 c)

/-- SCAN_SPINUP_DONE (R182). After MIR_SPINUP, with every beam lane UP, the scan enters ACQUIRE. -/
def ScanSpinupDone : Prop :=
  ∀ (s : State) (c : Core) (n : Nat),
    c = s.core →
    n < 8 →
    Live s (7 + n) →
    c.beam = true →
    c.get (K.chScanState n) = 1 →
    c.lanesUp n = true →
    (nth c.scans n).spinAt + c.get (K.chMirSpinup n) * 1000000 ≤ c.clock →
    Does (.scanSpinupDone n) s (enterAcquire n c)

/-- SCAN_ACQUIRED (R182). 64 consecutive good sweeps send the setpoints that wait, and start the switch to the run page when none waits. -/
def ScanAcquired : Prop :=
  ∀ (s : State) (c : Core) (n : Nat),
    c = s.core →
    n < 8 →
    Live s (7 + n) →
    c.get (K.chScanState n) = 2 →
    64 ≤ (nth c.scans n).goodRun →
    (nth c.scans n).switch = none →
    Does (.scanAcquired n) s (runPage n (powerSend n (c.updScan n fun (y : Scan) => { y with runDue := true })))

/-- SCAN_ACQ_TIMEOUT (R182). ACQUIRE beyond SCAN_ACQ_TIMEOUT loses the scan, with reason 2. -/
def ScanAcqTimeout : Prop :=
  ∀ (s : State) (c : Core) (n : Nat),
    c = s.core →
    n < 8 →
    Live s (7 + n) →
    c.get (K.chScanState n) = 2 →
    (nth c.scans n).acqAt + c.get (K.chScanAcqTimeout n) * 1000000 < c.clock →
    Does (.scanAcqTimeout n) s (scanFails n 2 c)

/-- SCAN_LOST_RETRY (R182). 100 ms after LOST the scan enters ACQUIRE again. -/
def ScanLostRetry : Prop :=
  ∀ (s : State) (c : Core) (n : Nat),
    c = s.core →
    n < 8 →
    Live s (7 + n) →
    c.get (K.chScanState n) = 4 →
    (nth c.scans n).lostAt + 100000000 ≤ c.clock →
    Does (.scanLostRetry n) s (enterAcquire n c)

/-- SWEEP_COMMIT (R183). At C(s) the next sweep is committed and its SWEEP block goes out on the lanes that are UP. -/
def SweepCommit : Prop :=
  ∀ (s : State) (c : Core) (n : Nat) (k : Nat) (d : Core),
    c = s.core →
    n < 8 →
    Live s (7 + n) →
    k = c.nextSweep n →
    c.sweeping n = true →
    c.commitTime n k ≤ (c.time : Int) →
    c.sweepIncomplete n k = false →
    (d = runPage n (powerSend n (switchAgain n (switchApply n k ((List.range 4).foldl (fun (a : Core) (j : Nat) => if a.laneUp (4 * n + j) then a.block (4 * n + j) 0x5B (2 ^ 33 * (k % 2 ^ 15) + 2 ^ 32 * (k % 2) + unsigned 32 (c.sweepTime n k / 2 ^ 30)) else a) ((c.updScan n fun (x : Scan) => { x with cPrev := if x.any then x.cLast else c.commitTime n k, cLast := c.commitTime n k, any := true, linesDone := 0, dark := if c.laneUp (c.apcLane n k) then x.dark else (k :: x.dark).take 64 }).set (K.chSweep n) k)))))) →
    Does (.sweepCommit n) s (d)

/-- SCAN_PAGE_PHASE2 (R192). Once every lane has acknowledged phase 1, the VALID header of the new page goes out on every lane. -/
def ScanPagePhase2 : Prop :=
  ∀ (s : State) (c : Core) (n : Nat) (w : PageSwitch),
    c = s.core →
    n < 8 →
    Live s (7 + n) →
    (nth c.scans n).switch = some w →
    w.phase2 = false →
    w.left1 = [] →
    Does (.scanPagePhase2 n) s ((List.range 4).foldl (fun (a : Core) (k : Nat) => bulkQueue (4 * n + k) 2 (pageAddr (1 - (nth c.scans n).page)) (pageHeader w.apply) a) { c with scans := upd c.scans n fun (x : Scan) => { x with switch := some { w with phase2 := true } } })

/-- SCAN_SPLIT (R192). A page switch that is not acknowledged on every lane by C(APPLY - 1) raises SCAN_SPLIT. -/
def ScanSplit : Prop :=
  ∀ (s : State) (c : Core) (n : Nat) (w : PageSwitch),
    c = s.core →
    n < 8 →
    Live s (7 + n) →
    (nth c.scans n).switch = some w →
    w.splitRaised = false →
    w.left2 ≠ [] →
    c.splitDue n w (c.commitTime n (-1)) = true →
    Does (.scanSplit n) s ((c.updScan n fun (x : Scan) => { x with switch := some { w with splitRaised := true } }).raise (0x10D5 + 0x100 * n) 1 (2 ^ 56 * w.left2.headD 0 + w.apply % 2 ^ 15))

/-- SLT_DONE (R187). A generated Scan Linearisation Table takes its knots from the arcsine formula and is pending. -/
def SltDone : Prop :=
  ∀ (s : State) (c : Core) (n : Nat) (a : Nat),
    c = s.core →
    n < 8 →
    Live s (7 + n) →
    (nth c.scans n).slt = some (3, a) →
    DoesMem (.sltDone n) s ((let g := genKnots n (List.range 4096) c []
  (sltEnd n 2 true (g.2.updScan n fun (x : Scan) => { x with knots := g.1 }), s.dram)))

/-- APC_SAMPLE (R193). The sample due at t_S + APC_SAMPLE is a timed one, is stored as the entry of its beam, and triggers the slots in mode 5. -/
def ApcSample : Prop :=
  ∀ (s : State) (c : Core) (n code : Nat) (k : Nat),
    c = s.core →
    n < 8 →
    Live s (7 + n) →
    c.apcDue n = some k →
    Does (.apcSample n code) s (apcTaken n code c)

/-- STATION_FINISHED (R199). A station past the last pixel of its page finishes it; while other stations of the page go on nothing else happens. -/
def StationFinished : Prop :=
  ∀ (s : State) (c : Core) (n : Nat) (x : PageRun) (d : Core) (p : Page),
    c = s.core →
    n < 8 →
    Live s (7 + n) →
    ((nth c.runs n).find? (fun (y : PageRun) => !y.finished) = some x) →
    (nth c.scans n).any = true →
    (c.runEnd n x - 1) / c.beams n ≤ c.get (K.chSweep n) →
    c.sweepEnd n ((c.runEnd n x - 1) / c.beams n) ≤ (c.time : Int) →
    (d = pageState n (updPage x.page (fun (q : Page) => { q with finished := setBit q.finished n true }) { c with runs := upd c.runs n fun (l : List PageRun) => (l.map fun (y : PageRun) => if y.page = x.page && !y.finished then { y with finished := true } else y) })) →
    d.pageOf x.page = some p →
    p.finished ≠ p.mask →
    Does (.stationFinished n) s (d)

/-- PAGE_SPOILED_REPORT (R202). Once every started station of a spoiled page has ended, its SPOILED record is written and the page is consumed. -/
def PageSpoiledReport : Prop :=
  ∀ (s : State) (c : Core) (n : Nat) (p : Page),
    c = s.core →
    n < 8 →
    Live s (7 + n) →
    (c.pages.find? (fun (q : Page) => q.reason != 0 && q.mask.testBit n && (bitsOf 8 q.mask).all (fun (k : Nat) => !c.begun k q.num || q.finished.testBit k)) = some p) →
    Does (.pageSpoiledReport n) s ((let d := pageRecord 2 p.reason p.mask p.cause p.num c
  { d with pages := d.pages.filter fun (q : Page) => q.num != p.num }))

end Sys2Proof.Effect
end

