-- ==== Sys2Proof/Effects/ChannelWrites.lean ====
section
/-! DEFINITION. Sys2Proof/Effects/ChannelWrites.lean: what the commands of family ChannelWrites do:
for each, conditions on the machine and the operands under which it completes, and the machine it leaves. -/

namespace Sys2Proof.Effect
open Sys2Proof.Machine

/-- CH_TONE_SWAP (R95). A swap of the tone banks is requested. -/
def ChToneSwap : Prop :=
  ∀ (s : State) (w : Writer) (n v : Nat) (d : Desc),
    n < 8 →
    Row (K.chToneSwap n) .wo d →
    v < 256 ^ (K.chToneSwap n).bytes →
    Accepts s w d v →
    DoesMem (.chToneSwap w n v) s (answered w d v (fun (e : Core) (m : List Host.Cell) => (toneRequest n v e, m)) s)

/-- TONE_COPY (R97). The copy of the live tone bank begins. -/
def ToneCopy : Prop :=
  ∀ (s : State) (w : Writer) (n : Nat) (d : Desc),
    n < 8 →
    Row (K.chToneCopy n) .wo d →
    Accepts s w d 1 →
    DoesMem (.toneCopy w n) s (answered w d 1 (fun (e : Core) (m : List Host.Cell) => (toneCopyStart n e, m)) s)

/-- NOZ_PATCH (R101). One entry of the nozzle table is patched. -/
def NozPatch : Prop :=
  ∀ (s : State) (w : Writer) (n v : Nat) (d : Desc),
    n < 8 →
    Row (K.chNozPatch n) .wo d →
    v < 256 ^ (K.chNozPatch n).bytes →
    Accepts s w d v →
    DoesMem (.nozPatch w n v) s (answered w d v (fun (e : Core) (m : List Host.Cell) => (nozPatch n v e, m)) s)

/-- TBL_LOAD (R110). A load of a table begins. -/
def TblLoad : Prop :=
  ∀ (s : State) (w : Writer) (n : Nat) (d : Desc),
    n < 8 →
    Row (K.chTblGo n) .wo d →
    Accepts s w d 1 →
    DoesMem (.tblLoad w n) s (answered w d 1 (fun (e : Core) (m : List Host.Cell) => (tblStart n true e, m)) s)

/-- TBL_READBACK (R110). A readback of a table begins. -/
def TblReadback : Prop :=
  ∀ (s : State) (w : Writer) (n : Nat) (d : Desc),
    n < 8 →
    Row (K.chTblGo n) .wo d →
    Accepts s w d 2 →
    DoesMem (.tblReadback w n) s (answered w d 2 (fun (e : Core) (m : List Host.Cell) => (tblStart n false e, m)) s)

/-- SCAN_ENABLE (R182). The scan of the channel is enabled. -/
def ScanEnable : Prop :=
  ∀ (s : State) (w : Writer) (n : Nat) (d : Desc),
    n < 8 →
    Row (K.chScanEnable n) .rw d →
    Accepts s w d 1 →
    DoesMem (.scanEnable w n) s (answered w d 1 (fun (e : Core) (m : List Host.Cell) => (scanEnable n (e.set (K.chScanEnable n) 1), m)) s)

/-- SCAN_DISABLE (R182). The scan of the channel is disabled, when it was enabled. -/
def ScanDisable : Prop :=
  ∀ (s : State) (w : Writer) (n : Nat) (d : Desc),
    n < 8 →
    Row (K.chScanEnable n) .rw d →
    Accepts s w d 0 →
    DoesMem (.scanDisable w n) s (answered w d 0 (fun (e : Core) (m : List Host.Cell) => (if e.get (K.chScanEnable n) = 1 then scanDisable n (e.set (K.chScanEnable n) 0) else e.set (K.chScanEnable n) 0, m)) s)

/-- SLT_LOAD (R187). A load of the Scan Linearisation Table begins. -/
def SltLoad : Prop :=
  ∀ (s : State) (w : Writer) (n : Nat) (d : Desc),
    n < 8 →
    Row (K.chSltGo n) .wo d →
    Accepts s w d 1 →
    DoesMem (.sltLoad w n) s (answered w d 1 (fun (e : Core) (m : List Host.Cell) => (sltStart n 1 e, m)) s)

/-- SLT_READBACK (R187). A readback of the Scan Linearisation Table begins. -/
def SltReadback : Prop :=
  ∀ (s : State) (w : Writer) (n : Nat) (d : Desc),
    n < 8 →
    Row (K.chSltGo n) .wo d →
    Accepts s w d 2 →
    DoesMem (.sltReadback w n) s (answered w d 2 (fun (e : Core) (m : List Host.Cell) => (sltStart n 2 e, m)) s)

/-- SLT_GENERATE (R187). A generation of the Scan Linearisation Table begins. -/
def SltGenerate : Prop :=
  ∀ (s : State) (w : Writer) (n : Nat) (d : Desc),
    n < 8 →
    Row (K.chSltGo n) .wo d →
    Accepts s w d 3 →
    DoesMem (.sltGenerate w n) s (answered w d 3 (fun (e : Core) (m : List Host.Cell) => (sltStart n 3 e, m)) s)

/-- PAGE_ABORT (R199). The pages are aborted. -/
def PageAbort : Prop :=
  ∀ (s : State) (w : Writer) (d : Desc),
    Row K.beamPageAbort .wo d →
    Accepts s w d 1 →
    DoesMem (.pageAbort w) s (answered w d 1 (fun (e : Core) (m : List Host.Cell) => (pageAbort e, m)) s)

/-- LOAD (R205). The channel LOADs. -/
def Load : Prop :=
  ∀ (s : State) (w : Writer) (n : Nat) (d : Desc),
    n < 8 →
    Row (K.chCmd n) .wo d →
    Accepts s w d 1 →
    DoesMem (.load w n) s (answered w d 1 (fun (e : Core) (m : List Host.Cell) => (chLoad n e, m)) s)

/-- ARM (R206). The channel ARMs. -/
def Arm : Prop :=
  ∀ (s : State) (w : Writer) (n : Nat) (d : Desc),
    n < 8 →
    Row (K.chCmd n) .wo d →
    Accepts s w d 2 →
    DoesMem (.arm w n) s (answered w d 2 (fun (e : Core) (m : List Host.Cell) => (chArm n e, m)) s)

/-- ABORT (R207). The channel ABORTs. -/
def Abort : Prop :=
  ∀ (s : State) (w : Writer) (n : Nat) (d : Desc),
    n < 8 →
    Row (K.chCmd n) .wo d →
    Accepts s w d 4 →
    DoesMem (.abort w n) s (answered w d 4 (fun (e : Core) (m : List Host.Cell) => (chAbort n e, m)) s)

/-- UNLOAD (R207). The channel UNLOADs. -/
def Unload : Prop :=
  ∀ (s : State) (w : Writer) (n : Nat) (d : Desc),
    n < 8 →
    Row (K.chCmd n) .wo d →
    Accepts s w d 5 →
    DoesMem (.unload w n) s (answered w d 5 (fun (e : Core) (m : List Host.Cell) => (chUnload n e, m)) s)

/-- CTRL_READ (R156). A read of a board register is asked for over the lane. -/
def CtrlRead : Prop :=
  ∀ (s : State) (w : Writer) (m : Nat) (d : Desc),
    m < 32 →
    Row (K.klCtrlGo m) .wo d →
    Accepts s w d 1 →
    DoesMem (.ctrlRead w m) s (answered w d 1 (fun (e : Core) (mem : List Host.Cell) => (ctrlStart m false e, mem)) s)

/-- CTRL_WRITE (R156). A write of a board register is asked for over the lane. -/
def CtrlWrite : Prop :=
  ∀ (s : State) (w : Writer) (m : Nat) (d : Desc),
    m < 32 →
    Row (K.klCtrlGo m) .wo d →
    Accepts s w d 2 →
    DoesMem (.ctrlWrite w m) s (answered w d 2 (fun (e : Core) (mem : List Host.Cell) => (ctrlStart m true e, mem)) s)

/-- BULK_GO (R157). A bulk transfer over the lane begins. -/
def BulkGo : Prop :=
  ∀ (s : State) (w : Writer) (m : Nat) (d : Desc),
    m < 32 →
    Row (K.klBulkGo m) .wo d →
    Accepts s w d 1 →
    DoesMem (.bulkGo w m) s (answered w d 1 (fun (e : Core) (mem : List Host.Cell) => (bulkGo mem m e, mem)) s)

end Sys2Proof.Effect
end

