-- ==== Sys2Proof/Effects/Clock.lean ====
section
/-! DEFINITION. Sys2Proof/Effects/Clock.lean: what the commands of family Clock do:
for each, conditions on the machine and the operands under which it completes, and the machine it leaves. -/

namespace Sys2Proof.Effect
open Sys2Proof.Machine

/-- LC_TRACK_EXIT (R63). |v| below SLOW_RATE returns the synthesiser to edge mode with the velocity of edge mode. -/
def LcTrackExit : Prop :=
  ∀ (s : State) (c : Core) (n : Nat),
    c = s.core →
    n < 4 →
    Live s 4 →
    lcOn c n = true →
    lcTrack c n = true →
    (nth c.lcs n).v.natAbs * 200000000 < c.get (K.lcSlowRate n) * c.get (K.lcRatio n) * 2 ^ 32 →
    Does (.lcTrackExit n) s ((lcToEdge c n).satI (K.lcVelocity n) (lcEdgeVelocity ((lcToEdge c n).get (K.lcRatio n)) (nth (lcToEdge c n).lcs n).changes))

/-- LC_STILL (R63). No count change for STILL_TIME sets STILL, with VELOCITY 0. -/
def LcStill : Prop :=
  ∀ (s : State) (c : Core) (n : Nat),
    c = s.core →
    n < 4 →
    Live s 4 →
    lcOn c n = true →
    lcTrack c n = false →
    c.bitOf (K.lcStatus n) 4 = false →
    (nth c.lcs n).lastChange + c.get (K.lcStillTime n) * 200 ≤ c.sample →
    Does (.lcStill n) s ((c.setBitOf (K.lcStatus n) 4 true).set (K.lcVelocity n) 0)

/-- LC_UNLOCK (R64). |e| above UNLOCK_TOL in track mode clears LOCKED, counts and raises LC_UNLOCK. -/
def LcUnlock : Prop :=
  ∀ (s : State) (c : Core) (n : Nat),
    c = s.core →
    n < 4 →
    Live s 4 →
    lcOn c n = true →
    lcTrack c n = true →
    c.bitOf (K.lcStatus n) 1 = true →
    c.get (K.lcUnlockTol n) * 2 ^ 32 < (nth c.lcs n).e.natAbs →
    Does (.lcUnlock n) s (((c.setBitOf (K.lcStatus n) 1 false).bump (K.lcUnlocks n)).raiseHeld (0x0B50 + n) 1 (satS 32 (roundFree (nth c.lcs n).e (2 ^ 32))))

/-- LC_RELOCK (R64). |e| within LOCK_TOL for LOCK_TIME sets LOCKED again and ends LC_UNLOCK. -/
def LcRelock : Prop :=
  ∀ (s : State) (c : Core) (n : Nat),
    c = s.core →
    n < 4 →
    Live s 4 →
    lcSteady c n = true →
    c.bitOf (K.lcStatus n) 1 = false →
    Does (.lcRelock n) s ((c.setBitOf (K.lcStatus n) 1 true).endFault (0x0B50 + n) 1)

/-- LC_SETTLED (R64). |e| within LOCK_TOL for LOCK_TIME in track mode sets SETTLED. -/
def LcSettled : Prop :=
  ∀ (s : State) (c : Core) (n : Nat),
    c = s.core →
    n < 4 →
    Live s 4 →
    lcSteady c n = true →
    Does (.lcSettled n) s (c.setBitOf (K.lcStatus n) 2 true)

end Sys2Proof.Effect
end

