-- ==== Sys2Proof/Effects/Codec.lean ====
section
/-! DEFINITION. Sys2Proof/Effects/Codec.lean: what the commands of family Codec do:
for each, conditions on the machine and the operands under which it completes, and the machine it leaves. -/

namespace Sys2Proof.Effect
open Sys2Proof.Machine

/-- CODEC_JOB_START (R246). A free unit takes the next complete job of the rings in turn, shows its tag, and is busy. -/
def CodecJobStart : Prop :=
  ∀ (s : State) (c : Core) (u : Nat) (j : Nat) (job rest : List (List Byte)) (d : Core),
    c = s.core →
    u < 2 →
    Live s 5 →
    (nth c.codecs u).running = false →
    (((List.range 4).map (fun (x : Nat) => ((nth c.codecs u).last + 1 + x) % 4)).find? (fun (k : Nat) => (jobSplit (nth c.codecQueue k)).isSome && !c.codecs.any fun (x : CodecUnit) => x.running && x.ring = k) = some j) →
    jobSplit (nth c.codecQueue j) = some (job, rest) →
    (d = (({ c with codecQueue := upd c.codecQueue j fun (_ : List (List Byte)) => rest } : Core).updCodec u fun (x : CodecUnit) => { x with last := j }).set (if u = 0 then K.codecUnit0Tag else K.codecUnit1Tag) (jdTag (job.headD []))) →
    d.jobFormat job = false →
    Does (.codecJobStart u) s ((d.updCodec u fun (x : CodecUnit) => { x with running := true, ring := j, job := job }).setBitOf K.codecBusy u true)

/-- CODEC_JOB_DONE (R252). A job whose encoding ends well writes its output and, when asked, its log, counts its bytes and posts result 0. -/
def CodecJobDone : Prop :=
  ∀ (s : State) (c : Core) (u : Nat) (q k : Nat) (f : List Byte) (r : List (List Byte)) (t : EncSt) (d d1 d2 : Core) (m1 m2 : List Host.Cell) (b1 b2 : Option Nat),
    c = s.core →
    u < 2 →
    Live s 5 →
    c.hubWaits = false →
    nth c.codecs u = { running := true, ring := q, job := f :: r, last := k } →
    (encJob s.dram u { input := jobInput (f :: r), outSize := jdOutSize f, logSize := if jdLog f then some (jdLogSize f) else none, width := jdWidth f, block := jdBlock f } (f :: r) {} c = (t, d)) →
    t.status = 0 →
    (codecFree u d).hubWrite s.dram (0x30 + u) (jdOut f) t.out = (b1, d1, m1) →
    ((b2, d2, m2) = if jdLog f then d1.hubWrite m1 (0x30 + u) (jdLogAddr f) (t.log.flatMap fun (p : Nat × Nat) => bytesLE 8 (2 ^ 32 * p.1 + p.2)) else (none, d1, m1)) →
    DoesMem (.codecJobDone u) s ((codecResult q u 0 (jdTag f) t.outLen ((d2.addTo K.codecBytesIn (jobInput (f :: r))).addTo K.codecBytesOut t.outLen), m2))

end Sys2Proof.Effect
end

