-- ==== Sys2Proof/Effects/Cues.lean ====
section
/-! DEFINITION. Sys2Proof/Effects/Cues.lean: what the commands of family Cues do:
for each, conditions on the machine and the operands under which it completes, and the machine it leaves. -/

namespace Sys2Proof.Effect
open Sys2Proof.Machine

/-- NOP (R73). An entry of a list that follows no channel, reached and under the cursor, executes. NOP executes without effect. -/
def Nop : Prop :=
  ∀ (s : State) (c : Core) (k : Nat) (j e : Nat),
    c = s.core →
    k < 16 →
    Live s 4 →
    cueOnChannel c k = false →
    cueOnCapture (cueWalk k c) k = false →
    cuesFrozen c = false →
    cueReachedAt (cueWalk k c) k (cueClock (cueWalk k c) k).1 = some (j, e) →
    cueAction e = 0 →
    Does (.nop k) s (cueWalk k (cueExecute k j e none (cueWalk k c))) ∧
    ∀ d : Core, cueAct k j e 0 none d = d

/-- TONE_SWAP (R95). An entry of a list that follows no channel, reached and under the cursor, executes. TONE_SWAP goes to the channels of its mask. -/
def ToneSwap : Prop :=
  ∀ (s : State) (c : Core) (k : Nat) (j e : Nat),
    c = s.core →
    k < 16 →
    Live s 4 →
    cueOnChannel c k = false →
    cueOnCapture (cueWalk k c) k = false →
    cuesFrozen c = false →
    cueReachedAt (cueWalk k c) k (cueClock (cueWalk k c) k).1 = some (j, e) →
    cueAction e = 1 →
    Does (.toneSwap k) s (cueWalk k (cueExecute k j e none (cueWalk k c))) ∧
    ∀ d : Core, cueAct k j e 0 none d = cueChannels k j e none d

/-- COMMIT (R80). An entry of a list that follows no channel, reached and under the cursor, executes. COMMIT goes to the channels of its mask. -/
def Commit : Prop :=
  ∀ (s : State) (c : Core) (k : Nat) (j e : Nat),
    c = s.core →
    k < 16 →
    Live s 4 →
    cueOnChannel c k = false →
    cueOnCapture (cueWalk k c) k = false →
    cuesFrozen c = false →
    cueReachedAt (cueWalk k c) k (cueClock (cueWalk k c) k).1 = some (j, e) →
    cueAction e = 2 →
    Does (.commit k) s (cueWalk k (cueExecute k j e none (cueWalk k c))) ∧
    ∀ d : Core, cueAct k j e 0 none d = cueChannels k j e none d

/-- DEV_COMMIT (R318). An entry of a list that follows no channel, reached and under the cursor, executes. DEV_COMMIT commits the device scope. -/
def DevCommit : Prop :=
  ∀ (s : State) (c : Core) (k : Nat) (j e : Nat),
    c = s.core →
    k < 16 →
    Live s 4 →
    cueOnChannel c k = false →
    cueOnCapture (cueWalk k c) k = false →
    cuesFrozen c = false →
    cueReachedAt (cueWalk k c) k (cueClock (cueWalk k c) k).1 = some (j, e) →
    cueAction e = 3 →
    Does (.devCommit k) s (cueWalk k (cueExecute k j e none (cueWalk k c))) ∧
    ∀ d : Core, cueAct k j e 0 none d = commitScope 0 2 [] 0 d

/-- LOOP_SAMPLE (R352). An entry of a list that follows no channel, reached and under the cursor, executes. LOOP_SAMPLE triggers the slot that ARG names. -/
def LoopSample : Prop :=
  ∀ (s : State) (c : Core) (k : Nat) (j e : Nat),
    c = s.core →
    k < 16 →
    Live s 4 →
    cueOnChannel c k = false →
    cueOnCapture (cueWalk k c) k = false →
    cuesFrozen c = false →
    cueReachedAt (cueWalk k c) k (cueClock (cueWalk k c) k).1 = some (j, e) →
    cueAction e = 4 →
    Does (.loopSample k) s (cueWalk k (cueExecute k j e none (cueWalk k c))) ∧
    ∀ d : Core, cueAct k j e 0 none d = loopCue (cueArg e) d

/-- LOOP_BANK (R356). An entry of a list that follows no channel, reached and under the cursor, executes. LOOP_BANK swaps the bank of the slot that ARG names. -/
def LoopBank : Prop :=
  ∀ (s : State) (c : Core) (k : Nat) (j e : Nat),
    c = s.core →
    k < 16 →
    Live s 4 →
    cueOnChannel c k = false →
    cueOnCapture (cueWalk k c) k = false →
    cuesFrozen c = false →
    cueReachedAt (cueWalk k c) k (cueClock (cueWalk k c) k).1 = some (j, e) →
    cueAction e = 5 →
    Does (.loopBank k) s (cueWalk k (cueExecute k j e none (cueWalk k c))) ∧
    ∀ d : Core, cueAct k j e 0 none d = bankSwap (cueArg e) d

/-- ADC_TRIGGER (R364). An entry of a list that follows no channel, reached and under the cursor, executes. ADC_TRIGGER starts the sequence that ARG names. -/
def AdcTrigger : Prop :=
  ∀ (s : State) (c : Core) (k : Nat) (j e : Nat),
    c = s.core →
    k < 16 →
    Live s 4 →
    cueOnChannel c k = false →
    cueOnCapture (cueWalk k c) k = false →
    cuesFrozen c = false →
    cueReachedAt (cueWalk k c) k (cueClock (cueWalk k c) k).1 = some (j, e) →
    cueAction e = 6 →
    Does (.adcTrigger k) s (cueWalk k (cueExecute k j e none (cueWalk k c))) ∧
    ∀ d : Core, cueAct k j e 0 none d = adcCue (cueArg e) d

/-- GPIO (R73). An entry of a list that follows no channel, reached and under the cursor, executes. GPIO clears, sets or toggles the pins of ARG. -/
def Gpio : Prop :=
  ∀ (s : State) (c : Core) (k : Nat) (j e : Nat),
    c = s.core →
    k < 16 →
    Live s 4 →
    cueOnChannel c k = false →
    cueOnCapture (cueWalk k c) k = false →
    cuesFrozen c = false →
    cueReachedAt (cueWalk k c) k (cueClock (cueWalk k c) k).1 = some (j, e) →
    cueAction e = 7 →
    Does (.gpio k) s (cueWalk k (cueExecute k j e none (cueWalk k c))) ∧
    ∀ d : Core, cueAct k j e 0 none d = cueGpio (cueTarget e) (cueArg e) d

/-- EVENT (R82). An entry of a list that follows no channel, reached and under the cursor, executes. EVENT writes a record to the cue-feedback ring of the channel it names. -/
def Event : Prop :=
  ∀ (s : State) (c : Core) (k : Nat) (j e : Nat),
    c = s.core →
    k < 16 →
    Live s 4 →
    cueOnChannel c k = false →
    cueOnCapture (cueWalk k c) k = false →
    cuesFrozen c = false →
    cueReachedAt (cueWalk k c) k (cueClock (cueWalk k c) k).1 = some (j, e) →
    cueAction e = 8 →
    Does (.event k) s (cueWalk k (cueExecute k j e none (cueWalk k c))) ∧
    ∀ d : Core, cueAct k j e 0 none d = cueRecord k (cueTarget e) 2 j e d

/-- LIST_ARM (R75). An entry of a list that follows no channel, reached and under the cursor, executes. LIST_ARM arms or disarms the list it names. -/
def ListArm : Prop :=
  ∀ (s : State) (c : Core) (k : Nat) (j e : Nat),
    c = s.core →
    k < 16 →
    Live s 4 →
    cueOnChannel c k = false →
    cueOnCapture (cueWalk k c) k = false →
    cuesFrozen c = false →
    cueReachedAt (cueWalk k c) k (cueClock (cueWalk k c) k).1 = some (j, e) →
    cueAction e = 9 →
    Does (.listArm k) s (cueWalk k (cueExecute k j e none (cueWalk k c))) ∧
    ∀ d : Core, cueAct k j e 0 none d = cueListAct k j (cueTarget e) (cueArg e) d

/-- RECAST_REQ (R222). An entry of a list that follows no channel, reached and under the cursor, executes. RECAST_REQ requests Recast. -/
def RecastReq : Prop :=
  ∀ (s : State) (c : Core) (k : Nat) (j e : Nat),
    c = s.core →
    k < 16 →
    Live s 4 →
    cueOnChannel c k = false →
    cueOnCapture (cueWalk k c) k = false →
    cuesFrozen c = false →
    cueReachedAt (cueWalk k c) k (cueClock (cueWalk k c) k).1 = some (j, e) →
    cueAction e = 10 →
    Does (.recastReq k) s (cueWalk k (cueExecute k j e none (cueWalk k c))) ∧
    ∀ d : Core, cueAct k j e 0 none d = cueRecast (cueArg e) d

/-- PAGE_START (R196). An entry of a list that follows no channel, reached and under the cursor, executes. PAGE_START starts a page on the channels of its mask. -/
def PageStart : Prop :=
  ∀ (s : State) (c : Core) (k : Nat) (j e : Nat),
    c = s.core →
    k < 16 →
    Live s 4 →
    cueOnChannel c k = false →
    cueOnCapture (cueWalk k c) k = false →
    cuesFrozen c = false →
    cueReachedAt (cueWalk k c) k (cueClock (cueWalk k c) k).1 = some (j, e) →
    cueAction e = 11 →
    Does (.pageStart k) s (cueWalk k (cueExecute k j e none (cueWalk k c))) ∧
    ∀ d : Core, cueAct k j e 0 none d = pageStart (cueTarget e) j k (if cueOnCapture d k then some (d.get (K.cueListClock k) - 0x20, 0) else none) d

end Sys2Proof.Effect
end

