-- ==== Sys2Proof/Effects/DeviceWrites.lean ====
section
/-! DEFINITION. Sys2Proof/Effects/DeviceWrites.lean: what the commands of family DeviceWrites do:
for each, conditions on the machine and the operands under which it completes, and the machine it leaves. -/

namespace Sys2Proof.Effect
open Sys2Proof.Machine

/-- DEV_MARK_MODE_WRITE (R1). DEV.MARK_MODE takes the value. -/
def DevMarkModeWrite : Prop :=
  ∀ (s : State) (w : Writer) (v : Nat) (d : Desc),
    Row K.devMarkMode .rw d →
    v < 256 ^ K.devMarkMode.bytes →
    Accepts s w d v →
    DoesMem (.devMarkModeWrite w v) s (answered w d v (fun (e : Core) (m : List Host.Cell) => (e.set K.devMarkMode v, m)) s)

/-- PD_ENABLE_WRITE (R28). DEV.PD.ENABLE takes the value, and the domains that differ from it switch. -/
def PdEnableWrite : Prop :=
  ∀ (s : State) (w : Writer) (v : Nat) (d : Desc),
    Row K.devPdEnable .rw d →
    v < 256 ^ K.devPdEnable.bytes →
    Accepts s w d v →
    DoesMem (.pdEnableWrite w v) s (answered w d v (fun (e : Core) (m : List Host.Cell) => (pdSwitch (e.set K.devPdEnable v), m)) s)

/-- CH_COMMIT (R318). The staged values of the channel, with those of the writer, are asked to commit (now when the channel is idle, else at its boundary). -/
def ChCommit : Prop :=
  ∀ (s : State) (w : Writer) (n : Nat) (d : Desc),
    n < 8 →
    Row (K.chCommit n) .wo d →
    Accepts s w d 1 →
    DoesMem (.chCommit w n) s (answered w d 1 (fun (e : Core) (m : List Host.Cell) => (commitAsk n 1 [w] e, m)) s)

/-- DEV_COMMIT_NOW (R318). DEV.COMMIT 1 commits the device scope now and asks every channel to commit. -/
def DevCommitNow : Prop :=
  ∀ (s : State) (w : Writer) (d : Desc),
    Row K.devCommit .wo d →
    Accepts s w d 1 →
    DoesMem (.devCommitNow w) s (answered w d 1 (fun (e : Core) (m : List Host.Cell) => (devCommitNow w e, m)) s)

/-- DEV_COMMIT_STEP (R318). DEV.COMMIT 2 marks every scope for a COMMIT step of Quadrille. -/
def DevCommitStep : Prop :=
  ∀ (s : State) (w : Writer) (d : Desc),
    Row K.devCommit .wo d →
    Accepts s w d 2 →
    DoesMem (.devCommitStep w) s (answered w d 2 (fun (e : Core) (m : List Host.Cell) => (commitMark w e, m)) s)

/-- LOCK_ACQUIRE (R322). The writer owns the lock, with a fresh lease. -/
def LockAcquire : Prop :=
  ∀ (s : State) (w : Writer) (k : Nat) (d : Desc),
    k < 10 →
    Row (K.devLockAcquire k) .wo d →
    Accepts s w d 1 →
    DoesMem (.lockAcquire w k) s (answered w d 1 (fun (e : Core) (m : List Host.Cell) => (lockAcquire k w e, m)) s)

/-- LOCK_RELEASE (R322). The lock is free, and the values staged under it are withheld no longer. -/
def LockRelease : Prop :=
  ∀ (s : State) (w : Writer) (k : Nat) (d : Desc),
    k < 10 →
    Row (K.devLockRelease k) .wo d →
    Accepts s w d 1 →
    DoesMem (.lockRelease w k) s (answered w d 1 (fun (e : Core) (m : List Host.Cell) => (lockRelease k e, m)) s)

/-- STORE (R325). STORE begins. -/
def Store : Prop :=
  ∀ (s : State) (w : Writer) (d : Desc),
    Row K.devOpStart .wo d →
    Accepts s w d 1 →
    DoesMem (.store w) s (answered w d 1 (fun (e : Core) (m : List Host.Cell) => (opStart 1 e, m)) s)

/-- RESTORE_DEFAULTS (R325). RESTORE_DEFAULTS begins. -/
def RestoreDefaults : Prop :=
  ∀ (s : State) (w : Writer) (d : Desc),
    Row K.devOpStart .wo d →
    Accepts s w d 2 →
    DoesMem (.restoreDefaults w) s (answered w d 2 (fun (e : Core) (m : List Host.Cell) => (opStart 2 e, m)) s)

/-- IMAGE_VERIFY (R469). IMAGE_VERIFY begins. -/
def ImageVerify : Prop :=
  ∀ (s : State) (w : Writer) (d : Desc),
    Row K.devOpStart .wo d →
    Accepts s w d 3 →
    DoesMem (.imageVerify w) s (answered w d 3 (fun (e : Core) (m : List Host.Cell) => (opStart 3 e, m)) s)

/-- IMAGE_COMMIT (R470). IMAGE_COMMIT begins. -/
def ImageCommit : Prop :=
  ∀ (s : State) (w : Writer) (d : Desc),
    Row K.devOpStart .wo d →
    Accepts s w d 4 →
    DoesMem (.imageCommit w) s (answered w d 4 (fun (e : Core) (m : List Host.Cell) => (opStart 4 e, m)) s)

/-- DRAM_RETRAIN (R261). DRAM_RETRAIN begins. -/
def DramRetrain : Prop :=
  ∀ (s : State) (w : Writer) (d : Desc),
    Row K.devOpStart .wo d →
    Accepts s w d 5 →
    DoesMem (.dramRetrain w) s (answered w d 5 (fun (e : Core) (m : List Host.Cell) => (opStart 5 e, m)) s)

/-- PROF_TARGET_WRITE (R342). The alias entry names another object. -/
def ProfTargetWrite : Prop :=
  ∀ (s : State) (w : Writer) (a v : Nat) (d : Desc),
    a < 1024 →
    Row (K.profTarget a) .rwi d →
    v < 256 ^ (K.profTarget a).bytes →
    Accepts s w d v →
    DoesMem (.profTargetWrite w a v) s (answered w d v (fun (e : Core) (m : List Host.Cell) => (e.set (K.profTarget a) v, m)) s)

/-- DEV_RESET_WRITE (R430). A reset is asked for, and happens once the command is over. -/
def DevResetWrite : Prop :=
  ∀ (s : State) (w : Writer) (v : Nat) (d : Desc),
    Row K.devReset .wo d →
    v < 256 ^ K.devReset.bytes →
    Accepts s w d v →
    DoesMem (.devResetWrite w v) s (answered w d v (fun (e : Core) (m : List Host.Cell) => (resetAsk e, m)) s)

/-- STATE_REQ_STANDBY (R437). DEV.STATE becomes STANDBY. -/
def StateReqStandby : Prop :=
  ∀ (s : State) (w : Writer) (d : Desc),
    Row K.devStateReq .wo d →
    Accepts s w d 2 →
    DoesMem (.stateReqStandby w) s (answered w d 2 (fun (e : Core) (m : List Host.Cell) => (setDevState 2 e, m)) s)

/-- STATE_REQ_READY (R437). The device goes to READY. -/
def StateReqReady : Prop :=
  ∀ (s : State) (w : Writer) (d : Desc),
    Row K.devStateReq .wo d →
    Accepts s w d 3 →
    DoesMem (.stateReqReady w) s (answered w d 3 (fun (e : Core) (m : List Host.Cell) => (toReady e, m)) s)

/-- STATE_REQ_PRINTING (R437). DEV.STATE becomes PRINTING. -/
def StateReqPrinting : Prop :=
  ∀ (s : State) (w : Writer) (d : Desc),
    Row K.devStateReq .wo d →
    Accepts s w d 5 →
    DoesMem (.stateReqPrinting w) s (answered w d 5 (fun (e : Core) (m : List Host.Cell) => (setDevState 5 e, m)) s)

/-- FW_CONFIRM (R472). The slot in use is CONFIRMED. -/
def FwConfirm : Prop :=
  ∀ (s : State) (w : Writer) (d : Desc),
    Row K.fwConfirm .wo d →
    Accepts s w d 1 →
    DoesMem (.fwConfirm w) s (answered w d 1 (fun (e : Core) (m : List Host.Cell) => (fwConfirm e, m)) s)

end Sys2Proof.Effect
end

