-- ==== Sys2Proof/Effects/Dma.lean ====
section
/-! DEFINITION. Sys2Proof/Effects/Dma.lean: what the commands of family Dma do:
for each, conditions on the machine and the operands under which it completes, and the machine it leaves. -/

namespace Sys2Proof.Effect
open Sys2Proof.Machine

/-- DMA_START (R298). DMA_CTRL.START in IDLE or AT_END begins the chain. -/
def DmaStart : Prop :=
  ∀ (s : State) (c : Core) (ch : Nat),
    c = s.core →
    ch < 16 →
    Live s 3 →
    c.dmaOwned ch = false →
    (nth c.dmas ch).state = 0 ∨ (nth c.dmas ch).state = 2 →
    Does (.dmaStart ch) s (dmaBegin ch c)

/-- DMA_STOP (R298). DMA_CTRL.STOP in RUN or AT_END makes the channel stop. -/
def DmaStop : Prop :=
  ∀ (s : State) (c : Core) (ch : Nat),
    c = s.core →
    ch < 16 →
    Live s 3 →
    c.dmaOwned ch = false →
    (nth c.dmas ch).state = 1 ∨ (nth c.dmas ch).state = 2 →
    Does (.dmaStop ch) s (c.updDma ch fun (x : Dma) => { x with state := 3, next := none, reread := none })

/-- DMA_RESET (R298). DMA_CTRL.RESET in IDLE or ERROR makes the channel idle. -/
def DmaReset : Prop :=
  ∀ (s : State) (c : Core) (ch : Nat),
    c = s.core →
    ch < 16 →
    Live s 3 →
    c.dmaOwned ch = false →
    (nth c.dmas ch).state = 0 ∨ (nth c.dmas ch).state = 4 →
    Does (.dmaReset ch) s (c.updDma ch fun (x : Dma) => { x with state := 0, kick := false, captured := false })

/-- DMA_HEAD_WRITE (R298). DMA_HEAD is writable in IDLE, AT_END and ERROR. -/
def DmaHeadWrite : Prop :=
  ∀ (s : State) (c : Core) (ch v : Nat),
    c = s.core →
    ch < 16 →
    Live s 3 →
    c.dmaOwned ch = false →
    (nth c.dmas ch).state = 0 ∨ (nth c.dmas ch).state = 2 ∨ (nth c.dmas ch).state = 4 →
    Does (.dmaHeadWrite ch v) s (c.updDma ch fun (x : Dma) => { x with head := v % 2 ^ 64 })

/-- DMA_KICK (R304). A kick in AT_END reads the last LINK again; one in RUN or STOPPING is kept. -/
def DmaKick : Prop :=
  ∀ (s : State) (c : Core) (ch : Nat),
    c = s.core →
    ch < 16 →
    Live s 3 →
    c.dmaOwned ch = false →
    (nth c.dmas ch).state ≠ 0 →
    (nth c.dmas ch).state ≠ 4 →
    Does (.dmaKick ch) s ((if (nth c.dmas ch).state = 2 then dmaReread ch true c else c.updDma ch fun (x : Dma) => { x with kick := true }))

/-- DMA_DESC_FETCHED (R304). A good descriptor that is read joins the chain, and the one it links to is read next. -/
def DmaDescFetched : Prop :=
  ∀ (s : State) (c : Core) (ch : Nat) (desc : List Byte) (err : Nat) (a : Nat),
    c = s.core →
    ch < 16 →
    Live s 3 →
    (nth c.dmas ch).next = some a →
    (nth c.dmas ch).state = 1 →
    (nth c.dmas ch).chain.length < 4 →
    (nth c.dmas ch).chain ≠ [] →
    dmaSpace a = false →
    err = 0 →
    dBad (padTo 64 desc) = false →
    dEnd (padTo 64 desc) = false →
    Does (.dmaDescFetched ch desc err) s (dmaFetchNext ch (dLink (padTo 64 desc)) (c.updDma ch fun (x : Dma) => { x with hops := x.hops + 1, chain := x.chain ++ [{ addr := a, bytes := padTo 64 desc, err := 0, errType := 0, errAddr := dmaAddr a, errTime := c.now }], next := none }))

/-- DMA_LINK_REREAD (R304). A LINK that is read again and is not an end goes on to the descriptor it names. -/
def DmaLinkReread : Prop :=
  ∀ (s : State) (c : Core) (ch link err : Nat) (a : Nat) (kick : Bool),
    c = s.core →
    ch < 16 →
    Live s 3 →
    (nth c.dmas ch).reread = some (a, kick) →
    (nth c.dmas ch).state = 1 →
    dmaSpace a = false →
    err = 0 →
    (natLE (bytesLE 8 link)).testBit 0 = false →
    Does (.dmaLinkReread ch link err) s (dmaFetchNext ch (natLE (bytesLE 8 link)) (c.updDma ch fun (x : Dma) => { x with reread := none }))

/-- DMA_HALF_POINT (R302). A descriptor with HALF writes its half record once the half is written. -/
def DmaHalfPoint : Prop :=
  ∀ (s : State) (c : Core) (ch : Nat) (data : List Byte) (x : DmaDesc) (rest : List DmaDesc),
    c = s.core →
    ch < 16 →
    Live s 3 →
    c.hubWaits = false →
    (nth c.dmas ch).chain = x :: rest →
    (nth c.dmas ch).state = 1 →
    x.err = 0 →
    dHalf x.bytes = true →
    (nth c.dmas ch).halfDone = false →
    DoesMem (.dmaHalfPoint ch data) s (dmaUpTo ch (dHalfBytes x.bytes) data (dmaHalfRec ch) c s.dram)

/-- DMA_DESC_DONE (R302). A descriptor without HALF moves to its end and completes. -/
def DmaDescDone : Prop :=
  ∀ (s : State) (c : Core) (ch : Nat) (data : List Byte) (x : DmaDesc) (rest : List DmaDesc),
    c = s.core →
    ch < 16 →
    Live s 3 →
    c.hubWaits = false →
    (nth c.dmas ch).chain = x :: rest →
    (nth c.dmas ch).state = 1 →
    (nth c.dmas ch).intake = none →
    x.err = 0 →
    dHalf x.bytes = false →
    DoesMem (.dmaDescDone ch data) s (dmaUpTo ch (dTotal x.bytes) data (dmaFullRec ch) c s.dram)

/-- DMA_STOPPED (R298). A stopping channel ends at a whole line or element, with its record, and is idle. -/
def DmaStopped : Prop :=
  ∀ (s : State) (c : Core) (ch upTo : Nat) (data : List Byte) (x : DmaDesc) (rest : List DmaDesc),
    c = s.core →
    ch < 16 →
    Live s 3 →
    c.hubWaits = false →
    (nth c.dmas ch).chain = x :: rest →
    (nth c.dmas ch).state = 3 →
    x.err = 0 →
    (nth c.dmas ch).moved ≤ upTo →
    upTo ≤ dTotal x.bytes →
    (dType x.bytes = 4 ∨ dAligned x.bytes upTo = true) →
    DoesMem (.dmaStopped ch upTo data) s (dmaUpTo ch upTo data (dmaStopEnd ch upTo) c s.dram)

/-- DMA_ERROR (R306). An error of the host's memory on reading the source ends the descriptor. -/
def DmaError : Prop :=
  ∀ (s : State) (c : Core) (ch kind typ addr : Nat) (x : DmaDesc) (rest : List DmaDesc),
    c = s.core →
    ch < 16 →
    Live s 3 →
    (nth c.dmas ch).chain = x :: rest →
    (nth c.dmas ch).state = 1 →
    x.err = 0 →
    (nth c.dmas ch).intake = none →
    typ = 3 →
    dSrcDram x.bytes = false →
    1 ≤ kind →
    kind ≤ 4 →
    DoesMem (.dmaError ch kind typ addr) s (dmaFailed ch x (kind, typ, addr) c s.dram)

end Sys2Proof.Effect
end

