-- ==== Sys2Proof/Effects/Domains.lean ====
section
/-! DEFINITION. Sys2Proof/Effects/Domains.lean: for every command, the power domain of its block (R26) and whether it may
write DRAM. -/

namespace Sys2Proof

/-- The power domain that an event's block lies in, or that of the object server for a write; none for the commands of the
reset and the supplies, which act in reset too. -/
def Instr.domain (i : Instr) : Option Nat :=
  match i with
  | .devMarkModeWrite _ _ => some 1
  | .objectWrite _ _ _ _ _ _ => some 1
  | .stagedWrite _ _ _ _ _ _ => some 1
  | .pdEnableWrite _ _ => some 1
  | .pdSwitchDone _ => some 0
  | .lineBoundary n => some (7 + n)
  | .encEdge _ _ _ => some 4
  | .encUnreliable _ => some 4
  | .encIndex _ _ => some 4
  | .encPreset _ _ _ => some 1
  | .rehome _ _ _ => some 1
  | .sposRequest _ _ => some 4
  | .sposWord _ _ _ _ => some 4
  | .sposWordTimeout _ => some 4
  | .sposLost _ => some 4
  | .passOverrun _ => some 4
  | .compareTarget _ => some 4
  | .cmpPulse _ => some 4
  | .cmpPulseEnd _ => some 4
  | .cmpArm _ _ => some 1
  | .cmpDisarm _ _ => some 1
  | .cmpCapture _ _ => some 4
  | .lcTrackExit _ => some 4
  | .lcStill _ => some 4
  | .lcUnlock _ => some 4
  | .lcRelock _ => some 4
  | .lcSettled _ => some 4
  | .nop _ => some 4
  | .toneSwap _ => some 4
  | .commit _ => some 4
  | .devCommit _ => some 4
  | .loopSample _ => some 4
  | .loopBank _ => some 4
  | .adcTrigger _ => some 4
  | .gpio _ => some 4
  | .event _ => some 4
  | .listArm _ => some 4
  | .recastReq _ => some 4
  | .pageStart _ => some 4
  | .cueListArm _ _ => some 1
  | .cueListDisarm _ _ => some 1
  | .cueEntryWrite _ _ _ _ _ => some 1
  | .fireIssue n => some (7 + n)
  | .flaskReadDone n _ _ _ => some (7 + n)
  | .chToneSwap _ _ _ => some 1
  | .toneDrainEnd n => some (7 + n)
  | .toneCopy _ _ => some 1
  | .toneCopyDone n => some (7 + n)
  | .nozPatch _ _ _ => some 1
  | .nozResyncDone n => some (7 + n)
  | .tblLoad _ _ => some 1
  | .tblReadback _ _ => some 1
  | .tblLoadDone n => some (7 + n)
  | .sramScrubRead n table _ _ => some (if table = 6 then 4 else 7 + n)
  | .headTempStale n _ => some (7 + n)
  | .temp m _ _ _ => some (15 + m / 16)
  | .nozzle m _ _ _ => some (15 + m / 16)
  | .fault m _ _ _ => some (15 + m / 16)
  | .status m _ _ _ _ _ _ => some (15 + m / 16)
  | .lineNak m _ _ => some (15 + m / 16)
  | .ctrlAck m _ _ _ => some (15 + m / 16)
  | .echoRsp m _ _ _ => some (15 + m / 16)
  | .train m _ _ => some (15 + m / 16)
  | .klInvalidBlock m _ => some (15 + m / 16)
  | .klLockLoss m => some (15 + m / 16)
  | .klSilence m => some (15 + m / 16)
  | .klBlockLock m _ => some (15 + m / 16)
  | .klStageTimer m => some (15 + m / 16)
  | .laneTrainStart m => some (15 + m / 16)
  | .klTrainTimeout m => some (15 + m / 16)
  | .klRetryTimer m => some (15 + m / 16)
  | .klSyncDue => some 1
  | .keepaliveDue m => some (15 + m / 16)
  | .lineFrameOpen m => some (15 + m / 16)
  | .ctrlRead _ _ => some 1
  | .ctrlWrite _ _ => some 1
  | .klCtrlTimeout m => some (15 + m / 16)
  | .bulkGo _ _ => some 1
  | .scanPulse n _ _ _ => some (7 + n)
  | .scanMiss n => some (7 + n)
  | .scanLost n => some (7 + n)
  | .scanEnable _ _ => some 1
  | .scanDisable _ _ => some 1
  | .scanSpinupDone n => some (7 + n)
  | .scanAcquired n => some (7 + n)
  | .scanAcqTimeout n => some (7 + n)
  | .scanLostRetry n => some (7 + n)
  | .sweepCommit n => some (7 + n)
  | .scanPagePhase2 n => some (7 + n)
  | .scanSplit n => some (7 + n)
  | .sltLoad _ _ => some 1
  | .sltReadback _ _ => some 1
  | .sltGenerate _ _ => some 1
  | .sltDone n => some (7 + n)
  | .apcSample n _ => some (7 + n)
  | .stationFinished n => some (7 + n)
  | .pageSpoiledReport n => some (7 + n)
  | .pageAbort _ => some 1
  | .load _ _ => some 1
  | .arm _ _ => some 1
  | .abort _ _ => some 1
  | .unload _ _ => some 1
  | .jobDescriptor n => some (7 + n)
  | .bandDescriptor n => some (7 + n)
  | .stopDescriptor n => some (7 + n)
  | .bandFetchStart n => some (7 + n)
  | .bandFetched n _ _ => some (7 + n)
  | .sprueBandStart n => some (7 + n)
  | .sprueLine n => some (7 + n)
  | .rcstRequest _ _ => some 1
  | .heldStop n => some (7 + n)
  | .recastBackup => some 1
  | .recastWait => some 1
  | .recastApproach => some 1
  | .recastDecide => some 1
  | .channelResume n => some (7 + n)
  | .recastOverrun => some 1
  | .recastHoldTimeout => some 1
  | .recastPassLimit => some 1
  | .codecJobStart _ => some 5
  | .codecJobDone _ => some 5
  | .codecAbort _ _ => some 1
  | .dramTraining => some 2
  | .dramTrainDone _ _ => some 2
  | .dramFillDone => some 2
  | .dramReadReturn _ _ _ _ => some 0
  | .partialWriteMerge _ _ _ _ => some 0
  | .scrubRead _ => some 2
  | .refreshDue _ _ _ => some 2
  | .dramTempPoll _ _ _ => some 2
  | .zqCal _ => some 2
  | .dqsOscRead _ _ _ => some 2
  | .srEntry _ _ => some 2
  | .srExit _ _ => some 2
  | .hubBiasWrite _ _ _ => some 1
  | .hubFecRearm _ => some 1
  | .hubInject _ _ => some 1
  | .perstNAssert => some 3
  | .functionLevelReset => some 3
  | .pcieLinkDown => some 3
  | .pcieAer _ => some 3
  | .bar0Write _ _ _ _ => some 3
  | .glbTimeRead => some 3
  | .bar2Read _ _ => some 3
  | .bar2Write _ _ _ => some 3
  | .mbxSubmit _ => some 3
  | .mbxRspAck => some 3
  | .ringEnable _ _ => some 3
  | .ringDisable _ => some 3
  | .ringDb _ _ => some 3
  | .ringEntryRead _ _ _ => some 3
  | .ringInterruptDue _ => some 3
  | .msixUnmask _ => some 3
  | .dmaStart _ => some 3
  | .dmaStop _ => some 3
  | .dmaReset _ => some 3
  | .dmaHeadWrite _ _ => some 3
  | .dmaKick _ => some 3
  | .dmaDescFetched _ _ _ => some 3
  | .dmaLinkReread _ _ _ => some 3
  | .dmaHalfPoint _ _ => some 3
  | .dmaDescDone _ _ => some 3
  | .dmaStopped _ _ _ => some 3
  | .dmaError _ _ _ _ => some 3
  | .wopRequest _ _ _ => some 1
  | .udpDatagram _ _ _ _ _ _ => some 4
  | .reassemblyTimeout => some 4
  | .arpRequest _ _ => some 4
  | .icmpEcho _ _ _ => some 4
  | .canFrame _ _ _ _ => some 4
  | .segTimeout _ => some 4
  | .canBusOff _ => some 4
  | .chCommit _ _ => some 1
  | .devCommitNow _ => some 1
  | .devCommitStep _ => some 1
  | .lockAcquire _ _ => some 1
  | .lockRelease _ _ => some 1
  | .lockLeaseExpiry _ => some 1
  | .store _ => some 1
  | .restoreDefaults _ => some 1
  | .imageVerify _ => some 1
  | .imageCommit _ => some 1
  | .dramRetrain _ => some 1
  | .opEnd _ _ => some 1
  | .opTimeout => some 1
  | .profTargetWrite _ _ _ => some 1
  | .slotEnable _ _ => some 1
  | .slotDisable _ _ => some 1
  | .loopPeriodTrigger _ => some 6
  | .loopSampleRun => some 6
  | .loopDeadlineMiss _ => some 6
  | .loopToneWrite _ => some 6
  | .loopToneWriteDone _ => some 6
  | .loopPendingWrite _ => some 6
  | .bankSwap _ _ => some 1
  | .preset _ _ _ => some 1
  | .publish _ _ => some 1
  | .ainSeqPeriod _ => some 6
  | .ainSeqDone _ _ => some 6
  | .gpioOutWrite _ _ => some 1
  | .timeSet _ _ => some 1
  | .ptpSyncRx _ _ => some 4
  | .ptpFollowUpRx _ _ => some 4
  | .ptpDelayRespRx _ _ => some 4
  | .ptpDelayReqRx _ _ => some 4
  | .ptpAnnounceRx _ _ => some 4
  | .ptpSyncTx _ => some 4
  | .ptpDelayReqTx _ => some 4
  | .ptpAnnounceTx _ => some 4
  | .ptpAnnounceTimeout _ => some 4
  | .timeValidHold => some 4
  | .timeSnap => some 4
  | .timeSnapLost => some 4
  | .alignAcquire _ => some 4
  | .alignLocked => some 4
  | .alignCorrection _ => some 4
  | .alignRefLost _ => some 4
  | .alignCoastLimit => some 4
  | .qdSync _ => some 1
  | .qdRail _ _ => some 1
  | .qdArm _ => some 1
  | .qdStart _ => some 1
  | .qdRecastReq => some 4
  | .qdRecastGo => some 4
  | .qdStop _ => some 1
  | .qdCommit _ => some 1
  | .qdLineFall => some 4
  | .qdRecord _ _ => some 4
  | .qdRepeat => some 4
  | .qdLineRise => some 4
  | .qdStepTimeout => some 4
  | .faultConditionEnd _ => some 1
  | .scopeRecover _ => some 1
  | .fltClear _ => some 1
  | .fltSelClassWrite _ _ => some 1
  | .selStickyClear _ => some 1
  | .stickyClearAll _ => some 1
  | .manualSafe _ => some 1
  | .fltFecRearm _ => some 1
  | .busError _ _ _ _ => some 1
  | .supSramUe _ => some 1
  | .supWatchdog => some 1
  | .dieHot _ _ => some 1
  | .dieCrit _ _ => some 1
  | .vaonLow _ => some 1
  | .railTargetWrite _ _ => some 1
  | .railGood _ => some 1
  | .railDischarged _ => some 1
  | .railOnDelay _ => some 1
  | .railSettleDone => some 1
  | .railOnTimeout _ => some 1
  | .railOffTimeout _ => some 1
  | .railLost _ => some 1
  | .railLogProgramDone _ => some 1
  | .resetNAssert => none
  | .supplyOutOfRange => none
  | .devResetWrite _ _ => some 1
  | .resetEnd => none
  | .bootComplete => some 1
  | .stateReqStandby _ => some 1
  | .stateReqReady _ => some 1
  | .stateReqPrinting _ => some 1
  | .fwImageWrite _ _ _ => some 1
  | .fwConfirm _ => some 1
  | .encRawPulse _ => some 4
  | .echoReqDue m => some (15 + m / 16)
  | .lineFrameComplete m => some (15 + m / 16)
  | .pcieLinkUp _ _ => some 3
  | .ethLinkChange _ _ => some 4
  | .ainScanConversion _ _ => some 1

/-- The command may write DRAM: it moves, stores or clears data there, or it is a write that may be one of CODEC.ABORT. -/
def Instr.writesDram (i : Instr) : Bool :=
  match i with
  | .devMarkModeWrite _ _ => false
  | .objectWrite _ _ _ _ _ _ => true
  | .stagedWrite _ _ _ _ _ _ => true
  | .pdEnableWrite _ _ => false
  | .pdSwitchDone _ => false
  | .lineBoundary _ => false
  | .encEdge _ _ _ => false
  | .encUnreliable _ => false
  | .encIndex _ _ => false
  | .encPreset _ _ _ => false
  | .rehome _ _ _ => false
  | .sposRequest _ _ => false
  | .sposWord _ _ _ _ => false
  | .sposWordTimeout _ => false
  | .sposLost _ => false
  | .passOverrun _ => false
  | .compareTarget _ => false
  | .cmpPulse _ => false
  | .cmpPulseEnd _ => false
  | .cmpArm _ _ => false
  | .cmpDisarm _ _ => false
  | .cmpCapture _ _ => false
  | .lcTrackExit _ => false
  | .lcStill _ => false
  | .lcUnlock _ => false
  | .lcRelock _ => false
  | .lcSettled _ => false
  | .nop _ => false
  | .toneSwap _ => false
  | .commit _ => false
  | .devCommit _ => false
  | .loopSample _ => false
  | .loopBank _ => false
  | .adcTrigger _ => false
  | .gpio _ => false
  | .event _ => false
  | .listArm _ => false
  | .recastReq _ => false
  | .pageStart _ => false
  | .cueListArm _ _ => false
  | .cueListDisarm _ _ => false
  | .cueEntryWrite _ _ _ _ _ => false
  | .fireIssue _ => false
  | .flaskReadDone _ _ _ _ => false
  | .chToneSwap _ _ _ => false
  | .toneDrainEnd _ => false
  | .toneCopy _ _ => false
  | .toneCopyDone _ => false
  | .nozPatch _ _ _ => false
  | .nozResyncDone _ => false
  | .tblLoad _ _ => false
  | .tblReadback _ _ => false
  | .tblLoadDone _ => true
  | .sramScrubRead _ _ _ _ => false
  | .headTempStale _ _ => false
  | .temp _ _ _ _ => false
  | .nozzle _ _ _ _ => false
  | .fault _ _ _ _ => false
  | .status _ _ _ _ _ _ _ => false
  | .lineNak _ _ _ => false
  | .ctrlAck _ _ _ _ => false
  | .echoRsp _ _ _ _ => false
  | .train _ _ _ => false
  | .klInvalidBlock _ _ => false
  | .klLockLoss _ => false
  | .klSilence _ => false
  | .klBlockLock _ _ => false
  | .klStageTimer _ => false
  | .laneTrainStart _ => false
  | .klTrainTimeout _ => false
  | .klRetryTimer _ => false
  | .klSyncDue => false
  | .keepaliveDue _ => false
  | .lineFrameOpen _ => false
  | .ctrlRead _ _ => false
  | .ctrlWrite _ _ => false
  | .klCtrlTimeout _ => false
  | .bulkGo _ _ => false
  | .scanPulse _ _ _ _ => false
  | .scanMiss _ => false
  | .scanLost _ => false
  | .scanEnable _ _ => false
  | .scanDisable _ _ => false
  | .scanSpinupDone _ => false
  | .scanAcquired _ => false
  | .scanAcqTimeout _ => false
  | .scanLostRetry _ => false
  | .sweepCommit _ => false
  | .scanPagePhase2 _ => false
  | .scanSplit _ => false
  | .sltLoad _ _ => false
  | .sltReadback _ _ => false
  | .sltGenerate _ _ => false
  | .sltDone _ => true
  | .apcSample _ _ => false
  | .stationFinished _ => false
  | .pageSpoiledReport _ => false
  | .pageAbort _ => false
  | .load _ _ => false
  | .arm _ _ => false
  | .abort _ _ => false
  | .unload _ _ => false
  | .jobDescriptor _ => false
  | .bandDescriptor _ => false
  | .stopDescriptor _ => false
  | .bandFetchStart _ => false
  | .bandFetched _ _ _ => true
  | .sprueBandStart _ => false
  | .sprueLine _ => true
  | .rcstRequest _ _ => false
  | .heldStop _ => false
  | .recastBackup => false
  | .recastWait => false
  | .recastApproach => false
  | .recastDecide => false
  | .channelResume _ => false
  | .recastOverrun => false
  | .recastHoldTimeout => false
  | .recastPassLimit => false
  | .codecJobStart _ => false
  | .codecJobDone _ => true
  | .codecAbort _ _ => true
  | .dramTraining => false
  | .dramTrainDone _ _ => true
  | .dramFillDone => true
  | .dramReadReturn _ _ _ _ => false
  | .partialWriteMerge _ _ _ _ => true
  | .scrubRead _ => false
  | .refreshDue _ _ _ => false
  | .dramTempPoll _ _ _ => false
  | .zqCal _ => false
  | .dqsOscRead _ _ _ => false
  | .srEntry _ _ => false
  | .srExit _ _ => false
  | .hubBiasWrite _ _ _ => false
  | .hubFecRearm _ => false
  | .hubInject _ _ => false
  | .perstNAssert => false
  | .functionLevelReset => false
  | .pcieLinkDown => false
  | .pcieAer _ => false
  | .bar0Write _ _ _ _ => false
  | .glbTimeRead => false
  | .bar2Read _ _ => false
  | .bar2Write _ _ _ => true
  | .mbxSubmit _ => false
  | .mbxRspAck => false
  | .ringEnable _ _ => false
  | .ringDisable _ => false
  | .ringDb _ _ => false
  | .ringEntryRead _ _ _ => false
  | .ringInterruptDue _ => false
  | .msixUnmask _ => false
  | .dmaStart _ => false
  | .dmaStop _ => false
  | .dmaReset _ => false
  | .dmaHeadWrite _ _ => false
  | .dmaKick _ => false
  | .dmaDescFetched _ _ _ => false
  | .dmaLinkReread _ _ _ => false
  | .dmaHalfPoint _ _ => true
  | .dmaDescDone _ _ => true
  | .dmaStopped _ _ _ => true
  | .dmaError _ _ _ _ => true
  | .wopRequest _ _ _ => true
  | .udpDatagram _ _ _ _ _ _ => true
  | .reassemblyTimeout => false
  | .arpRequest _ _ => false
  | .icmpEcho _ _ _ => false
  | .canFrame _ _ _ _ => true
  | .segTimeout _ => false
  | .canBusOff _ => false
  | .chCommit _ _ => false
  | .devCommitNow _ => false
  | .devCommitStep _ => false
  | .lockAcquire _ _ => false
  | .lockRelease _ _ => false
  | .lockLeaseExpiry _ => false
  | .store _ => false
  | .restoreDefaults _ => false
  | .imageVerify _ => false
  | .imageCommit _ => false
  | .dramRetrain _ => false
  | .opEnd _ _ => false
  | .opTimeout => false
  | .profTargetWrite _ _ _ => false
  | .slotEnable _ _ => false
  | .slotDisable _ _ => false
  | .loopPeriodTrigger _ => false
  | .loopSampleRun => false
  | .loopDeadlineMiss _ => false
  | .loopToneWrite _ => false
  | .loopToneWriteDone _ => false
  | .loopPendingWrite _ => false
  | .bankSwap _ _ => false
  | .preset _ _ _ => false
  | .publish _ _ => false
  | .ainSeqPeriod _ => false
  | .ainSeqDone _ _ => false
  | .gpioOutWrite _ _ => false
  | .timeSet _ _ => false
  | .ptpSyncRx _ _ => false
  | .ptpFollowUpRx _ _ => false
  | .ptpDelayRespRx _ _ => false
  | .ptpDelayReqRx _ _ => false
  | .ptpAnnounceRx _ _ => false
  | .ptpSyncTx _ => false
  | .ptpDelayReqTx _ => false
  | .ptpAnnounceTx _ => false
  | .ptpAnnounceTimeout _ => false
  | .timeValidHold => false
  | .timeSnap => false
  | .timeSnapLost => false
  | .alignAcquire _ => false
  | .alignLocked => false
  | .alignCorrection _ => false
  | .alignRefLost _ => false
  | .alignCoastLimit => false
  | .qdSync _ => false
  | .qdRail _ _ => false
  | .qdArm _ => false
  | .qdStart _ => false
  | .qdRecastReq => false
  | .qdRecastGo => false
  | .qdStop _ => false
  | .qdCommit _ => false
  | .qdLineFall => false
  | .qdRecord _ _ => false
  | .qdRepeat => false
  | .qdLineRise => false
  | .qdStepTimeout => false
  | .faultConditionEnd _ => false
  | .scopeRecover _ => false
  | .fltClear _ => false
  | .fltSelClassWrite _ _ => false
  | .selStickyClear _ => false
  | .stickyClearAll _ => false
  | .manualSafe _ => false
  | .fltFecRearm _ => false
  | .busError _ _ _ _ => false
  | .supSramUe _ => false
  | .supWatchdog => false
  | .dieHot _ _ => false
  | .dieCrit _ _ => false
  | .vaonLow _ => false
  | .railTargetWrite _ _ => false
  | .railGood _ => false
  | .railDischarged _ => false
  | .railOnDelay _ => false
  | .railSettleDone => false
  | .railOnTimeout _ => false
  | .railOffTimeout _ => false
  | .railLost _ => false
  | .railLogProgramDone _ => false
  | .resetNAssert => false
  | .supplyOutOfRange => false
  | .devResetWrite _ _ => false
  | .resetEnd => false
  | .bootComplete => false
  | .stateReqStandby _ => false
  | .stateReqReady _ => false
  | .stateReqPrinting _ => false
  | .fwImageWrite _ _ _ => false
  | .fwConfirm _ => false
  | .encRawPulse _ => false
  | .echoReqDue _ => false
  | .lineFrameComplete _ => false
  | .pcieLinkUp _ _ => false
  | .ethLinkChange _ _ => false
  | .ainScanConversion _ _ => false

end Sys2Proof
end

