-- ==== Sys2Proof/Effects/Faults.lean ====
section
/-! DEFINITION. Sys2Proof/Effects/Faults.lean: what the commands of family Faults do:
for each, conditions on the machine and the operands under which it completes, and the machine it leaves. -/

namespace Sys2Proof.Effect
open Sys2Proof.Machine

/-- FAULT_CONDITION_END (R406). DIE_HOT ends when every sensor is 2 K below DIE_WARN. -/
def FaultConditionEnd : Prop :=
  ∀ (s : State) (c : Core) (id : Nat),
    c = s.core →
    Live s 1 →
    id = faultId 0x0403 1 →
    c.dieHottest.2 ≤ c.geti K.fltDieWarn - 20 →
    Does (.faultConditionEnd id) s (c.endFault 0x0403 1)

/-- SCOPE_RECOVER (R413). A scope that is down, not latched, with no condition active and quiet for FLT.QUIET recovers, within RECOVERY_LIMIT. -/
def ScopeRecover : Prop :=
  ∀ (s : State) (c : Core) (scope : Nat) (d : Core),
    c = s.core →
    scope < 9 →
    Live s 1 →
    c.boot.step = 9 →
    c.get K.devState ≠ 8 →
    c.scopeDown scope = true →
    c.bitOf K.fltLatched scope = false →
    c.scopeHeld scope = false →
    (nth c.scopes scope).holdAt = none →
    c.recoverAt ≠ some c.sample →
    c.recentRecoveries.length < c.get K.fltRecoveryLimit →
    d = { c with recoveries := c.clock :: c.recentRecoveries, recoverAt := some c.sample } →
    Does (.scopeRecover scope) s (scopeRelease scope (scopeRecord scope 3 (d.bump K.fltRecoveries)))

/-- BUS_ERROR (R415). An error of an internal bus is captured and raises BUS_ERROR. -/
def BusError : Prop :=
  ∀ (s : State) (c : Core) (kind addr master typ : Nat),
    c = s.core →
    Live s 1 →
    1 ≤ kind →
    kind ≤ 3 →
    Does (.busError kind addr master typ) s ((fecCapture kind addr master (typ % 2) c).raise 0x0400 1 (2 ^ 56 * kind + 2 ^ 48 * (master % 256) + addr % 2 ^ 32))

/-- SUP_SRAM_UE (R416). An uncorrectable error of the supervisor's memory is captured and raised. -/
def SupSramUe : Prop :=
  ∀ (s : State) (c : Core) (addr : Nat),
    c = s.core →
    Live s 1 →
    Does (.supSramUe addr) s ((fecCapture 4 addr 0x38 0 c).raise 0x0401 1 (addr % 2 ^ 32))

/-- SUP_WATCHDOG (R412). The supervisor's watchdog raises SUP_WATCHDOG. -/
def SupWatchdog : Prop :=
  ∀ (s : State) (c : Core),
    c = s.core →
    Live s 1 →
    Does .supWatchdog s (c.raise 0x0402 1 0)

/-- DIE_HOT (R416). The hottest sensor reaching DIE_WARN raises DIE_HOT. -/
def DieHot : Prop :=
  ∀ (s : State) (c : Core) (sensor t : Nat),
    c = s.core →
    sensor < 8 →
    Live s 1 →
    (dieRead sensor t c).faultActive 0x0403 1 = false →
    (dieRead sensor t c).geti K.fltDieWarn ≤ (dieRead sensor t c).dieHottest.2 →
    (dieRead sensor t c).dieHottest.2 < (dieRead sensor t c).geti K.fltDieCrit →
    Does (.dieHot sensor t) s ((dieRead sensor t c).raiseHeld 0x0403 1 (dieRead sensor t c).diePayload)

/-- DIE_CRIT (R416). The hottest sensor reaching DIE_CRIT while DIE_HOT is active raises DIE_CRIT. -/
def DieCrit : Prop :=
  ∀ (s : State) (c : Core) (sensor t : Nat),
    c = s.core →
    sensor < 8 →
    Live s 1 →
    c.dieHottest.2 < c.geti K.fltDieCrit →
    (dieRead sensor t c).faultActive 0x0403 1 = true →
    (dieRead sensor t c).geti K.fltDieCrit ≤ (dieRead sensor t c).dieHottest.2 →
    Does (.dieCrit sensor t) s ((dieRead sensor t c).raise 0x0404 1 (dieRead sensor t c).diePayload)

/-- VAON_LOW (R416). V_AON falling below its minimum raises VAON_LOW. -/
def VaonLow : Prop :=
  ∀ (s : State) (c : Core) (mv : Nat),
    c = s.core →
    Live s 1 →
    c.faultActive 0x0405 1 = false →
    (c.set K.railVaon mv).get K.railVaon < (c.set K.railVaon mv).get K.fltVaonMin →
    Does (.vaonLow mv) s ((c.set K.railVaon mv).raiseHeld 0x0405 1 ((c.set K.railVaon mv).get K.railVaon))

end Sys2Proof.Effect
end

