-- ==== Sys2Proof/Effects/HostInterface.lean ====
section
/-! DEFINITION. Sys2Proof/Effects/HostInterface.lean: what the commands of family HostInterface do:
for each, conditions on the machine and the operands under which it completes, and the machine it leaves. -/

namespace Sys2Proof.Effect
open Sys2Proof.Machine

/-- PERST_N_ASSERT (R285). PERST# is a host reset with cause 1, and the link goes down. -/
def PerstNAssert : Prop :=
  ∀ (s : State) (c : Core),
    c = s.core →
    Live s 3 →
    Does .perstNAssert s (hostReset 1 (pcieDown c))

/-- FUNCTION_LEVEL_RESET (R285). A function-level reset is a host reset with cause 2; the link stays up. -/
def FunctionLevelReset : Prop :=
  ∀ (s : State) (c : Core),
    c = s.core →
    Live s 3 →
    Does .functionLevelReset s (hostReset 2 c)

/-- PCIE_LINK_DOWN (R285). A link that goes down is a host reset with cause 3. -/
def PcieLinkDown : Prop :=
  ∀ (s : State) (c : Core),
    c = s.core →
    Live s 3 →
    Does .pcieLinkDown s (hostReset 3 (pcieDown c))

/-- PCIE_AER (R309). An uncorrectable error is logged in AER, counted, and raises PCIE_AER with the status register. -/
def PcieAer : Prop :=
  ∀ (s : State) (c : Core) (status : Nat),
    c = s.core →
    Live s 3 →
    status < 2 ^ 32 →
    Does (.pcieAer status) s (({ c with pcieCfg := { c.pcieCfg with aerUncorr := c.pcieCfg.aerUncorr ||| status } }.bump K.pcieUncorrErrors).raise 0x0741 1 (c.pcieCfg.aerUncorr ||| status))

/-- BAR0_WRITE (R287). An aligned write of 4 bytes to BAR0 writes the register there; a write of 8 bytes to a register of 4 writes two. -/
def Bar0Write : Prop :=
  ∀ (s : State) (c : Core) (bar offset size v : Nat),
    c = s.core →
    Live s 3 →
    bar = 0 →
    (size = 4 ∨ size = 8) →
    offset % size = 0 →
    Does (.bar0Write bar offset size v) s ((if size = 8 ∧ wideReg bar offset = false then bar0Reg (offset + 4) 4 (v / 2 ^ 32 % 2 ^ 32) (bar0Reg offset 4 (v % 2 ^ 32) c) else bar0Reg offset size (v % 256 ^ size) c))

/-- GLB_TIME_READ (R288). The read of the low half of GLB_TIME answers it, and latches the high half and the position of DEV.STAMP_CLOCK. -/
def GlbTimeRead : Prop :=
  ∀ (s : State) (c : Core),
    c = s.core →
    Live s 3 →
    Does .glbTimeRead s (({ c with pcie := { c.pcie with timeHi := c.now / 2 ^ 32 % 2 ^ 32, pos := c.stampPos } } : Core).emit (.completion 0 8 (bytesLE 4 (c.now % 2 ^ 32)) false))

/-- BAR2_READ (R289). A read of BAR2 answers the bytes of DRAM at the window, poisoned when a burst of them is bad. -/
def Bar2Read : Prop :=
  ∀ (s : State) (c : Core) (x len : Nat),
    c = s.core →
    Live s 3 →
    c.hubWaits = false →
    x + len ≤ 2 ^ 26 →
    c.refusedIn (burstsOf (c.bar2Addr x) len).1 (burstsOf (c.bar2Addr x) len).2 = [] →
    Does (.bar2Read x len) s ((c.hubRead 0x3C 0 (c.bar2Addr x) len).2.emit (.completion 2 x (c.readBytes s.dram (c.bar2Addr x) len) (c.hubRead 0x3C 0 (c.bar2Addr x) len).1.isSome))

/-- BAR2_WRITE (R289). A write of BAR2 writes DRAM at the window. -/
def Bar2Write : Prop :=
  ∀ (s : State) (c : Core) (x : Nat) (data : List Byte) (poisoned : Bool),
    c = s.core →
    Live s 3 →
    c.hubWaits = false →
    x + data.length ≤ 2 ^ 26 →
    poisoned = false →
    DoesMem (.bar2Write x data poisoned) s ((c.hubWrite s.dram 0x3C (c.bar2Addr x) data).2)

/-- MBX_SUBMIT (R290). A free mailbox takes a request of 1 to 16,384 bytes. -/
def MbxSubmit : Prop :=
  ∀ (s : State) (c : Core) (len : Nat),
    c = s.core →
    Live s 3 →
    c.pcie.reqBusy = false →
    c.pcie.rspReady = false →
    len ≠ 0 →
    len ≤ 16384 →
    Does (.mbxSubmit len) s ({ c with pcie := { c.pcie with reqBusy := true, reqLen := len } })

/-- MBX_RSP_ACK (R290). The host's acknowledgement clears RSP_READY. -/
def MbxRspAck : Prop :=
  ∀ (s : State) (c : Core),
    c = s.core →
    Live s 3 →
    Does .mbxRspAck s ({ c with pcie := { c.pcie with rspReady := false } })

/-- RING_ENABLE (R291). A disabled ring with a size of 2^4 to 2^16 entries starts empty. -/
def RingEnable : Prop :=
  ∀ (s : State) (c : Core) (k v : Nat),
    c = s.core →
    k < 64 →
    Live s 3 →
    (nth c.rings k).enable = false →
    4 ≤ v % 32 →
    v % 32 ≤ 16 →
    v.testBit 31 = true →
    Does (.ringEnable k v) s ((if 48 ≤ k ∧ k ≤ 51 then codecRingGone (k - 48) c else c).updRing k fun (x : Ring) => { x with enable := true, size := v % 32, prod := 0, cons := 0, overflowed := false })

/-- RING_DISABLE (R291). A disabled ring keeps its counts. -/
def RingDisable : Prop :=
  ∀ (s : State) (c : Core) (k : Nat),
    c = s.core →
    k < 64 →
    Live s 3 →
    Does (.ringDisable k) s (c.updRing k fun (x : Ring) => { x with enable := false })

/-- RING_DB (R292). A valid doorbell of a to-device ring gives its producer count, and the device reads on. -/
def RingDb : Prop :=
  ∀ (s : State) (c : Core) (k v : Nat),
    c = s.core →
    k < 64 →
    Live s 3 →
    ringToDevice k = true →
    (nth c.rings k).enable = true →
    (v % 2 ^ 32 + (2 ^ 32 - (nth c.rings k).cons)) % 2 ^ 32 ≤ 2 ^ (nth c.rings k).size →
    v % 2 ^ 32 ≠ (nth c.rings k).prod →
    Does (.ringDb k v) s (ringFetch k (c.updRing k fun (x : Ring) => { x with prod := v % 2 ^ 32, readFailed := false }))

/-- RING_ENTRY_READ (R293). An entry of a job ring is consumed: the count goes on, its shadow is written, and the channel has the entry. -/
def RingEntryRead : Prop :=
  ∀ (s : State) (c : Core) (k : Nat) (data : List Byte) (err : Nat),
    c = s.core →
    k < 64 →
    Live s 3 →
    k < 48 →
    ringToDevice k = true →
    (nth c.rings k).enable = true →
    (nth c.rings k).readFailed = false →
    (nth c.rings k).cons ≠ (nth c.rings k).prod →
    err = 0 →
    Does (.ringEntryRead k data err) s (ringFetch k { (c.updRing k fun (x : Ring) => { x with cons := ((nth c.rings k).cons + 1) % 2 ^ 32 }).ringShadow k (((nth c.rings k).cons + 1) % 2 ^ 32) with jobs := upd ((c.updRing k fun (x : Ring) => { x with cons := ((nth c.rings k).cons + 1) % 2 ^ 32 }).ringShadow k (((nth c.rings k).cons + 1) % 2 ^ 32)).jobs (k / 6) fun (x : ChJob) => { x with entries := x.entries ++ [padTo 64 data] } })

/-- RING_INTERRUPT_DUE (R296). MOD_COUNT records since the last message signal the vector of the ring. -/
def RingInterruptDue : Prop :=
  ∀ (s : State) (c : Core) (k : Nat),
    c = s.core →
    k < 64 →
    Live s 3 →
    (nth c.rings k).since ≠ 0 →
    max 1 (nth c.rings k).modCount ≤ (nth c.rings k).since →
    Does (.ringInterruptDue k) s ((c.updRing k fun (x : Ring) => { x with since := 0 }).signal (nth c.rings k).vec)

/-- MSIX_UNMASK (R296). Unmasking a vector sends its pending message. -/
def MsixUnmask : Prop :=
  ∀ (s : State) (c : Core) (v : Nat),
    c = s.core →
    v < 128 →
    Live s 3 →
    (nth c.vectors v).pending = true →
    Does (.msixUnmask v) s (({ c with vectors := upd c.vectors v fun (x : Vector) => { x with masked := false, pending := false } } : Core).signal v)

/-- PCIE_LINK_UP (R284). A trained link shows its generation and width, and its rate to the admission check. -/
def PcieLinkUp : Prop :=
  ∀ (s : State) (c : Core) (gen width : Nat),
    c = s.core →
    Live s 3 →
    3 ≤ gen →
    gen ≤ c.get K.pcieMaxGen →
    (width = 1 ∨ width = 2 ∨ width = 4 ∨ width = 8) →
    Does (.pcieLinkUp gen width) s (((({ c with pcieCfg := { c.pcieCfg with retry := false } } : Core).set K.pcieLinkGen gen).set K.pcieLinkWidth width).set K.devAdmHostLink (hostLink gen width))

end Sys2Proof.Effect
end

