-- ==== Sys2Proof/Effects/Hub.lean ====
section
/-! DEFINITION. Sys2Proof/Effects/Hub.lean: what the commands of family Hub do:
for each, conditions on the machine and the operands under which it completes, and the machine it leaves. -/

namespace Sys2Proof.Effect
open Sys2Proof.Machine

/-- DRAM_TRAINING (R259). A training that is due, of an array not kept in self-refresh, adopts the configuration; it is quick when the stored results are for it. -/
def DramTraining : Prop :=
  ∀ (s : State) (c : Core),
    c = s.core →
    Live s 2 →
    c.hubOn = true →
    c.hub.trainDue = true →
    c.resumes = false →
    Does .dramTraining s ((((hubConfigure c).updHub fun (h : Hub) => { h with trainDue := false, quick := decide (c.hub.stored = some c.hubPresent), fillNext := true, granted := false }).set K.hubTrainState 1).set K.hubSrState 0)

/-- DRAM_TRAIN_DONE (R259). The training of step 6 of the boot ends well, and the fill of step 7 follows. -/
def DramTrainDone : Prop :=
  ∀ (s : State) (c : Core) (ok : Bool) (result : Nat),
    c = s.core →
    Live s 2 →
    c.get K.hubTrainState = 1 →
    c.boot.step = 6 →
    (dramTrainDone ok result c).get K.hubTrainState = 2 →
    DoesMem (.dramTrainDone ok result) s (barServe { dramTrainDone ok result c with boot := { (dramTrainDone ok result c).boot with step := 7 } } s.dram)

/-- DRAM_FILL_DONE (R260). The end of the fill in step 7 grants requests and the boot goes on to the domains. -/
def DramFillDone : Prop :=
  ∀ (s : State) (c : Core),
    c = s.core →
    Live s 2 →
    c.hub.fillNext = true →
    c.boot.step = 7 →
    (dramFillDone c s.dram).1.boot.step = 7 →
    (dramFillDone c s.dram).1.hub.fillNext = false →
    DoesMem .dramFillDone s (barServe (bootDomains (dramFillDone c s.dram).1) (dramFillDone c s.dram).2)

/-- DRAM_READ_RETURN (R266). A granted read of bursts that no setting refuses meets the errors found and corrects, reports or poisons them. -/
def DramReadReturn : Prop :=
  ∀ (s : State) (c : Core) (master addr len : Nat) (errs : List (Nat × Nat)),
    c = s.core →
    Live s 0 →
    c.hubWaits = false →
    c.refuses (addr / 64) = false →
    Does (.dramReadReturn master addr len errs) s (((c.addFlips (addr / 64) errs).hubRead master 0 addr len).2)

/-- PARTIAL_WRITE_MERGE (R267). A granted write of fewer than 64 bytes within one burst meets the errors of the burst it merges into. -/
def PartialWriteMerge : Prop :=
  ∀ (s : State) (c : Core) (master addr : Nat) (errs : List (Nat × Nat)) (data : List Byte),
    c = s.core →
    Live s 0 →
    c.hubWaits = false →
    data ≠ [] →
    data.length < 64 →
    addr % 64 + data.length ≤ 64 →
    c.refuses (addr / 64) = false →
    DoesMem (.partialWriteMerge master addr errs data) s ((((c.addFlips (addr / 64) errs).hubWrite s.dram master addr data).2.1, ((c.addFlips (addr / 64) errs).hubWrite s.dram master addr data).2.2))

/-- SCRUB_READ (R268). When it is due the scrubber reads the next burst; correctable errors are counted and written back right, then it goes on. -/
def ScrubRead : Prop :=
  ∀ (s : State) (c : Core) (errs : List (Nat × Nat)) (d : Core),
    c = s.core →
    Live s 2 →
    c.hubOn = true →
    c.hubWaits = false →
    nth c.hub.idleSr (c.subOf (64 * c.hub.scrub)) = false →
    c.hub.scrubAt + c.scrubNs ≤ c.clock →
    (d = ((c.updHub fun (h : Hub) => { h with scrubAt := c.clock }).addFlips c.hub.scrub errs).hubMove 0x3B false c.hub.scrub 1 0) →
    ((c.updHub fun (h : Hub) => { h with scrubAt := c.clock }).refuses c.hub.scrub = false) →
    (burstRead (d.flipsOf c.hub.scrub)).bad = false →
    (burstRead (d.flipsOf c.hub.scrub)).corrected ≠ 0 →
    Does (.scrubRead errs) s (scrubNext (((d.burstFound c.hub.scrub 0x3B 2 (burstRead (d.flipsOf c.hub.scrub))).setFlips c.hub.scrub (scrubBack (burstRead (d.flipsOf c.hub.scrub)))).hubMove 0x3B true c.hub.scrub 1 0))

/-- REFRESH_DUE (R275). At its interval a sub-channel is refreshed, with what was postponed; while the head of a queue panics it is postponed, at most four times. -/
def RefreshDue : Prop :=
  ∀ (s : State) (c : Core) (ch sub : Nat) (panic : Bool) (d : Core),
    c = s.core →
    ch < 4 ∧ sub < 2 →
    Live s 2 →
    c.hubOn = true →
    c.hub.granted = true →
    c.headPanics (2 * ch + sub) = panic →
    nth c.hub.idleSr (2 * ch + sub) = false →
    nth c.hub.refreshAt (2 * ch + sub) + c.refreshNs (2 * ch + sub) ≤ c.clock →
    (d = c.updHub fun (h : Hub) => { h with refreshAt := h.refreshAt.set (2 * ch + sub) c.clock }) →
    Does (.refreshDue ch sub panic) s ((if panic = true ∧ nth d.hub.postponed (2 * ch + sub) < 4 then d.updHub fun (h : Hub) => { h with postponed := h.postponed.set (2 * ch + sub) (nth d.hub.postponed (2 * ch + sub) + 1) } else refreshIssue (2 * ch + sub) d))

/-- DRAM_TEMP_POLL (R275). Each 16 ms the temperature is polled; a sub-channel that has become hot shows in the map and raises DRAM_HOT. -/
def DramTempPoll : Prop :=
  ∀ (s : State) (c : Core) (ch sub : Nat) (hot : Bool),
    c = s.core →
    ch < 4 ∧ sub < 2 →
    Live s 2 →
    hot = true →
    c.hubOn = true →
    c.hub.granted = true →
    nth c.hub.tempAt (2 * ch + sub) + 16000000 ≤ c.clock →
    c.bitOf K.hubHotMap (2 * ch + sub) = false →
    Does (.dramTempPoll ch sub hot) s (((c.updHub fun (h : Hub) => { h with tempAt := h.tempAt.set (2 * ch + sub) c.clock }).setBitOf K.hubHotMap (2 * ch + sub) true).raiseHeld (0x081C + ch) 1 (2 * ch + sub))

/-- ZQ_CAL (R276). Each 128 ms both ranks of a channel are calibrated. -/
def ZqCal : Prop :=
  ∀ (s : State) (c : Core) (ch : Nat),
    c = s.core →
    ch < 4 →
    Live s 2 →
    c.hubOn = true →
    c.hub.granted = true →
    c.rankCount = 2 →
    nth c.hub.zqAt (2 * ch) + 128000000 ≤ c.clock →
    nth (c.hub.zqAt.set (2 * ch) c.clock) (2 * ch + 1) + 128000000 ≤ c.clock →
    Does (.zqCal ch) s (c.updHub fun (h : Hub) => { h with zqAt := (h.zqAt.set (2 * ch) c.clock).set (2 * ch + 1) c.clock })

/-- DQS_OSC_READ (R276). Each OSC_PERIOD the oscillator of a rank is read; a drift of more than 1/64 unit interval moves its write timing. -/
def DqsOscRead : Prop :=
  ∀ (s : State) (c : Core) (ch sub drift : Nat) (r : Nat),
    c = s.core →
    ch < 4 ∧ sub < 2 →
    Live s 2 →
    c.hubOn = true →
    c.hub.granted = true →
    c.oscDue (2 * ch + sub) = some r →
    Does (.dqsOscRead ch sub drift) s (c.updHub fun (h : Hub) => { h with oscAt := h.oscAt.set (2 * (2 * ch + sub) + r) c.clock, moves := if 16 < (signed 16 drift).natAbs then h.moves.set (2 * (2 * ch + sub) + r) (nth h.moves (2 * (2 * ch + sub) + r) + signed 16 drift) else h.moves })

/-- SR_ENTRY (R278). A sub-channel without a request for SR_IDLE, in STANDBY or READY with every channel IDLE, enters self-refresh. -/
def SrEntry : Prop :=
  ∀ (s : State) (c : Core) (ch sub : Nat),
    c = s.core →
    ch < 4 ∧ sub < 2 →
    Live s 2 →
    c.hubOn = true →
    c.hub.granted = true →
    c.get K.hubSrIdle ≠ 0 →
    (c.get K.devState = 2 ∨ c.get K.devState = 3) →
    (∀ j : Nat, j < 8 → c.get (K.chState j) = 0) →
    nth c.hub.idleSr (2 * ch + sub) = false →
    nth c.hub.lastReq (2 * ch + sub) + c.get K.hubSrIdle * 1000 ≤ c.clock →
    Does (.srEntry ch sub) s ((c.updHub fun (h : Hub) => { h with idleSr := h.idleSr.set (2 * ch + sub) true }).set K.hubSrState 1)

/-- SR_EXIT (R278). A sub-channel leaves self-refresh; with none left in it HUB.SR_STATE is 0. -/
def SrExit : Prop :=
  ∀ (s : State) (c : Core) (ch sub : Nat),
    c = s.core →
    ch < 4 ∧ sub < 2 →
    Live s 2 →
    c.hubOn = true →
    c.hub.granted = true →
    nth c.hub.idleSr (2 * ch + sub) = true →
    ((c.hub.idleSr.set (2 * ch + sub) false).all (fun (b : Bool) => !b) = true) →
    Does (.srExit ch sub) s ((c.updHub fun (h : Hub) => { h with idleSr := h.idleSr.set (2 * ch + sub) false, lastReq := h.lastReq.set (2 * ch + sub) c.clock }).set K.hubSrState 0)

end Sys2Proof.Effect
end

