-- ==== Sys2Proof/Effects/Image.lean ====
section
/-! DEFINITION. Sys2Proof/Effects/Image.lean: what the commands of family Image do:
for each, conditions on the machine and the operands under which it completes, and the machine it leaves. -/

namespace Sys2Proof.Effect
open Sys2Proof.Machine

/-- FIRE_ISSUE (R120). A pending fire event near enough is issued with its fire time, with a FIRE block on each lane of its group that is UP. -/
def FireIssue : Prop :=
  ∀ (s : State) (c : Core) (n : Nat) (x : FireEv) (rest : List FireEv) (tF : Int) (ks : List Nat),
    c = s.core →
    n < 8 →
    Live s (7 + n) →
    (nth (fireMark n (dropReversed n c)).fires n).pending = x :: rest →
    x.due = some tF →
    (ks = (List.range 4).filter (fun (k : Nat) => (fireMark n (dropReversed n c)).laneHasGroup n k x.row x.group)) →
    ((ks.any fun (k : Nat) => (fireMark n (dropReversed n c)).laneUp (4 * n + k) && !(nth (fireMark n (dropReversed n c)).lanes (4 * n + k)).framed.contains x.line) = false) →
    Does (.fireIssue n) s ((let (t, d) := fireSettle n x.row tF (fireMark n (dropReversed n c))
  let d := d.updFire n fun (y : ChFire) =>
    { y with pending := rest, rowLast := y.rowLast.set x.row (some t),
             issued := ((if y.issued.contains x.line then [] else [x.line]) ++ y.issued).take 256,
             lastFire := ((x.line, t) :: y.lastFire.filter fun (p : Nat × Nat) => p.1 != x.line).take 16 }
  ks.foldl (fun (a : Core) (k : Nat) =>
    if a.laneUp (4 * n + k) then
      a.block (4 * n + k) 0x5A (2 ^ 38 * (x.line % 1024) + 2 ^ 35 * x.row + 2 ^ 32 * x.group + t % 2 ^ 32)
    else if a.get K.devState = 8 then a else a.bump (K.klFiresLost (4 * n + k))) (d.emit (.fire n x.line x.row x.group t))))

/-- FLASK_READ_DONE (R93). A Flask read burst returns to the row gather; one that is flagged bad is counted and raised. -/
def FlaskReadDone : Prop :=
  ∀ (s : State) (c : Core) (n line burst : Nat) (late : Bool),
    c = s.core →
    n < 8 →
    Live s (7 + n) →
    c.hubWaits = false →
    late = false →
    line < c.get (K.chFlaskWrite n) →
    c.released n ≤ line →
    64 * burst < c.lineBytes n →
    c.get (K.chState n) = 3 →
    Does (.flaskReadDone n line burst late) s ((match c.hubRead (4 * n) 0 (c.flaskAddr n line + 64 * burst) 64 with
  | (none, d) => d
  | (some _, d) => ((d.updImg n fun (x : ChImg) => { x with flaskBad := (line, burst) :: x.flaskBad }).bump
      (K.chFlaskEccErrors n)).raise (0x1021 + 0x100 * n) 1 ((c.flaskAddr n line + 64 * burst) % 2 ^ 48)))

/-- TONE_DRAIN_END (R96). At line L + d_max of a swap the channel no longer drains, and deferred swaps execute in order. -/
def ToneDrainEnd : Prop :=
  ∀ (s : State) (c : Core) (n : Nat),
    c = s.core →
    n < 8 →
    Live s (7 + n) →
    c.draining n = true →
    c.get (K.chState n) ≠ 4 →
    (nth c.imgs n).swapLine + c.dMax n ≤ c.get (K.chLineHigh n) →
    Does (.toneDrainEnd n) s (toneDrain n ((nth c.imgs n).swapLine + c.dMax n) (toneRows n ((nth c.imgs n).swapLine + c.dMax n) c))

/-- TONE_COPY_DONE (R97). The copy of the live bank into the idle one ends. -/
def ToneCopyDone : Prop :=
  ∀ (s : State) (c : Core) (n : Nat),
    c = s.core →
    n < 8 →
    Live s (7 + n) →
    (nth c.imgs n).copyRun = true →
    (nth c.imgs n).copyEnd ≤ c.sample →
    Does (.toneCopyDone n) s ((let g := nth c.imgs n
  let live := c.get (K.chToneLive n)
  let d := c.setBitOf (K.chToneState n) 1 (!g.loopWrites.isEmpty)
  let d := d.updImg n fun (x : ChImg) => { x with copyRun := false }
  let d := d.updImg n fun (x : ChImg) => x.setBank (1 - live) (x.bank live) (x.badBank live)
  (d.tableIdleAll n (2 + (1 - live)) (g.badBank live)).eccEnd n))

/-- NOZ_RESYNC_DONE (R101). The copy of the live nozzle table into the shadow ends and RESYNC clears. -/
def NozResyncDone : Prop :=
  ∀ (s : State) (c : Core) (n : Nat),
    c = s.core →
    n < 8 →
    Live s (7 + n) →
    c.nozResync n = true →
    (nth c.imgs n).resyncEnd ≤ c.sample →
    Does (.nozResyncDone n) s (((c.updImg n fun (x : ChImg) => { x with nozShadow := x.nozLive, badShadow := x.badLive }).setBitOf (K.chNozState n) 1 false).tableIdleAll n 1 (nth c.imgs n).badLive)

/-- TBL_LOAD_DONE (R112). A table load ends with the entries before the first bad burst written, and TBL_STATUS 2 or 3. -/
def TblLoadDone : Prop :=
  ∀ (s : State) (c : Core) (n : Nat) (t : TblJob),
    c = s.core →
    n < 8 →
    Live s (7 + n) →
    c.hubWaits = false →
    (nth c.imgs n).tbl = some t →
    t.load = true →
    t.id ≠ 1 →
    DoesMem (.tblLoadDone n) s ((tblLoadEnd s.dram n t c, s.dram))

/-- SRAM_SCRUB_READ (R268). A word of the screen store that the scrubber finds uncorrectable is marked and raises the table fault. -/
def SramScrubRead : Prop :=
  ∀ (s : State) (c : Core) (n table entry flips : Nat),
    c = s.core →
    n < 8 →
    (Live s (if table = 6 then 4 else 7 + n)) →
    table = 4 →
    entry < tblEntries 4 →
    knownBad 4 entry (nth c.imgs n) = false →
    secdedResult (syndromeOf (flips % 2 ^ 39)) = .uncorrectable →
    Does (.sramScrubRead n table entry flips) s ((c.updImg n (markBad 4 entry)).tableEcc n 4 entry)

/-- HEAD_TEMP_STALE (R130). A monitored head that has not reported within TEMP_STALE is hot, and HEAD_TEMP_STALE is active. -/
def HeadTempStale : Prop :=
  ∀ (s : State) (c : Core) (n h : Nat),
    c = s.core →
    n < 8 →
    Live s (7 + n) →
    c.monitored n h = true →
    c.staleJudged n = true →
    c.headHot n h = false →
    (nth c.fires n).old.testBit h = false →
    max ((nth c.fires n).reports.getD h 0) (nth c.fires n).armTime + c.get (K.chTempStale n) * 1000 ≤ c.clock →
    Does (.headTempStale n h) s ((let d := headHot n h (c.updFire n fun (x : ChFire) => { x with old := setBit x.old h true })
  let d := d.updFire n fun (x : ChFire) => { x with stale := setBit x.stale h true }
  hotBits n (d.raiseHeld (0x1091 + 0x100 * n) 1 (2 ^ 56 * h + satU 32 ((d.clock - (nth c.fires n).reports.getD h 0) / 1000)))))

end Sys2Proof.Effect
end

