-- ==== Sys2Proof/Effects/Jobs.lean ====
section
/-! DEFINITION. Sys2Proof/Effects/Jobs.lean: what the commands of family Jobs do:
for each, conditions on the machine and the operands under which it completes, and the machine it leaves. -/

namespace Sys2Proof.Effect
open Sys2Proof.Machine

/-- JOB_DESCRIPTOR (R220). A good JOB descriptor whose job fits and is not late leaves the ring, and the job is QUEUED, with its record. -/
def JobDescriptor : Prop :=
  ∀ (s : State) (c : Core) (n : Nat) (e : List Byte) (c1 c2 : Core) (j : Job),
    c = s.core →
    n < 8 →
    Live s (7 + n) →
    c.headEntry n = some e →
    leAt e 0 1 = 1 →
    c1 = popEntry n c →
    jobBad c1 e = false →
    j = c1.jobFrom n e 1 →
    c1.admFits n j = true →
    c2 = ((admObjects n [j] c1).set K.devAdmLastJob j.id).set K.devAdmLastVerdict 0 →
    c2.placeLate n j = false →
    Does (.jobDescriptor n) s (recJob n 1 0 j.id (addJob n { j with state := 1 } c2))

/-- BAND_DESCRIPTOR (R208). A good BAND descriptor of an open job that is neither refused nor aborted leaves the ring and is taken. -/
def BandDescriptor : Prop :=
  ∀ (s : State) (c : Core) (n : Nat) (e : List Byte) (c1 : Core) (j : Job),
    c = s.core →
    n < 8 →
    Live s (7 + n) →
    c.headEntry n = some e →
    leAt e 0 1 = 2 →
    c1 = popEntry n c →
    c1.openJob n = some j →
    j.state ≠ 4 →
    j.state ≠ 5 →
    c1.bandRejected n e = false →
    Does (.bandDescriptor n) s (takeBand s.dram n j e c1)

/-- STOP_DESCRIPTOR (R205). A good STOP descriptor leaves the ring and is taken. -/
def StopDescriptor : Prop :=
  ∀ (s : State) (c : Core) (n : Nat) (e : List Byte),
    c = s.core →
    n < 8 →
    Live s (7 + n) →
    c.headEntry n = some e →
    leAt e 0 1 = 3 →
    leAt e 1 3 = 0 →
    leAt e 8 56 = 0 →
    Does (.stopDescriptor n) s ((popEntry n c).updJob n fun (x : ChJob) => { x with stopTaken := true })

/-- BAND_FETCH_START (R213). The next band is placed in the intake buffer at its first fitting place, and the DMA channel fetches it. -/
def BandFetchStart : Prop :=
  ∀ (s : State) (c : Core) (n : Nat) (b : Band) (off : Nat),
    c = s.core →
    n < 8 →
    Live s (7 + n) →
    c.nextFetch n = some b →
    c.get (K.chState n) = 3 →
    ((nth c.jobs n).bands.any (fun (y : Band) => y.fetching) = false) →
    (nth c.dmas (c.get (K.chIntakeDma n))).state = 0 →
    placeBand (c.get (K.chIntakeSize n)) (nth c.jobs n).writePoint (nth c.jobs n).spaces (pad64 b.length) = some off →
    Does (.bandFetchStart n) s (dmaIntake (c.get (K.chIntakeDma n)) n b.src (c.get (K.chIntakeBase n) + off) b.length b.seq (updBandOf n b.uid (fun (y : Band) => { y with addr := c.get (K.chIntakeBase n) + off, space := pad64 b.length, placed := true, fetching := true }) (c.updJob n fun (y : ChJob) => { y with writePoint := off + pad64 b.length, spaces := y.spaces ++ [(b.uid, off, pad64 b.length, false)] })))

/-- BAND_FETCHED (R214). A fetched band whose bytes agree with its CRC-32, or are not checked, has landed; the pages of its job may be admitted. -/
def BandFetched : Prop :=
  ∀ (s : State) (c : Core) (n : Nat) (data : List Byte) (err : Nat) (b : Band) (d : Core) (m : List Host.Cell),
    c = s.core →
    n < 8 →
    Live s (7 + n) →
    c.hubWaits = false →
    ((nth c.jobs n).bands.find? (fun (y : Band) => y.fetching) = some b) →
    (nth c.dmas (c.get (K.chIntakeDma n))).intake = some n →
    (nth c.dmas (c.get (K.chIntakeDma n))).state = 1 →
    err = 0 →
    dmaIntakeDone (c.get (K.chIntakeDma n)) data c s.dram = (false, d, m) →
    (b.verify = false ∨ crc32 ((measure n b.length (updBandOf n b.uid (fun (y : Band) => { y with fetching := false }) d)).readBytes m b.addr b.length) = b.crc) →
    DoesMem (.bandFetched n data err) s ((admitPages (updBandOf n b.uid (fun (y : Band) => { y with landed := true, passed := true }) (measure n b.length (updBandOf n b.uid (fun (y : Band) => { y with fetching := false }) d))), m))

/-- SPRUE_BAND_START (R243). Sprue enters the first pass of the next band whose bytes have landed. -/
def SprueBandStart : Prop :=
  ∀ (s : State) (c : Core) (n : Nat) (b : Band),
    c = s.core →
    n < 8 →
    Live s (7 + n) →
    c.sprueRuns n = true →
    c.sprueBand n = none →
    c.sprueNext n = some b →
    Does (.sprueBandStart n) s (sprueEnter s.dram n b 0 c)

/-- SPRUE_LINE (R243). The next line of a band, raw or coded, goes to the Flask when a place is free. -/
def SprueLine : Prop :=
  ∀ (s : State) (c : Core) (n : Nat) (b : Band) (t : SprueCur),
    c = s.core →
    n < 8 →
    Live s (7 + n) →
    c.hubWaits = false →
    c.sprueBand n = some (b, t) →
    c.sprueRuns n = true →
    c.flaskFree n = true →
    t.line < b.lines →
    DoesMem (.sprueLine n) s ((if b.raw then sprueRaw s.dram n b t c else sprueCoded s.dram n b t c))

end Sys2Proof.Effect
end

