-- ==== Sys2Proof/Effects/Lines.lean ====
section
/-! DEFINITION. Sys2Proof/Effects/Lines.lean: what the commands of family Lines do:
for each, conditions on the machine and the operands under which it completes, and the machine it leaves. -/

namespace Sys2Proof.Effect
open Sys2Proof.Machine

/-- LINE_BOUNDARY (R15). The forward crossing of P_n into the line above LINE_HIGH takes the boundary: commits, tone swaps, cues, then the line. -/
def LineBoundary : Prop :=
  ∀ (s : State) (c : Core) (n : Nat),
    c = s.core →
    n < 8 →
    Live s (7 + n) →
    c.get (K.chState n) = 3 →
    (nth c.jobs n).holdReq = false →
    (nth c.lines n).boundAt ≠ some c.sample →
    reached (c.chPos n) (256 * (c.get (K.chLineHigh n) + 1) % posMod) = true →
    Does (.lineBoundary n) s (takeBoundary s.dram n (c.get (K.chLineHigh n) + 1) c)

end Sys2Proof.Effect
end

