-- ==== Sys2Proof/Effects/Link.lean ====
section
/-! DEFINITION. Sys2Proof/Effects/Link.lean: what the commands of family Link do:
for each, conditions on the machine and the operands under which it completes, and the machine it leaves. -/

namespace Sys2Proof.Effect
open Sys2Proof.Machine

/-- TEMP (R160). A good report for a head of the lane updates its temperature; with TEMP_RECORDS 0 no record is written. -/
def Temp : Prop :=
  ∀ (s : State) (c : Core) (m head t sensor : Nat) (j : Nat),
    c = s.core →
    m < 32 →
    Live s (15 + m / 16) →
    c.hears m = true →
    sensor % 2 = 0 →
    (heard m 0xC3 c).localHead (m / 4) (m % 4) (head % 64) = some j →
    (headReport (m / 4) j (signed 16 t) (heard m 0xC3 c)).get (K.klTempRecords m) = 0 →
    Does (.temp m head t sensor) s (retDone m (headReport (m / 4) j (signed 16 t) (heard m 0xC3 c)))

/-- NOZZLE (R161). A NOZZLE block of a nozzle channel writes a record, stamped with the block's arrival, to the nozzle-health ring. -/
def Nozzle : Prop :=
  ∀ (s : State) (c : Core) (m entry value health : Nat),
    c = s.core →
    m < 32 →
    Live s (15 + m / 16) →
    c.hears m = true →
    c.beam = false →
    Does (.nozzle m entry value health) s (retDone m ((heard m 0xC6 c).recordRet (6 * (m / 4) + 4) (m / 4) (klSource 0x10B0 m) 1 (2 ^ 48 * m + 2 ^ 32 * (value % 65536) + 2 ^ 24 * (health % 256) + (m % 4 * c.laneElems (m / 4) + entry) % 2 ^ 17)))

/-- FAULT (R162). A FAULT block raises BOARD_FAULT with code, severity and detail. -/
def Fault : Prop :=
  ∀ (s : State) (c : Core) (m code severity detail : Nat),
    c = s.core →
    m < 32 →
    Live s (15 + m / 16) →
    c.hears m = true →
    Does (.fault m code severity detail) s (retDone m ((heard m 0xCC c).raise (klSource 0x10C0 m) 1 (2 ^ 48 * (code % 65536) + 2 ^ 46 * (severity % 4) + detail % 2 ^ 30)))

/-- STATUS (R163). A STATUS block adds its counts, and SAFE on an UP lane takes it DOWN. -/
def Status : Prop :=
  ∀ (s : State) (c : Core) (m : Nat) (safe enabled : Bool) (blank late naks invalid : Nat),
    c = s.core →
    m < 32 →
    Live s (15 + m / 16) →
    c.hears m = true →
    Does (.status m safe enabled blank late naks invalid) s (retDone m (let d := (((heard m 0xD2 c).addTo (K.klBoardBadBlocks m) (invalid % 65536)).addTo (K.klBoardLateFires m) (late % 256)).addTo (K.klBoardBlankFires m) (blank % 256)
  if safe then laneLost m 3 d else d))

/-- LINE_NAK (R152). A line of which no FIRE has been issued is framed again, ahead of new ones. -/
def LineNak : Prop :=
  ∀ (s : State) (c : Core) (m line reason : Nat) (b : LineBuf) (d : Core),
    c = s.core →
    m < 32 →
    Live s (15 + m / 16) →
    d = (heard m 0xE1 c).bump (K.klNaks m) →
    c.hears m = true →
    c.laneUp m = true →
    ((nth d.imgs (m / 4)).bufs.find? (fun (y : LineBuf) => y.line % 2 ^ 24 = line % 2 ^ 24) = some b) →
    (nth d.fires (m / 4)).issued.contains b.line = false →
    Does (.lineNak m line reason) s (retDone m ((d.bump (K.klResends m)).updLane m fun (x : Lane) => { x with resend := x.resend ++ [b.line], framed := markDel b.line x.framed }))

/-- CTRL_ACK (R156). The good answer to a host's write of a board register ends the access with status done. -/
def CtrlAck : Prop :=
  ∀ (s : State) (c : Core) (m status addr data : Nat) (a : CtrlAcc),
    c = s.core →
    m < 32 →
    Live s (15 + m / 16) →
    c.hears m = true →
    addr ≠ 0x3FFF →
    (nth (heard m 0xA5 c).lanes m).ctrl = some a →
    a.addr = addr →
    a.host = true →
    a.write = true →
    status = 0 →
    Does (.ctrlAck m status addr data) s (retDone m (ctrlNext m (((heard m 0xA5 c).updLane m fun (x : Lane) => { x with ctrl := none }).set (K.klCtrlStatus m) 2)))

/-- ECHO_RSP (R166). An answered echo gives one round trip, until there are sixteen. -/
def EchoRsp : Prop :=
  ∀ (s : State) (c : Core) (m t1 tau t4 : Nat),
    c = s.core →
    m < 32 →
    Live s (15 + m / 16) →
    c.hears m = true →
    c.get (K.klState m) = 1 →
    (nth c.lanes m).trips.length < (nth c.lanes m).echoSent →
    (nth c.lanes m).trips.length < 15 →
    Does (.echoRsp m t1 tau t4) s (retDone m ((heard m 0x99 c).updLane m fun (x : Lane) => { x with trips := ((t4 + (2 ^ 24 - t1 % 2 ^ 24)) % 2 ^ 24 - tau) :: x.trips }))

/-- TRAIN (R165). A TRAIN block of the right lane in training notes the stage that the board has reached. -/
def Train : Prop :=
  ∀ (s : State) (c : Core) (m laneNo stage : Nat),
    c = s.core →
    m < 32 →
    Live s (15 + m / 16) →
    c.hears m = true →
    c.laneUp m = false →
    c.get (K.klState m) = 1 →
    laneNo = m →
    Does (.train m laneNo stage) s (retDone m (stageBoth m ((heard m 0x33 c).updLane m fun (x : Lane) => { x with rxStage := max x.rxStage stage })))

/-- KL_INVALID_BLOCK (R143). A control block of an undefined type, or one whose CRC-8 does not match, is discarded and counted. -/
def KlInvalidBlock : Prop :=
  ∀ (s : State) (c : Core) (m block : Nat),
    c = s.core →
    m < 32 →
    Live s (15 + m / 16) →
    c.linkOn m = true →
    c.get (K.klState m) ≠ 0 →
    block / 2 ^ 64 = 2 →
    ctlValid (block % 2 ^ 64) = false →
    Does (.klInvalidBlock m block) s (c.bump (K.klBadBlocks m))

/-- KL_LOCK_LOSS (R170). Sixteen invalid headers within 64 blocks of 5.28 ns take an UP lane DOWN. -/
def KlLockLoss : Prop :=
  ∀ (s : State) (c : Core) (m : Nat) (t : Nat),
    c = s.core →
    m < 32 →
    Live s (15 + m / 16) →
    (nth c.lanes m).badHeaders[15]? = some t →
    (nth c.lanes m).locked = true →
    c.clock * 100 < t * 100 + 64 * 528 →
    ((c.updLane m fun (x : Lane) => { x with badHeaders := [] }).laneUp m = true) →
    Does (.klLockLoss m) s (laneLost m 1 (c.updLane m fun (x : Lane) => { x with badHeaders := [] }))

/-- KL_SILENCE (R170). No valid return block for 20 us takes an UP lane DOWN. -/
def KlSilence : Prop :=
  ∀ (s : State) (c : Core) (m : Nat),
    c = s.core →
    m < 32 →
    Live s (15 + m / 16) →
    c.laneUp m = true →
    (nth c.lanes m).rxAt + 20000 ≤ c.clock →
    Does (.klSilence m) s (laneLost m 2 c)

/-- KL_BLOCK_LOCK (R165). Block lock with the right echoed number: the controller sends stage 1. -/
def KlBlockLock : Prop :=
  ∀ (s : State) (c : Core) (m echo : Nat),
    c = s.core →
    m < 32 →
    Live s (15 + m / 16) →
    c.get (K.klState m) = 1 →
    (nth c.lanes m).locked = false →
    echo = m →
    Does (.klBlockLock m echo) s (stageBoth m (((c.updLane m fun (x : Lane) => { x with locked := true, rxAt := c.clock }).updLane m fun (x : Lane) => { x with txStage := 1, rxStage := max 1 x.rxStage })))

/-- KL_STAGE_TIMER (R165). One millisecond after both sides sent stage 1 the controller sends stage 2. -/
def KlStageTimer : Prop :=
  ∀ (s : State) (c : Core) (m : Nat) (t : Nat),
    c = s.core →
    m < 32 →
    Live s (15 + m / 16) →
    (nth c.lanes m).bothSince = some t →
    c.get (K.klState m) = 1 →
    (nth c.lanes m).txStage = 1 →
    t + 1000000 ≤ c.clock →
    Does (.klStageTimer m) s (c.updLane m fun (x : Lane) => { x with txStage := 2 })

/-- LANE_TRAIN_START (R165). An idle lane that may train begins. -/
def LaneTrainStart : Prop :=
  ∀ (s : State) (c : Core) (m : Nat),
    c = s.core →
    m < 32 →
    Live s (15 + m / 16) →
    c.mayTrain m = true →
    c.get (K.klState m) = 0 →
    Does (.laneTrainStart m) s (trainBegin m c)

/-- KL_TRAIN_TIMEOUT (R165). A lane not UP within TRAIN_TIMEOUT goes to FAILED with reason 1. -/
def KlTrainTimeout : Prop :=
  ∀ (s : State) (c : Core) (m : Nat),
    c = s.core →
    m < 32 →
    Live s (15 + m / 16) →
    c.get (K.klState m) = 1 →
    (nth c.lanes m).trainStart + c.get (K.klTrainTimeout m) * 1000000 ≤ c.clock →
    Does (.klTrainTimeout m) s (trainFail m 1 c)

/-- KL_RETRY_TIMER (R164). One second after FAILED a new training attempt starts. -/
def KlRetryTimer : Prop :=
  ∀ (s : State) (c : Core) (m : Nat),
    c = s.core →
    m < 32 →
    Live s (15 + m / 16) →
    c.get (K.klState m) = 5 →
    c.mayTrain m = true →
    (nth c.lanes m).failedAt + 1000000000 ≤ c.clock →
    Does (.klRetryTimer m) s (trainBegin m c)

/-- KL_SYNC_DUE (R153). Every 64th round, 5.74464 us, a SYNC block is due on each UP lane; the link time is put in as it leaves. -/
def KlSyncDue : Prop :=
  ∀ (s : State) (c : Core),
    c = s.core →
    Live s 1 →
    c.syncAt * 100 + 574464 ≤ c.clock * 100 →
    Does .klSyncDue s ((List.range 32).foldl (fun (a : Core) (m : Nat) => if a.laneUp m then a.block m 0x55 0 else a) { c with syncAt := c.clock, syncs := c.syncs + 1 })

/-- KEEPALIVE_DUE (R168). A KEEPALIVE carries the next sequence number and ENABLE. -/
def KeepaliveDue : Prop :=
  ∀ (s : State) (c : Core) (m : Nat),
    c = s.core →
    m < 32 →
    Live s (15 + m / 16) →
    c.laneUp m = true →
    Does (.keepaliveDue m) s ((c.updLane m fun (x : Lane) => { x with keepSeq := ((nth c.lanes m).keepSeq + 1) % 256, keepAt := c.clock }).block m 0x3C (256 * (((nth c.lanes m).keepSeq + 1) % 256) + b2n ((c.updLane m fun (x : Lane) => { x with keepSeq := ((nth c.lanes m).keepSeq + 1) % 256, keepAt := c.clock }).laneEnable (m / 4))))

/-- LINE_FRAME_OPEN (R150). The next line with a free buffer opens its frame: LINE_START, the data blocks, and LINE_END with their count and CRC-32. -/
def LineFrameOpen : Prop :=
  ∀ (s : State) (c : Core) (m : Nat) (line : Nat) (l : List (Nat × Nat)),
    c = s.core →
    m < 32 →
    Live s (15 + m / 16) →
    c.lineReady m = true →
    (nth c.lanes m).bulkOpen = false →
    c.nextFrame m = some line →
    (l = c.laneLevels (m / 4) (m % 4) (((nth c.imgs (m / 4)).bufs.find? fun (b : LineBuf) => b.line = line).getD { line := line, levels := [] })) →
    l ≠ [] →
    Does (.lineFrameOpen m) s (c.updLane m fun (x : Lane) => { x with resend := x.resend.filter fun (y : Nat) => y != line, openLine := some line, lineQ := frameBlocks 0x66 0x69 (line % 2 ^ 24) (c.frameBytes (m / 4) l) })

/-- KL_CTRL_TIMEOUT (R156). An access unanswered within 20 us is repeated, up to four attempts. -/
def KlCtrlTimeout : Prop :=
  ∀ (s : State) (c : Core) (m : Nat) (a : CtrlAcc) (d : Core),
    c = s.core →
    m < 32 →
    Live s (15 + m / 16) →
    d = c.bump (K.klCtrlRetries m) →
    (nth c.lanes m).ctrl = some a →
    a.sentAt + 20000 ≤ c.clock →
    a.attempts < 4 →
    Does (.klCtrlTimeout m) s (bulkLate s.dram m ((d.updLane m fun (x : Lane) => { x with ctrl := some { a with attempts := a.attempts + 1, sentAt := d.clock } }).block m (if a.write then 0x87 else 0x8B) (a.addr * 2 ^ 32 + (if a.write then a.data else 0))))

/-- ECHO_REQ_DUE (R165). Once both sides have sent stage 2 the controller sends its echo requests, the first at once. -/
def EchoReqDue : Prop :=
  ∀ (s : State) (c : Core) (m : Nat),
    c = s.core →
    m < 32 →
    Live s (15 + m / 16) →
    c.get (K.klState m) = 1 →
    (nth c.lanes m).txStage = 2 →
    (nth c.lanes m).rxStage = 2 →
    (nth c.lanes m).echoSent = 0 →
    Does (.echoReqDue m) s ((c.updLane m fun (x : Lane) => { x with echoSent := x.echoSent + 1, echoAt := c.clock }).block m 0x96 0)

/-- LINE_FRAME_COMPLETE (R151). What is left of the open frame leaves, its last block too, and the line is framed on the lane. -/
def LineFrameComplete : Prop :=
  ∀ (s : State) (c : Core) (m : Nat) (line : Nat),
    c = s.core →
    m < 32 →
    Live s (15 + m / 16) →
    (nth c.lanes m).openLine = some line →
    Does (.lineFrameComplete m) s (frameDone m line (sendAll m (nth c.lanes m).lineQ c))

end Sys2Proof.Effect
end

