-- ==== Sys2Proof/Effects/Loop.lean ====
section
/-! DEFINITION. Sys2Proof/Effects/Loop.lean: what the commands of family Loop do:
for each, conditions on the machine and the operands under which it completes, and the machine it leaves. -/

namespace Sys2Proof.Effect
open Sys2Proof.Machine

/-- LOOP_PERIOD_TRIGGER (R352). At each instant of its period an enabled slot in mode 1 is triggered. -/
def LoopPeriodTrigger : Prop :=
  ∀ (s : State) (c : Core) (slot : Nat),
    c = s.core →
    slot < 64 →
    Live s 6 →
    c.loopOn = true →
    c.slotOn slot = true →
    c.slotMode slot = 1 →
    nextInstant (c.get (K.loopSlotPeriod slot) * 1000) (c.get (K.loopSlotPhase slot) * 1000) (nth c.slots slot).instant ≤ c.now →
    Does (.loopPeriodTrigger slot) s (loopTrigger slot (c.updSlot slot fun (x : LoopSlot) => { x with instant := nextInstant (c.get (K.loopSlotPeriod slot) * 1000) (c.get (K.loopSlotPhase slot) * 1000) (nth c.slots slot).instant }))

/-- LOOP_SAMPLE_RUN (R349). After the samples whose deadline has passed, the sample that is next in order runs. -/
def LoopSampleRun : Prop :=
  ∀ (s : State) (c : Core) (d : Core) (k : Nat) (t : LoopWait),
    c = s.core →
    Live s 6 →
    c.loopOn = true →
    c.loopFree ≤ 2 * c.clock →
    (d = (List.range 64).foldl (fun (a : Core) (k : Nat) => loopExpire k a) c) →
    d.nextSample = some k →
    (nth d.slots k).wait = some t →
    Does .loopSampleRun s (loopRun k t d)

/-- LOOP_DEADLINE_MISS (R354). A sample whose deadline has passed is dropped. -/
def LoopDeadlineMiss : Prop :=
  ∀ (s : State) (c : Core) (slot : Nat),
    c = s.core →
    slot < 64 →
    Live s 6 →
    c.loopOn = true →
    Does (.loopDeadlineMiss slot) s (loopExpire slot c)

/-- LOOP_TONE_WRITE (R360). The tone writes that a sample of the slot made due start on the channels of its destination. -/
def LoopToneWrite : Prop :=
  ∀ (s : State) (c : Core) (slot : Nat),
    c = s.core →
    slot < 64 →
    Live s 6 →
    c.loopOn = true →
    (nth c.slots slot).toneDue = true →
    (nth c.slots slot).toneRuns = [] →
    Does (.loopToneWrite slot) s (slotStatus slot ((bitsOf 8 (srcFirst (c.get (K.loopSlotDest slot)))).foldl (fun (a : Core) (n : Nat) => toneStart slot n a) (c.updSlot slot fun (y : LoopSlot) => { y with toneDue := false })))

/-- LOOP_TONE_WRITE_DONE (R360). Tone writes that run end, with the tones computed from the slot's reference. -/
def LoopToneWriteDone : Prop :=
  ∀ (s : State) (c : Core) (slot : Nat),
    c = s.core →
    slot < 64 →
    Live s 6 →
    c.hubWaits = false →
    c.loopOn = true →
    (nth c.slots slot).toneRuns ≠ [] →
    Does (.loopToneWriteDone slot) s (slotStatus slot ((nth c.slots slot).toneRuns.foldl (fun (a : Core) (r : Nat × List Nat) => toneEnd slot r.1 (toneRef s.dram (c.get (K.loopSlotToneRef slot)) (c.updSlot slot fun (x : LoopSlot) => { x with toneRuns := [] })).1 r.2 a) (toneRef s.dram (c.get (K.loopSlotToneRef slot)) (c.updSlot slot fun (x : LoopSlot) => { x with toneRuns := [] })).2))

/-- LOOP_PENDING_WRITE (R360). Tone writes that waited for a channel to drain start once it has. -/
def LoopPendingWrite : Prop :=
  ∀ (s : State) (c : Core) (slot : Nat),
    c = s.core →
    slot < 64 →
    Live s 6 →
    c.loopOn = true →
    Does (.loopPendingWrite slot) s (slotStatus slot (((bitsOf 8 (nth c.slots slot).tonePend).filter fun (n : Nat) => !c.draining n && !(nth c.slots slot).toneRuns.any fun (r : Nat × List Nat) => r.1 = n).foldl (fun (a : Core) (n : Nat) => toneStart slot n a) c))

/-- AIN_SEQ_PERIOD (R364). At each instant of its period a sequence starts. -/
def AinSeqPeriod : Prop :=
  ∀ (s : State) (c : Core) (q : Nat),
    c = s.core →
    q < 8 →
    Live s 6 →
    c.loopOn = true →
    c.get (K.loopSeqPeriod q) ≠ 0 →
    nextInstant (c.get (K.loopSeqPeriod q) * 1000) 0 (nth c.ainSeqs q).instant ≤ c.now →
    Does (.ainSeqPeriod q) s (seqStart q false { c with ainSeqs := upd c.ainSeqs q fun (x : AinSeq) => { x with instant := nextInstant (c.get (K.loopSeqPeriod q) * 1000) 0 (nth c.ainSeqs q).instant } })

/-- AIN_SEQ_DONE (R364). A sequence that ends stores its results and triggers the slots in mode 3. -/
def AinSeqDone : Prop :=
  ∀ (s : State) (c : Core) (q : Nat) (codes : List Nat),
    c = s.core →
    q < 8 →
    Live s 6 →
    c.loopOn = true →
    (nth c.ainSeqs q).running = true →
    Does (.ainSeqDone q codes) s (loopTriggerAll 3 q ((c.seqInputs q).zipIdx.foldl (fun (a : Core) (p : Nat × Nat) => a.set (K.loopSeqResult q) (setElem 16 (a.get (K.loopSeqResult q)) p.2 (if p.1 = 24 then codes.getD p.2 0 else codes.getD p.2 0 % 4096))) { c with ainSeqs := upd c.ainSeqs q fun (x : AinSeq) => { x with running := false } }))

/-- AIN_SCAN_CONVERSION (R363). A converted input that the scan covers shows its value, and the rails follow. -/
def AinScanConversion : Prop :=
  ∀ (s : State) (c : Core) (input code : Nat),
    c = s.core →
    input < 25 →
    Live s 1 →
    c.loopOn = true →
    c.bitOf K.loopAinScan input = true →
    Does (.ainScanConversion input code) s (railRun (railTrack (ainValue input code c)))

end Sys2Proof.Effect
end

