-- ==== Sys2Proof/Effects/ObjectWrites.lean ====
section
/-! DEFINITION. Sys2Proof/Effects/ObjectWrites.lean: what the commands of family ObjectWrites do:
for each, conditions on the machine and the operands under which it completes, and the machine it leaves. -/

namespace Sys2Proof.Effect
open Sys2Proof.Machine

/-- OBJECT_WRITE (R314). A write of an RW object that carries no action of its own block stores the value, with what follows from it (applyValue). -/
def ObjectWrite : Prop :=
  ∀ (s : State) (c : Core) (w : Writer) (index sub typ offset : Nat) (data : List Byte) (d : Desc) (e : Core),
    c = s.core →
    Live s 1 →
    c.serverSilent = false →
    c.serverBusy = none →
    c.resolve index sub = some d →
    (writeCheck w d typ offset data c s.dram).1 = 0 →
    d.acc = .rw →
    isCue (d.obj.key / 256) = false →
    isImage (d.obj.key / 256) (d.obj.key % 256) = false →
    e = auditWrite w (d.obj.key / 256) (d.obj.key % 256) 0 (auditValue (some d) data) c →
    DoesMem (.objectWrite w index sub typ offset data) s ((setReply 0 (writeCheck w d typ offset data c s.dram).2 (lockRefresh w (applyValue d.obj (writeWhole e d offset data) offset data.length e)), s.dram))

/-- STAGED_WRITE (R316). A write of an RW-S object stages the value under its writer and leaves the value in force. -/
def StagedWrite : Prop :=
  ∀ (s : State) (c : Core) (w : Writer) (index sub typ offset : Nat) (data : List Byte) (d : Desc) (e : Core),
    c = s.core →
    Live s 1 →
    c.serverSilent = false →
    c.serverBusy = none →
    c.resolve index sub = some d →
    (writeCheck w d typ offset data c s.dram).1 = 0 →
    d.acc = .rws →
    e = auditWrite w (d.obj.key / 256) (d.obj.key % 256) 0 (auditValue (some d) data) c →
    DoesMem (.stagedWrite w index sub typ offset data) s ((setReply 0 (writeCheck w d typ offset data c s.dram).2 (lockRefresh w (stageValue d.obj (writeWhole e d offset data) w e)), s.dram))

/-- CUE_ENTRY_WRITE (R81). A write of a cue entry replaces the entry in place, at once. -/
def CueEntryWrite : Prop :=
  ∀ (s : State) (c : Core) (w : Writer) (entry sub offset : Nat) (data : List Byte) (d : Desc) (e : Core),
    c = s.core →
    entry < 4096 →
    Live s 1 →
    c.serverSilent = false →
    c.serverBusy = none →
    c.resolve (0x2000 + entry) sub = some d →
    d.obj.key = (0x2000 + entry) * 256 + sub →
    sub < 256 →
    (writeCheck w d 0 offset data c s.dram).1 = 0 →
    d.acc = .rw →
    e = auditWrite w (0x2000 + entry) sub 0 (auditValue (some d) data) c →
    DoesMem (.cueEntryWrite w entry sub offset data) s ((setReply 0 (writeCheck w d 0 offset data c s.dram).2 (lockRefresh w (e.set (K.cueEntry entry) (cueWith (cueEntryOf e entry) sub (writeWhole e d offset data)))), s.dram))

/-- FW_IMAGE_WRITE (R468). A write of FW.IMAGE stages one block of the image; the block at offset 0 begins a new image. -/
def FwImageWrite : Prop :=
  ∀ (s : State) (c : Core) (w : Writer) (offset : Nat) (data : List Byte) (d : Desc) (e : Core),
    c = s.core →
    Live s 1 →
    c.serverSilent = false →
    c.serverBusy = none →
    c.resolve 0x0600 1 = some d →
    d.obj.key = 0x0600 * 256 + 1 →
    (writeCheck w d 0 offset data c s.dram).1 = 0 →
    d.acc ≠ .wo →
    d.acc ≠ .rws →
    e = auditWrite w 0x0600 1 0 (auditValue (some d) data) c →
    DoesMem (.fwImageWrite w offset data) s ((setReply 0 (writeCheck w d 0 offset data c s.dram).2 (lockRefresh w (imageStage offset data e)), s.dram))

end Sys2Proof.Effect
end

