-- ==== Sys2Proof/Effects/Position.lean ====
section
/-! DEFINITION. Sys2Proof/Effects/Position.lean: what the commands of family Position do:
for each, conditions on the machine and the operands under which it completes, and the machine it leaves. -/

namespace Sys2Proof.Effect
open Sys2Proof.Machine

/-- ENC_EDGE (R33). A filtered change of one of A and B counts +1 in the forward sequence and -1 otherwise, before the index functions look at the sample. -/
def EncEdge : Prop :=
  ∀ (s : State) (c : Core) (n : Nat) (a b : Bool),
    c = s.core →
    n < 4 →
    Live s 4 →
    c.get (K.encSource n) = 0 →
    (a != (nth c.encs n).a) != (b != (nth c.encs n).b) →
    Does (.encEdge n a b) s (dropReversedAll (let fwd := ((a, b) = quadNext (nth c.encs n).a (nth c.encs n).b) != c.bitOf (K.encInvert n) 0
  let c' := { c with encs := upd c.encs n fun (x : Enc) => { x with a := a, b := b, abAt := some c.sample } }
  encJudge (encCount (c'.setBitOf (K.encStatus n) 3 (!fwd)) n (if fwd then 1 else -1) c.sample) n (nth c.encs n).zAt))

/-- ENC_UNRELIABLE (R34). With more than DOUBLE_LIMIT double edges in the window the status shows it and ENC_UNRELIABLE is active. -/
def EncUnreliable : Prop :=
  ∀ (s : State) (c : Core) (n : Nat),
    c = s.core →
    n < 4 →
    Live s 4 →
    c.get (K.encDoubleLimit n) < doublesInWindow c n →
    c.bitOf (K.encStatus n) 2 = false →
    Does (.encUnreliable n) s ((c.setBitOf (K.encStatus n) 2 true).raiseHeld (0x0B10 + n) 2 (doublesInWindow c n))

/-- ENC_INDEX (R36). The filtered Z takes its level; when the pair AB has changed in the same sample, the index functions judge the sample at once. -/
def EncIndex : Prop :=
  ∀ (s : State) (c : Core) (n : Nat) (z : Bool),
    c = s.core →
    n < 4 →
    Live s 4 →
    z = true →
    c.bitOf (K.encInvert n) 1 = false →
    (nth c.encs n).z = false →
    (nth c.encs n).abAt = some c.sample →
    Does (.encIndex n z) s (encSettle { c with encs := upd c.encs n fun (x : Enc) => { x with z := true, zAt := some c.sample } } n)

/-- SPOS_REQUEST (R40). At each period the port lowers its clock line to start a request, when the data line is high. -/
def SposRequest : Prop :=
  ∀ (s : State) (c : Core) (n : Nat) (dataHigh : Bool),
    c = s.core →
    n < 4 →
    Live s 4 →
    dataHigh = true →
    c.get (K.sposEnable n) = 1 →
    (nth c.sposs n).nextReq ≤ c.sample →
    Does (.sposRequest n dataHigh) s (sposClk { c with sposs := upd (upd c.sposs n fun (x : Spos) => { x with nextReq := c.sample + c.get (K.sposPeriod n) / 5 }) n fun (x : Spos) => { x with req := some (c.sample, c.clock), reqTime := c.now, wordDone := false, timeoutDone := false, edges := sposEdges c n, edgeAt := c.sample + sposK (c.get (K.sposClkFreq n)) } } n false)

/-- SPOS_WORD (R46). A word that starts in time, passes its CRC and every check is a good word: position and status go to the count. -/
def SposWord : Prop :=
  ∀ (s : State) (c : Core) (n startClocks delay word : Nat) (stamp t0 : Nat),
    c = s.core →
    n < 4 →
    Live s 4 →
    (nth c.sposs n).req = some (stamp, t0) →
    (nth c.sposs n).wordDone = false →
    startClocks ≤ c.get (K.sposStartTimeout n) →
    delay ≤ 2000 →
    c.get (K.sposCrcSel n) = 0 →
    c.get (K.sposStatusBits n) = 0 →
    c.get (K.sposMaxStep n) = 0 →
    Does (.sposWord n startClocks delay word) s (dropReversedAll (sposGood ((sposTaken c n).satN (K.sposLineDelay n) (delay / 5 * 5)) n (word % 2 ^ c.get (K.sposPosBits n)) 0 stamp))

/-- SPOS_WORD_TIMEOUT (R44). A data line not high within WORD_TIMEOUT of the request counts and raises SPOS_TIMEOUT; here the word had come before. -/
def SposWordTimeout : Prop :=
  ∀ (s : State) (c : Core) (n : Nat) (stamp t0 : Nat),
    c = s.core →
    n < 4 →
    Live s 4 →
    (nth c.sposs n).req = some (stamp, t0) →
    (nth c.sposs n).timeoutDone = false →
    (nth c.sposs n).wordDone = true →
    stamp + c.get (K.sposWordTimeout n) / 5 ≤ c.sample →
    Does (.sposWordTimeout n) s (({ c with sposs := upd c.sposs n fun (x : Spos) => { x with timeoutDone := true } }.bump (K.sposTimeouts n)).raise (0x0B20 + n) 2 (c.clock - t0))

/-- SPOS_LOST (R45). ERROR_LIMIT consecutive bad words raise SPOS_LOST and set UNCERTAIN. -/
def SposLost : Prop :=
  ∀ (s : State) (c : Core) (n : Nat),
    c = s.core →
    n < 4 →
    Live s 4 →
    (nth c.sposs n).lostRaised = false →
    c.get (K.sposErrorLimit n) ≤ (nth c.sposs n).badRun →
    Does (.sposLost n) s ((({ c with sposs := upd c.sposs n fun (x : Spos) => { x with lostRaised := true } }.setBitOf (K.encStatus n) 1 true).setBitOf (K.encStatus n) 5 true).raise (0x0B20 + n) 5 (nth c.sposs n).badRun)

/-- PASS_OVERRUN (R49). Counts that a period leaves over increment PASSn.OVERRUNS and raise PASS_OVERRUN. -/
def PassOverrun : Prop :=
  ∀ (s : State) (c : Core) (p : Nat),
    c = s.core →
    p < 2 →
    Live s 4 →
    c.get (K.passMode p) = 2 →
    (nth c.passes p).overrunDone = false →
    (nth c.passes p).left ≠ 0 →
    (nth c.passes p).start + (nth c.passes p).len ≤ c.sample →
    Does (.passOverrun p) s ((let d := { c with passes := upd c.passes p fun (y : Pass) => { y with overrunDone := true } }.bump (K.passOverruns p)
  d.raise (0x0B30 + p) 1 (d.get (K.passOverruns p))))

/-- COMPARE_TARGET (R52). In regular-spacing mode the crossing from the next target to the one that the position now has, with pulses still to come. -/
def CompareTarget : Prop :=
  ∀ (s : State) (c : Core) (n : Nat) (d : Core),
    c = s.core →
    n < 8 →
    Live s 4 →
    (nth c.cmps n).armed = true →
    c.get (K.cmpMode n) = 1 →
    d = cmpCross c n (nth c.cmps n).k (targetsUpTo (cmpPitch c n) (cmpDist c n (nth c.cmps n).k (cmpPos c n))) (targetsUpTo (cmpPitch c n) (cmpDist c n (nth c.cmps n).k (nth c.cmps n).high - 1)) →
    (d.get (K.cmpCount n) = 0 ∨ d.get (K.cmpFired n) < d.get (K.cmpCount n)) →
    Does (.compareTarget n) s (d)

/-- CMP_PULSE (R53). In list mode the same crossing, over the CMP_PULSE entries of the range, while targets remain. -/
def CmpPulse : Prop :=
  ∀ (s : State) (c : Core) (n : Nat) (k2 kh : Nat),
    c = s.core →
    n < 8 →
    Live s 4 →
    (nth c.cmps n).armed = true →
    c.get (K.cmpMode n) = 2 →
    k2 = cmpListIndex c n (cmpListTargets c n) (cmpPos c n) (nth c.cmps n).k →
    kh = cmpListForward c n (cmpListTargets c n) (posAdd (nth c.cmps n).high (-1)) 4096 (nth c.cmps n).k →
    cmpListHas (cmpCross c n (nth c.cmps n).k k2 kh) n (cmpListTargets c n) k2 = true →
    Does (.cmpPulse n) s (cmpCross c n (nth c.cmps n).k k2 kh)

/-- CMP_PULSE_END (R51). A pulse ends after its width, and the pin returns to its idle level. -/
def CmpPulseEnd : Prop :=
  ∀ (s : State) (c : Core) (n : Nat) (t : Nat),
    c = s.core →
    n < 8 →
    Live s 4 →
    (nth c.cmps n).pulseEnd = some t →
    t ≤ c.sample →
    (nth c.cmps n).deferred = [] →
    Does (.cmpPulseEnd n) s ({ c with cmps := upd c.cmps n fun (y : Cmp) => { y with pulseEnd := none, deferred := [] } }.emit (.pin "CMP" n (if c.get (K.cmpPolarity n) = 1 then 1 else 0)))

/-- CMP_CAPTURE (R56). The first accepted edge in capture mode latches the followed position and the time of the first sample of the edge. -/
def CmpCapture : Prop :=
  ∀ (s : State) (c : Core) (n : Nat) (rising : Bool) (pos time chPos : Nat),
    c = s.core →
    n < 8 →
    Live s 4 →
    c.get (K.cmpMode n) = 3 →
    c.get (K.cmpCaptEdge n) = 3 →
    (nth c.cmps n).captured = false →
    (nth c.cmps n).history.getD (c.get (K.cmpCaptFilter n)) (cmpPos c n, c.now, c.chPos (c.get (K.cmpRingCh n))) = (pos, time, chPos) →
    Does (.cmpCapture n rising) s ((let d := { c with cmps := upd c.cmps n fun (y : Cmp) => { y with captured := true } }
  let d := (d.set (K.cmpCaptPos n) pos).set (K.cmpCaptTime n) time
  captureWalks (cmpRecord d n (if rising then 1 else 2) pos time chPos) n pos))

/-- ENC_RAW_PULSE (R31). A raw pulse shorter than FILTER + 1 samples increments GLITCHES. -/
def EncRawPulse : Prop :=
  ∀ (s : State) (c : Core) (n : Nat),
    c = s.core →
    n < 4 →
    Live s 4 →
    Does (.encRawPulse n) s (c.bump (K.encGlitches n))

end Sys2Proof.Effect
end

