-- ==== Sys2Proof/Effects/Quadrille.lean ====
section
/-! DEFINITION. Sys2Proof/Effects/Quadrille.lean: what the commands of family Quadrille do:
for each, conditions on the machine and the operands under which it completes, and the machine it leaves. -/

namespace Sys2Proof.Effect
open Sys2Proof.Machine

/-- QD_RECAST_REQ (R393). A Recast of this device is proposed to the others. -/
def QdRecastReq : Prop :=
  ∀ (s : State) (c : Core),
    c = s.core →
    Live s 4 →
    c.rcst.tellPeers = true →
    c.get K.qdEnable = 1 →
    Does .qdRecastReq s (qdPropose { word := 0x04000000, written := false } (c.updRcst fun (x : Rcst) => { x with tellPeers := false }))

/-- QD_RECAST_GO (R393). A device in APPROACH proposes GO. -/
def QdRecastGo : Prop :=
  ∀ (s : State) (c : Core),
    c = s.core →
    Live s 4 →
    c.rcst.tellGo = true →
    c.get K.rcstPhase = 4 →
    c.get K.qdEnable = 1 →
    Does .qdRecastGo s (qdPropose { word := 0x05000000, written := false } (c.updRcst fun (x : Rcst) => { x with tellGo := false }))

/-- QD_LINE_FALL (R394). The line going low begins a step: the device holds it low and takes the time and the position. -/
def QdLineFall : Prop :=
  ∀ (s : State) (c : Core),
    c = s.core →
    Live s 4 →
    c.qd.high = true →
    ((c.updQd fun (q : Qd) => { q with high := false }).qdActive = true) →
    Does .qdLineFall s (c.updQd fun (q : Qd) => { q with high := false, holds := true, busy := true, fallAt := c.clock, tFall := c.now, pFall := c.stampPos, recs := [], sent := none, failed := false, told := List.replicate 8 0 })

/-- QD_RECORD (R395). The record of a known peer during a step takes the place of the peer's earlier one. -/
def QdRecord : Prop :=
  ∀ (s : State) (c : Core) (p : Nat) (payload : List Byte) (x : QdRec),
    c = s.core →
    p < 2 →
    Live s 4 →
    c.qdActive = true →
    p = c.get K.qdPort →
    qdParse payload = some x →
    x.addr ≠ c.get K.qdAddr →
    ((c.qd.serials.find? fun (y : Nat × Nat) => y.1 = x.addr) = some (x.addr, x.serial)) →
    c.qd.high = false →
    (c.get K.qdPeers).testBit x.addr = true →
    qdKind x.prop ≠ 4 →
    Does (.qdRecord p payload) s (c.updQd fun (q : Qd) => { q with recs := x :: (c.qd.recs.filter fun (y : QdRec) => y.addr != x.addr) })

/-- QD_REPEAT (R394). A device that holds the line sends its record again each REPEAT. -/
def QdRepeat : Prop :=
  ∀ (s : State) (c : Core) (x : QdRec),
    c = s.core →
    Live s 4 →
    c.qd.sent = some x →
    c.qdActive = true →
    c.qd.busy = true →
    c.qd.holds = true →
    c.qd.sentAt + c.get K.qdRepeat * 1000 ≤ c.clock →
    Does .qdRepeat s (qdSend x c)

/-- QD_LINE_RISE (R394). The line going high after the device released it completes the step with the proposal that won. -/
def QdLineRise : Prop :=
  ∀ (s : State) (c : Core) (x : QdRec) (d : Core) (word : Nat) (who : Option Nat),
    c = s.core →
    Live s 4 →
    c.qd.high = false →
    c.qd.holds = false →
    (d = c.updQd fun (q : Qd) => { q with high := true }) →
    d.qdActive = true →
    d.qd.busy = true →
    d.qd.sent = some x →
    d.qdWinner d.qdCarried = some (word, who) →
    Does .qdLineRise s (qdComplete word who (d.qd.recs.foldl (fun (a : Nat) (y : QdRec) => max a y.stepNo) x.stepNo) x.digest d)

/-- QD_STEP_TIMEOUT (R398). A step that no device has proposed anything in and that has not ended within STEP_TIMEOUT fails. -/
def QdStepTimeout : Prop :=
  ∀ (s : State) (c : Core),
    c = s.core →
    Live s 4 →
    c.qdActive = true →
    c.qd.busy = true →
    c.qd.holds = true →
    c.qd.failed = false →
    c.qd.fallAt + c.get K.qdStepTimeout * 1000000 ≤ c.clock →
    c.qdOwn = none →
    ((c.qd.recs.any fun (r : QdRec) => r.prop != qdNone) = false) →
    (c.bump K.qdFails).qd.tFall = c.qd.tFall →
    Does .qdStepTimeout s (((c.bump K.qdFails).raiseHeld 0x0E03 1 (c.qd.tFall % 2 ^ 32)).updQd fun (q : Qd) => { q with failed := true })

end Sys2Proof.Effect
end

