-- ==== Sys2Proof/Effects/Rails.lean ====
section
/-! DEFINITION. Sys2Proof/Effects/Rails.lean: what the commands of family Rails do:
for each, conditions on the machine and the operands under which it completes, and the machine it leaves. -/

namespace Sys2Proof.Effect
open Sys2Proof.Machine

/-- RAIL_GOOD (R418). The power-good input of a rail goes high, and the sequencer goes on. -/
def RailGood : Prop :=
  ∀ (s : State) (c : Core) (r : Nat),
    c = s.core →
    r < 24 →
    Live s 1 →
    Does (.railGood r) s (railRun (railTrack (setPg r true c)))

/-- RAIL_DISCHARGED (R418). The power-good input of a rail goes low, and the sequencer goes on. -/
def RailDischarged : Prop :=
  ∀ (s : State) (c : Core) (r : Nat),
    c = s.core →
    r < 24 →
    Live s 1 →
    Does (.railDischarged r) s (railRun (railTrack (setPg r false c)))

/-- RAIL_ON_DELAY (R419). The delay of an order over, the sequencer goes on. -/
def RailOnDelay : Prop :=
  ∀ (s : State) (c : Core) (r : Nat),
    c = s.core →
    r < 24 →
    Live s 1 →
    Does (.railOnDelay r) s (railRun c)

/-- RAIL_SETTLE_DONE (R419). The settling time over, the sequencer goes on. -/
def RailSettleDone : Prop :=
  ∀ (s : State) (c : Core),
    c = s.core →
    Live s 1 →
    Does .railSettleDone s (railRun c)

/-- RAIL_ON_TIMEOUT (R419). A rail of the order in progress not good within its ON_TIMEOUT raises RAIL_ON_TIMEOUT with 1; the step is undone and the target falls back. -/
def RailOnTimeout : Prop :=
  ∀ (s : State) (c : Core) (r : Nat) (x : RailStep) (d : Core),
    c = s.core →
    r < 24 →
    Live s 1 →
    c.rail.step = some x →
    (c.groupRails x.s (x.orders.headD 256)).contains r = true →
    x.t + c.get (K.railOnTimeout r) * 1000 ≤ c.clock →
    x.phase = 2 →
    c.railGoodAt r x.t = false →
    x.up = true →
    d = c.raise (0x0540 + r) 1 (2 ^ 56 * 1 + c.railMvWord r) →
    Does (.railOnTimeout r) s (railRun (railUndo x ((d.set K.railTarget (x.s - 1)).updRail fun (y : Rail) => { y with goal := x.s - 1 })))

/-- RAIL_OFF_TIMEOUT (R419). A rail of the order in progress not discharged within its OFF_TIMEOUT raises RAIL_OFF_TIMEOUT and is passed. -/
def RailOffTimeout : Prop :=
  ∀ (s : State) (c : Core) (r : Nat) (x : RailStep),
    c = s.core →
    r < 24 →
    Live s 1 →
    c.rail.step = some x →
    x.up = false →
    x.phase = 4 →
    (c.groupRails x.s (x.orders.headD 256)).contains r = true →
    x.passed.contains r = false →
    c.railDischargedAt r x.cutAt = false →
    x.t + c.get (K.railOffTimeout r) * 1000 ≤ c.clock →
    Does (.railOffTimeout r) s (railRun (setStep (some { x with passed := r :: x.passed }) (c.raise (0x0560 + r) 1 (2 ^ 16 * bitN (c.get K.railPgIn) r + c.railMvWord r))))

/-- RAIL_LOST (R420). A rail that is on and whose power-good input falls is lost: STATUS 4, RAIL_LOST, and the fault is raised, with its fault move to below the rail's state. -/
def RailLost : Prop :=
  ∀ (s : State) (c : Core) (r : Nat) (d : Core),
    c = s.core →
    r < 24 →
    Live s 1 →
    c.get (K.railStatus r) = 2 →
    c.rail.on.testBit r = true →
    c.inStepUp r = false →
    c.pgUsed r = true →
    d = (((setPg r false c).set (K.railStatus r) 4).setBitOf K.railFailedMap r true).raiseHeld (0x0520 + r) 1 (2 ^ 16 * bitN (((((setPg r false c).set (K.railStatus r) 4).setBitOf K.railFailedMap r true)).get K.railPgIn) r + ((((setPg r false c).set (K.railStatus r) 4).setBitOf K.railFailedMap r true)).railMvWord r) →
    Does (.railLost r) s (d)

/-- RAIL_LOG_PROGRAM_DONE (R426). A programmed record of the rail log leaves the queue and is in its slot. -/
def RailLogProgramDone : Prop :=
  ∀ (s : State) (c : Core) (ok : Bool) (seq : Nat) (bytes : List Byte) (rest : List (Nat × List Byte)),
    c = s.core →
    Live s 1 →
    ok = true →
    c.rail.erasing = false →
    c.rail.queue = (seq, bytes) :: rest →
    Does (.railLogProgramDone ok) s (logAdvance { (c.updRail fun (x : Rail) => { x with queue := rest }) with nor := { c.nor with log := c.nor.log ++ [({ slot := c.nor.logSlot, seq := seq, bytes := bytes } : LogRec)] } })

end Sys2Proof.Effect
end

