-- ==== Sys2Proof/Effects/Recast.lean ====
section
/-! DEFINITION. Sys2Proof/Effects/Recast.lean: what the commands of family Recast do:
for each, conditions on the machine and the operands under which it completes, and the machine it leaves. -/

namespace Sys2Proof.Effect
open Sys2Proof.Machine

/-- HELD_STOP (R223). At a line boundary the request holds the channel: HELD_LINE is the next line, CHn.STATE 4, with its record. -/
def HeldStop : Prop :=
  ∀ (s : State) (c : Core) (n : Nat),
    c = s.core →
    n < 8 →
    Live s (7 + n) →
    (nth c.jobs n).holdReq = true →
    c.get (K.chState n) = 3 →
    reached (c.chPos n) (256 * (c.get (K.chLineHigh n) + 1) % posMod) = true →
    Does (.heldStop n) s ((setChState n 4 (lateEnds n ((c.set (K.chHeldLine n) (c.get (K.chLineHigh n) + 1)).updJob n fun (x : ChJob) => { x with holdReq := false, heldFrom := c.get (K.chState n) }))).recordCh (6 * n + 2) n (0x1008 + 0x100 * n) 5 (2 ^ 56 * (setChState n 4 (lateEnds n ((c.set (K.chHeldLine n) (c.get (K.chLineHigh n) + 1)).updJob n fun (x : ChJob) => { x with holdReq := false, heldFrom := c.get (K.chState n) }))).get K.rcstLastReason + (c.get (K.chLineHigh n) + 1) % 2 ^ 40))

/-- RECAST_BACKUP (R226). Once the web has reached P_CLEAR the phase becomes BACKUP. -/
def RecastBackup : Prop :=
  ∀ (s : State) (c : Core),
    c = s.core →
    Live s 1 →
    c.get K.rcstPhase = 1 →
    reached c.rcstWeb (c.get K.rcstPClear) = true →
    Does .recastBackup s (setPhase 2 (c.updRcst fun (x : Rcst) => { x with goArmed := false }))

/-- RECAST_WAIT (R226). Once the web is at or behind P_BACK the phase becomes WAIT. -/
def RecastWait : Prop :=
  ∀ (s : State) (c : Core),
    c = s.core →
    Live s 1 →
    c.get K.rcstPhase = 2 →
    reached (c.get K.rcstPBack) c.rcstWeb = true →
    Does .recastWait s (setPhase 3 c)

/-- RECAST_APPROACH (R226). Once every held channel has its data the phase becomes APPROACH, and Quadrille is told when it is enabled. -/
def RecastApproach : Prop :=
  ∀ (s : State) (c : Core),
    c = s.core →
    Live s 1 →
    c.get K.rcstPhase = 3 →
    c.heldChannels.all c.readyData = true →
    Does .recastApproach s (setPhase 4 (if c.get K.qdEnable = 1 then c.updRcst (fun (x : Rcst) => { x with tellGo := true }) else c))

/-- RECAST_DECIDE (R228). At P_DECIDE on the way forward, with every held channel ready, the decision is GO: phase SPLICE. -/
def RecastDecide : Prop :=
  ∀ (s : State) (c : Core),
    c = s.core →
    Live s 1 →
    c.get K.rcstPhase = 4 →
    c.rcst.below = true →
    reached c.rcstWeb (c.get K.rcstPDecide) = true →
    ((c.updRcst fun (x : Rcst) => { x with below := false }).heldChannels.all (c.updRcst fun (x : Rcst) => { x with below := false }).heldReady = true) →
    c.severalDevices = false →
    Does .recastDecide s (setPhase 5 (c.updRcst fun (x : Rcst) => { x with below := false }))

/-- CHANNEL_RESUME (R228). At its held line a ready channel resumes its state, records it, and takes the boundary of the line. -/
def ChannelResume : Prop :=
  ∀ (s : State) (c : Core) (n : Nat),
    c = s.core →
    n < 8 →
    Live s (7 + n) →
    c.get K.rcstPhase = 5 →
    c.get (K.chState n) = 4 →
    (nth c.lines n).boundAt ≠ some c.sample →
    reached (c.chPos n) (256 * c.get (K.chHeldLine n) % posMod) = true →
    c.heldReady n = true →
    Does (.channelResume n) s ((let line := c.get (K.chHeldLine n)
  let d := setChState n (nth (c.updRcst fun (x : Rcst) => { x with resumed := true }).jobs n).heldFrom
    (c.updRcst fun (x : Rcst) => { x with resumed := true })
  let d := d.recordCh (6 * n + 2) n (0x1008 + 0x100 * n) 6 (2 ^ 56 * (d.rcst.passes % 256) + line % 2 ^ 40)
  let late := (nth d.jobs n).lateLine
  let d := d.updJob n fun (x : ChJob) => { x with lateLine := none }
  takeBoundary s.dram n line (match late with | some l => fetchLine n l d | none => d)))

/-- RECAST_OVERRUN (R225). A web beyond the request by OVERRUN_MAX raises RECAST_OVERRUN, once a Recast. -/
def RecastOverrun : Prop :=
  ∀ (s : State) (c : Core),
    c = s.core →
    Live s 1 →
    c.get K.rcstPhase ≠ 0 →
    c.rcst.overrun = false →
    reached c.rcstWeb (posAdd (c.get K.rcstPRequest) (c.get K.rcstOverrunMax : Nat)) = true →
    Does .recastOverrun s ((c.updRcst fun (x : Rcst) => { x with overrun := true }).raise 0x0252 1 (c.updRcst fun (x : Rcst) => { x with overrun := true }).rcstWeb)

/-- RECAST_HOLD_TIMEOUT (R231). A Recast not in SPLICE at HOLD_TIMEOUT after its request raises RECAST_TIMEOUT with detail 1. -/
def RecastHoldTimeout : Prop :=
  ∀ (s : State) (c : Core),
    c = s.core →
    Live s 1 →
    c.get K.rcstPhase ≠ 0 →
    c.get K.rcstPhase ≠ 5 →
    c.rcst.requestAt + c.get K.rcstHoldTimeout * 1000000 ≤ c.clock →
    Does .recastHoldTimeout s (c.raise 0x0253 1 1)

/-- RECAST_PASS_LIMIT (R231). MAX_PASSES NO-GO decisions raise RECAST_TIMEOUT with detail 2. -/
def RecastPassLimit : Prop :=
  ∀ (s : State) (c : Core),
    c = s.core →
    Live s 1 →
    c.get K.rcstPhase ≠ 0 →
    c.get K.rcstMaxPasses ≤ c.rcst.passes →
    Does .recastPassLimit s (c.raise 0x0253 1 2)

end Sys2Proof.Effect
end

