-- ==== Sys2Proof/Effects/Services.lean ====
section
/-! DEFINITION. Sys2Proof/Effects/Services.lean: what the commands of family Services do:
for each, conditions on the machine and the operands under which it completes, and the machine it leaves. -/

namespace Sys2Proof.Effect
open Sys2Proof.Machine

/-- PD_SWITCH_DONE (R28). A domain that goes off, the first of those that wait, is off; domains that come on wait for it. -/
def PdSwitchDone : Prop :=
  ∀ (s : State) (c : Core) (d : Nat) (rest : List Nat),
    c = s.core →
    d < 17 →
    Live s 0 →
    c.boot.offs = d :: rest →
    Does (.pdSwitchDone d) s (domainSet d false { c with boot := { c.boot with offs := rest } })

/-- LOCK_LEASE_EXPIRY (R324). A lease that runs out while no long operation runs orphans the lock. -/
def LockLeaseExpiry : Prop :=
  ∀ (s : State) (c : Core) (k : Nat),
    c = s.core →
    k < 10 →
    Live s 1 →
    c.fw.op = 0 →
    (nth c.locks k).ends ≤ c.clock →
    Does (.lockLeaseExpiry k) s (lockOrphan k c)

/-- OP_END (R327). A long operation that fails ends with result 2 and its detail; here STORE. -/
def OpEnd : Prop :=
  ∀ (s : State) (c : Core) (ok : Bool) (detail : Nat),
    c = s.core →
    Live s 1 →
    ok = false →
    c.fw.op = 1 →
    Does (.opEnd ok detail) s (opDone 2 (detail % 2 ^ 32) c)

/-- OP_TIMEOUT (R327). A long operation that has not ended by its longest time ends with result 3; here one other than DRAM_RETRAIN. -/
def OpTimeout : Prop :=
  ∀ (s : State) (c : Core),
    c = s.core →
    Live s 1 →
    c.fw.op ≠ 0 →
    c.fw.op ≠ 5 →
    c.fw.opAt + opMax c.fw.op * 1000000 ≤ c.clock →
    Does .opTimeout s (opDoneFree 3 c)

end Sys2Proof.Effect
end

