-- ==== Sys2Proof/Effects/Startup.lean ====
section
/-! DEFINITION. Sys2Proof/Effects/Startup.lean: what the commands of family Startup do:
for each, conditions on the machine and the operands under which it completes, and the machine it leaves. -/

namespace Sys2Proof.Effect
open Sys2Proof.Machine

/-- RESET_N_ASSERT (R429). RESET_N low outside a reset is a reset with cause 2, and lasts while it is low. -/
def ResetNAssert : Prop :=
  ∀ (s : State) (c : Core),
    c = s.core →
    c.boot.inReset = false →
    DoesReset .resetNAssert s ({ doReset 2 c with boot := { (doReset 2 c).boot with resetLow := true } })

/-- SUPPLY_OUT_OF_RANGE (R429). A supply out of range outside a reset is a reset with cause 4, and lasts while it is out of range. -/
def SupplyOutOfRange : Prop :=
  ∀ (s : State) (c : Core),
    c = s.core →
    c.boot.inReset = false →
    DoesReset .supplyOutOfRange s ({ doReset 4 c with boot := { (doReset 4 c).boot with supplyBad := true } })

/-- RESET_END (R432). The end of a reset begins the boot: the slot is chosen and the settings are loaded. -/
def ResetEnd : Prop :=
  ∀ (s : State) (c : Core),
    c = s.core →
    c.boot.inReset = true →
    DoesReset .resetEnd s (bootSettings (bootSlot (bootBegin c)))

/-- BOOT_COMPLETE (R432). Step 9 of the boot: the time it took, the count of boots, BOOT_DONE, the live counters and the state; then PTP and Quadrille begin. -/
def BootComplete : Prop :=
  ∀ (s : State) (c : Core) (d e : Core),
    c = s.core →
    Live s 1 →
    c.boot.step = 8 →
    c.get K.fwRecovery = 0 →
    d = { c with boot := { c.boot with step := 9, raises := [] } }.set K.devBootTime (c.clock / 1000) →
    e = ({ d.set K.devBoots (satU 32 (d.nor.boots + 1)) with nor := { d.nor with boots := satU 32 (d.nor.boots + 1) } } : Core).raise 0x0201 1 (2 ^ 56 * d.boot.cause + c.clock / 1000 % 2 ^ 32) →
    Does .bootComplete s (qdJoin (ptpStart ((aliveStop (bootState { e with raises := e.raises ++ c.boot.raises })).updPtp fun (x : Ptp) => { x with run := true })))

end Sys2Proof.Effect
end

