-- ==== Sys2Proof/Effects/Time.lean ====
section
/-! DEFINITION. Sys2Proof/Effects/Time.lean: what the commands of family Time do:
for each, conditions on the machine and the operands under which it completes, and the machine it leaves. -/

namespace Sys2Proof.Effect
open Sys2Proof.Machine

/-- PTP_SYNC_RX (R380). A one-step SYNC from the parent is counted and gives an offset. -/
def PtpSyncRx : Prop :=
  ∀ (s : State) (c : Core) (p : Nat) (msg : PtpMsg),
    c = s.core →
    p < 2 →
    Live s 4 →
    c.ptpHears p msg = true →
    (c.bump K.timePtpSyncs).fromParent msg = true →
    msg.twoStep = false →
    Does (.ptpSyncRx p msg) s (syncFormed ((c.bump K.timePtpSyncs).rxStamp msg.rxTime) (msg.origin * 2 ^ 16 + msg.correction) (c.bump K.timePtpSyncs))

/-- PTP_FOLLOW_UP_RX (R378). The FOLLOW_UP of the waiting two-step SYNC gives its offset. -/
def PtpFollowUpRx : Prop :=
  ∀ (s : State) (c : Core) (p : Nat) (msg : PtpMsg) (t2 corr : Int),
    c = s.core →
    p < 2 →
    Live s 4 →
    c.ptpHears p msg = true →
    c.fromParent msg = true →
    c.ptp.waiting = some (msg.seq, t2, corr) →
    Does (.ptpFollowUpRx p msg) s (syncFormed t2 (msg.origin * 2 ^ 16 + msg.correction + corr) c)

/-- PTP_DELAY_RESP_RX (R380). The answer to the device's own request gives a delay, of the last eight. -/
def PtpDelayRespRx : Prop :=
  ∀ (s : State) (c : Core) (p : Nat) (msg : PtpMsg) (t3 dms : Int) (d : Core),
    c = s.core →
    p < 2 →
    Live s 4 →
    c.ptpHears p msg = true →
    c.fromParent msg = true →
    msg.reqId = c.ownClock →
    c.ptp.req = some (msg.seq, t3) →
    c.ptp.dms = some dms →
    (d = c.updPtp fun (x : Ptp) => { x with req := none, delays := (roundFree (dms + (msg.origin * 2 ^ 16 - msg.correction - t3)) 2 :: x.delays).take 8 }) →
    Does (.ptpDelayRespRx p msg) s (d.satN K.timePathDelay (roundFree d.pathDelay (2 ^ 16)).toNat)

/-- PTP_DELAY_REQ_RX (R378). In MASTER a DELAY_REQ is answered with the time at which it came. -/
def PtpDelayReqRx : Prop :=
  ∀ (s : State) (c : Core) (p : Nat) (msg : PtpMsg),
    c = s.core →
    p < 2 →
    Live s 4 →
    c.ptpHears p msg = true →
    c.get K.timePtpState = 6 →
    Does (.ptpDelayReqRx p msg) s (ptpSend p 9 msg.seq (c.rxStamp msg.rxTime) (msg.correction - c.rxStamp msg.rxTime % 2 ^ 16) msg.srcId msg.srcPort c)

/-- PTP_ANNOUNCE_RX (R378). In mode 1 the best master of those that qualify is followed. -/
def PtpAnnounceRx : Prop :=
  ∀ (s : State) (c : Core) (p : Nat) (msg : PtpMsg) (f b : Foreign) (d : Core),
    c = s.core →
    p < 2 →
    Live s 4 →
    c.ptpHears p msg = true →
    c.get K.timeMode = 1 →
    msg.srcId ≠ c.ownClock →
    msg.stepsRemoved < 255 →
    (f = { srcId := msg.srcId, srcPort := msg.srcPort, data := [msg.priority1, msg.clockClass, msg.accuracy, msg.variance, msg.priority2, msg.gmId, msg.stepsRemoved], times := (match c.ptp.foreign.find? (fun (y : Foreign) => y.srcId = msg.srcId && y.srcPort = msg.srcPort) with | some g => (c.clock :: g.times).take 2 | none => [c.clock]) }) →
    (d = c.updPtp fun (x : Ptp) => { x with foreign := f :: x.foreign.filter fun (y : Foreign) => !(y.srcId = msg.srcId && y.srcPort = msg.srcPort : Bool) }) →
    bestMaster d.qualified = some b →
    d.get K.timeMode = 1 →
    Does (.ptpAnnounceRx p msg) s (ptpFollow b d)

/-- PTP_SYNC_TX (R378). At each interval a master sends a SYNC and its FOLLOW_UP. -/
def PtpSyncTx : Prop :=
  ∀ (s : State) (c : Core) (p : Nat) (d : Core),
    c = s.core →
    p < 2 →
    Live s 4 →
    c.ptpOn p = true →
    c.get K.timePtpState = 6 →
    c.ptp.syncTx + logNs (c.geti K.timePtpLogSync) ≤ c.clock →
    (d = c.updPtp fun (x : Ptp) => { x with syncSeq := (c.ptp.syncSeq + 1) % 2 ^ 16, syncTx := c.clock }) →
    Does (.ptpSyncTx p) s (ptpSend p 8 c.ptp.syncSeq d.txStamp (d.txStamp % 2 ^ 16) 0 0 (ptpSend p 0 c.ptp.syncSeq 0 0 0 0 d))

/-- PTP_DELAY_REQ_TX (R378). At each interval a slave sends a DELAY_REQ and keeps its time. -/
def PtpDelayReqTx : Prop :=
  ∀ (s : State) (c : Core) (p : Nat),
    c = s.core →
    p < 2 →
    Live s 4 →
    c.ptpOn p = true →
    (c.get K.timePtpState = 8 ∨ c.get K.timePtpState = 9) →
    c.ptp.reqAt + logNs (c.geti K.timePtpLogDelayreq) ≤ c.clock →
    Does (.ptpDelayReqTx p) s (ptpSend p 1 c.ptp.reqSeq 0 0 0 0 (c.updPtp fun (x : Ptp) => { x with reqSeq := (c.ptp.reqSeq + 1) % 2 ^ 16, reqAt := c.clock, req := some (c.ptp.reqSeq, c.txStamp) }))

/-- PTP_ANNOUNCE_TX (R378). At each interval a master sends an ANNOUNCE. -/
def PtpAnnounceTx : Prop :=
  ∀ (s : State) (c : Core) (p : Nat),
    c = s.core →
    p < 2 →
    Live s 4 →
    c.ptpOn p = true →
    c.get K.timePtpState = 6 →
    c.ptp.announceTx + logNs (c.geti K.timePtpLogAnnounce) ≤ c.clock →
    Does (.ptpAnnounceTx p) s (ptpSend p 0xB c.ptp.announceSeq 0 0 0 0 (c.updPtp fun (x : Ptp) => { x with announceSeq := (c.ptp.announceSeq + 1) % 2 ^ 16, announceTx := c.clock }))

/-- PTP_ANNOUNCE_TIMEOUT (R382). With no ANNOUNCE for the timeout a device in mode 1 listens again. -/
def PtpAnnounceTimeout : Prop :=
  ∀ (s : State) (c : Core) (p : Nat),
    c = s.core →
    p < 2 →
    Live s 4 →
    c.ptpOn p = true →
    (c.get K.timePtpState = 4 ∨ c.get K.timePtpState = 7 ∨ c.get K.timePtpState = 8 ∨ c.get K.timePtpState = 9) →
    c.ptp.announceAt + c.get K.timePtpAnnounceTimeout * logNs (c.geti K.timePtpLogAnnounce) ≤ c.clock →
    ((c.updPtp fun (x : Ptp) => { x with foreign := [] }).get K.timeMode = 1) →
    Does (.ptpAnnounceTimeout p) s (ptpListen (c.updPtp fun (x : Ptp) => { x with foreign := [] }))

/-- TIME_VALID_HOLD (R380). A slave's time without a SYNC for VALID_HOLD is no longer valid. -/
def TimeValidHold : Prop :=
  ∀ (s : State) (c : Core),
    c = s.core →
    Live s 4 →
    c.timeValid = true →
    c.get K.timePtpState ≠ 6 →
    max c.ptp.syncAt c.ptp.validAt + c.get K.timeValidHold * 1000000000 ≤ c.clock →
    Does .timeValidHold s (timeNowInvalid c)

/-- TIME_SNAP (R390). At an edge of a locked reference, with the offset near, the time steps to the grid and is snapped. -/
def TimeSnap : Prop :=
  ∀ (s : State) (c : Core) (t g : Int),
    c = s.core →
    Live s 4 →
    c.get K.timeSnapMode = 1 →
    c.snapped = false →
    c.get K.alignState = 4 →
    c.timeValid = true →
    (c.geti K.timeOffset).natAbs ≤ c.get K.timeSnapTol →
    c.maySteps = true →
    (c.sample - c.align.origin) % max 1 c.alignRatio = 0 →
    t = (c.time : Int) - roundFree (c.get K.alignRefDelay * 2 ^ 32 : Nat) 1000 →
    g = ((c.get K.timeSnapGrid * 2 ^ 32 : Nat) : Int) →
    Does .timeSnap s (setSnapped true (setRate 0 (((timeStep (g * roundNear t (c.get K.timeSnapGrid * 2 ^ 32) - t) c).endFault 0x0303 1).endFault 0x0302 1)))

/-- TIME_SNAP_LOST (R390). A coast of more than COAST_KEEP ends the snap and raises TIME_SNAP_LOST. -/
def TimeSnapLost : Prop :=
  ∀ (s : State) (c : Core),
    c = s.core →
    Live s 4 →
    c.snapped = true →
    c.get K.alignState = 5 →
    c.align.coastAt + c.get K.alignCoastKeep * 1000000 < c.clock →
    Does .timeSnapLost s ((setSnapped false c).raiseHeld 0x0303 1 (satU 32 c.coastMs))

/-- ALIGN_ACQUIRE (R387). With the table usable and a delay of it within reach of the phase, FREQ or CAL goes to LOCKING. -/
def AlignAcquire : Prop :=
  ∀ (s : State) (c : Core) (phase : Int) (j fine : Nat),
    c = s.core →
    Live s 4 →
    c.get K.alignRefFreq ≠ 0 →
    c.get K.alignState = 2 →
    tableBad (c.get K.alignBandTable) = none →
    bandFor (c.get K.alignBandTable) (phase - (c.get K.alignRefDelay : Nat)) = some (j, fine) →
    Does (.alignAcquire phase) s (alignState 3 (((c.updAlign fun (x : Align) => { x with origin := c.sample, corrAt := c.clock, okSince := none }).set K.alignBand j).set K.alignFine fine))

/-- ALIGN_LOCKED (R387). A phase error within bounds for LOCK_TIME locks. -/
def AlignLocked : Prop :=
  ∀ (s : State) (c : Core) (t : Nat),
    c = s.core →
    Live s 4 →
    c.align.okSince = some t →
    c.get K.alignState = 3 →
    t + c.get K.alignLockTime * 1000 ≤ c.clock →
    Does .alignLocked s (((alignState 4 (c.bump K.alignLocks)).endFault 0x0D00 1).raise 0x0D02 1 (2 ^ 16 * c.get K.alignBand + c.get K.alignFine))

/-- ALIGN_CORRECTION (R384). Each 1024 periods of the reference the phase is corrected by one step of the fine delay against the sign of the error. -/
def AlignCorrection : Prop :=
  ∀ (s : State) (c : Core) (phase : Int) (d : Core) (f : Int),
    c = s.core →
    Live s 4 →
    (c.get K.alignState = 3 ∨ c.get K.alignState = 4) →
    c.align.corrAt + 5 * 1024 * c.alignRatio ≤ c.clock →
    (d = (c.satI K.alignPhaseErr phase).updAlign fun (x : Align) => { x with corrAt := (c.satI K.alignPhaseErr phase).clock, okSince := if phase.natAbs ≤ 20 then some ((c.satI K.alignPhaseErr phase).align.okSince.getD (c.satI K.alignPhaseErr phase).clock) else none }) →
    f = (d.get K.alignFine : Int) - phase.sign →
    0 ≤ f →
    f ≤ 1023 →
    Does (.alignCorrection phase) s (d.set K.alignFine f.toNat)

/-- ALIGN_REF_LOST (R389). A reference lost outside IDLE and COAST makes the alignment coast. -/
def AlignRefLost : Prop :=
  ∀ (s : State) (c : Core) (reason : Nat),
    c = s.core →
    Live s 4 →
    c.get K.alignState ≠ 0 →
    c.get K.alignState ≠ 5 →
    Does (.alignRefLost reason) s (alignCoast reason c)

/-- ALIGN_COAST_LIMIT (R389). A coast beyond COAST_LIMIT with a channel engaged raises ALIGN_COAST_LIMIT. -/
def AlignCoastLimit : Prop :=
  ∀ (s : State) (c : Core),
    c = s.core →
    Live s 4 →
    c.get K.alignState = 5 →
    c.anyEngaged = true →
    c.align.coastAt + c.get K.alignCoastLimit * 1000000 < c.clock →
    Does .alignCoastLimit s (c.raiseHeld 0x0D01 1 (satU 32 c.coastMs))

end Sys2Proof.Effect
end

