-- ==== Sys2Proof/Effects/Transports.lean ====
section
/-! DEFINITION. Sys2Proof/Effects/Transports.lean: what the commands of family Transports do:
for each, conditions on the machine and the operands under which it completes, and the machine it leaves. -/

namespace Sys2Proof.Effect
open Sys2Proof.Machine

/-- WOP_REQUEST (R333). A request that comes whole over a port of Ethernet that is up is answered to the port it came from. -/
def WopRequest : Prop :=
  ∀ (s : State) (c : Core) (transport addr : Nat) (msg : List Byte),
    c = s.core →
    Live s 1 →
    transport = 1 →
    c.ethUp 0 = true →
    DoesMem (.wopRequest transport addr msg) s (ethMessage 0 (addr / 65536) (addr % 65536) msg c s.dram)

/-- UDP_DATAGRAM (R336). An unfragmented datagram of the device's port, whole and with a right checksum, is a request. -/
def UdpDatagram : Prop :=
  ∀ (s : State) (c : Core) (p addr ident fragOffset : Nat) (more : Bool) (payload : List Byte),
    c = s.core →
    p < 2 →
    Live s 4 →
    c.ethUp p = true →
    fragOffset = 0 →
    more = false →
    8 ≤ beAt payload 4 2 →
    beAt payload 4 2 ≤ payload.length →
    beAt payload 2 2 = 47250 →
    udpChecksumFails addr (c.get (K.wopEthIpAddr p)) (payload.take (beAt payload 4 2)) = false →
    DoesMem (.udpDatagram p addr ident fragOffset more payload) s (ethMessage p addr (beAt payload 0 2) (slice payload 8 (beAt payload 4 2 - 8)) c s.dram)

/-- REASSEMBLY_TIMEOUT (R336). A datagram not whole 100 ms after its first fragment is discarded and counted; here one on port 0. -/
def ReassemblyTimeout : Prop :=
  ∀ (s : State) (c : Core) (x : Reasm),
    c = s.core →
    Live s 4 →
    nth c.reasms 0 = [x] →
    nth c.reasms 1 = [] →
    x.at_ + 100000000 < c.clock →
    Does .reassemblyTimeout s (reasmFail 0 x c)

/-- ARP_REQUEST (R336). An ARP request for the port's own address is answered. -/
def ArpRequest : Prop :=
  ∀ (s : State) (c : Core) (p ip : Nat),
    c = s.core →
    p < 2 →
    Live s 4 →
    c.ethAnswers p = true →
    ip = c.get (K.wopEthIpAddr p) →
    Does (.arpRequest p ip) s (c.emit (.arp p ip))

/-- ICMP_ECHO (R336). An ICMP echo request is answered. -/
def IcmpEcho : Prop :=
  ∀ (s : State) (c : Core) (p ip : Nat) (payload : List Byte),
    c = s.core →
    p < 2 →
    Live s 4 →
    c.ethAnswers p = true →
    Does (.icmpEcho p ip payload) s (c.emit (.icmp p ip payload))

/-- CAN_FRAME (R338). The first segment of a message, which is not its last, begins the message. -/
def CanFrame : Prop :=
  ∀ (s : State) (c : Core) (ch id : Nat) (fd : Bool) (data : List Byte),
    c = s.core →
    ch < 2 →
    Live s 4 →
    c.canUp ch = true →
    fd = true →
    id = c.get (K.wopCanReqId ch) →
    0 < data.length →
    data.length ≤ 64 →
    (beAt data 0 1).testBit 7 = true →
    (beAt data 0 1).testBit 6 = false →
    beAt data 0 1 % 64 = 0 →
    DoesMem (.canFrame ch id fd data) s ((setCan ch { msg := some ([] ++ data.drop 1, 1), at_ := (segTimeout ch c).clock } (segTimeout ch c), s.dram))

/-- SEG_TIMEOUT (R338). A message whose next segment does not come within CANn.SEG_TIMEOUT is discarded and counted. -/
def SegTimeout : Prop :=
  ∀ (s : State) (c : Core) (ch : Nat),
    c = s.core →
    ch < 2 →
    Live s 4 →
    (nth c.cans ch).msg.isSome = true →
    (nth c.cans ch).at_ + c.get (K.wopCanSegTimeout ch) * 1000000 < c.clock →
    Does (.segTimeout ch) s ((setCan ch {} c).bump (K.wopCanSegErrors ch))

/-- CAN_BUS_OFF (R337). Bus-off discards the message in progress and is counted; the controller is on the bus again at the end. -/
def CanBusOff : Prop :=
  ∀ (s : State) (c : Core) (ch : Nat),
    c = s.core →
    ch < 2 →
    Live s 4 →
    c.canUp ch = true →
    Does (.canBusOff ch) s (((setCan ch {} c).bump (K.wopCanBusOffs ch)).set (K.wopCanState ch) 1)

/-- ETH_LINK_CHANGE (R345). The state of the port's link shows in WOP.ETHp.LINK. -/
def EthLinkChange : Prop :=
  ∀ (s : State) (c : Core) (p : Nat) (up : Bool),
    c = s.core →
    p < 2 →
    Live s 4 →
    (c.get K.devPdStatus).testBit 4 = true →
    Does (.ethLinkChange p up) s (c.set (K.wopEthLink p) (b2n up))

end Sys2Proof.Effect
end

