-- ==== Sys2Proof/Effects/UnitWrites.lean ====
section
/-! DEFINITION. Sys2Proof/Effects/UnitWrites.lean: what the commands of family UnitWrites do:
for each, conditions on the machine and the operands under which it completes, and the machine it leaves. -/

namespace Sys2Proof.Effect
open Sys2Proof.Machine

/-- ENC_PRESET (R35). The count of the input takes the value. -/
def EncPreset : Prop :=
  ∀ (s : State) (w : Writer) (n v : Nat) (d : Desc),
    n < 4 →
    Row (K.encPreset n) .wo d →
    v < 256 ^ (K.encPreset n).bytes →
    Accepts s w d v →
    DoesMem (.encPreset w n v) s (answered w d v (fun (e : Core) (m : List Host.Cell) => (encPreset n v e, m)) s)

/-- REHOME (R37). The count homes again at the next index. -/
def Rehome : Prop :=
  ∀ (s : State) (w : Writer) (n v : Nat) (d : Desc),
    n < 4 →
    Row (K.encRehome n) .wo d →
    v < 256 ^ (K.encRehome n).bytes →
    Accepts s w d v →
    DoesMem (.rehome w n v) s (answered w d v (fun (e : Core) (m : List Host.Cell) => (encRehome n e, m)) s)

/-- CMP_ARM (R55). The compare output is armed. -/
def CmpArm : Prop :=
  ∀ (s : State) (w : Writer) (n : Nat) (d : Desc),
    n < 8 →
    Row (K.cmpArm n) .wo d →
    Accepts s w d 1 →
    DoesMem (.cmpArm w n) s (answered w d 1 (fun (e : Core) (m : List Host.Cell) => (cmpArm n e, m)) s)

/-- CMP_DISARM (R55). The compare output is disarmed. -/
def CmpDisarm : Prop :=
  ∀ (s : State) (w : Writer) (n : Nat) (d : Desc),
    n < 8 →
    Row (K.cmpArm n) .wo d →
    Accepts s w d 0 →
    DoesMem (.cmpDisarm w n) s (answered w d 0 (fun (e : Core) (m : List Host.Cell) => (cmpDisarm n e, m)) s)

/-- CUE_LIST_ARM (R75). The list is armed. -/
def CueListArm : Prop :=
  ∀ (s : State) (w : Writer) (k : Nat) (d : Desc),
    k < 16 →
    Row (K.cueListArm k) .wo d →
    Accepts s w d 1 →
    DoesMem (.cueListArm w k) s (answered w d 1 (fun (e : Core) (m : List Host.Cell) => (cueArm k e, m)) s)

/-- CUE_LIST_DISARM (R75). The list is disarmed. -/
def CueListDisarm : Prop :=
  ∀ (s : State) (w : Writer) (k : Nat) (d : Desc),
    k < 16 →
    Row (K.cueListArm k) .wo d →
    Accepts s w d 0 →
    DoesMem (.cueListDisarm w k) s (answered w d 0 (fun (e : Core) (m : List Host.Cell) => (cueDisarm k e, m)) s)

/-- RCST_REQUEST (R222). Recast is requested, with reason 6. -/
def RcstRequest : Prop :=
  ∀ (s : State) (w : Writer) (v : Nat) (d : Desc),
    Row K.rcstRequest .wo d →
    v < 256 ^ K.rcstRequest.bytes →
    Accepts s w d v →
    DoesMem (.rcstRequest w v) s (answered w d v (fun (e : Core) (m : List Host.Cell) => (requestRecast 6 e, m)) s)

/-- CODEC_ABORT (R253). The unit's job is aborted. -/
def CodecAbort : Prop :=
  ∀ (s : State) (w : Writer) (v : Nat) (d : Desc),
    Row K.codecAbort .wo d →
    v < 256 ^ K.codecAbort.bytes →
    Accepts s w d v →
    DoesMem (.codecAbort w v) s (answered w d v (fun (e : Core) (m : List Host.Cell) => codecAbort v e m) s)

/-- HUB_BIAS_WRITE (R273). The bias of the master takes the value. -/
def HubBiasWrite : Prop :=
  ∀ (s : State) (w : Writer) (m v : Nat) (d : Desc),
    m < 64 →
    Row (K.hubBias m) .rw d →
    v < 256 ^ (K.hubBias m).bytes →
    Accepts s w d v →
    DoesMem (.hubBiasWrite w m v) s (answered w d v (fun (e : Core) (mem : List Host.Cell) => (e.set (K.hubBias m) v, mem)) s)

/-- HUB_FEC_REARM (R281). The first-error capture of the hub is armed again. -/
def HubFecRearm : Prop :=
  ∀ (s : State) (w : Writer) (d : Desc),
    Row K.hubFecValid .rw d →
    Accepts s w d 0 →
    DoesMem (.hubFecRearm w) s (answered w d 0 (fun (e : Core) (m : List Host.Cell) => (e.set K.hubFecValid 0, m)) s)

/-- HUB_INJECT (R283). An error is put into the array. -/
def HubInject : Prop :=
  ∀ (s : State) (w : Writer) (v : Nat) (d : Desc),
    Row K.hubInject .wo d →
    v < 256 ^ K.hubInject.bytes →
    Accepts s w d v →
    DoesMem (.hubInject w v) s (answered w d v (fun (e : Core) (m : List Host.Cell) => (hubInject v e, m)) s)

/-- SLOT_ENABLE (R355). The slot is enabled. -/
def SlotEnable : Prop :=
  ∀ (s : State) (w : Writer) (slot : Nat) (d : Desc),
    slot < 64 →
    Row (K.loopSlotEnable slot) .rw d →
    Accepts s w d 1 →
    DoesMem (.slotEnable w slot) s (answered w d 1 (fun (e : Core) (m : List Host.Cell) => (slotEnable slot e, m)) s)

/-- SLOT_DISABLE (R362). The slot is disabled, when it was enabled. -/
def SlotDisable : Prop :=
  ∀ (s : State) (w : Writer) (slot : Nat) (d : Desc),
    slot < 64 →
    Row (K.loopSlotEnable slot) .rw d →
    Accepts s w d 0 →
    DoesMem (.slotDisable w slot) s (answered w d 0 (fun (e : Core) (m : List Host.Cell) => (if e.slotOn slot then slotDisable slot e else e, m)) s)

/-- BANK_SWAP (R356). The bank of the slot swaps at its next sample. -/
def BankSwap : Prop :=
  ∀ (s : State) (w : Writer) (slot : Nat) (d : Desc),
    slot < 64 →
    Row (K.loopSlotBankSwap slot) .wo d →
    Accepts s w d 1 →
    DoesMem (.bankSwap w slot) s (answered w d 1 (fun (e : Core) (m : List Host.Cell) => (bankSwap slot e, m)) s)

/-- PRESET (R357). The preset is taken at the slot's next sample. -/
def Preset : Prop :=
  ∀ (s : State) (w : Writer) (slot v : Nat) (d : Desc),
    slot < 64 →
    Row (K.loopSlotPreset slot) .wo d →
    v < 256 ^ (K.loopSlotPreset slot).bytes →
    Accepts s w d v →
    DoesMem (.preset w slot v) s (answered w d v (fun (e : Core) (m : List Host.Cell) => (slotPreset slot v e, m)) s)

/-- PUBLISH (R368). The measurement is published. -/
def Publish : Prop :=
  ∀ (s : State) (w : Writer) (j : Nat) (d : Desc),
    j < 16 →
    Row (K.loopMeasPublish j) .wo d →
    Accepts s w d 1 →
    DoesMem (.publish w j) s (answered w d 1 (fun (e : Core) (m : List Host.Cell) => (publish j e, m)) s)

/-- GPIO_OUT_WRITE (R367). The output pins take the value. -/
def GpioOutWrite : Prop :=
  ∀ (s : State) (w : Writer) (v : Nat) (d : Desc),
    Row K.loopGpioOut .rw d →
    v < 256 ^ K.loopGpioOut.bytes →
    Accepts s w d v →
    DoesMem (.gpioOutWrite w v) s (answered w d v (fun (e : Core) (m : List Host.Cell) => (gpioOut v e, m)) s)

/-- TIME_SET (R374). T_dev is set. -/
def TimeSet : Prop :=
  ∀ (s : State) (w : Writer) (v : Nat) (d : Desc),
    Row K.timeSet .wo d →
    v < 256 ^ K.timeSet.bytes →
    Accepts s w d v →
    DoesMem (.timeSet w v) s (answered w d v (fun (e : Core) (m : List Host.Cell) => (timeSet v e, m)) s)

/-- QD_SYNC (R393). A SYNC step is proposed. -/
def QdSync : Prop :=
  ∀ (s : State) (w : Writer) (d : Desc),
    Row K.qdStep .wo d →
    Accepts s w d 0 →
    DoesMem (.qdSync w) s (answered w d 0 (fun (e : Core) (m : List Host.Cell) => (qdStepWrite 0 e, m)) s)

/-- QD_RAIL (R393). A RAIL step to the target is proposed. -/
def QdRail : Prop :=
  ∀ (s : State) (w : Writer) (target : Nat) (d : Desc),
    Row K.qdStep .wo d →
    Accepts s w d (2 ^ 24 + 2 ^ 16 * (target % 256)) →
    DoesMem (.qdRail w target) s (answered w d (2 ^ 24 + 2 ^ 16 * (target % 256)) (fun (e : Core) (m : List Host.Cell) => (qdStepWrite (2 ^ 24 + 2 ^ 16 * (target % 256)) e, m)) s)

/-- QD_ARM (R393). An ARM step is proposed. -/
def QdArm : Prop :=
  ∀ (s : State) (w : Writer) (d : Desc),
    Row K.qdStep .wo d →
    Accepts s w d (2 * 2 ^ 24) →
    DoesMem (.qdArm w) s (answered w d (2 * 2 ^ 24) (fun (e : Core) (m : List Host.Cell) => (qdStepWrite (2 * 2 ^ 24) e, m)) s)

/-- QD_START (R393). A START step is proposed. -/
def QdStart : Prop :=
  ∀ (s : State) (w : Writer) (d : Desc),
    Row K.qdStep .wo d →
    Accepts s w d (3 * 2 ^ 24) →
    DoesMem (.qdStart w) s (answered w d (3 * 2 ^ 24) (fun (e : Core) (m : List Host.Cell) => (qdStepWrite (3 * 2 ^ 24) e, m)) s)

/-- QD_STOP (R393). A STOP step is proposed. -/
def QdStop : Prop :=
  ∀ (s : State) (w : Writer) (d : Desc),
    Row K.qdStep .wo d →
    Accepts s w d (6 * 2 ^ 24) →
    DoesMem (.qdStop w) s (answered w d (6 * 2 ^ 24) (fun (e : Core) (m : List Host.Cell) => (qdStepWrite (6 * 2 ^ 24) e, m)) s)

/-- QD_COMMIT (R393). A COMMIT step is proposed. -/
def QdCommit : Prop :=
  ∀ (s : State) (w : Writer) (d : Desc),
    Row K.qdStep .wo d →
    Accepts s w d (7 * 2 ^ 24) →
    DoesMem (.qdCommit w) s (answered w d (7 * 2 ^ 24) (fun (e : Core) (m : List Host.Cell) => (qdStepWrite (7 * 2 ^ 24) e, m)) s)

/-- FLT_CLEAR (R414). The latched states that may end are cleared. -/
def FltClear : Prop :=
  ∀ (s : State) (w : Writer) (d : Desc),
    Row K.fltClear .wo d →
    Accepts s w d 1 →
    DoesMem (.fltClear w) s (answered w d 1 (fun (e : Core) (m : List Host.Cell) => (fltClear e, m)) s)

/-- FLT_SEL_CLASS_WRITE (R409). The class of the selected fault takes the value. -/
def FltSelClassWrite : Prop :=
  ∀ (s : State) (w : Writer) (v : Nat) (d : Desc),
    Row K.fltSelClass .rw d →
    v < 256 ^ K.fltSelClass.bytes →
    Accepts s w d v →
    DoesMem (.fltSelClassWrite w v) s (answered w d v (fun (e : Core) (m : List Host.Cell) => (selClass v e, m)) s)

/-- SEL_STICKY_CLEAR (R409). The sticky bit of the selected fault is cleared. -/
def SelStickyClear : Prop :=
  ∀ (s : State) (w : Writer) (d : Desc),
    Row K.fltSelStickyClear .wo d →
    Accepts s w d 1 →
    DoesMem (.selStickyClear w) s (answered w d 1 (fun (e : Core) (m : List Host.Cell) => (selStickyClear e, m)) s)

/-- STICKY_CLEAR_ALL (R407). Every sticky bit is cleared. -/
def StickyClearAll : Prop :=
  ∀ (s : State) (w : Writer) (d : Desc),
    Row K.fltStickyClearAll .wo d →
    Accepts s w d 1 →
    DoesMem (.stickyClearAll w) s (answered w d 1 (fun (e : Core) (m : List Host.Cell) => (stickyClearAll e, m)) s)

/-- MANUAL_SAFE (R416). MANUAL_SAFE is raised. -/
def ManualSafe : Prop :=
  ∀ (s : State) (w : Writer) (d : Desc),
    Row K.fltTrip .wo d →
    Accepts s w d 1 →
    DoesMem (.manualSafe w) s (answered w d 1 (fun (e : Core) (m : List Host.Cell) => (manualSafe e, m)) s)

/-- FLT_FEC_REARM (R415). The first-error capture is armed again. -/
def FltFecRearm : Prop :=
  ∀ (s : State) (w : Writer) (d : Desc),
    Row K.fltFecValid .rw d →
    Accepts s w d 0 →
    DoesMem (.fltFecRearm w) s (answered w d 0 (fun (e : Core) (m : List Host.Cell) => (e.set K.fltFecValid 0, m)) s)

/-- RAIL_TARGET_WRITE (R421). The rail target takes the value, and the sequencer moves. -/
def RailTargetWrite : Prop :=
  ∀ (s : State) (w : Writer) (v : Nat) (d : Desc),
    Row K.railTarget .rw d →
    v < 256 ^ K.railTarget.bytes →
    Accepts s w d v →
    DoesMem (.railTargetWrite w v) s (answered w d v (fun (e : Core) (m : List Host.Cell) => (railTarget v (e.set K.railTarget v), m)) s)

end Sys2Proof.Effect
end

