-- ==== Sys2Proof/Certificates/Slice0/Obligations.lean ====
section
/-! DEFINITION. Sys2Proof/Certificates/Slice0/Obligations.lean: the statements for the provers. Does, DoesMem, Live, Accepts,
answered, Row and Calm are those of Sys2Proof/Safety.lean; the clauses Effect.X those of Sys2Proof/Effects. -/

open Sys2Proof Sys2Proof.Machine

/-- In an age unit an arbiter grants nothing exactly when none of its heads is eligible; what it grants is an eligible head, and every other eligible head of it has a lower class, or in the same class a lower key, or with the same key a higher master ID. Panicking heads are the highest class, heads of age 4,095 the next; no age goes beyond that. -/
def Obligations.HubGrantsTheHighestHead : Prop :=
  ∀ (c : Core) (ch : Nat),
    (c.hubChoice ch = none ↔ ∀ x ∈ c.hubHeads ch, c.hubEligible x = false) ∧
    (∀ r : HubReq, c.hubChoice ch = some r → r ∈ c.hubHeads ch ∧ c.hubEligible r = true ∧
      ∀ x ∈ c.hubHeads ch, c.hubEligible x = true → x.master ≠ r.master →
        c.hubClass x < c.hubClass r ∨ (c.hubClass x = c.hubClass r ∧
          (c.hubKey x < c.hubKey r ∨ (c.hubKey x = c.hubKey r ∧ r.master < x.master)))) ∧
    (∀ r : HubReq, c.hubAge r ≤ 4095 ∧ (c.hubClass r = 2 ↔ c.masterPanics r.master = true) ∧
      (c.hubClass r = 1 ↔ c.masterPanics r.master = false ∧ c.hubAge r = 4095))

/-- A read of BAR0 or BAR4 of any size and offset is answered by one completion of that many bytes, not poisoned; beyond it only the read of the low half of GLB_TIME changes anything, namely the latch of the time and of the position (and the count of free values moves on). The identity register reads 0x8160_01B2. -/
def Obligations.HostReadsAreAnswered : Prop :=
  (∀ c : Core, barRead 0 0 4 c = c.emit (.completion 0 0 [0xB2#8, 0x01#8, 0x60#8, 0x81#8] false)) ∧
  (∀ (c : Core) (bar off size : Nat), bar = 0 ∨ bar = 4 → ∃ (l : List Byte) (n : Nat), l.length = size ∧
    barRead bar off size c =
      ({ (if bar = 0 ∧ off = 8 ∧ (size = 4 ∨ size = 8) then glbLatch c else c) with fresh := n } : Core).emit
        (.completion bar off l false)) ∧
  (∀ c : Core, (glbLatch c).pcie.timeHi = c.now / 2 ^ 32 % 2 ^ 32 ∧ (glbLatch c).pcie.pos = c.stampPos ∧
    (glbLatch c).objs = c.objs ∧ (glbLatch c).rings = c.rings ∧ (glbLatch c).dmas = c.dmas)

/-- With its conditions met, each position command ends in the machine that its rule gives. One clause of Sys2Proof/Effects for each command. -/
def Obligations.PositionCommandsComplete : Prop :=
  Effect.EncEdge ∧ Effect.EncUnreliable ∧ Effect.EncIndex ∧ Effect.SposRequest ∧ Effect.SposWord ∧
    Effect.SposWordTimeout ∧ Effect.SposLost ∧ Effect.PassOverrun ∧ Effect.CompareTarget ∧ Effect.CmpPulse ∧
    Effect.CmpPulseEnd ∧ Effect.CmpCapture ∧ Effect.EncRawPulse

/-- With its conditions met, each command of a line clock synthesiser ends in the machine that its rule gives. One clause of Sys2Proof/Effects for each command. -/
def Obligations.ClockCommandsComplete : Prop :=
  Effect.LcTrackExit ∧ Effect.LcStill ∧ Effect.LcUnlock ∧ Effect.LcRelock ∧ Effect.LcSettled

/-- An entry that the cursor of a list has reached executes, with the effect of its action, and the list goes on. One clause of Sys2Proof/Effects for each command. -/
def Obligations.CueActionsExecute : Prop :=
  Effect.Nop ∧ Effect.ToneSwap ∧ Effect.Commit ∧ Effect.DevCommit ∧ Effect.LoopSample ∧ Effect.LoopBank ∧
    Effect.AdcTrigger ∧ Effect.Gpio ∧ Effect.Event ∧ Effect.ListArm ∧ Effect.RecastReq ∧ Effect.PageStart

/-- With its conditions met, the line boundary and each command of the image path and of firing ends in the machine that its rule gives. One clause of Sys2Proof/Effects for each command. -/
def Obligations.ImageCommandsComplete : Prop :=
  Effect.LineBoundary ∧ Effect.FireIssue ∧ Effect.FlaskReadDone ∧ Effect.ToneDrainEnd ∧ Effect.ToneCopyDone ∧
    Effect.NozResyncDone ∧ Effect.TblLoadDone ∧ Effect.SramScrubRead ∧ Effect.HeadTempStale

/-- With its conditions met, each event of a lane, or block that it receives, ends in the machine that its rule gives. One clause of Sys2Proof/Effects for each command. -/
def Obligations.LinkCommandsComplete : Prop :=
  Effect.Temp ∧ Effect.Nozzle ∧ Effect.Fault ∧ Effect.Status ∧ Effect.LineNak ∧ Effect.CtrlAck ∧ Effect.EchoRsp ∧
    Effect.Train ∧ Effect.KlInvalidBlock ∧ Effect.KlLockLoss ∧ Effect.KlSilence ∧ Effect.KlBlockLock ∧
    Effect.KlStageTimer ∧ Effect.LaneTrainStart ∧ Effect.KlTrainTimeout ∧ Effect.KlRetryTimer ∧ Effect.KlSyncDue ∧
    Effect.KeepaliveDue ∧ Effect.LineFrameOpen ∧ Effect.KlCtrlTimeout ∧ Effect.EchoReqDue ∧ Effect.LineFrameComplete

/-- With its conditions met, each event of the scan, of its pages and of the stations ends in the machine that its rule gives. One clause of Sys2Proof/Effects for each command. -/
def Obligations.BeamCommandsComplete : Prop :=
  Effect.ScanPulse ∧ Effect.ScanMiss ∧ Effect.ScanLost ∧ Effect.ScanSpinupDone ∧ Effect.ScanAcquired ∧
    Effect.ScanAcqTimeout ∧ Effect.ScanLostRetry ∧ Effect.SweepCommit ∧ Effect.ScanPagePhase2 ∧ Effect.ScanSplit ∧
    Effect.SltDone ∧ Effect.ApcSample ∧ Effect.StationFinished ∧ Effect.PageSpoiledReport

/-- With its conditions met, each command of the job intake, of Sprue and of the compressors ends in the machine that its rule gives. One clause of Sys2Proof/Effects for each command. -/
def Obligations.JobCommandsComplete : Prop :=
  Effect.JobDescriptor ∧ Effect.BandDescriptor ∧ Effect.StopDescriptor ∧ Effect.BandFetchStart ∧ Effect.BandFetched ∧
    Effect.SprueBandStart ∧ Effect.SprueLine ∧ Effect.CodecJobStart ∧ Effect.CodecJobDone

/-- With its conditions met, each event of Recast ends in the machine that its rule gives. One clause of Sys2Proof/Effects for each command. -/
def Obligations.RecastCommandsComplete : Prop :=
  Effect.HeldStop ∧ Effect.RecastBackup ∧ Effect.RecastWait ∧ Effect.RecastApproach ∧ Effect.RecastDecide ∧
    Effect.ChannelResume ∧ Effect.RecastOverrun ∧ Effect.RecastHoldTimeout ∧ Effect.RecastPassLimit

/-- With its conditions met, each event of the memory hub ends in the machine that its rule gives. One clause of Sys2Proof/Effects for each command. -/
def Obligations.HubCommandsComplete : Prop :=
  Effect.DramTraining ∧ Effect.DramTrainDone ∧ Effect.DramFillDone ∧ Effect.DramReadReturn ∧
    Effect.PartialWriteMerge ∧ Effect.ScrubRead ∧ Effect.RefreshDue ∧ Effect.DramTempPoll ∧ Effect.ZqCal ∧
    Effect.DqsOscRead ∧ Effect.SrEntry ∧ Effect.SrExit

/-- With its conditions met, each command of the host interface ends in the machine that its rule gives. One clause of Sys2Proof/Effects for each command. -/
def Obligations.HostCommandsComplete : Prop :=
  Effect.PerstNAssert ∧ Effect.FunctionLevelReset ∧ Effect.PcieLinkDown ∧ Effect.PcieAer ∧ Effect.Bar0Write ∧
    Effect.GlbTimeRead ∧ Effect.Bar2Read ∧ Effect.Bar2Write ∧ Effect.MbxSubmit ∧ Effect.MbxRspAck ∧
    Effect.RingEnable ∧ Effect.RingDisable ∧ Effect.RingDb ∧ Effect.RingEntryRead ∧ Effect.RingInterruptDue ∧
    Effect.MsixUnmask ∧ Effect.PcieLinkUp

/-- With its conditions met, each command of a DMA channel ends in the machine that its rule gives. One clause of Sys2Proof/Effects for each command. -/
def Obligations.DmaCommandsComplete : Prop :=
  Effect.DmaStart ∧ Effect.DmaStop ∧ Effect.DmaReset ∧ Effect.DmaHeadWrite ∧ Effect.DmaKick ∧ Effect.DmaDescFetched ∧
    Effect.DmaLinkReread ∧ Effect.DmaHalfPoint ∧ Effect.DmaDescDone ∧ Effect.DmaStopped ∧ Effect.DmaError

/-- With its conditions met, each command of a WOP transport ends in the machine that its rule gives. One clause of Sys2Proof/Effects for each command. -/
def Obligations.TransportCommandsComplete : Prop :=
  Effect.WopRequest ∧ Effect.UdpDatagram ∧ Effect.ReassemblyTimeout ∧ Effect.ArpRequest ∧ Effect.IcmpEcho ∧
    Effect.CanFrame ∧ Effect.SegTimeout ∧ Effect.CanBusOff ∧ Effect.EthLinkChange

/-- A write that passes every check is audited, takes effect by the access right of its object and is answered OK; the events of the object server end in the machine that their rules give. One clause of Sys2Proof/Effects for each command. -/
def Obligations.DictionaryCommandsComplete : Prop :=
  Effect.ObjectWrite ∧ Effect.StagedWrite ∧ Effect.CueEntryWrite ∧ Effect.FwImageWrite ∧ Effect.PdSwitchDone ∧
    Effect.LockLeaseExpiry ∧ Effect.OpEnd ∧ Effect.OpTimeout

/-- With its conditions met, each event of the Loop Engine and of the analog inputs ends in the machine that its rule gives. One clause of Sys2Proof/Effects for each command. -/
def Obligations.LoopCommandsComplete : Prop :=
  Effect.LoopPeriodTrigger ∧ Effect.LoopSampleRun ∧ Effect.LoopDeadlineMiss ∧ Effect.LoopToneWrite ∧
    Effect.LoopToneWriteDone ∧ Effect.LoopPendingWrite ∧ Effect.AinSeqPeriod ∧ Effect.AinSeqDone ∧
    Effect.AinScanConversion

/-- With its conditions met, each command of PTP and of the alignment ends in the machine that its rule gives. One clause of Sys2Proof/Effects for each command. -/
def Obligations.TimeCommandsComplete : Prop :=
  Effect.PtpSyncRx ∧ Effect.PtpFollowUpRx ∧ Effect.PtpDelayRespRx ∧ Effect.PtpDelayReqRx ∧ Effect.PtpAnnounceRx ∧
    Effect.PtpSyncTx ∧ Effect.PtpDelayReqTx ∧ Effect.PtpAnnounceTx ∧ Effect.PtpAnnounceTimeout ∧
    Effect.TimeValidHold ∧ Effect.TimeSnap ∧ Effect.TimeSnapLost ∧ Effect.AlignAcquire ∧ Effect.AlignLocked ∧
    Effect.AlignCorrection ∧ Effect.AlignRefLost ∧ Effect.AlignCoastLimit

/-- With its conditions met, each event of the Quadrille ends in the machine that its rule gives. One clause of Sys2Proof/Effects for each command. -/
def Obligations.QuadrilleCommandsComplete : Prop :=
  Effect.QdRecastReq ∧ Effect.QdRecastGo ∧ Effect.QdLineFall ∧ Effect.QdRecord ∧ Effect.QdRepeat ∧ Effect.QdLineRise ∧
    Effect.QdStepTimeout

/-- With its conditions met, each event of the fault collector ends in the machine that its rule gives. One clause of Sys2Proof/Effects for each command. -/
def Obligations.FaultCommandsComplete : Prop :=
  Effect.FaultConditionEnd ∧ Effect.ScopeRecover ∧ Effect.BusError ∧ Effect.SupSramUe ∧ Effect.SupWatchdog ∧
    Effect.DieHot ∧ Effect.DieCrit ∧ Effect.VaonLow

/-- With its conditions met, each event of the rail sequencer and of the rail log ends in the machine that its rule gives. One clause of Sys2Proof/Effects for each command. -/
def Obligations.RailCommandsComplete : Prop :=
  Effect.RailGood ∧ Effect.RailDischarged ∧ Effect.RailOnDelay ∧ Effect.RailSettleDone ∧ Effect.RailOnTimeout ∧
    Effect.RailOffTimeout ∧ Effect.RailLost ∧ Effect.RailLogProgramDone

/-- With its conditions met, each event of reset and boot ends in the machine that its rule gives. One clause of Sys2Proof/Effects for each command. -/
def Obligations.StartupCommandsComplete : Prop :=
  Effect.ResetNAssert ∧ Effect.SupplyOutOfRange ∧ Effect.ResetEnd ∧ Effect.BootComplete

/-- A write of an object of the device that passes every check is audited, does what its rule says and is answered OK. One clause of Sys2Proof/Effects for each command. -/
def Obligations.DeviceWritesComplete : Prop :=
  Effect.DevMarkModeWrite ∧ Effect.PdEnableWrite ∧ Effect.ChCommit ∧ Effect.DevCommitNow ∧ Effect.DevCommitStep ∧
    Effect.LockAcquire ∧ Effect.LockRelease ∧ Effect.Store ∧ Effect.RestoreDefaults ∧ Effect.ImageVerify ∧
    Effect.ImageCommit ∧ Effect.DramRetrain ∧ Effect.ProfTargetWrite ∧ Effect.DevResetWrite ∧ Effect.StateReqStandby ∧
    Effect.StateReqReady ∧ Effect.StateReqPrinting ∧ Effect.FwConfirm

/-- A write of an object of a channel or a lane that passes every check is audited, does what its rule says and is answered OK. One clause of Sys2Proof/Effects for each command. -/
def Obligations.ChannelWritesComplete : Prop :=
  Effect.ChToneSwap ∧ Effect.ToneCopy ∧ Effect.NozPatch ∧ Effect.TblLoad ∧ Effect.TblReadback ∧ Effect.ScanEnable ∧
    Effect.ScanDisable ∧ Effect.SltLoad ∧ Effect.SltReadback ∧ Effect.SltGenerate ∧ Effect.PageAbort ∧ Effect.Load ∧
    Effect.Arm ∧ Effect.Abort ∧ Effect.Unload ∧ Effect.CtrlRead ∧ Effect.CtrlWrite ∧ Effect.BulkGo

/-- A write of an object of the other units that passes every check is audited, does what its rule says and is answered OK. One clause of Sys2Proof/Effects for each command. -/
def Obligations.UnitWritesComplete : Prop :=
  Effect.EncPreset ∧ Effect.Rehome ∧ Effect.CmpArm ∧ Effect.CmpDisarm ∧ Effect.CueListArm ∧ Effect.CueListDisarm ∧
    Effect.RcstRequest ∧ Effect.CodecAbort ∧ Effect.HubBiasWrite ∧ Effect.HubFecRearm ∧ Effect.HubInject ∧
    Effect.SlotEnable ∧ Effect.SlotDisable ∧ Effect.BankSwap ∧ Effect.Preset ∧ Effect.Publish ∧ Effect.GpioOutWrite ∧
    Effect.TimeSet ∧ Effect.QdSync ∧ Effect.QdRail ∧ Effect.QdArm ∧ Effect.QdStart ∧ Effect.QdStop ∧ Effect.QdCommit ∧
    Effect.FltClear ∧ Effect.FltSelClassWrite ∧ Effect.SelStickyClear ∧ Effect.StickyClearAll ∧ Effect.ManualSafe ∧
    Effect.FltFecRearm ∧ Effect.RailTargetWrite

/-- Every object that a command of one object's write names has a row in the dictionary, with the access right that the clauses of Effects name. -/
def Obligations.CommandObjectsHaveRows : Prop :=
  (∀ n : Nat, n < 4 → (∃ d, Row (K.encPreset n) .wo d) ∧ (∃ d, Row (K.encRehome n) .wo d)) ∧
  (∀ n : Nat, n < 8 →
    (∃ d, Row (K.cmpArm n) .wo d) ∧ (∃ d, Row (K.chToneSwap n) .wo d) ∧ (∃ d, Row (K.chToneCopy n) .wo d) ∧
    (∃ d, Row (K.chNozPatch n) .wo d) ∧ (∃ d, Row (K.chTblGo n) .wo d) ∧ (∃ d, Row (K.chScanEnable n) .rw d) ∧
    (∃ d, Row (K.chSltGo n) .wo d) ∧ (∃ d, Row (K.chCmd n) .wo d) ∧ (∃ d, Row (K.chCommit n) .wo d)) ∧
  (∀ k : Nat, k < 16 → (∃ d, Row (K.cueListArm k) .wo d) ∧ (∃ d, Row (K.loopMeasPublish k) .wo d)) ∧
  (∀ m : Nat, m < 32 → (∃ d, Row (K.klCtrlGo m) .wo d) ∧ (∃ d, Row (K.klBulkGo m) .wo d)) ∧
  (∀ k : Nat, k < 10 → (∃ d, Row (K.devLockAcquire k) .wo d) ∧ (∃ d, Row (K.devLockRelease k) .wo d)) ∧
  (∀ k : Nat, k < 64 →
    (∃ d, Row (K.hubBias k) .rw d) ∧ (∃ d, Row (K.loopSlotEnable k) .rw d) ∧ (∃ d, Row (K.loopSlotBankSwap k) .wo d) ∧
    (∃ d, Row (K.loopSlotPreset k) .wo d)) ∧
  (∀ a : Nat, a < 1024 → ∃ d, Row (K.profTarget a) .rwi d) ∧
  (∀ o ∈ [K.devPdEnable, K.devMarkMode, K.hubFecValid, K.loopGpioOut, K.fltSelClass, K.fltFecValid, K.railTarget],
    ∃ d, Row o .rw d) ∧
  (∀ o ∈ [K.beamPageAbort, K.rcstRequest, K.codecAbort, K.hubInject, K.devCommit, K.devOpStart, K.timeSet, K.qdStep, K.fltClear,
      K.fltSelStickyClear, K.fltStickyClearAll, K.fltTrip, K.devReset, K.devStateReq, K.fwConfirm], ∃ d, Row o .wo d)

/-- For every command and machine, a step with the command at the front of the queue is exec of it on the machine with the rest of the queue. -/
def Obligations.StepRunsTheFrontCommand : Prop :=
  ∀ (i : Instr) (r : List Instr) (s : State), step { s with pending := i :: r } = exec i { s with pending := r }

/-- The model's choice (DESIGN CHOICE, log 1): with an empty queue a step lets one cycle of the 200 MHz clock pass; in reset nothing changes; otherwise the sample count goes up by one and device time by 5 ns at the rate in force. -/
def Obligations.EmptyQueuePassesOneCycle : Prop :=
  ∀ (s : State), s.pending = [] →
    step s = .next { s with core := tick s.core } ∧ (s.core.boot.inReset = true → tick s.core = s.core) ∧
    (∀ c : Core, (advance c).sample = c.sample + 1 ∧ (c.geti K.timeRate = 0 → (advance c).time = c.time + 5 * 2 ^ 32))

/-- A command that names only units which the hardware has ends in a next state on every machine; one that names another ends in the fault noSuchUnit; none is ever refused. -/
def Obligations.CommandsNeverRefusedAndFaultOnlyOnMissingUnits : Prop :=
  ∀ (i : Instr) (s : State),
    (i.unitsOk = true → ∃ t : State, exec i s = .next t) ∧ (i.unitsOk = false → exec i s = .fault .noSuchUnit)

/-- While the device is in reset, or the power domain of a command's block is not usable, the command changes nothing. That a command which cannot happen leaves the machine as it is, is the model's choice (log 2). -/
def Obligations.UnpoweredBlockIgnoresItsEvents : Prop :=
  ∀ (i : Instr) (s : State) (d : Nat), i.unitsOk = true → i.domain = some d → s.core.alive d = false → exec i s = .next s

/-- Whatever a command does, the commands that wait behind it are those that waited. -/
def Obligations.CommandsLeaveTheQueueAlone : Prop :=
  ∀ (i : Instr) (s t : State), exec i s = .next t → t.pending = s.pending

/-- A command outside those that move, store or clear data in DRAM leaves DRAM as it was, and every byte of it reads as before. -/
def Obligations.OnlyDramCommandsChangeDram : Prop :=
  ∀ (i : Instr) (s t : State), i.writesDram = false → exec i s = .next t →
    t.dram = s.dram ∧ ∀ a : Nat, dramByte t.dram a = dramByte s.dram a

/-- For every machine whose DRAM is in canonical form (addresses strictly rising, no entry equal to the zero that an unlisted byte reads as), every step that answers a next state leaves it in canonical form. -/
def Obligations.EveryStepKeepsDramCanonical : Prop :=
  ∀ (s t : State), s.Inv → step s = .next t → t.Inv

/-- The machine after reset has DRAM in canonical form, no command waiting, and is held in reset. -/
def Obligations.ResetMachineHasCanonicalDram : Prop :=
  State.reset.Inv ∧ State.reset.pending = [] ∧ State.reset.core.boot.inReset = true

/-- After a run of bytes is stored, each of its addresses reads as the byte stored there and every other address reads as before; the canonical form is kept. -/
def Obligations.DramBytesReadBack : Prop :=
  ∀ (m : List Host.Cell) (a x : Nat) (l : List Byte),
    (Memory.wf m = true → Memory.wf (dramPut m a l) = true) ∧
    dramByte (dramPut m a l) x = if a ≤ x ∧ x < a + l.length then l.getD (x - a) 0#8 else dramByte m x

/-- A write none of whose bursts is refused stores its bytes; one whose first burst is refused changes no byte of DRAM; every byte outside the write reads as before in either case. -/
def Obligations.HubStoresOrRefusesAWrite : Prop :=
  ∀ (c : Core) (m : List Host.Cell) (master a : Nat) (l : List Byte), l ≠ [] →
    (c.refusedIn (burstsOf a l.length).1 (burstsOf a l.length).2 = [] → (c.hubWrite m master a l).2.2 = dramPut m a l) ∧
    (c.refuses (a / 64) = true → (c.hubWrite m master a l).2.2 = m) ∧
    (∀ x : Nat, (x < a ∨ a + l.length ≤ x) → dramByte (c.hubWrite m master a l).2.2 x = dramByte m x)

/-- An object that is set reads as the value in its width, every other object reads as before, the store keeps its ascending order, and nothing but the store changes. -/
def Obligations.ObjectsReadBack : Prop :=
  ∀ (c : Core) (o : Obj) (v : Nat),
    ((c.objs.map Prod.fst).Pairwise (fun a b => a < b) → ((c.set o v).objs.map Prod.fst).Pairwise (fun a b => a < b)) ∧
    (c.set o v).get o = v % 256 ^ o.bytes ∧
    (∀ p : Obj, p.key ≠ o.key → (c.set o v).get p = c.get p) ∧ { c.set o v with objs := c.objs } = c

/-- Counting an object up gives the next value, or its largest one where it holds that. -/
def Obligations.CountersSaturate : Prop :=
  ∀ (c : Core) (o : Obj), c.get o < 256 ^ o.bytes →
    (c.bump o).get o = min (c.get o + 1) (256 ^ o.bytes - 1)

/-- Of a core in which no raise waits, no Recast and no step of the Quadrille is in progress, no reset is asked for and DEV.STATE does not follow the channels, nothing follows: the machine after a command is exactly what the command left. -/
def Obligations.NothingFollowsACalmCommand : Prop :=
  ∀ (c : Core), Calm c → finish c = c

/-- With the input in quadrature and its direction not inverted, a filtered pair equal to the last one changes only what is noted of the pair; the successor in the forward sequence 00, 10, 11, 01 counts +1 and clears REVERSE; the predecessor counts -1 and sets it; a double edge leaves the count, increments ENCn.DOUBLE_EDGES, sets UNCERTAIN and raises ENC_DOUBLE. The index gate then looks at the pair, where it has changed, and fire events of a reversed channel are dropped. -/
def Obligations.QuadratureTable : Prop :=
  ∀ (s : State) (c : Core) (n : Nat) (a b : Bool), c = s.core → n < 4 → Live s 4 →
    c.get (K.encSource n) = 0 → c.bitOf (K.encInvert n) 0 = false →
    let p := ((nth c.encs n).a, (nth c.encs n).b)
    let seen : Core := { c with encs := upd c.encs n fun (x : Enc) => { x with a := a, b := b, abAt := some c.sample } }
    let next := fun (q : Bool × Bool) =>
      if q = (false, false) then (true, false) else if q = (true, false) then (true, true)
      else if q = (true, true) then (false, true) else (false, false)
    let count := fun (d : Int) (reverse : Bool) =>
      encJudge (encCount (seen.setBitOf (K.encStatus n) 3 reverse) n d c.sample) n (nth c.encs n).zAt
    (∀ (x : Core) (d : Int) (t : Nat), ∃ y : Core, encCount x n d t = lcCountChange y n d t ∧
      y.objs = (x.seti (K.encCount n) (x.geti (K.encCount n) + d)).objs) ∧
    ((a, b) = p → Does (.encEdge n a b) s (dropReversedAll c)) ∧
    ((a, b) = next p → Does (.encEdge n a b) s (dropReversedAll (count 1 false))) ∧
    (p = next (a, b) → Does (.encEdge n a b) s (dropReversedAll (count (-1) true))) ∧
    (a ≠ p.1 → b ≠ p.2 → Does (.encEdge n a b) s (dropReversedAll (
      let doubled : Core := { seen with encs := upd seen.encs n fun (x : Enc) =>
        { x with doubles := (c.sample :: x.doubles).take 256 } }
      let d := (doubled.bump (K.encDoubleEdges n)).setBitOf (K.encStatus n) 1 true
      encJudge (d.raise (0x0B10 + n) 1 (d.get (K.encDoubleEdges n))) n (nth c.encs n).zAt)))

/-- The columns are the 32 smallest 7-bit values of weight 3 in ascending order, with the five that the rule names; check bit k is the exclusive-or of the data bits whose column has bit k; the syndrome is the received check bits xor those of the received data; 0 is no error, weight 1 a wrong check bit with the data as read, column i data bit i inverted, and any other value uncorrectable. -/
def Obligations.SecdedCode : Prop :=
  secdedCols.length = 32 ∧ secdedCols.Pairwise (fun a b => a < b) ∧
  (∀ h ∈ secdedCols, h < 128 ∧ popcount 7 h = 3) ∧
  (∀ v : Nat, v < 128 → popcount 7 v = 3 → v ∈ secdedCols ∨ ∀ h ∈ secdedCols, h < v) ∧
  [0, 1, 19, 20, 31].map (fun (i : Nat) => secdedCols.getD i 0) = [0x07, 0x0B, 0x38, 0x43, 0x62] ∧
  (∀ data k : Nat, k < 7 → (secdedCheck data).testBit k =
    (List.range 32).foldl (fun (x : Bool) (i : Nat) => x != (data.testBit i && (secdedCols.getD i 0).testBit k)) false) ∧
  (∀ word : Nat, syndromeOf word = word / 2 ^ 32 % 2 ^ 7 ^^^ secdedCheck (word % 2 ^ 32)) ∧
  (∀ syn : Nat, syn < 128 → secdedResult syn =
    if syn = 0 then .clean else if popcount 7 syn = 1 then .corrected 0
    else if syn ∈ secdedCols then .corrected (2 ^ secdedCols.idxOf syn) else .uncorrectable)

/-- A doorbell to an enabled ring whose value lies in the range of the rule is the count, and has no effect where it is the present one, except that on a host-to-device ring after a failed entry read it starts the read again; any other value, and any doorbell to a disabled ring, is discarded, counts in RING_DB_ERRS and raises RING_DB_ERROR. -/
def Obligations.RingDoorbells : Prop :=
  ∀ (s : State) (c : Core) (k v : Nat), c = s.core → k < 64 → Live s 3 → v < 2 ^ 32 →
    (nth c.rings k).prod < 2 ^ 32 → (nth c.rings k).cons < 2 ^ 32 →
    let r := nth c.rings k
    let ahead := (v + (2 ^ 32 - r.cons)) % 2 ^ 32
    let most := if ringToDevice k then 2 ^ r.size else (r.prod + (2 ^ 32 - r.cons)) % 2 ^ 32
    (r.enable = false ∨ most < ahead → Does (.ringDb k v) s
      ((c.updRing k fun (x : Ring) => { x with dbErrs := min (r.dbErrs + 1) (2 ^ 32 - 1) }).raise 0x0743 1 (2 ^ 56 * k + v))) ∧
    (r.enable = true → ahead ≤ most → ringToDevice k = true → v = r.prod → r.readFailed = false → Does (.ringDb k v) s c) ∧
    (r.enable = true → ahead ≤ most → ringToDevice k = true → (v ≠ r.prod ∨ r.readFailed = true) → Does (.ringDb k v) s
      (ringFetch k (c.updRing k fun (x : Ring) => { x with prod := v, readFailed := false }))) ∧
    (r.enable = true → ahead ≤ most → ringToDevice k = false → Does (.ringDb k v) s
      (c.updRing k fun (x : Ring) => { x with cons := v }))

/-- An event record of fields within their widths is 32 bytes with time, position, source, sequence, code and payload little-endian at 0x00, 0x08, 0x0E, 0x10, 0x14 and 0x18; bit 31 of the flags is TIME_VALID, bit 30 says that the alignment is LOCKED, bit 29 that the time is snapped, bit 28 that the input of the position's synthesiser is UNCERTAIN. -/
def Obligations.EventRecordLayout : Prop :=
  (∀ r : EvRec, r.time < 2 ^ 64 → r.pos < 2 ^ 48 → r.src < 2 ^ 16 → r.seq < 2 ^ 32 → r.code < 2 ^ 32 → r.payload < 2 ^ 64 →
    r.bytes.length = 32 ∧ natLE (slice r.bytes 0x00 8) = r.time ∧ natLE (slice r.bytes 0x08 6) = r.pos ∧
    natLE (slice r.bytes 0x0E 2) = r.src ∧ natLE (slice r.bytes 0x10 4) = r.seq ∧ natLE (slice r.bytes 0x14 4) = r.code ∧
    natLE (slice r.bytes 0x18 8) = r.payload) ∧
  (∀ (c : Core) (k : Nat),
    ((c.codeFlags k).testBit 31 = c.timeValid) ∧ ((c.codeFlags k).testBit 30 = decide (c.get K.alignState = 4)) ∧
    ((c.codeFlags k).testBit 29 = c.snapped) ∧ ((c.codeFlags k).testBit 28 = c.bitOf (K.encStatus k) 1) ∧
    (∀ j : Nat, j < 28 ∨ 32 ≤ j → (c.codeFlags k).testBit j = false))

/-- A value within its width, of any type but BLOB, is read from the wire as it was put there: big-endian; a BF24 has its mantissa first and its exponent in byte 3. -/
def Obligations.WireValuesRoundTrip : Prop :=
  (∀ (typ size v : Nat), typ ≠ 10 → (typ = 7 → size = 4) → v < 256 ^ size →
    (wireBytes typ size v).length = size ∧ wireValue typ (wireBytes typ size v) = v) ∧
  (∀ m e : Nat, m < 2 ^ 24 → e < 2 ^ 8 →
    wireBytes 7 4 (m + 2 ^ 24 * e) = [BitVec.ofNat 8 (m / 2 ^ 16), BitVec.ofNat 8 (m / 2 ^ 8), BitVec.ofNat 8 m, BitVec.ofNat 8 e])

/-- The status of a write is that of the first check that fails, in the order ACCESS, TYPE, LENGTH, LOCKED, STATE, RANGE, BOUND, and OK where none fails. -/
def Obligations.FirstFailingCheckDecides : Prop :=
  ∀ (w : Writer) (d : Desc) (typ off : Nat) (data : List Byte) (c : Core) (m : List Host.Cell),
    let index := d.obj.key / 256
    let sub := d.obj.key % 256
    let v := writeWhole c d off data
    let noAccess := writeAccess c d v
    let badType := typ != 0 && typ != d.typ
    let badLength := writeLength c d off data
    let isLocked := (c.lockedBy d w).isSome
    let badState := recoveryBars c index sub v || writeState c d.acc index sub v || (isImage index sub && imageState c off)
    let badRange := writeRange c m d v || (isImage index sub && imageRange c off data)
    let isBound := isImage index sub && imageBound off data
    (writeCheck w d typ off data c m).1 = if noAccess then 3 else if badType then 4 else if badLength then 5 else if isLocked then 6
      else if badState then 7 else if badRange then 8 else if isBound then 9 else 0

/-- A write of an object that the dictionary does not have is answered NO_OBJECT; one that fails a check is answered with its status; in both cases the machine holds the audit entry, the refreshed leases and the reply, and nothing else that is new. -/
def Obligations.FailedWriteOnlyIsAudited : Prop :=
  ∀ (s : State) (w : Writer) (index sub typ off : Nat) (data : List Byte), Live s 1 → s.core.serverSilent = false →
    s.core.serverBusy = none →
    (s.core.resolve index sub = none → DoesMem (.objectWrite w index sub typ off data) s
      (setReply 2 0 (lockRefresh w (auditWrite w index sub 2 data s.core)), s.dram)) ∧
    (∀ d : Desc, s.core.resolve index sub = some d → (writeCheck w d typ off data s.core s.dram).1 ≠ 0 →
      DoesMem (.objectWrite w index sub typ off data) s
        (setReply (writeCheck w d typ off data s.core s.dram).1 (writeCheck w d typ off data s.core s.dram).2
          (lockRefresh w (auditWrite w (d.obj.key / 256) (d.obj.key % 256) (writeCheck w d typ off data s.core s.dram).1
            (auditValue (some d) data) s.core)), s.dram))

/-- An RWS object in the scope of a held lock is written by the owner only; an RWL object by the owner only, and by nobody while the lock is free; RW and RWI objects outside the lock objects are not affected. INFO names the owner. -/
def Obligations.LocksForbidWrites : Prop :=
  ∀ (c : Core) (d : Desc) (w x : Writer),
    (d.acc = .rws → c.lockOwner (d.obj.key / 256) = some x → c.lockedBy d w = if x = w then none else some (ownerWord x)) ∧
    (d.acc = .rws → c.lockOwner (d.obj.key / 256) = none → c.lockedBy d w = none) ∧
    (d.acc = .rwl → c.lockOwner (d.obj.key / 256) = some x → c.lockedBy d w = if x = w then none else some (ownerWord x)) ∧
    (d.acc = .rwl → c.lockOwner (d.obj.key / 256) = none → c.lockedBy d w = some 0) ∧
    (d.acc = .rw ∨ d.acc = .rwi → (d.obj.key / 256 < 0x0220 ∨ 0x022A ≤ d.obj.key / 256) → c.lockedBy d w = none)

/-- After an object is staged its staged value is the one given, with its writer, withheld exactly where the writer owns the lock of the scope; every other staged value is as before; no object's value in force changes. -/
def Obligations.StagingKeepsTheLiveValue : Prop :=
  ∀ (c : Core) (o : Obj) (v : Nat) (w : Writer),
    (stageValue o v w c).stagedOf o.key =
      some { key := o.key, value := v, by_ := some w, withheld := decide (c.lockOwner (o.key / 256) = some w) } ∧
    (∀ k : Nat, k ≠ o.key → (stageValue o v w c).stagedOf k = c.stagedOf k) ∧
    ((c.staged.map StagedVal.key).Pairwise (fun a b => a < b) →
      ((stageValue o v w c).staged.map StagedVal.key).Pairwise (fun a b => a < b)) ∧
    (∀ p : Obj, (stageValue o v w c).get p = c.get p)

/-- While the server is busy, a write leaves only the answer BUSY with the time left, and a request of a message is answered BUSY with it, counted, and nothing else changes. -/
def Obligations.BusyServerExecutesNothing : Prop :=
  (∀ (s : State) (w : Writer) (index sub typ off left : Nat) (data : List Byte), Live s 1 → s.core.serverSilent = false →
    s.core.serverBusy = some left → DoesMem (.objectWrite w index sub typ off data) s (setReply 1 left s.core, s.dram)) ∧
  (∀ (c : Core) (m : List Host.Cell) (transport addr left : Nat) (msg : List Byte), discarded msg = false →
    crcFails transport msg = false → beAt msg 2 1 = 1 → beAt msg 3 1 = 1 → c.serverBusy = some left →
    request transport addr msg c m = (some (response transport msg 1 left []), c.bump K.wopBusyAnswers, m)) ∧
  (∀ c : Core, c.fw.op ≠ 0 → ∃ left : Nat, 1 ≤ left ∧ c.serverBusy = some left)

/-- While the device is in reset or in the boot before step 6, a write has no effect at all. -/
def Obligations.SilentServerAnswersNothing : Prop :=
  (∀ (s : State) (w : Writer) (index sub typ off : Nat) (data : List Byte), Live s 1 → s.core.serverSilent = true →
    DoesMem (.objectWrite w index sub typ off data) s (s.core, s.dram)) ∧
  (∀ c : Core, c.serverSilent = true ↔ c.boot.inReset = true ∨ c.boot.step < 6)

/-- Of a client in the table: SEQ 0, and the value after the last executed one, execute; the last executed one is answered with the stored response and counted, and changes nothing else but the time of use; any other is answered SEQUENCE with the next value. After 65,535 comes 1. -/
def Obligations.SequenceNumbersDecideExecution : Prop :=
  (∀ (w : Writer) (msg : List Byte) (items : List Item) (c : Core) (m : List Host.Cell) (x : Client), c.clientOf w = some x →
    (beAt msg 6 2 = 0 → requestBySeq w msg items c m = runRequest w msg items (lockRestart w c) m) ∧
    (beAt msg 6 2 ≠ 0 → beAt msg 6 2 = seqNext x.seq → requestBySeq w msg items c m = runRequest w msg items c m) ∧
    (beAt msg 6 2 ≠ 0 → beAt msg 6 2 ≠ seqNext x.seq → beAt msg 6 2 = x.seq → requestBySeq w msg items c m =
      (x.rsp, ({ c with clients := c.clients.map fun (y : Client) => if y = x then { y with at_ := c.clock } else y } : Core).bump
        K.wopDuplicates, m)) ∧
    (beAt msg 6 2 ≠ 0 → beAt msg 6 2 ≠ seqNext x.seq → beAt msg 6 2 ≠ x.seq → requestBySeq w msg items c m =
      (response w.transport msg 11 (seqNext x.seq) [], c.bump K.wopSeqErrors, m))) ∧
  seqNext 65535 = 1 ∧ ∀ q : Nat, q < 65535 → seqNext q = q + 1

/-- A legible message whose CRC-32 fails is answered by 20 bytes: header and trailer, with status CRC, no item and length 0; nothing else of the machine changes but the count. -/
def Obligations.FailedMessageCrcRunsNothing : Prop :=
  ∀ (c : Core) (m : List Host.Cell) (transport addr : Nat) (msg : List Byte), discarded msg = false → crcFails transport msg = true →
    request transport addr msg c m = (some (response transport msg 10 0 []), c.bump K.wopCrcErrors, m) ∧
    (hasTrailer transport = true → (response transport msg 10 0 []).length = 20 ∧
      beAt (response transport msg 10 0 []) 9 1 = 10 ∧ beAt (response transport msg 10 0 []) 10 2 = 0 ∧
      beAt (response transport msg 10 0 []) 12 2 = 0)

/-- Sub-index 1 of alias a is the object that PROF.TARGETa names, or none where that is 0; every other index, and every other sub-index of an alias, is its own. -/
def Obligations.AliasIsItsTarget : Prop :=
  ∀ (c : Core) (a index sub : Nat), a < 1024 →
    (c.get (K.profTarget a) = 0 → c.resolve (0x4000 + a) 1 = none) ∧
    (c.get (K.profTarget a) ≠ 0 → c.resolve (0x4000 + a) 1 =
      descOf (c.get (K.profTarget a) / 256 % 65536) (c.get (K.profTarget a) % 256)) ∧
    ((index < 0x4000 ∨ 0x4400 ≤ index ∨ sub ≠ 1) → c.resolve index sub = descOf index sub)

/-- While the audit ring is kept, an entry of 64 bytes with its source, sequence number, value length and first bytes goes to its front and the sequence goes on; a full ring loses its oldest entry. -/
def Obligations.AuditRingHoldsEntries : Prop :=
  ∀ (c : Core) (code payload : Nat) (value : List Byte), c.auditOn = true → c.auditNext < 2 ^ 32 → value.length < 2 ^ 32 →
    c.audit.length ≤ 65536 →
    let d := auditEntry code payload value c
    d.auditNext = (c.auditNext + 1) % 2 ^ 32 ∧ d.audit.length = min (c.audit.length + 1) 65536 ∧
    d.audit.tail = c.audit.take 65535 ∧ (d.audit.headD []).length = 64 ∧
    natLE (slice (d.audit.headD []) 0x0E 2) = 0x0270 ∧ natLE (slice (d.audit.headD []) 0x10 4) = c.auditNext ∧
    natLE (slice (d.audit.headD []) 0x20 4) = value.length ∧ slice (d.audit.headD []) 0x28 24 = padTo 24 value

/-- START outside IDLE and AT_END, STOP outside RUNNING and AT_END, RESET outside HALTED and IDLE, DMA_HEAD outside IDLE, AT_END and HALTED, a kick in IDLE or HALTED, and each of them to an owned channel, only increments DMA.BAD_WRITES. -/
def Obligations.DmaDiscardsWritesOutOfState : Prop :=
  ∀ (s : State) (c : Core) (ch v : Nat), c = s.core → ch < 16 → Live s 3 →
    let st := (nth c.dmas ch).state
    let bad := c.bump K.dmaBadWrites
    (c.dmaOwned ch = true ∨ (st ≠ 0 ∧ st ≠ 2) → Does (.dmaStart ch) s bad) ∧
    (c.dmaOwned ch = true ∨ (st ≠ 1 ∧ st ≠ 2) → Does (.dmaStop ch) s bad) ∧
    (c.dmaOwned ch = true ∨ (st ≠ 0 ∧ st ≠ 4) → Does (.dmaReset ch) s bad) ∧
    (c.dmaOwned ch = true ∨ (st ≠ 0 ∧ st ≠ 2 ∧ st ≠ 4) → Does (.dmaHeadWrite ch v) s bad) ∧
    (c.dmaOwned ch = true ∨ st = 0 ∨ st = 4 → Does (.dmaKick ch) s bad)

/-- A submission while a request is in progress or a response waits, or of no bytes or more than 16,384, is discarded and counted. -/
def Obligations.MailboxTakesOneRequest : Prop :=
  ∀ (s : State) (c : Core) (len : Nat), c = s.core → Live s 3 →
    (c.pcie.reqBusy = true ∨ c.pcie.rspReady = true ∨ len = 0 ∨ 16384 < len) → Does (.mbxSubmit len) s (mbxDiscard c)

/-- Outside beam mode, the raise of a fault of class 1 or 2 sets the sticky bit, counts, keeps time, payload and class, marks the scopes that it holds, writes its record and takes the snapshot; no state of a channel or of the device follows, apart from the fault move of a lost rail (R420). -/
def Obligations.MinorFaultsAreOnlyRecorded : Prop :=
  ∀ (r : Raise) (c : Core), c.beam = false → (c.classOf r.src r.kind r.payload = 1 ∨ c.classOf r.src r.kind r.payload = 2) →
    let id := faultId r.src r.kind
    let cls := c.classOf r.src r.kind r.payload
    let held := r.held || ((c.faultOf id).cycle.isNone && c.activeNow (c.faultOf id) != 0)
    let d := c.updFault id fun (x : FaultEntry) =>
      { x with sticky := true, count := min (x.count + 1) (2 ^ 32 - 1), time := c.now, payload := r.payload, active := cls,
               cycle := if held then none else some c.sample }
    let e : Core := { d with scopes := c.scopes.mapIdx (fun (i : Nat) (x : Scope) =>
      if holdsScope r.src cls i = true then { x with holdAt := some c.clock } else x) }
    faultRaised r c = railLostMove r.src (faultSnapshot r.src r.kind cls (faultRecord r.src r.kind cls 1 r.payload e))

/-- Outside beam mode: HOLD requests Recast with the reason of the fault, STOP_CHANNEL puts the channels of the fault into FAULTED, STOP_DEVICE and SAFE stop the device; a channel that is FAULTED stays as it is. -/
def Obligations.FaultClassReactions : Prop :=
  ∀ (src kind : Nat) (c : Core), c.beam = false →
    react src kind 1 c = c ∧ react src kind 2 c = c ∧ react src kind 3 c = requestRecast (holdReason src) c ∧
    react src kind 4 c =
      (faultChannels src).foldl (fun (a : Core) (n : Nat) => stopChannel (faultId src kind) 4 n a) c ∧
    react src kind 5 c = stopDevice (faultId src kind) 5 c ∧ react src kind 6 c = stopDevice (faultId src kind) 6 c ∧
    (∀ n : Nat, n < 8 → faultChannels (0x1000 + 0x100 * n) = [n]) ∧
    (∀ cls n : Nat, c.get (K.chState n) = 7 → stopChannel (faultId src kind) cls n c = c)

/-- After a reset no value is staged, no lock held, no client known, the audit ring and the waiting raises are empty, device time is 0, the hub grants nothing, the cause is that of the reset, and the rail log holds every record that it held. -/
def Obligations.ResetIsCold : Prop :=
  ∀ (cause : Nat) (c : Core),
    let d := doReset cause c
    d.staged = [] ∧ d.clients = [] ∧ (∀ k : Nat, k < 10 → (nth d.locks k).owner = none) ∧ d.audit = [] ∧ d.raises = [] ∧
    d.time = 0 ∧ d.hub.granted = false ∧ d.boot.inReset = true ∧ d.boot.cause = cause ∧ d.objs = [] ∧
    (∀ r ∈ c.nor.log, r ∈ d.nor.log)

/-- From the machine after reset, with the settings that the model chooses for a new device (DESIGN CHOICE, log 20), the end of reset, the training of DRAM and its good end, the end of the fill and the end of the boot lead to DEV.STATE 2 (STANDBY) with every domain on that DEV.PD.ENABLE asks for. -/
def Obligations.BootReachesStandby : Prop :=
  ∃ s1 s2 s3 s4 s5 : State, exec .resetEnd State.reset = .next s1 ∧ exec .dramTraining s1 = .next s2 ∧
    exec (.dramTrainDone true 0) s2 = .next s3 ∧ exec .dramFillDone s3 = .next s4 ∧ exec .bootComplete s4 = .next s5 ∧
    s5.core.get K.devState = 2 ∧ s5.core.boot.step = 9 ∧ s5.core.serverBusy = none ∧ s5.core.serverSilent = false
end

