-- ==== Sys2Proof/Laws/Run.lean ====
section
/-! SUPPORT. Sys2Proof/Laws/Run.lean: how a command's effect becomes an outcome, said once: what `run`, `runMem`, `runPut` and
the object server answer. -/

namespace Sys2Proof.Machine

/-- A command of an existing unit in a usable domain. -/
theorem run_live (ok : Bool) (d : Nat) (s : State) (f : Core → Core) (h : ok = true) (hd : Live s d) :
    run ok d s f = .next { s with core := finish (f s.core) } := by
  subst h
  simp only [run, if_true, show s.core.alive d = true from hd]

/-- A command of an existing unit in a domain that is not usable. -/
theorem run_off (ok : Bool) (d : Nat) (s : State) (f : Core → Core) (h : ok = true) (hd : s.core.alive d = false) :
    run ok d s f = .next s := by
  subst h
  simp [run, hd]

/-- A command of a unit that does not exist. -/
theorem run_fault (ok : Bool) (d : Nat) (s : State) (f : Core → Core) (h : ok = false) :
    run ok d s f = .fault .noSuchUnit := by
  subst h
  rfl

/-- What `run` can answer. -/
theorem run_cases (ok : Bool) (d : Nat) (s : State) (f : Core → Core) :
    run ok d s f = .fault .noSuchUnit ∨ ∃ c : Core, run ok d s f = .next { s with core := c } := by
  cases ok
  · exact .inl rfl
  · cases h : s.core.alive d
    · exact .inr ⟨s.core, run_off true d s f rfl h⟩
    · exact .inr ⟨_, run_live true d s f rfl h⟩

theorem runMem_live (ok : Bool) (d : Nat) (s : State) (f : Core → List Host.Cell → Core × List Host.Cell) (h : ok = true)
    (hd : Live s d) :
    runMem ok d s f = .next { s with core := finish (f s.core s.dram).1, dram := (f s.core s.dram).2 } := by
  subst h
  simp only [runMem, if_true, show s.core.alive d = true from hd]

theorem runMem_off (ok : Bool) (d : Nat) (s : State) (f : Core → List Host.Cell → Core × List Host.Cell) (h : ok = true)
    (hd : s.core.alive d = false) : runMem ok d s f = .next s := by
  subst h
  simp [runMem, hd]

theorem runMem_fault (ok : Bool) (d : Nat) (s : State) (f : Core → List Host.Cell → Core × List Host.Cell) (h : ok = false) :
    runMem ok d s f = .fault .noSuchUnit := by
  subst h
  rfl

/-- What `runMem` can answer. -/
theorem runMem_cases (ok : Bool) (d : Nat) (s : State) (f : Core → List Host.Cell → Core × List Host.Cell) :
    runMem ok d s f = .fault .noSuchUnit ∨
      ∃ (c : Core) (m : List Host.Cell), runMem ok d s f = .next { s with core := c, dram := m } ∧
        (m = s.dram ∨ m = (f s.core s.dram).2) := by
  cases ok
  · exact .inl rfl
  · cases h : s.core.alive d
    · exact .inr ⟨s.core, s.dram, runMem_off true d s f rfl h, .inl rfl⟩
    · exact .inr ⟨_, _, runMem_live true d s f rfl h, .inr rfl⟩

/-- The collector has nothing to do where nothing is raised. -/
theorem settle_none (c : Core) (h : c.raises = []) : settle c = c := by
  show settleN (4095 + 1) c = c
  simp only [settleN, h]

/-- A write of an object that passes every check: the server audits it, applies it, refreshes the leases and answers OK. -/
theorem serverWrite_ok (w : Writer) (index sub typ off : Nat) (data : List Byte) (c : Core) (m : List Host.Cell) (d : Desc)
    (hs : c.serverSilent = false) (hb : c.serverBusy = none) (hd : c.resolve index sub = some d)
    (hc : (writeCheck w d typ off data c m).1 = 0) :
    serverWrite w index sub typ off data c m =
      let r := writeEffect w d off data
        (auditWrite w (d.obj.key / 256) (d.obj.key % 256) 0 (auditValue (some d) data) c) m
      (setReply 0 (writeCheck w d typ off data c m).2 (lockRefresh w r.1), r.2) := by
  simp [serverWrite, serverItem, hs, hb, hd, hc]

/-- A write that fails a check: it is audited and answered with its status. -/
theorem serverWrite_fails (w : Writer) (index sub typ off : Nat) (data : List Byte) (c : Core) (m : List Host.Cell) (d : Desc)
    (hs : c.serverSilent = false) (hb : c.serverBusy = none) (hd : c.resolve index sub = some d)
    (hc : (writeCheck w d typ off data c m).1 ≠ 0) :
    serverWrite w index sub typ off data c m =
      (setReply (writeCheck w d typ off data c m).1 (writeCheck w d typ off data c m).2
        (lockRefresh w (auditWrite w (d.obj.key / 256) (d.obj.key % 256) (writeCheck w d typ off data c m).1
          (auditValue (some d) data) c)), m) := by
  simp [serverWrite, serverItem, hs, hb, hd, hc]

/-- An index outside the aliases, or a sub-index other than 1, is its own object. -/
theorem resolve_plain (c : Core) (index sub : Nat) (h : index < 0x4000 ∨ 0x4400 ≤ index ∨ sub ≠ 1) :
    c.resolve index sub = descOf index sub := by
  unfold Core.resolve
  split
  · rename_i h'
    simp only [Bool.and_eq_true, decide_eq_true_eq] at h'
    omega
  · rfl

end Sys2Proof.Machine
end

