-- ==== Sys2Proof/Laws/Exec.lean ====
section
/-! SUPPORT. Sys2Proof/Laws/Exec.lean: the three shapes of a command's outcome, said once for all commands. -/

namespace Sys2Proof.Machine

/-- A command is an event of a block, a command that may write DRAM, or one of the reset and the supplies. -/
inductive ExecShape (i : Instr) (s : State) : Prop
  | event (d : Nat) (f : Core → Core) (hd : i.domain = some d) (h : exec i s = run i.unitsOk d s f)
  | mem (d : Nat) (f : Core → List Host.Cell → Core × List Host.Cell) (hd : i.domain = some d)
      (h : exec i s = runMem i.unitsOk d s f)
  | reset (f : Core → Core) (hd : i.domain = none) (hu : i.unitsOk = true) (h : exec i s = runReset s f)

theorem exec_shape (i : Instr) (s : State) : ExecShape i s := by
  cases i with
  | devMarkModeWrite a0 a1 =>
    exact .mem _ _ rfl (execDevMarkModeWrite.eq_1 a0 a1 s |>.trans (runPut.eq_1 _ _ _ _ _))
  | objectWrite a0 a1 a2 a3 a4 a5 =>
    exact .mem _ _ rfl (execObjectWrite.eq_1 a0 a1 a2 a3 a4 a5 s |>.trans (runWrite.eq_1 _ _ _ _ _ _ _ _))
  | stagedWrite a0 a1 a2 a3 a4 a5 =>
    exact .mem _ _ rfl (execStagedWrite.eq_1 a0 a1 a2 a3 a4 a5 s |>.trans (runWrite.eq_1 _ _ _ _ _ _ _ _))
  | pdEnableWrite a0 a1 =>
    exact .mem _ _ rfl (execPdEnableWrite.eq_1 a0 a1 s |>.trans (runPut.eq_1 _ _ _ _ _))
  | pdSwitchDone a0 =>
    exact .event _ _ rfl (execPdSwitchDone.eq_1 a0 s)
  | lineBoundary a0 =>
    exact .event _ _ rfl (execLineBoundary.eq_1 a0 s)
  | encEdge a0 a1 a2 =>
    exact .event _ _ rfl (execEncEdge.eq_1 a0 a1 a2 s)
  | encUnreliable a0 =>
    exact .event _ _ rfl (execEncUnreliable.eq_1 a0 s)
  | encIndex a0 a1 =>
    exact .event _ _ rfl (execEncIndex.eq_1 a0 a1 s)
  | encPreset a0 a1 a2 =>
    exact .mem _ _ rfl (execEncPreset.eq_1 a0 a1 a2 s |>.trans (runPut.eq_1 _ _ _ _ _))
  | rehome a0 a1 a2 =>
    exact .mem _ _ rfl (execRehome.eq_1 a0 a1 a2 s |>.trans (runPut.eq_1 _ _ _ _ _))
  | sposRequest a0 a1 =>
    exact .event _ _ rfl (execSposRequest.eq_1 a0 a1 s)
  | sposWord a0 a1 a2 a3 =>
    exact .event _ _ rfl (execSposWord.eq_1 a0 a1 a2 a3 s)
  | sposWordTimeout a0 =>
    exact .event _ _ rfl (execSposWordTimeout.eq_1 a0 s)
  | sposLost a0 =>
    exact .event _ _ rfl (execSposLost.eq_1 a0 s)
  | passOverrun a0 =>
    exact .event _ _ rfl (execPassOverrun.eq_1 a0 s)
  | compareTarget a0 =>
    exact .event _ _ rfl (execCompareTarget.eq_1 a0 s)
  | cmpPulse a0 =>
    exact .event _ _ rfl (execCmpPulse.eq_1 a0 s)
  | cmpPulseEnd a0 =>
    exact .event _ _ rfl (execCmpPulseEnd.eq_1 a0 s)
  | cmpArm a0 a1 =>
    exact .mem _ _ rfl (execCmpArm.eq_1 a0 a1 s |>.trans (runPut.eq_1 _ _ _ _ _))
  | cmpDisarm a0 a1 =>
    exact .mem _ _ rfl (execCmpDisarm.eq_1 a0 a1 s |>.trans (runPut.eq_1 _ _ _ _ _))
  | cmpCapture a0 a1 =>
    exact .event _ _ rfl (execCmpCapture.eq_1 a0 a1 s)
  | lcTrackExit a0 =>
    exact .event _ _ rfl (execLcTrackExit.eq_1 a0 s)
  | lcStill a0 =>
    exact .event _ _ rfl (execLcStill.eq_1 a0 s)
  | lcUnlock a0 =>
    exact .event _ _ rfl (execLcUnlock.eq_1 a0 s)
  | lcRelock a0 =>
    exact .event _ _ rfl (execLcRelock.eq_1 a0 s)
  | lcSettled a0 =>
    exact .event _ _ rfl (execLcSettled.eq_1 a0 s)
  | nop a0 =>
    exact .event _ _ rfl (execNop.eq_1 a0 s)
  | toneSwap a0 =>
    exact .event _ _ rfl (execToneSwap.eq_1 a0 s)
  | commit a0 =>
    exact .event _ _ rfl (execCommit.eq_1 a0 s)
  | devCommit a0 =>
    exact .event _ _ rfl (execDevCommit.eq_1 a0 s)
  | loopSample a0 =>
    exact .event _ _ rfl (execLoopSample.eq_1 a0 s)
  | loopBank a0 =>
    exact .event _ _ rfl (execLoopBank.eq_1 a0 s)
  | adcTrigger a0 =>
    exact .event _ _ rfl (execAdcTrigger.eq_1 a0 s)
  | gpio a0 =>
    exact .event _ _ rfl (execGpio.eq_1 a0 s)
  | event a0 =>
    exact .event _ _ rfl (execEvent.eq_1 a0 s)
  | listArm a0 =>
    exact .event _ _ rfl (execListArm.eq_1 a0 s)
  | recastReq a0 =>
    exact .event _ _ rfl (execRecastReq.eq_1 a0 s)
  | pageStart a0 =>
    exact .event _ _ rfl (execPageStart.eq_1 a0 s)
  | cueListArm a0 a1 =>
    exact .mem _ _ rfl (execCueListArm.eq_1 a0 a1 s |>.trans (runPut.eq_1 _ _ _ _ _))
  | cueListDisarm a0 a1 =>
    exact .mem _ _ rfl (execCueListDisarm.eq_1 a0 a1 s |>.trans (runPut.eq_1 _ _ _ _ _))
  | cueEntryWrite a0 a1 a2 a3 a4 =>
    exact .mem _ _ rfl (execCueEntryWrite.eq_1 a0 a1 a2 a3 a4 s |>.trans (runWrite.eq_1 _ _ _ _ _ _ _ _))
  | fireIssue a0 =>
    exact .event _ _ rfl (execFireIssue.eq_1 a0 s)
  | flaskReadDone a0 a1 a2 a3 =>
    exact .event _ _ rfl (execFlaskReadDone.eq_1 a0 a1 a2 a3 s)
  | chToneSwap a0 a1 a2 =>
    exact .mem _ _ rfl (execChToneSwap.eq_1 a0 a1 a2 s |>.trans (runPut.eq_1 _ _ _ _ _))
  | toneDrainEnd a0 =>
    exact .event _ _ rfl (execToneDrainEnd.eq_1 a0 s)
  | toneCopy a0 a1 =>
    exact .mem _ _ rfl (execToneCopy.eq_1 a0 a1 s |>.trans (runPut.eq_1 _ _ _ _ _))
  | toneCopyDone a0 =>
    exact .event _ _ rfl (execToneCopyDone.eq_1 a0 s)
  | nozPatch a0 a1 a2 =>
    exact .mem _ _ rfl (execNozPatch.eq_1 a0 a1 a2 s |>.trans (runPut.eq_1 _ _ _ _ _))
  | nozResyncDone a0 =>
    exact .event _ _ rfl (execNozResyncDone.eq_1 a0 s)
  | tblLoad a0 a1 =>
    exact .mem _ _ rfl (execTblLoad.eq_1 a0 a1 s |>.trans (runPut.eq_1 _ _ _ _ _))
  | tblReadback a0 a1 =>
    exact .mem _ _ rfl (execTblReadback.eq_1 a0 a1 s |>.trans (runPut.eq_1 _ _ _ _ _))
  | tblLoadDone a0 =>
    exact .mem _ _ rfl (execTblLoadDone.eq_1 a0 s)
  | sramScrubRead a0 a1 a2 a3 =>
    exact .event _ _ rfl (execSramScrubRead.eq_1 a0 a1 a2 a3 s)
  | headTempStale a0 a1 =>
    exact .event _ _ rfl (execHeadTempStale.eq_1 a0 a1 s)
  | temp a0 a1 a2 a3 =>
    exact .event _ _ rfl (execTemp.eq_1 a0 a1 a2 a3 s)
  | nozzle a0 a1 a2 a3 =>
    exact .event _ _ rfl (execNozzle.eq_1 a0 a1 a2 a3 s)
  | fault a0 a1 a2 a3 =>
    exact .event _ _ rfl (execFault.eq_1 a0 a1 a2 a3 s)
  | status a0 a1 a2 a3 a4 a5 a6 =>
    exact .event _ _ rfl (execStatus.eq_1 a0 a1 a2 a3 a4 a5 a6 s)
  | lineNak a0 a1 a2 =>
    exact .event _ _ rfl (execLineNak.eq_1 a0 a1 a2 s)
  | ctrlAck a0 a1 a2 a3 =>
    exact .event _ _ rfl (execCtrlAck.eq_1 a0 a1 a2 a3 s)
  | echoRsp a0 a1 a2 a3 =>
    exact .event _ _ rfl (execEchoRsp.eq_1 a0 a1 a2 a3 s)
  | train a0 a1 a2 =>
    exact .event _ _ rfl (execTrain.eq_1 a0 a1 a2 s)
  | klInvalidBlock a0 a1 =>
    exact .event _ _ rfl (execKlInvalidBlock.eq_1 a0 a1 s)
  | klLockLoss a0 =>
    exact .event _ _ rfl (execKlLockLoss.eq_1 a0 s)
  | klSilence a0 =>
    exact .event _ _ rfl (execKlSilence.eq_1 a0 s)
  | klBlockLock a0 a1 =>
    exact .event _ _ rfl (execKlBlockLock.eq_1 a0 a1 s)
  | klStageTimer a0 =>
    exact .event _ _ rfl (execKlStageTimer.eq_1 a0 s)
  | laneTrainStart a0 =>
    exact .event _ _ rfl (execLaneTrainStart.eq_1 a0 s)
  | klTrainTimeout a0 =>
    exact .event _ _ rfl (execKlTrainTimeout.eq_1 a0 s)
  | klRetryTimer a0 =>
    exact .event _ _ rfl (execKlRetryTimer.eq_1 a0 s)
  | klSyncDue =>
    exact .event _ _ rfl (execKlSyncDue.eq_1 s)
  | keepaliveDue a0 =>
    exact .event _ _ rfl (execKeepaliveDue.eq_1 a0 s)
  | lineFrameOpen a0 =>
    exact .event _ _ rfl (execLineFrameOpen.eq_1 a0 s)
  | ctrlRead a0 a1 =>
    exact .mem _ _ rfl (execCtrlRead.eq_1 a0 a1 s |>.trans (runPut.eq_1 _ _ _ _ _))
  | ctrlWrite a0 a1 =>
    exact .mem _ _ rfl (execCtrlWrite.eq_1 a0 a1 s |>.trans (runPut.eq_1 _ _ _ _ _))
  | klCtrlTimeout a0 =>
    exact .event _ _ rfl (execKlCtrlTimeout.eq_1 a0 s)
  | bulkGo a0 a1 =>
    exact .mem _ _ rfl (execBulkGo.eq_1 a0 a1 s |>.trans (runPut.eq_1 _ _ _ _ _))
  | scanPulse a0 a1 a2 a3 =>
    exact .event _ _ rfl (execScanPulse.eq_1 a0 a1 a2 a3 s)
  | scanMiss a0 =>
    exact .event _ _ rfl (execScanMiss.eq_1 a0 s)
  | scanLost a0 =>
    exact .event _ _ rfl (execScanLost.eq_1 a0 s)
  | scanEnable a0 a1 =>
    exact .mem _ _ rfl (execScanEnable.eq_1 a0 a1 s |>.trans (runPut.eq_1 _ _ _ _ _))
  | scanDisable a0 a1 =>
    exact .mem _ _ rfl (execScanDisable.eq_1 a0 a1 s |>.trans (runPut.eq_1 _ _ _ _ _))
  | scanSpinupDone a0 =>
    exact .event _ _ rfl (execScanSpinupDone.eq_1 a0 s)
  | scanAcquired a0 =>
    exact .event _ _ rfl (execScanAcquired.eq_1 a0 s)
  | scanAcqTimeout a0 =>
    exact .event _ _ rfl (execScanAcqTimeout.eq_1 a0 s)
  | scanLostRetry a0 =>
    exact .event _ _ rfl (execScanLostRetry.eq_1 a0 s)
  | sweepCommit a0 =>
    exact .event _ _ rfl (execSweepCommit.eq_1 a0 s)
  | scanPagePhase2 a0 =>
    exact .event _ _ rfl (execScanPagePhase2.eq_1 a0 s)
  | scanSplit a0 =>
    exact .event _ _ rfl (execScanSplit.eq_1 a0 s)
  | sltLoad a0 a1 =>
    exact .mem _ _ rfl (execSltLoad.eq_1 a0 a1 s |>.trans (runPut.eq_1 _ _ _ _ _))
  | sltReadback a0 a1 =>
    exact .mem _ _ rfl (execSltReadback.eq_1 a0 a1 s |>.trans (runPut.eq_1 _ _ _ _ _))
  | sltGenerate a0 a1 =>
    exact .mem _ _ rfl (execSltGenerate.eq_1 a0 a1 s |>.trans (runPut.eq_1 _ _ _ _ _))
  | sltDone a0 =>
    exact .mem _ _ rfl (execSltDone.eq_1 a0 s)
  | apcSample a0 a1 =>
    exact .event _ _ rfl (execApcSample.eq_1 a0 a1 s)
  | stationFinished a0 =>
    exact .event _ _ rfl (execStationFinished.eq_1 a0 s)
  | pageSpoiledReport a0 =>
    exact .event _ _ rfl (execPageSpoiledReport.eq_1 a0 s)
  | pageAbort a0 =>
    exact .mem _ _ rfl (execPageAbort.eq_1 a0 s |>.trans (runPut.eq_1 _ _ _ _ _))
  | load a0 a1 =>
    exact .mem _ _ rfl (execLoad.eq_1 a0 a1 s |>.trans (runPut.eq_1 _ _ _ _ _))
  | arm a0 a1 =>
    exact .mem _ _ rfl (execArm.eq_1 a0 a1 s |>.trans (runPut.eq_1 _ _ _ _ _))
  | abort a0 a1 =>
    exact .mem _ _ rfl (execAbort.eq_1 a0 a1 s |>.trans (runPut.eq_1 _ _ _ _ _))
  | unload a0 a1 =>
    exact .mem _ _ rfl (execUnload.eq_1 a0 a1 s |>.trans (runPut.eq_1 _ _ _ _ _))
  | jobDescriptor a0 =>
    exact .event _ _ rfl (execJobDescriptor.eq_1 a0 s)
  | bandDescriptor a0 =>
    exact .event _ _ rfl (execBandDescriptor.eq_1 a0 s)
  | stopDescriptor a0 =>
    exact .event _ _ rfl (execStopDescriptor.eq_1 a0 s)
  | bandFetchStart a0 =>
    exact .event _ _ rfl (execBandFetchStart.eq_1 a0 s)
  | bandFetched a0 a1 a2 =>
    exact .mem _ _ rfl (execBandFetched.eq_1 a0 a1 a2 s)
  | sprueBandStart a0 =>
    exact .event _ _ rfl (execSprueBandStart.eq_1 a0 s)
  | sprueLine a0 =>
    exact .mem _ _ rfl (execSprueLine.eq_1 a0 s)
  | rcstRequest a0 a1 =>
    exact .mem _ _ rfl (execRcstRequest.eq_1 a0 a1 s |>.trans (runPut.eq_1 _ _ _ _ _))
  | heldStop a0 =>
    exact .event _ _ rfl (execHeldStop.eq_1 a0 s)
  | recastBackup =>
    exact .event _ _ rfl (execRecastBackup.eq_1 s)
  | recastWait =>
    exact .event _ _ rfl (execRecastWait.eq_1 s)
  | recastApproach =>
    exact .event _ _ rfl (execRecastApproach.eq_1 s)
  | recastDecide =>
    exact .event _ _ rfl (execRecastDecide.eq_1 s)
  | channelResume a0 =>
    exact .event _ _ rfl (execChannelResume.eq_1 a0 s)
  | recastOverrun =>
    exact .event _ _ rfl (execRecastOverrun.eq_1 s)
  | recastHoldTimeout =>
    exact .event _ _ rfl (execRecastHoldTimeout.eq_1 s)
  | recastPassLimit =>
    exact .event _ _ rfl (execRecastPassLimit.eq_1 s)
  | codecJobStart a0 =>
    exact .event _ _ rfl (execCodecJobStart.eq_1 a0 s)
  | codecJobDone a0 =>
    exact .mem _ _ rfl (execCodecJobDone.eq_1 a0 s)
  | codecAbort a0 a1 =>
    exact .mem _ _ rfl (execCodecAbort.eq_1 a0 a1 s |>.trans (runPut.eq_1 _ _ _ _ _))
  | dramTraining =>
    exact .event _ _ rfl (execDramTraining.eq_1 s)
  | dramTrainDone a0 a1 =>
    exact .mem _ _ rfl (execDramTrainDone.eq_1 a0 a1 s)
  | dramFillDone =>
    exact .mem _ _ rfl (execDramFillDone.eq_1 s)
  | dramReadReturn a0 a1 a2 a3 =>
    exact .event _ _ rfl (execDramReadReturn.eq_1 a0 a1 a2 a3 s)
  | partialWriteMerge a0 a1 a2 a3 =>
    exact .mem _ _ rfl (execPartialWriteMerge.eq_1 a0 a1 a2 a3 s)
  | scrubRead a0 =>
    exact .event _ _ rfl (execScrubRead.eq_1 a0 s)
  | refreshDue a0 a1 a2 =>
    exact .event _ _ rfl (execRefreshDue.eq_1 a0 a1 a2 s)
  | dramTempPoll a0 a1 a2 =>
    exact .event _ _ rfl (execDramTempPoll.eq_1 a0 a1 a2 s)
  | zqCal a0 =>
    exact .event _ _ rfl (execZqCal.eq_1 a0 s)
  | dqsOscRead a0 a1 a2 =>
    exact .event _ _ rfl (execDqsOscRead.eq_1 a0 a1 a2 s)
  | srEntry a0 a1 =>
    exact .event _ _ rfl (execSrEntry.eq_1 a0 a1 s)
  | srExit a0 a1 =>
    exact .event _ _ rfl (execSrExit.eq_1 a0 a1 s)
  | hubBiasWrite a0 a1 a2 =>
    exact .mem _ _ rfl (execHubBiasWrite.eq_1 a0 a1 a2 s |>.trans (runPut.eq_1 _ _ _ _ _))
  | hubFecRearm a0 =>
    exact .mem _ _ rfl (execHubFecRearm.eq_1 a0 s |>.trans (runPut.eq_1 _ _ _ _ _))
  | hubInject a0 a1 =>
    exact .mem _ _ rfl (execHubInject.eq_1 a0 a1 s |>.trans (runPut.eq_1 _ _ _ _ _))
  | perstNAssert =>
    exact .event _ _ rfl (execPerstNAssert.eq_1 s)
  | functionLevelReset =>
    exact .event _ _ rfl (execFunctionLevelReset.eq_1 s)
  | pcieLinkDown =>
    exact .event _ _ rfl (execPcieLinkDown.eq_1 s)
  | pcieAer a0 =>
    exact .event _ _ rfl (execPcieAer.eq_1 a0 s)
  | bar0Write a0 a1 a2 a3 =>
    exact .event _ _ rfl (execBar0Write.eq_1 a0 a1 a2 a3 s)
  | glbTimeRead =>
    exact .event _ _ rfl (execGlbTimeRead.eq_1 s)
  | bar2Read a0 a1 =>
    exact .event _ _ rfl (execBar2Read.eq_1 a0 a1 s)
  | bar2Write a0 a1 a2 =>
    exact .mem _ _ rfl (execBar2Write.eq_1 a0 a1 a2 s)
  | mbxSubmit a0 =>
    exact .event _ _ rfl (execMbxSubmit.eq_1 a0 s)
  | mbxRspAck =>
    exact .event _ _ rfl (execMbxRspAck.eq_1 s)
  | ringEnable a0 a1 =>
    exact .event _ _ rfl (execRingEnable.eq_1 a0 a1 s)
  | ringDisable a0 =>
    exact .event _ _ rfl (execRingDisable.eq_1 a0 s)
  | ringDb a0 a1 =>
    exact .event _ _ rfl (execRingDb.eq_1 a0 a1 s)
  | ringEntryRead a0 a1 a2 =>
    exact .event _ _ rfl (execRingEntryRead.eq_1 a0 a1 a2 s)
  | ringInterruptDue a0 =>
    exact .event _ _ rfl (execRingInterruptDue.eq_1 a0 s)
  | msixUnmask a0 =>
    exact .event _ _ rfl (execMsixUnmask.eq_1 a0 s)
  | dmaStart a0 =>
    exact .event _ _ rfl (execDmaStart.eq_1 a0 s)
  | dmaStop a0 =>
    exact .event _ _ rfl (execDmaStop.eq_1 a0 s)
  | dmaReset a0 =>
    exact .event _ _ rfl (execDmaReset.eq_1 a0 s)
  | dmaHeadWrite a0 a1 =>
    exact .event _ _ rfl (execDmaHeadWrite.eq_1 a0 a1 s)
  | dmaKick a0 =>
    exact .event _ _ rfl (execDmaKick.eq_1 a0 s)
  | dmaDescFetched a0 a1 a2 =>
    exact .event _ _ rfl (execDmaDescFetched.eq_1 a0 a1 a2 s)
  | dmaLinkReread a0 a1 a2 =>
    exact .event _ _ rfl (execDmaLinkReread.eq_1 a0 a1 a2 s)
  | dmaHalfPoint a0 a1 =>
    exact .mem _ _ rfl (execDmaHalfPoint.eq_1 a0 a1 s)
  | dmaDescDone a0 a1 =>
    exact .mem _ _ rfl (execDmaDescDone.eq_1 a0 a1 s)
  | dmaStopped a0 a1 a2 =>
    exact .mem _ _ rfl (execDmaStopped.eq_1 a0 a1 a2 s)
  | dmaError a0 a1 a2 a3 =>
    exact .mem _ _ rfl (execDmaError.eq_1 a0 a1 a2 a3 s)
  | wopRequest a0 a1 a2 =>
    exact .mem _ _ rfl (execWopRequest.eq_1 a0 a1 a2 s)
  | udpDatagram a0 a1 a2 a3 a4 a5 =>
    exact .mem _ _ rfl (execUdpDatagram.eq_1 a0 a1 a2 a3 a4 a5 s)
  | reassemblyTimeout =>
    exact .event _ _ rfl (execReassemblyTimeout.eq_1 s)
  | arpRequest a0 a1 =>
    exact .event _ _ rfl (execArpRequest.eq_1 a0 a1 s)
  | icmpEcho a0 a1 a2 =>
    exact .event _ _ rfl (execIcmpEcho.eq_1 a0 a1 a2 s)
  | canFrame a0 a1 a2 a3 =>
    exact .mem _ _ rfl (execCanFrame.eq_1 a0 a1 a2 a3 s)
  | segTimeout a0 =>
    exact .event _ _ rfl (execSegTimeout.eq_1 a0 s)
  | canBusOff a0 =>
    exact .event _ _ rfl (execCanBusOff.eq_1 a0 s)
  | chCommit a0 a1 =>
    exact .mem _ _ rfl (execChCommit.eq_1 a0 a1 s |>.trans (runPut.eq_1 _ _ _ _ _))
  | devCommitNow a0 =>
    exact .mem _ _ rfl (execDevCommitNow.eq_1 a0 s |>.trans (runPut.eq_1 _ _ _ _ _))
  | devCommitStep a0 =>
    exact .mem _ _ rfl (execDevCommitStep.eq_1 a0 s |>.trans (runPut.eq_1 _ _ _ _ _))
  | lockAcquire a0 a1 =>
    exact .mem _ _ rfl (execLockAcquire.eq_1 a0 a1 s |>.trans (runPut.eq_1 _ _ _ _ _))
  | lockRelease a0 a1 =>
    exact .mem _ _ rfl (execLockRelease.eq_1 a0 a1 s |>.trans (runPut.eq_1 _ _ _ _ _))
  | lockLeaseExpiry a0 =>
    exact .event _ _ rfl (execLockLeaseExpiry.eq_1 a0 s)
  | store a0 =>
    exact .mem _ _ rfl (execStore.eq_1 a0 s |>.trans (runPut.eq_1 _ _ _ _ _))
  | restoreDefaults a0 =>
    exact .mem _ _ rfl (execRestoreDefaults.eq_1 a0 s |>.trans (runPut.eq_1 _ _ _ _ _))
  | imageVerify a0 =>
    exact .mem _ _ rfl (execImageVerify.eq_1 a0 s |>.trans (runPut.eq_1 _ _ _ _ _))
  | imageCommit a0 =>
    exact .mem _ _ rfl (execImageCommit.eq_1 a0 s |>.trans (runPut.eq_1 _ _ _ _ _))
  | dramRetrain a0 =>
    exact .mem _ _ rfl (execDramRetrain.eq_1 a0 s |>.trans (runPut.eq_1 _ _ _ _ _))
  | opEnd a0 a1 =>
    exact .event _ _ rfl (execOpEnd.eq_1 a0 a1 s)
  | opTimeout =>
    exact .event _ _ rfl (execOpTimeout.eq_1 s)
  | profTargetWrite a0 a1 a2 =>
    exact .mem _ _ rfl (execProfTargetWrite.eq_1 a0 a1 a2 s |>.trans (runPut.eq_1 _ _ _ _ _))
  | slotEnable a0 a1 =>
    exact .mem _ _ rfl (execSlotEnable.eq_1 a0 a1 s |>.trans (runPut.eq_1 _ _ _ _ _))
  | slotDisable a0 a1 =>
    exact .mem _ _ rfl (execSlotDisable.eq_1 a0 a1 s |>.trans (runPut.eq_1 _ _ _ _ _))
  | loopPeriodTrigger a0 =>
    exact .event _ _ rfl (execLoopPeriodTrigger.eq_1 a0 s)
  | loopSampleRun =>
    exact .event _ _ rfl (execLoopSampleRun.eq_1 s)
  | loopDeadlineMiss a0 =>
    exact .event _ _ rfl (execLoopDeadlineMiss.eq_1 a0 s)
  | loopToneWrite a0 =>
    exact .event _ _ rfl (execLoopToneWrite.eq_1 a0 s)
  | loopToneWriteDone a0 =>
    exact .event _ _ rfl (execLoopToneWriteDone.eq_1 a0 s)
  | loopPendingWrite a0 =>
    exact .event _ _ rfl (execLoopPendingWrite.eq_1 a0 s)
  | bankSwap a0 a1 =>
    exact .mem _ _ rfl (execBankSwap.eq_1 a0 a1 s |>.trans (runPut.eq_1 _ _ _ _ _))
  | preset a0 a1 a2 =>
    exact .mem _ _ rfl (execPreset.eq_1 a0 a1 a2 s |>.trans (runPut.eq_1 _ _ _ _ _))
  | publish a0 a1 =>
    exact .mem _ _ rfl (execPublish.eq_1 a0 a1 s |>.trans (runPut.eq_1 _ _ _ _ _))
  | ainSeqPeriod a0 =>
    exact .event _ _ rfl (execAinSeqPeriod.eq_1 a0 s)
  | ainSeqDone a0 a1 =>
    exact .event _ _ rfl (execAinSeqDone.eq_1 a0 a1 s)
  | gpioOutWrite a0 a1 =>
    exact .mem _ _ rfl (execGpioOutWrite.eq_1 a0 a1 s |>.trans (runPut.eq_1 _ _ _ _ _))
  | timeSet a0 a1 =>
    exact .mem _ _ rfl (execTimeSet.eq_1 a0 a1 s |>.trans (runPut.eq_1 _ _ _ _ _))
  | ptpSyncRx a0 a1 =>
    exact .event _ _ rfl (execPtpSyncRx.eq_1 a0 a1 s)
  | ptpFollowUpRx a0 a1 =>
    exact .event _ _ rfl (execPtpFollowUpRx.eq_1 a0 a1 s)
  | ptpDelayRespRx a0 a1 =>
    exact .event _ _ rfl (execPtpDelayRespRx.eq_1 a0 a1 s)
  | ptpDelayReqRx a0 a1 =>
    exact .event _ _ rfl (execPtpDelayReqRx.eq_1 a0 a1 s)
  | ptpAnnounceRx a0 a1 =>
    exact .event _ _ rfl (execPtpAnnounceRx.eq_1 a0 a1 s)
  | ptpSyncTx a0 =>
    exact .event _ _ rfl (execPtpSyncTx.eq_1 a0 s)
  | ptpDelayReqTx a0 =>
    exact .event _ _ rfl (execPtpDelayReqTx.eq_1 a0 s)
  | ptpAnnounceTx a0 =>
    exact .event _ _ rfl (execPtpAnnounceTx.eq_1 a0 s)
  | ptpAnnounceTimeout a0 =>
    exact .event _ _ rfl (execPtpAnnounceTimeout.eq_1 a0 s)
  | timeValidHold =>
    exact .event _ _ rfl (execTimeValidHold.eq_1 s)
  | timeSnap =>
    exact .event _ _ rfl (execTimeSnap.eq_1 s)
  | timeSnapLost =>
    exact .event _ _ rfl (execTimeSnapLost.eq_1 s)
  | alignAcquire a0 =>
    exact .event _ _ rfl (execAlignAcquire.eq_1 a0 s)
  | alignLocked =>
    exact .event _ _ rfl (execAlignLocked.eq_1 s)
  | alignCorrection a0 =>
    exact .event _ _ rfl (execAlignCorrection.eq_1 a0 s)
  | alignRefLost a0 =>
    exact .event _ _ rfl (execAlignRefLost.eq_1 a0 s)
  | alignCoastLimit =>
    exact .event _ _ rfl (execAlignCoastLimit.eq_1 s)
  | qdSync a0 =>
    exact .mem _ _ rfl (execQdSync.eq_1 a0 s |>.trans (runPut.eq_1 _ _ _ _ _))
  | qdRail a0 a1 =>
    exact .mem _ _ rfl (execQdRail.eq_1 a0 a1 s |>.trans (runPut.eq_1 _ _ _ _ _))
  | qdArm a0 =>
    exact .mem _ _ rfl (execQdArm.eq_1 a0 s |>.trans (runPut.eq_1 _ _ _ _ _))
  | qdStart a0 =>
    exact .mem _ _ rfl (execQdStart.eq_1 a0 s |>.trans (runPut.eq_1 _ _ _ _ _))
  | qdRecastReq =>
    exact .event _ _ rfl (execQdRecastReq.eq_1 s)
  | qdRecastGo =>
    exact .event _ _ rfl (execQdRecastGo.eq_1 s)
  | qdStop a0 =>
    exact .mem _ _ rfl (execQdStop.eq_1 a0 s |>.trans (runPut.eq_1 _ _ _ _ _))
  | qdCommit a0 =>
    exact .mem _ _ rfl (execQdCommit.eq_1 a0 s |>.trans (runPut.eq_1 _ _ _ _ _))
  | qdLineFall =>
    exact .event _ _ rfl (execQdLineFall.eq_1 s)
  | qdRecord a0 a1 =>
    exact .event _ _ rfl (execQdRecord.eq_1 a0 a1 s)
  | qdRepeat =>
    exact .event _ _ rfl (execQdRepeat.eq_1 s)
  | qdLineRise =>
    exact .event _ _ rfl (execQdLineRise.eq_1 s)
  | qdStepTimeout =>
    exact .event _ _ rfl (execQdStepTimeout.eq_1 s)
  | faultConditionEnd a0 =>
    exact .event _ _ rfl (execFaultConditionEnd.eq_1 a0 s)
  | scopeRecover a0 =>
    exact .event _ _ rfl (execScopeRecover.eq_1 a0 s)
  | fltClear a0 =>
    exact .mem _ _ rfl (execFltClear.eq_1 a0 s |>.trans (runPut.eq_1 _ _ _ _ _))
  | fltSelClassWrite a0 a1 =>
    exact .mem _ _ rfl (execFltSelClassWrite.eq_1 a0 a1 s |>.trans (runPut.eq_1 _ _ _ _ _))
  | selStickyClear a0 =>
    exact .mem _ _ rfl (execSelStickyClear.eq_1 a0 s |>.trans (runPut.eq_1 _ _ _ _ _))
  | stickyClearAll a0 =>
    exact .mem _ _ rfl (execStickyClearAll.eq_1 a0 s |>.trans (runPut.eq_1 _ _ _ _ _))
  | manualSafe a0 =>
    exact .mem _ _ rfl (execManualSafe.eq_1 a0 s |>.trans (runPut.eq_1 _ _ _ _ _))
  | fltFecRearm a0 =>
    exact .mem _ _ rfl (execFltFecRearm.eq_1 a0 s |>.trans (runPut.eq_1 _ _ _ _ _))
  | busError a0 a1 a2 a3 =>
    exact .event _ _ rfl (execBusError.eq_1 a0 a1 a2 a3 s)
  | supSramUe a0 =>
    exact .event _ _ rfl (execSupSramUe.eq_1 a0 s)
  | supWatchdog =>
    exact .event _ _ rfl (execSupWatchdog.eq_1 s)
  | dieHot a0 a1 =>
    exact .event _ _ rfl (execDieHot.eq_1 a0 a1 s)
  | dieCrit a0 a1 =>
    exact .event _ _ rfl (execDieCrit.eq_1 a0 a1 s)
  | vaonLow a0 =>
    exact .event _ _ rfl (execVaonLow.eq_1 a0 s)
  | railTargetWrite a0 a1 =>
    exact .mem _ _ rfl (execRailTargetWrite.eq_1 a0 a1 s |>.trans (runPut.eq_1 _ _ _ _ _))
  | railGood a0 =>
    exact .event _ _ rfl (execRailGood.eq_1 a0 s)
  | railDischarged a0 =>
    exact .event _ _ rfl (execRailDischarged.eq_1 a0 s)
  | railOnDelay a0 =>
    exact .event _ _ rfl (execRailOnDelay.eq_1 a0 s)
  | railSettleDone =>
    exact .event _ _ rfl (execRailSettleDone.eq_1 s)
  | railOnTimeout a0 =>
    exact .event _ _ rfl (execRailOnTimeout.eq_1 a0 s)
  | railOffTimeout a0 =>
    exact .event _ _ rfl (execRailOffTimeout.eq_1 a0 s)
  | railLost a0 =>
    exact .event _ _ rfl (execRailLost.eq_1 a0 s)
  | railLogProgramDone a0 =>
    exact .event _ _ rfl (execRailLogProgramDone.eq_1 a0 s)
  | resetNAssert =>
    exact .reset _ rfl rfl (execResetNAssert.eq_1 s)
  | supplyOutOfRange =>
    exact .reset _ rfl rfl (execSupplyOutOfRange.eq_1 s)
  | devResetWrite a0 a1 =>
    exact .mem _ _ rfl (execDevResetWrite.eq_1 a0 a1 s |>.trans (runPut.eq_1 _ _ _ _ _))
  | resetEnd =>
    exact .reset _ rfl rfl (execResetEnd.eq_1 s)
  | bootComplete =>
    exact .event _ _ rfl (execBootComplete.eq_1 s)
  | stateReqStandby a0 =>
    exact .mem _ _ rfl (execStateReqStandby.eq_1 a0 s |>.trans (runPut.eq_1 _ _ _ _ _))
  | stateReqReady a0 =>
    exact .mem _ _ rfl (execStateReqReady.eq_1 a0 s |>.trans (runPut.eq_1 _ _ _ _ _))
  | stateReqPrinting a0 =>
    exact .mem _ _ rfl (execStateReqPrinting.eq_1 a0 s |>.trans (runPut.eq_1 _ _ _ _ _))
  | fwImageWrite a0 a1 a2 =>
    exact .mem _ _ rfl (execFwImageWrite.eq_1 a0 a1 a2 s |>.trans (runWrite.eq_1 _ _ _ _ _ _ _ _))
  | fwConfirm a0 =>
    exact .mem _ _ rfl (execFwConfirm.eq_1 a0 s |>.trans (runPut.eq_1 _ _ _ _ _))
  | encRawPulse a0 =>
    exact .event _ _ rfl (execEncRawPulse.eq_1 a0 s)
  | echoReqDue a0 =>
    exact .event _ _ rfl (execEchoReqDue.eq_1 a0 s)
  | lineFrameComplete a0 =>
    exact .event _ _ rfl (execLineFrameComplete.eq_1 a0 s)
  | pcieLinkUp a0 a1 =>
    exact .event _ _ rfl (execPcieLinkUp.eq_1 a0 a1 s)
  | ethLinkChange a0 a1 =>
    exact .event _ _ rfl (execEthLinkChange.eq_1 a0 a1 s)
  | ainScanConversion a0 a1 =>
    exact .event _ _ rfl (execAinScanConversion.eq_1 a0 a1 s)

/-- Every command of existing units ends in a next state. -/
theorem exec_next (i : Instr) (s : State) (h : i.unitsOk = true) :
    ∃ (c : Core) (m : List Host.Cell), exec i s = .next { s with core := c, dram := m } := by
  cases exec_shape i s with
  | event d f _ he =>
    rw [he]
    rcases run_cases i.unitsOk d s f with hf | ⟨c, hc⟩
    · rw [h] at hf
      unfold run at hf
      simp only [if_true] at hf
      split at hf <;> cases hf
    · exact ⟨c, s.dram, hc⟩
  | mem d f _ he =>
    rw [he]
    rcases runMem_cases i.unitsOk d s f with hf | ⟨c, m, hc, -⟩
    · rw [h] at hf
      unfold runMem at hf
      simp only [if_true] at hf
      split at hf <;> cases hf
    · exact ⟨c, m, hc⟩
  | reset f _ _ he => exact ⟨_, s.dram, he⟩

end Sys2Proof.Machine
end

