-- ==== Sys2Proof/Laws/State.lean ====
section
/-! SUPPORT. Sys2Proof/Laws/State.lean: what each update of the core leaves alone: one lemma per field and update, and the
reading of an object through each update that does not write the object store. -/

namespace Sys2Proof.Machine

section
variable (c : Core)

@[simp] theorem Core.set_time (o : Obj) (v : Nat) : (c.set o v).time = c.time := rfl
@[simp] theorem Core.set_sample (o : Obj) (v : Nat) : (c.set o v).sample = c.sample := rfl
@[simp] theorem Core.set_beam (o : Obj) (v : Nat) : (c.set o v).beam = c.beam := rfl
@[simp] theorem Core.set_reply (o : Obj) (v : Nat) : (c.set o v).reply = c.reply := rfl
@[simp] theorem Core.set_raises (o : Obj) (v : Nat) : (c.set o v).raises = c.raises := rfl
@[simp] theorem Core.set_out (o : Obj) (v : Nat) : (c.set o v).out = c.out := rfl
@[simp] theorem Core.set_fresh (o : Obj) (v : Nat) : (c.set o v).fresh = c.fresh := rfl
@[simp] theorem Core.set_encs (o : Obj) (v : Nat) : (c.set o v).encs = c.encs := rfl
@[simp] theorem Core.set_sposs (o : Obj) (v : Nat) : (c.set o v).sposs = c.sposs := rfl
@[simp] theorem Core.set_passes (o : Obj) (v : Nat) : (c.set o v).passes = c.passes := rfl
@[simp] theorem Core.set_cmps (o : Obj) (v : Nat) : (c.set o v).cmps = c.cmps := rfl
@[simp] theorem Core.set_lines (o : Obj) (v : Nat) : (c.set o v).lines = c.lines := rfl
@[simp] theorem Core.set_lcs (o : Obj) (v : Nat) : (c.set o v).lcs = c.lcs := rfl
@[simp] theorem Core.set_lists (o : Obj) (v : Nat) : (c.set o v).lists = c.lists := rfl
@[simp] theorem Core.set_imgs (o : Obj) (v : Nat) : (c.set o v).imgs = c.imgs := rfl
@[simp] theorem Core.set_runs (o : Obj) (v : Nat) : (c.set o v).runs = c.runs := rfl
@[simp] theorem Core.set_fires (o : Obj) (v : Nat) : (c.set o v).fires = c.fires := rfl
@[simp] theorem Core.set_lanes (o : Obj) (v : Nat) : (c.set o v).lanes = c.lanes := rfl
@[simp] theorem Core.set_returns (o : Obj) (v : Nat) : (c.set o v).returns = c.returns := rfl
@[simp] theorem Core.set_syncAt (o : Obj) (v : Nat) : (c.set o v).syncAt = c.syncAt := rfl
@[simp] theorem Core.set_syncs (o : Obj) (v : Nat) : (c.set o v).syncs = c.syncs := rfl
@[simp] theorem Core.set_scans (o : Obj) (v : Nat) : (c.set o v).scans = c.scans := rfl
@[simp] theorem Core.set_pages (o : Obj) (v : Nat) : (c.set o v).pages = c.pages := rfl
@[simp] theorem Core.set_sheets (o : Obj) (v : Nat) : (c.set o v).sheets = c.sheets := rfl
@[simp] theorem Core.set_drivePhase (o : Obj) (v : Nat) : (c.set o v).drivePhase = c.drivePhase := rfl
@[simp] theorem Core.set_driveCount (o : Obj) (v : Nat) : (c.set o v).driveCount = c.driveCount := rfl
@[simp] theorem Core.set_jobs (o : Obj) (v : Nat) : (c.set o v).jobs = c.jobs := rfl
@[simp] theorem Core.set_rcst (o : Obj) (v : Nat) : (c.set o v).rcst = c.rcst := rfl
@[simp] theorem Core.set_sprues (o : Obj) (v : Nat) : (c.set o v).sprues = c.sprues := rfl
@[simp] theorem Core.set_codecs (o : Obj) (v : Nat) : (c.set o v).codecs = c.codecs := rfl
@[simp] theorem Core.set_codecQueue (o : Obj) (v : Nat) : (c.set o v).codecQueue = c.codecQueue := rfl
@[simp] theorem Core.set_codecAborts (o : Obj) (v : Nat) : (c.set o v).codecAborts = c.codecAborts := rfl
@[simp] theorem Core.set_hub (o : Obj) (v : Nat) : (c.set o v).hub = c.hub := rfl
@[simp] theorem Core.set_rings (o : Obj) (v : Nat) : (c.set o v).rings = c.rings := rfl
@[simp] theorem Core.set_vectors (o : Obj) (v : Nat) : (c.set o v).vectors = c.vectors := rfl
@[simp] theorem Core.set_dmas (o : Obj) (v : Nat) : (c.set o v).dmas = c.dmas := rfl
@[simp] theorem Core.set_pcie (o : Obj) (v : Nat) : (c.set o v).pcie = c.pcie := rfl
@[simp] theorem Core.set_pcieCfg (o : Obj) (v : Nat) : (c.set o v).pcieCfg = c.pcieCfg := rfl
@[simp] theorem Core.set_dmaLast (o : Obj) (v : Nat) : (c.set o v).dmaLast = c.dmaLast := rfl
@[simp] theorem Core.set_clients (o : Obj) (v : Nat) : (c.set o v).clients = c.clients := rfl
@[simp] theorem Core.set_staged (o : Obj) (v : Nat) : (c.set o v).staged = c.staged := rfl
@[simp] theorem Core.set_commits (o : Obj) (v : Nat) : (c.set o v).commits = c.commits := rfl
@[simp] theorem Core.set_locks (o : Obj) (v : Nat) : (c.set o v).locks = c.locks := rfl
@[simp] theorem Core.set_audit (o : Obj) (v : Nat) : (c.set o v).audit = c.audit := rfl
@[simp] theorem Core.set_auditNext (o : Obj) (v : Nat) : (c.set o v).auditNext = c.auditNext := rfl
@[simp] theorem Core.set_reasms (o : Obj) (v : Nat) : (c.set o v).reasms = c.reasms := rfl
@[simp] theorem Core.set_cans (o : Obj) (v : Nat) : (c.set o v).cans = c.cans := rfl
@[simp] theorem Core.set_slots (o : Obj) (v : Nat) : (c.set o v).slots = c.slots := rfl
@[simp] theorem Core.set_loopMark (o : Obj) (v : Nat) : (c.set o v).loopMark = c.loopMark := rfl
@[simp] theorem Core.set_loopMarks (o : Obj) (v : Nat) : (c.set o v).loopMarks = c.loopMarks := rfl
@[simp] theorem Core.set_ainSeqs (o : Obj) (v : Nat) : (c.set o v).ainSeqs = c.ainSeqs := rfl
@[simp] theorem Core.set_ainTimed (o : Obj) (v : Nat) : (c.set o v).ainTimed = c.ainTimed := rfl
@[simp] theorem Core.set_loopFree (o : Obj) (v : Nat) : (c.set o v).loopFree = c.loopFree := rfl
@[simp] theorem Core.set_loopAt (o : Obj) (v : Nat) : (c.set o v).loopAt = c.loopAt := rfl
@[simp] theorem Core.set_gpioSeen (o : Obj) (v : Nat) : (c.set o v).gpioSeen = c.gpioSeen := rfl
@[simp] theorem Core.set_gpioIn (o : Obj) (v : Nat) : (c.set o v).gpioIn = c.gpioIn := rfl
@[simp] theorem Core.set_pwms (o : Obj) (v : Nat) : (c.set o v).pwms = c.pwms := rfl
@[simp] theorem Core.set_ptp (o : Obj) (v : Nat) : (c.set o v).ptp = c.ptp := rfl
@[simp] theorem Core.set_align (o : Obj) (v : Nat) : (c.set o v).align = c.align := rfl
@[simp] theorem Core.set_qd (o : Obj) (v : Nat) : (c.set o v).qd = c.qd := rfl
@[simp] theorem Core.set_faults (o : Obj) (v : Nat) : (c.set o v).faults = c.faults := rfl
@[simp] theorem Core.set_scopes (o : Obj) (v : Nat) : (c.set o v).scopes = c.scopes := rfl
@[simp] theorem Core.set_recoveries (o : Obj) (v : Nat) : (c.set o v).recoveries = c.recoveries := rfl
@[simp] theorem Core.set_recoverAt (o : Obj) (v : Nat) : (c.set o v).recoverAt = c.recoverAt := rfl
@[simp] theorem Core.set_rail (o : Obj) (v : Nat) : (c.set o v).rail = c.rail := rfl
@[simp] theorem Core.set_boot (o : Obj) (v : Nat) : (c.set o v).boot = c.boot := rfl
@[simp] theorem Core.set_nor (o : Obj) (v : Nat) : (c.set o v).nor = c.nor := rfl
@[simp] theorem Core.set_fw (o : Obj) (v : Nat) : (c.set o v).fw = c.fw := rfl

@[simp] theorem Core.emit_objs (x : Out) : (c.emit x).objs = c.objs := rfl
@[simp] theorem Core.emit_time (x : Out) : (c.emit x).time = c.time := rfl
@[simp] theorem Core.emit_sample (x : Out) : (c.emit x).sample = c.sample := rfl
@[simp] theorem Core.emit_beam (x : Out) : (c.emit x).beam = c.beam := rfl
@[simp] theorem Core.emit_reply (x : Out) : (c.emit x).reply = c.reply := rfl
@[simp] theorem Core.emit_raises (x : Out) : (c.emit x).raises = c.raises := rfl
@[simp] theorem Core.emit_fresh (x : Out) : (c.emit x).fresh = c.fresh := rfl
@[simp] theorem Core.emit_encs (x : Out) : (c.emit x).encs = c.encs := rfl
@[simp] theorem Core.emit_sposs (x : Out) : (c.emit x).sposs = c.sposs := rfl
@[simp] theorem Core.emit_passes (x : Out) : (c.emit x).passes = c.passes := rfl
@[simp] theorem Core.emit_cmps (x : Out) : (c.emit x).cmps = c.cmps := rfl
@[simp] theorem Core.emit_lines (x : Out) : (c.emit x).lines = c.lines := rfl
@[simp] theorem Core.emit_lcs (x : Out) : (c.emit x).lcs = c.lcs := rfl
@[simp] theorem Core.emit_lists (x : Out) : (c.emit x).lists = c.lists := rfl
@[simp] theorem Core.emit_imgs (x : Out) : (c.emit x).imgs = c.imgs := rfl
@[simp] theorem Core.emit_runs (x : Out) : (c.emit x).runs = c.runs := rfl
@[simp] theorem Core.emit_fires (x : Out) : (c.emit x).fires = c.fires := rfl
@[simp] theorem Core.emit_lanes (x : Out) : (c.emit x).lanes = c.lanes := rfl
@[simp] theorem Core.emit_returns (x : Out) : (c.emit x).returns = c.returns := rfl
@[simp] theorem Core.emit_syncAt (x : Out) : (c.emit x).syncAt = c.syncAt := rfl
@[simp] theorem Core.emit_syncs (x : Out) : (c.emit x).syncs = c.syncs := rfl
@[simp] theorem Core.emit_scans (x : Out) : (c.emit x).scans = c.scans := rfl
@[simp] theorem Core.emit_pages (x : Out) : (c.emit x).pages = c.pages := rfl
@[simp] theorem Core.emit_sheets (x : Out) : (c.emit x).sheets = c.sheets := rfl
@[simp] theorem Core.emit_drivePhase (x : Out) : (c.emit x).drivePhase = c.drivePhase := rfl
@[simp] theorem Core.emit_driveCount (x : Out) : (c.emit x).driveCount = c.driveCount := rfl
@[simp] theorem Core.emit_jobs (x : Out) : (c.emit x).jobs = c.jobs := rfl
@[simp] theorem Core.emit_rcst (x : Out) : (c.emit x).rcst = c.rcst := rfl
@[simp] theorem Core.emit_sprues (x : Out) : (c.emit x).sprues = c.sprues := rfl
@[simp] theorem Core.emit_codecs (x : Out) : (c.emit x).codecs = c.codecs := rfl
@[simp] theorem Core.emit_codecQueue (x : Out) : (c.emit x).codecQueue = c.codecQueue := rfl
@[simp] theorem Core.emit_codecAborts (x : Out) : (c.emit x).codecAborts = c.codecAborts := rfl
@[simp] theorem Core.emit_hub (x : Out) : (c.emit x).hub = c.hub := rfl
@[simp] theorem Core.emit_rings (x : Out) : (c.emit x).rings = c.rings := rfl
@[simp] theorem Core.emit_vectors (x : Out) : (c.emit x).vectors = c.vectors := rfl
@[simp] theorem Core.emit_dmas (x : Out) : (c.emit x).dmas = c.dmas := rfl
@[simp] theorem Core.emit_pcie (x : Out) : (c.emit x).pcie = c.pcie := rfl
@[simp] theorem Core.emit_pcieCfg (x : Out) : (c.emit x).pcieCfg = c.pcieCfg := rfl
@[simp] theorem Core.emit_dmaLast (x : Out) : (c.emit x).dmaLast = c.dmaLast := rfl
@[simp] theorem Core.emit_clients (x : Out) : (c.emit x).clients = c.clients := rfl
@[simp] theorem Core.emit_staged (x : Out) : (c.emit x).staged = c.staged := rfl
@[simp] theorem Core.emit_commits (x : Out) : (c.emit x).commits = c.commits := rfl
@[simp] theorem Core.emit_locks (x : Out) : (c.emit x).locks = c.locks := rfl
@[simp] theorem Core.emit_audit (x : Out) : (c.emit x).audit = c.audit := rfl
@[simp] theorem Core.emit_auditNext (x : Out) : (c.emit x).auditNext = c.auditNext := rfl
@[simp] theorem Core.emit_reasms (x : Out) : (c.emit x).reasms = c.reasms := rfl
@[simp] theorem Core.emit_cans (x : Out) : (c.emit x).cans = c.cans := rfl
@[simp] theorem Core.emit_slots (x : Out) : (c.emit x).slots = c.slots := rfl
@[simp] theorem Core.emit_loopMark (x : Out) : (c.emit x).loopMark = c.loopMark := rfl
@[simp] theorem Core.emit_loopMarks (x : Out) : (c.emit x).loopMarks = c.loopMarks := rfl
@[simp] theorem Core.emit_ainSeqs (x : Out) : (c.emit x).ainSeqs = c.ainSeqs := rfl
@[simp] theorem Core.emit_ainTimed (x : Out) : (c.emit x).ainTimed = c.ainTimed := rfl
@[simp] theorem Core.emit_loopFree (x : Out) : (c.emit x).loopFree = c.loopFree := rfl
@[simp] theorem Core.emit_loopAt (x : Out) : (c.emit x).loopAt = c.loopAt := rfl
@[simp] theorem Core.emit_gpioSeen (x : Out) : (c.emit x).gpioSeen = c.gpioSeen := rfl
@[simp] theorem Core.emit_gpioIn (x : Out) : (c.emit x).gpioIn = c.gpioIn := rfl
@[simp] theorem Core.emit_pwms (x : Out) : (c.emit x).pwms = c.pwms := rfl
@[simp] theorem Core.emit_ptp (x : Out) : (c.emit x).ptp = c.ptp := rfl
@[simp] theorem Core.emit_align (x : Out) : (c.emit x).align = c.align := rfl
@[simp] theorem Core.emit_qd (x : Out) : (c.emit x).qd = c.qd := rfl
@[simp] theorem Core.emit_faults (x : Out) : (c.emit x).faults = c.faults := rfl
@[simp] theorem Core.emit_scopes (x : Out) : (c.emit x).scopes = c.scopes := rfl
@[simp] theorem Core.emit_recoveries (x : Out) : (c.emit x).recoveries = c.recoveries := rfl
@[simp] theorem Core.emit_recoverAt (x : Out) : (c.emit x).recoverAt = c.recoverAt := rfl
@[simp] theorem Core.emit_rail (x : Out) : (c.emit x).rail = c.rail := rfl
@[simp] theorem Core.emit_boot (x : Out) : (c.emit x).boot = c.boot := rfl
@[simp] theorem Core.emit_nor (x : Out) : (c.emit x).nor = c.nor := rfl
@[simp] theorem Core.emit_fw (x : Out) : (c.emit x).fw = c.fw := rfl
@[simp] theorem Core.emit_get (x : Out) (p : Obj) : (c.emit x).get p = c.get p := rfl

@[simp] theorem Core.raise_objs (src kind pay : Nat) : (c.raise src kind pay).objs = c.objs := rfl
@[simp] theorem Core.raise_time (src kind pay : Nat) : (c.raise src kind pay).time = c.time := rfl
@[simp] theorem Core.raise_sample (src kind pay : Nat) : (c.raise src kind pay).sample = c.sample := rfl
@[simp] theorem Core.raise_beam (src kind pay : Nat) : (c.raise src kind pay).beam = c.beam := rfl
@[simp] theorem Core.raise_reply (src kind pay : Nat) : (c.raise src kind pay).reply = c.reply := rfl
@[simp] theorem Core.raise_out (src kind pay : Nat) : (c.raise src kind pay).out = c.out := rfl
@[simp] theorem Core.raise_fresh (src kind pay : Nat) : (c.raise src kind pay).fresh = c.fresh := rfl
@[simp] theorem Core.raise_encs (src kind pay : Nat) : (c.raise src kind pay).encs = c.encs := rfl
@[simp] theorem Core.raise_sposs (src kind pay : Nat) : (c.raise src kind pay).sposs = c.sposs := rfl
@[simp] theorem Core.raise_passes (src kind pay : Nat) : (c.raise src kind pay).passes = c.passes := rfl
@[simp] theorem Core.raise_cmps (src kind pay : Nat) : (c.raise src kind pay).cmps = c.cmps := rfl
@[simp] theorem Core.raise_lines (src kind pay : Nat) : (c.raise src kind pay).lines = c.lines := rfl
@[simp] theorem Core.raise_lcs (src kind pay : Nat) : (c.raise src kind pay).lcs = c.lcs := rfl
@[simp] theorem Core.raise_lists (src kind pay : Nat) : (c.raise src kind pay).lists = c.lists := rfl
@[simp] theorem Core.raise_imgs (src kind pay : Nat) : (c.raise src kind pay).imgs = c.imgs := rfl
@[simp] theorem Core.raise_runs (src kind pay : Nat) : (c.raise src kind pay).runs = c.runs := rfl
@[simp] theorem Core.raise_fires (src kind pay : Nat) : (c.raise src kind pay).fires = c.fires := rfl
@[simp] theorem Core.raise_lanes (src kind pay : Nat) : (c.raise src kind pay).lanes = c.lanes := rfl
@[simp] theorem Core.raise_returns (src kind pay : Nat) : (c.raise src kind pay).returns = c.returns := rfl
@[simp] theorem Core.raise_syncAt (src kind pay : Nat) : (c.raise src kind pay).syncAt = c.syncAt := rfl
@[simp] theorem Core.raise_syncs (src kind pay : Nat) : (c.raise src kind pay).syncs = c.syncs := rfl
@[simp] theorem Core.raise_scans (src kind pay : Nat) : (c.raise src kind pay).scans = c.scans := rfl
@[simp] theorem Core.raise_pages (src kind pay : Nat) : (c.raise src kind pay).pages = c.pages := rfl
@[simp] theorem Core.raise_sheets (src kind pay : Nat) : (c.raise src kind pay).sheets = c.sheets := rfl
@[simp] theorem Core.raise_drivePhase (src kind pay : Nat) : (c.raise src kind pay).drivePhase = c.drivePhase := rfl
@[simp] theorem Core.raise_driveCount (src kind pay : Nat) : (c.raise src kind pay).driveCount = c.driveCount := rfl
@[simp] theorem Core.raise_jobs (src kind pay : Nat) : (c.raise src kind pay).jobs = c.jobs := rfl
@[simp] theorem Core.raise_rcst (src kind pay : Nat) : (c.raise src kind pay).rcst = c.rcst := rfl
@[simp] theorem Core.raise_sprues (src kind pay : Nat) : (c.raise src kind pay).sprues = c.sprues := rfl
@[simp] theorem Core.raise_codecs (src kind pay : Nat) : (c.raise src kind pay).codecs = c.codecs := rfl
@[simp] theorem Core.raise_codecQueue (src kind pay : Nat) : (c.raise src kind pay).codecQueue = c.codecQueue := rfl
@[simp] theorem Core.raise_codecAborts (src kind pay : Nat) : (c.raise src kind pay).codecAborts = c.codecAborts := rfl
@[simp] theorem Core.raise_hub (src kind pay : Nat) : (c.raise src kind pay).hub = c.hub := rfl
@[simp] theorem Core.raise_rings (src kind pay : Nat) : (c.raise src kind pay).rings = c.rings := rfl
@[simp] theorem Core.raise_vectors (src kind pay : Nat) : (c.raise src kind pay).vectors = c.vectors := rfl
@[simp] theorem Core.raise_dmas (src kind pay : Nat) : (c.raise src kind pay).dmas = c.dmas := rfl
@[simp] theorem Core.raise_pcie (src kind pay : Nat) : (c.raise src kind pay).pcie = c.pcie := rfl
@[simp] theorem Core.raise_pcieCfg (src kind pay : Nat) : (c.raise src kind pay).pcieCfg = c.pcieCfg := rfl
@[simp] theorem Core.raise_dmaLast (src kind pay : Nat) : (c.raise src kind pay).dmaLast = c.dmaLast := rfl
@[simp] theorem Core.raise_clients (src kind pay : Nat) : (c.raise src kind pay).clients = c.clients := rfl
@[simp] theorem Core.raise_staged (src kind pay : Nat) : (c.raise src kind pay).staged = c.staged := rfl
@[simp] theorem Core.raise_commits (src kind pay : Nat) : (c.raise src kind pay).commits = c.commits := rfl
@[simp] theorem Core.raise_locks (src kind pay : Nat) : (c.raise src kind pay).locks = c.locks := rfl
@[simp] theorem Core.raise_audit (src kind pay : Nat) : (c.raise src kind pay).audit = c.audit := rfl
@[simp] theorem Core.raise_auditNext (src kind pay : Nat) : (c.raise src kind pay).auditNext = c.auditNext := rfl
@[simp] theorem Core.raise_reasms (src kind pay : Nat) : (c.raise src kind pay).reasms = c.reasms := rfl
@[simp] theorem Core.raise_cans (src kind pay : Nat) : (c.raise src kind pay).cans = c.cans := rfl
@[simp] theorem Core.raise_slots (src kind pay : Nat) : (c.raise src kind pay).slots = c.slots := rfl
@[simp] theorem Core.raise_loopMark (src kind pay : Nat) : (c.raise src kind pay).loopMark = c.loopMark := rfl
@[simp] theorem Core.raise_loopMarks (src kind pay : Nat) : (c.raise src kind pay).loopMarks = c.loopMarks := rfl
@[simp] theorem Core.raise_ainSeqs (src kind pay : Nat) : (c.raise src kind pay).ainSeqs = c.ainSeqs := rfl
@[simp] theorem Core.raise_ainTimed (src kind pay : Nat) : (c.raise src kind pay).ainTimed = c.ainTimed := rfl
@[simp] theorem Core.raise_loopFree (src kind pay : Nat) : (c.raise src kind pay).loopFree = c.loopFree := rfl
@[simp] theorem Core.raise_loopAt (src kind pay : Nat) : (c.raise src kind pay).loopAt = c.loopAt := rfl
@[simp] theorem Core.raise_gpioSeen (src kind pay : Nat) : (c.raise src kind pay).gpioSeen = c.gpioSeen := rfl
@[simp] theorem Core.raise_gpioIn (src kind pay : Nat) : (c.raise src kind pay).gpioIn = c.gpioIn := rfl
@[simp] theorem Core.raise_pwms (src kind pay : Nat) : (c.raise src kind pay).pwms = c.pwms := rfl
@[simp] theorem Core.raise_ptp (src kind pay : Nat) : (c.raise src kind pay).ptp = c.ptp := rfl
@[simp] theorem Core.raise_align (src kind pay : Nat) : (c.raise src kind pay).align = c.align := rfl
@[simp] theorem Core.raise_qd (src kind pay : Nat) : (c.raise src kind pay).qd = c.qd := rfl
@[simp] theorem Core.raise_faults (src kind pay : Nat) : (c.raise src kind pay).faults = c.faults := rfl
@[simp] theorem Core.raise_scopes (src kind pay : Nat) : (c.raise src kind pay).scopes = c.scopes := rfl
@[simp] theorem Core.raise_recoveries (src kind pay : Nat) : (c.raise src kind pay).recoveries = c.recoveries := rfl
@[simp] theorem Core.raise_recoverAt (src kind pay : Nat) : (c.raise src kind pay).recoverAt = c.recoverAt := rfl
@[simp] theorem Core.raise_rail (src kind pay : Nat) : (c.raise src kind pay).rail = c.rail := rfl
@[simp] theorem Core.raise_boot (src kind pay : Nat) : (c.raise src kind pay).boot = c.boot := rfl
@[simp] theorem Core.raise_nor (src kind pay : Nat) : (c.raise src kind pay).nor = c.nor := rfl
@[simp] theorem Core.raise_fw (src kind pay : Nat) : (c.raise src kind pay).fw = c.fw := rfl
@[simp] theorem Core.raise_get (src kind pay : Nat) (p : Obj) : (c.raise src kind pay).get p = c.get p := rfl

@[simp] theorem Core.raiseHeld_objs (src kind pay : Nat) : (c.raiseHeld src kind pay).objs = c.objs := rfl
@[simp] theorem Core.raiseHeld_time (src kind pay : Nat) : (c.raiseHeld src kind pay).time = c.time := rfl
@[simp] theorem Core.raiseHeld_sample (src kind pay : Nat) : (c.raiseHeld src kind pay).sample = c.sample := rfl
@[simp] theorem Core.raiseHeld_beam (src kind pay : Nat) : (c.raiseHeld src kind pay).beam = c.beam := rfl
@[simp] theorem Core.raiseHeld_reply (src kind pay : Nat) : (c.raiseHeld src kind pay).reply = c.reply := rfl
@[simp] theorem Core.raiseHeld_out (src kind pay : Nat) : (c.raiseHeld src kind pay).out = c.out := rfl
@[simp] theorem Core.raiseHeld_fresh (src kind pay : Nat) : (c.raiseHeld src kind pay).fresh = c.fresh := rfl
@[simp] theorem Core.raiseHeld_encs (src kind pay : Nat) : (c.raiseHeld src kind pay).encs = c.encs := rfl
@[simp] theorem Core.raiseHeld_sposs (src kind pay : Nat) : (c.raiseHeld src kind pay).sposs = c.sposs := rfl
@[simp] theorem Core.raiseHeld_passes (src kind pay : Nat) : (c.raiseHeld src kind pay).passes = c.passes := rfl
@[simp] theorem Core.raiseHeld_cmps (src kind pay : Nat) : (c.raiseHeld src kind pay).cmps = c.cmps := rfl
@[simp] theorem Core.raiseHeld_lines (src kind pay : Nat) : (c.raiseHeld src kind pay).lines = c.lines := rfl
@[simp] theorem Core.raiseHeld_lcs (src kind pay : Nat) : (c.raiseHeld src kind pay).lcs = c.lcs := rfl
@[simp] theorem Core.raiseHeld_lists (src kind pay : Nat) : (c.raiseHeld src kind pay).lists = c.lists := rfl
@[simp] theorem Core.raiseHeld_imgs (src kind pay : Nat) : (c.raiseHeld src kind pay).imgs = c.imgs := rfl
@[simp] theorem Core.raiseHeld_runs (src kind pay : Nat) : (c.raiseHeld src kind pay).runs = c.runs := rfl
@[simp] theorem Core.raiseHeld_fires (src kind pay : Nat) : (c.raiseHeld src kind pay).fires = c.fires := rfl
@[simp] theorem Core.raiseHeld_lanes (src kind pay : Nat) : (c.raiseHeld src kind pay).lanes = c.lanes := rfl
@[simp] theorem Core.raiseHeld_returns (src kind pay : Nat) : (c.raiseHeld src kind pay).returns = c.returns := rfl
@[simp] theorem Core.raiseHeld_syncAt (src kind pay : Nat) : (c.raiseHeld src kind pay).syncAt = c.syncAt := rfl
@[simp] theorem Core.raiseHeld_syncs (src kind pay : Nat) : (c.raiseHeld src kind pay).syncs = c.syncs := rfl
@[simp] theorem Core.raiseHeld_scans (src kind pay : Nat) : (c.raiseHeld src kind pay).scans = c.scans := rfl
@[simp] theorem Core.raiseHeld_pages (src kind pay : Nat) : (c.raiseHeld src kind pay).pages = c.pages := rfl
@[simp] theorem Core.raiseHeld_sheets (src kind pay : Nat) : (c.raiseHeld src kind pay).sheets = c.sheets := rfl
@[simp] theorem Core.raiseHeld_drivePhase (src kind pay : Nat) : (c.raiseHeld src kind pay).drivePhase = c.drivePhase := rfl
@[simp] theorem Core.raiseHeld_driveCount (src kind pay : Nat) : (c.raiseHeld src kind pay).driveCount = c.driveCount := rfl
@[simp] theorem Core.raiseHeld_jobs (src kind pay : Nat) : (c.raiseHeld src kind pay).jobs = c.jobs := rfl
@[simp] theorem Core.raiseHeld_rcst (src kind pay : Nat) : (c.raiseHeld src kind pay).rcst = c.rcst := rfl
@[simp] theorem Core.raiseHeld_sprues (src kind pay : Nat) : (c.raiseHeld src kind pay).sprues = c.sprues := rfl
@[simp] theorem Core.raiseHeld_codecs (src kind pay : Nat) : (c.raiseHeld src kind pay).codecs = c.codecs := rfl
@[simp] theorem Core.raiseHeld_codecQueue (src kind pay : Nat) : (c.raiseHeld src kind pay).codecQueue = c.codecQueue := rfl
@[simp] theorem Core.raiseHeld_codecAborts (src kind pay : Nat) : (c.raiseHeld src kind pay).codecAborts = c.codecAborts := rfl
@[simp] theorem Core.raiseHeld_hub (src kind pay : Nat) : (c.raiseHeld src kind pay).hub = c.hub := rfl
@[simp] theorem Core.raiseHeld_rings (src kind pay : Nat) : (c.raiseHeld src kind pay).rings = c.rings := rfl
@[simp] theorem Core.raiseHeld_vectors (src kind pay : Nat) : (c.raiseHeld src kind pay).vectors = c.vectors := rfl
@[simp] theorem Core.raiseHeld_dmas (src kind pay : Nat) : (c.raiseHeld src kind pay).dmas = c.dmas := rfl
@[simp] theorem Core.raiseHeld_pcie (src kind pay : Nat) : (c.raiseHeld src kind pay).pcie = c.pcie := rfl
@[simp] theorem Core.raiseHeld_pcieCfg (src kind pay : Nat) : (c.raiseHeld src kind pay).pcieCfg = c.pcieCfg := rfl
@[simp] theorem Core.raiseHeld_dmaLast (src kind pay : Nat) : (c.raiseHeld src kind pay).dmaLast = c.dmaLast := rfl
@[simp] theorem Core.raiseHeld_clients (src kind pay : Nat) : (c.raiseHeld src kind pay).clients = c.clients := rfl
@[simp] theorem Core.raiseHeld_staged (src kind pay : Nat) : (c.raiseHeld src kind pay).staged = c.staged := rfl
@[simp] theorem Core.raiseHeld_commits (src kind pay : Nat) : (c.raiseHeld src kind pay).commits = c.commits := rfl
@[simp] theorem Core.raiseHeld_locks (src kind pay : Nat) : (c.raiseHeld src kind pay).locks = c.locks := rfl
@[simp] theorem Core.raiseHeld_audit (src kind pay : Nat) : (c.raiseHeld src kind pay).audit = c.audit := rfl
@[simp] theorem Core.raiseHeld_auditNext (src kind pay : Nat) : (c.raiseHeld src kind pay).auditNext = c.auditNext := rfl
@[simp] theorem Core.raiseHeld_reasms (src kind pay : Nat) : (c.raiseHeld src kind pay).reasms = c.reasms := rfl
@[simp] theorem Core.raiseHeld_cans (src kind pay : Nat) : (c.raiseHeld src kind pay).cans = c.cans := rfl
@[simp] theorem Core.raiseHeld_slots (src kind pay : Nat) : (c.raiseHeld src kind pay).slots = c.slots := rfl
@[simp] theorem Core.raiseHeld_loopMark (src kind pay : Nat) : (c.raiseHeld src kind pay).loopMark = c.loopMark := rfl
@[simp] theorem Core.raiseHeld_loopMarks (src kind pay : Nat) : (c.raiseHeld src kind pay).loopMarks = c.loopMarks := rfl
@[simp] theorem Core.raiseHeld_ainSeqs (src kind pay : Nat) : (c.raiseHeld src kind pay).ainSeqs = c.ainSeqs := rfl
@[simp] theorem Core.raiseHeld_ainTimed (src kind pay : Nat) : (c.raiseHeld src kind pay).ainTimed = c.ainTimed := rfl
@[simp] theorem Core.raiseHeld_loopFree (src kind pay : Nat) : (c.raiseHeld src kind pay).loopFree = c.loopFree := rfl
@[simp] theorem Core.raiseHeld_loopAt (src kind pay : Nat) : (c.raiseHeld src kind pay).loopAt = c.loopAt := rfl
@[simp] theorem Core.raiseHeld_gpioSeen (src kind pay : Nat) : (c.raiseHeld src kind pay).gpioSeen = c.gpioSeen := rfl
@[simp] theorem Core.raiseHeld_gpioIn (src kind pay : Nat) : (c.raiseHeld src kind pay).gpioIn = c.gpioIn := rfl
@[simp] theorem Core.raiseHeld_pwms (src kind pay : Nat) : (c.raiseHeld src kind pay).pwms = c.pwms := rfl
@[simp] theorem Core.raiseHeld_ptp (src kind pay : Nat) : (c.raiseHeld src kind pay).ptp = c.ptp := rfl
@[simp] theorem Core.raiseHeld_align (src kind pay : Nat) : (c.raiseHeld src kind pay).align = c.align := rfl
@[simp] theorem Core.raiseHeld_qd (src kind pay : Nat) : (c.raiseHeld src kind pay).qd = c.qd := rfl
@[simp] theorem Core.raiseHeld_faults (src kind pay : Nat) : (c.raiseHeld src kind pay).faults = c.faults := rfl
@[simp] theorem Core.raiseHeld_scopes (src kind pay : Nat) : (c.raiseHeld src kind pay).scopes = c.scopes := rfl
@[simp] theorem Core.raiseHeld_recoveries (src kind pay : Nat) : (c.raiseHeld src kind pay).recoveries = c.recoveries := rfl
@[simp] theorem Core.raiseHeld_recoverAt (src kind pay : Nat) : (c.raiseHeld src kind pay).recoverAt = c.recoverAt := rfl
@[simp] theorem Core.raiseHeld_rail (src kind pay : Nat) : (c.raiseHeld src kind pay).rail = c.rail := rfl
@[simp] theorem Core.raiseHeld_boot (src kind pay : Nat) : (c.raiseHeld src kind pay).boot = c.boot := rfl
@[simp] theorem Core.raiseHeld_nor (src kind pay : Nat) : (c.raiseHeld src kind pay).nor = c.nor := rfl
@[simp] theorem Core.raiseHeld_fw (src kind pay : Nat) : (c.raiseHeld src kind pay).fw = c.fw := rfl
@[simp] theorem Core.raiseHeld_get (src kind pay : Nat) (p : Obj) : (c.raiseHeld src kind pay).get p = c.get p := rfl

@[simp] theorem Core.endFault_objs (src kind : Nat) : (c.endFault src kind).objs = c.objs := rfl
@[simp] theorem Core.endFault_time (src kind : Nat) : (c.endFault src kind).time = c.time := rfl
@[simp] theorem Core.endFault_sample (src kind : Nat) : (c.endFault src kind).sample = c.sample := rfl
@[simp] theorem Core.endFault_beam (src kind : Nat) : (c.endFault src kind).beam = c.beam := rfl
@[simp] theorem Core.endFault_reply (src kind : Nat) : (c.endFault src kind).reply = c.reply := rfl
@[simp] theorem Core.endFault_out (src kind : Nat) : (c.endFault src kind).out = c.out := rfl
@[simp] theorem Core.endFault_fresh (src kind : Nat) : (c.endFault src kind).fresh = c.fresh := rfl
@[simp] theorem Core.endFault_encs (src kind : Nat) : (c.endFault src kind).encs = c.encs := rfl
@[simp] theorem Core.endFault_sposs (src kind : Nat) : (c.endFault src kind).sposs = c.sposs := rfl
@[simp] theorem Core.endFault_passes (src kind : Nat) : (c.endFault src kind).passes = c.passes := rfl
@[simp] theorem Core.endFault_cmps (src kind : Nat) : (c.endFault src kind).cmps = c.cmps := rfl
@[simp] theorem Core.endFault_lines (src kind : Nat) : (c.endFault src kind).lines = c.lines := rfl
@[simp] theorem Core.endFault_lcs (src kind : Nat) : (c.endFault src kind).lcs = c.lcs := rfl
@[simp] theorem Core.endFault_lists (src kind : Nat) : (c.endFault src kind).lists = c.lists := rfl
@[simp] theorem Core.endFault_imgs (src kind : Nat) : (c.endFault src kind).imgs = c.imgs := rfl
@[simp] theorem Core.endFault_runs (src kind : Nat) : (c.endFault src kind).runs = c.runs := rfl
@[simp] theorem Core.endFault_fires (src kind : Nat) : (c.endFault src kind).fires = c.fires := rfl
@[simp] theorem Core.endFault_lanes (src kind : Nat) : (c.endFault src kind).lanes = c.lanes := rfl
@[simp] theorem Core.endFault_returns (src kind : Nat) : (c.endFault src kind).returns = c.returns := rfl
@[simp] theorem Core.endFault_syncAt (src kind : Nat) : (c.endFault src kind).syncAt = c.syncAt := rfl
@[simp] theorem Core.endFault_syncs (src kind : Nat) : (c.endFault src kind).syncs = c.syncs := rfl
@[simp] theorem Core.endFault_scans (src kind : Nat) : (c.endFault src kind).scans = c.scans := rfl
@[simp] theorem Core.endFault_pages (src kind : Nat) : (c.endFault src kind).pages = c.pages := rfl
@[simp] theorem Core.endFault_sheets (src kind : Nat) : (c.endFault src kind).sheets = c.sheets := rfl
@[simp] theorem Core.endFault_drivePhase (src kind : Nat) : (c.endFault src kind).drivePhase = c.drivePhase := rfl
@[simp] theorem Core.endFault_driveCount (src kind : Nat) : (c.endFault src kind).driveCount = c.driveCount := rfl
@[simp] theorem Core.endFault_jobs (src kind : Nat) : (c.endFault src kind).jobs = c.jobs := rfl
@[simp] theorem Core.endFault_rcst (src kind : Nat) : (c.endFault src kind).rcst = c.rcst := rfl
@[simp] theorem Core.endFault_sprues (src kind : Nat) : (c.endFault src kind).sprues = c.sprues := rfl
@[simp] theorem Core.endFault_codecs (src kind : Nat) : (c.endFault src kind).codecs = c.codecs := rfl
@[simp] theorem Core.endFault_codecQueue (src kind : Nat) : (c.endFault src kind).codecQueue = c.codecQueue := rfl
@[simp] theorem Core.endFault_codecAborts (src kind : Nat) : (c.endFault src kind).codecAborts = c.codecAborts := rfl
@[simp] theorem Core.endFault_hub (src kind : Nat) : (c.endFault src kind).hub = c.hub := rfl
@[simp] theorem Core.endFault_rings (src kind : Nat) : (c.endFault src kind).rings = c.rings := rfl
@[simp] theorem Core.endFault_vectors (src kind : Nat) : (c.endFault src kind).vectors = c.vectors := rfl
@[simp] theorem Core.endFault_dmas (src kind : Nat) : (c.endFault src kind).dmas = c.dmas := rfl
@[simp] theorem Core.endFault_pcie (src kind : Nat) : (c.endFault src kind).pcie = c.pcie := rfl
@[simp] theorem Core.endFault_pcieCfg (src kind : Nat) : (c.endFault src kind).pcieCfg = c.pcieCfg := rfl
@[simp] theorem Core.endFault_dmaLast (src kind : Nat) : (c.endFault src kind).dmaLast = c.dmaLast := rfl
@[simp] theorem Core.endFault_clients (src kind : Nat) : (c.endFault src kind).clients = c.clients := rfl
@[simp] theorem Core.endFault_staged (src kind : Nat) : (c.endFault src kind).staged = c.staged := rfl
@[simp] theorem Core.endFault_commits (src kind : Nat) : (c.endFault src kind).commits = c.commits := rfl
@[simp] theorem Core.endFault_locks (src kind : Nat) : (c.endFault src kind).locks = c.locks := rfl
@[simp] theorem Core.endFault_audit (src kind : Nat) : (c.endFault src kind).audit = c.audit := rfl
@[simp] theorem Core.endFault_auditNext (src kind : Nat) : (c.endFault src kind).auditNext = c.auditNext := rfl
@[simp] theorem Core.endFault_reasms (src kind : Nat) : (c.endFault src kind).reasms = c.reasms := rfl
@[simp] theorem Core.endFault_cans (src kind : Nat) : (c.endFault src kind).cans = c.cans := rfl
@[simp] theorem Core.endFault_slots (src kind : Nat) : (c.endFault src kind).slots = c.slots := rfl
@[simp] theorem Core.endFault_loopMark (src kind : Nat) : (c.endFault src kind).loopMark = c.loopMark := rfl
@[simp] theorem Core.endFault_loopMarks (src kind : Nat) : (c.endFault src kind).loopMarks = c.loopMarks := rfl
@[simp] theorem Core.endFault_ainSeqs (src kind : Nat) : (c.endFault src kind).ainSeqs = c.ainSeqs := rfl
@[simp] theorem Core.endFault_ainTimed (src kind : Nat) : (c.endFault src kind).ainTimed = c.ainTimed := rfl
@[simp] theorem Core.endFault_loopFree (src kind : Nat) : (c.endFault src kind).loopFree = c.loopFree := rfl
@[simp] theorem Core.endFault_loopAt (src kind : Nat) : (c.endFault src kind).loopAt = c.loopAt := rfl
@[simp] theorem Core.endFault_gpioSeen (src kind : Nat) : (c.endFault src kind).gpioSeen = c.gpioSeen := rfl
@[simp] theorem Core.endFault_gpioIn (src kind : Nat) : (c.endFault src kind).gpioIn = c.gpioIn := rfl
@[simp] theorem Core.endFault_pwms (src kind : Nat) : (c.endFault src kind).pwms = c.pwms := rfl
@[simp] theorem Core.endFault_ptp (src kind : Nat) : (c.endFault src kind).ptp = c.ptp := rfl
@[simp] theorem Core.endFault_align (src kind : Nat) : (c.endFault src kind).align = c.align := rfl
@[simp] theorem Core.endFault_qd (src kind : Nat) : (c.endFault src kind).qd = c.qd := rfl
@[simp] theorem Core.endFault_faults (src kind : Nat) : (c.endFault src kind).faults = c.faults := rfl
@[simp] theorem Core.endFault_scopes (src kind : Nat) : (c.endFault src kind).scopes = c.scopes := rfl
@[simp] theorem Core.endFault_recoveries (src kind : Nat) : (c.endFault src kind).recoveries = c.recoveries := rfl
@[simp] theorem Core.endFault_recoverAt (src kind : Nat) : (c.endFault src kind).recoverAt = c.recoverAt := rfl
@[simp] theorem Core.endFault_rail (src kind : Nat) : (c.endFault src kind).rail = c.rail := rfl
@[simp] theorem Core.endFault_boot (src kind : Nat) : (c.endFault src kind).boot = c.boot := rfl
@[simp] theorem Core.endFault_nor (src kind : Nat) : (c.endFault src kind).nor = c.nor := rfl
@[simp] theorem Core.endFault_fw (src kind : Nat) : (c.endFault src kind).fw = c.fw := rfl
@[simp] theorem Core.endFault_get (src kind : Nat) (p : Obj) : (c.endFault src kind).get p = c.get p := rfl

@[simp] theorem Core.updScan_objs (n : Nat) (f : Scan → Scan) : (c.updScan n f).objs = c.objs := rfl
@[simp] theorem Core.updScan_time (n : Nat) (f : Scan → Scan) : (c.updScan n f).time = c.time := rfl
@[simp] theorem Core.updScan_sample (n : Nat) (f : Scan → Scan) : (c.updScan n f).sample = c.sample := rfl
@[simp] theorem Core.updScan_beam (n : Nat) (f : Scan → Scan) : (c.updScan n f).beam = c.beam := rfl
@[simp] theorem Core.updScan_reply (n : Nat) (f : Scan → Scan) : (c.updScan n f).reply = c.reply := rfl
@[simp] theorem Core.updScan_raises (n : Nat) (f : Scan → Scan) : (c.updScan n f).raises = c.raises := rfl
@[simp] theorem Core.updScan_out (n : Nat) (f : Scan → Scan) : (c.updScan n f).out = c.out := rfl
@[simp] theorem Core.updScan_fresh (n : Nat) (f : Scan → Scan) : (c.updScan n f).fresh = c.fresh := rfl
@[simp] theorem Core.updScan_encs (n : Nat) (f : Scan → Scan) : (c.updScan n f).encs = c.encs := rfl
@[simp] theorem Core.updScan_sposs (n : Nat) (f : Scan → Scan) : (c.updScan n f).sposs = c.sposs := rfl
@[simp] theorem Core.updScan_passes (n : Nat) (f : Scan → Scan) : (c.updScan n f).passes = c.passes := rfl
@[simp] theorem Core.updScan_cmps (n : Nat) (f : Scan → Scan) : (c.updScan n f).cmps = c.cmps := rfl
@[simp] theorem Core.updScan_lines (n : Nat) (f : Scan → Scan) : (c.updScan n f).lines = c.lines := rfl
@[simp] theorem Core.updScan_lcs (n : Nat) (f : Scan → Scan) : (c.updScan n f).lcs = c.lcs := rfl
@[simp] theorem Core.updScan_lists (n : Nat) (f : Scan → Scan) : (c.updScan n f).lists = c.lists := rfl
@[simp] theorem Core.updScan_imgs (n : Nat) (f : Scan → Scan) : (c.updScan n f).imgs = c.imgs := rfl
@[simp] theorem Core.updScan_runs (n : Nat) (f : Scan → Scan) : (c.updScan n f).runs = c.runs := rfl
@[simp] theorem Core.updScan_fires (n : Nat) (f : Scan → Scan) : (c.updScan n f).fires = c.fires := rfl
@[simp] theorem Core.updScan_lanes (n : Nat) (f : Scan → Scan) : (c.updScan n f).lanes = c.lanes := rfl
@[simp] theorem Core.updScan_returns (n : Nat) (f : Scan → Scan) : (c.updScan n f).returns = c.returns := rfl
@[simp] theorem Core.updScan_syncAt (n : Nat) (f : Scan → Scan) : (c.updScan n f).syncAt = c.syncAt := rfl
@[simp] theorem Core.updScan_syncs (n : Nat) (f : Scan → Scan) : (c.updScan n f).syncs = c.syncs := rfl
@[simp] theorem Core.updScan_pages (n : Nat) (f : Scan → Scan) : (c.updScan n f).pages = c.pages := rfl
@[simp] theorem Core.updScan_sheets (n : Nat) (f : Scan → Scan) : (c.updScan n f).sheets = c.sheets := rfl
@[simp] theorem Core.updScan_drivePhase (n : Nat) (f : Scan → Scan) : (c.updScan n f).drivePhase = c.drivePhase := rfl
@[simp] theorem Core.updScan_driveCount (n : Nat) (f : Scan → Scan) : (c.updScan n f).driveCount = c.driveCount := rfl
@[simp] theorem Core.updScan_jobs (n : Nat) (f : Scan → Scan) : (c.updScan n f).jobs = c.jobs := rfl
@[simp] theorem Core.updScan_rcst (n : Nat) (f : Scan → Scan) : (c.updScan n f).rcst = c.rcst := rfl
@[simp] theorem Core.updScan_sprues (n : Nat) (f : Scan → Scan) : (c.updScan n f).sprues = c.sprues := rfl
@[simp] theorem Core.updScan_codecs (n : Nat) (f : Scan → Scan) : (c.updScan n f).codecs = c.codecs := rfl
@[simp] theorem Core.updScan_codecQueue (n : Nat) (f : Scan → Scan) : (c.updScan n f).codecQueue = c.codecQueue := rfl
@[simp] theorem Core.updScan_codecAborts (n : Nat) (f : Scan → Scan) : (c.updScan n f).codecAborts = c.codecAborts := rfl
@[simp] theorem Core.updScan_hub (n : Nat) (f : Scan → Scan) : (c.updScan n f).hub = c.hub := rfl
@[simp] theorem Core.updScan_rings (n : Nat) (f : Scan → Scan) : (c.updScan n f).rings = c.rings := rfl
@[simp] theorem Core.updScan_vectors (n : Nat) (f : Scan → Scan) : (c.updScan n f).vectors = c.vectors := rfl
@[simp] theorem Core.updScan_dmas (n : Nat) (f : Scan → Scan) : (c.updScan n f).dmas = c.dmas := rfl
@[simp] theorem Core.updScan_pcie (n : Nat) (f : Scan → Scan) : (c.updScan n f).pcie = c.pcie := rfl
@[simp] theorem Core.updScan_pcieCfg (n : Nat) (f : Scan → Scan) : (c.updScan n f).pcieCfg = c.pcieCfg := rfl
@[simp] theorem Core.updScan_dmaLast (n : Nat) (f : Scan → Scan) : (c.updScan n f).dmaLast = c.dmaLast := rfl
@[simp] theorem Core.updScan_clients (n : Nat) (f : Scan → Scan) : (c.updScan n f).clients = c.clients := rfl
@[simp] theorem Core.updScan_staged (n : Nat) (f : Scan → Scan) : (c.updScan n f).staged = c.staged := rfl
@[simp] theorem Core.updScan_commits (n : Nat) (f : Scan → Scan) : (c.updScan n f).commits = c.commits := rfl
@[simp] theorem Core.updScan_locks (n : Nat) (f : Scan → Scan) : (c.updScan n f).locks = c.locks := rfl
@[simp] theorem Core.updScan_audit (n : Nat) (f : Scan → Scan) : (c.updScan n f).audit = c.audit := rfl
@[simp] theorem Core.updScan_auditNext (n : Nat) (f : Scan → Scan) : (c.updScan n f).auditNext = c.auditNext := rfl
@[simp] theorem Core.updScan_reasms (n : Nat) (f : Scan → Scan) : (c.updScan n f).reasms = c.reasms := rfl
@[simp] theorem Core.updScan_cans (n : Nat) (f : Scan → Scan) : (c.updScan n f).cans = c.cans := rfl
@[simp] theorem Core.updScan_slots (n : Nat) (f : Scan → Scan) : (c.updScan n f).slots = c.slots := rfl
@[simp] theorem Core.updScan_loopMark (n : Nat) (f : Scan → Scan) : (c.updScan n f).loopMark = c.loopMark := rfl
@[simp] theorem Core.updScan_loopMarks (n : Nat) (f : Scan → Scan) : (c.updScan n f).loopMarks = c.loopMarks := rfl
@[simp] theorem Core.updScan_ainSeqs (n : Nat) (f : Scan → Scan) : (c.updScan n f).ainSeqs = c.ainSeqs := rfl
@[simp] theorem Core.updScan_ainTimed (n : Nat) (f : Scan → Scan) : (c.updScan n f).ainTimed = c.ainTimed := rfl
@[simp] theorem Core.updScan_loopFree (n : Nat) (f : Scan → Scan) : (c.updScan n f).loopFree = c.loopFree := rfl
@[simp] theorem Core.updScan_loopAt (n : Nat) (f : Scan → Scan) : (c.updScan n f).loopAt = c.loopAt := rfl
@[simp] theorem Core.updScan_gpioSeen (n : Nat) (f : Scan → Scan) : (c.updScan n f).gpioSeen = c.gpioSeen := rfl
@[simp] theorem Core.updScan_gpioIn (n : Nat) (f : Scan → Scan) : (c.updScan n f).gpioIn = c.gpioIn := rfl
@[simp] theorem Core.updScan_pwms (n : Nat) (f : Scan → Scan) : (c.updScan n f).pwms = c.pwms := rfl
@[simp] theorem Core.updScan_ptp (n : Nat) (f : Scan → Scan) : (c.updScan n f).ptp = c.ptp := rfl
@[simp] theorem Core.updScan_align (n : Nat) (f : Scan → Scan) : (c.updScan n f).align = c.align := rfl
@[simp] theorem Core.updScan_qd (n : Nat) (f : Scan → Scan) : (c.updScan n f).qd = c.qd := rfl
@[simp] theorem Core.updScan_faults (n : Nat) (f : Scan → Scan) : (c.updScan n f).faults = c.faults := rfl
@[simp] theorem Core.updScan_scopes (n : Nat) (f : Scan → Scan) : (c.updScan n f).scopes = c.scopes := rfl
@[simp] theorem Core.updScan_recoveries (n : Nat) (f : Scan → Scan) : (c.updScan n f).recoveries = c.recoveries := rfl
@[simp] theorem Core.updScan_recoverAt (n : Nat) (f : Scan → Scan) : (c.updScan n f).recoverAt = c.recoverAt := rfl
@[simp] theorem Core.updScan_rail (n : Nat) (f : Scan → Scan) : (c.updScan n f).rail = c.rail := rfl
@[simp] theorem Core.updScan_boot (n : Nat) (f : Scan → Scan) : (c.updScan n f).boot = c.boot := rfl
@[simp] theorem Core.updScan_nor (n : Nat) (f : Scan → Scan) : (c.updScan n f).nor = c.nor := rfl
@[simp] theorem Core.updScan_fw (n : Nat) (f : Scan → Scan) : (c.updScan n f).fw = c.fw := rfl
@[simp] theorem Core.updScan_get (n : Nat) (f : Scan → Scan) (p : Obj) : (c.updScan n f).get p = c.get p := rfl

@[simp] theorem Core.updCodec_objs (u : Nat) (f : CodecUnit → CodecUnit) : (c.updCodec u f).objs = c.objs := rfl
@[simp] theorem Core.updCodec_time (u : Nat) (f : CodecUnit → CodecUnit) : (c.updCodec u f).time = c.time := rfl
@[simp] theorem Core.updCodec_sample (u : Nat) (f : CodecUnit → CodecUnit) : (c.updCodec u f).sample = c.sample := rfl
@[simp] theorem Core.updCodec_beam (u : Nat) (f : CodecUnit → CodecUnit) : (c.updCodec u f).beam = c.beam := rfl
@[simp] theorem Core.updCodec_reply (u : Nat) (f : CodecUnit → CodecUnit) : (c.updCodec u f).reply = c.reply := rfl
@[simp] theorem Core.updCodec_raises (u : Nat) (f : CodecUnit → CodecUnit) : (c.updCodec u f).raises = c.raises := rfl
@[simp] theorem Core.updCodec_out (u : Nat) (f : CodecUnit → CodecUnit) : (c.updCodec u f).out = c.out := rfl
@[simp] theorem Core.updCodec_fresh (u : Nat) (f : CodecUnit → CodecUnit) : (c.updCodec u f).fresh = c.fresh := rfl
@[simp] theorem Core.updCodec_encs (u : Nat) (f : CodecUnit → CodecUnit) : (c.updCodec u f).encs = c.encs := rfl
@[simp] theorem Core.updCodec_sposs (u : Nat) (f : CodecUnit → CodecUnit) : (c.updCodec u f).sposs = c.sposs := rfl
@[simp] theorem Core.updCodec_passes (u : Nat) (f : CodecUnit → CodecUnit) : (c.updCodec u f).passes = c.passes := rfl
@[simp] theorem Core.updCodec_cmps (u : Nat) (f : CodecUnit → CodecUnit) : (c.updCodec u f).cmps = c.cmps := rfl
@[simp] theorem Core.updCodec_lines (u : Nat) (f : CodecUnit → CodecUnit) : (c.updCodec u f).lines = c.lines := rfl
@[simp] theorem Core.updCodec_lcs (u : Nat) (f : CodecUnit → CodecUnit) : (c.updCodec u f).lcs = c.lcs := rfl
@[simp] theorem Core.updCodec_lists (u : Nat) (f : CodecUnit → CodecUnit) : (c.updCodec u f).lists = c.lists := rfl
@[simp] theorem Core.updCodec_imgs (u : Nat) (f : CodecUnit → CodecUnit) : (c.updCodec u f).imgs = c.imgs := rfl
@[simp] theorem Core.updCodec_runs (u : Nat) (f : CodecUnit → CodecUnit) : (c.updCodec u f).runs = c.runs := rfl
@[simp] theorem Core.updCodec_fires (u : Nat) (f : CodecUnit → CodecUnit) : (c.updCodec u f).fires = c.fires := rfl
@[simp] theorem Core.updCodec_lanes (u : Nat) (f : CodecUnit → CodecUnit) : (c.updCodec u f).lanes = c.lanes := rfl
@[simp] theorem Core.updCodec_returns (u : Nat) (f : CodecUnit → CodecUnit) : (c.updCodec u f).returns = c.returns := rfl
@[simp] theorem Core.updCodec_syncAt (u : Nat) (f : CodecUnit → CodecUnit) : (c.updCodec u f).syncAt = c.syncAt := rfl
@[simp] theorem Core.updCodec_syncs (u : Nat) (f : CodecUnit → CodecUnit) : (c.updCodec u f).syncs = c.syncs := rfl
@[simp] theorem Core.updCodec_scans (u : Nat) (f : CodecUnit → CodecUnit) : (c.updCodec u f).scans = c.scans := rfl
@[simp] theorem Core.updCodec_pages (u : Nat) (f : CodecUnit → CodecUnit) : (c.updCodec u f).pages = c.pages := rfl
@[simp] theorem Core.updCodec_sheets (u : Nat) (f : CodecUnit → CodecUnit) : (c.updCodec u f).sheets = c.sheets := rfl
@[simp] theorem Core.updCodec_drivePhase (u : Nat) (f : CodecUnit → CodecUnit) : (c.updCodec u f).drivePhase = c.drivePhase := rfl
@[simp] theorem Core.updCodec_driveCount (u : Nat) (f : CodecUnit → CodecUnit) : (c.updCodec u f).driveCount = c.driveCount := rfl
@[simp] theorem Core.updCodec_jobs (u : Nat) (f : CodecUnit → CodecUnit) : (c.updCodec u f).jobs = c.jobs := rfl
@[simp] theorem Core.updCodec_rcst (u : Nat) (f : CodecUnit → CodecUnit) : (c.updCodec u f).rcst = c.rcst := rfl
@[simp] theorem Core.updCodec_sprues (u : Nat) (f : CodecUnit → CodecUnit) : (c.updCodec u f).sprues = c.sprues := rfl
@[simp] theorem Core.updCodec_codecQueue (u : Nat) (f : CodecUnit → CodecUnit) : (c.updCodec u f).codecQueue = c.codecQueue := rfl
@[simp] theorem Core.updCodec_codecAborts (u : Nat) (f : CodecUnit → CodecUnit) : (c.updCodec u f).codecAborts = c.codecAborts := rfl
@[simp] theorem Core.updCodec_hub (u : Nat) (f : CodecUnit → CodecUnit) : (c.updCodec u f).hub = c.hub := rfl
@[simp] theorem Core.updCodec_rings (u : Nat) (f : CodecUnit → CodecUnit) : (c.updCodec u f).rings = c.rings := rfl
@[simp] theorem Core.updCodec_vectors (u : Nat) (f : CodecUnit → CodecUnit) : (c.updCodec u f).vectors = c.vectors := rfl
@[simp] theorem Core.updCodec_dmas (u : Nat) (f : CodecUnit → CodecUnit) : (c.updCodec u f).dmas = c.dmas := rfl
@[simp] theorem Core.updCodec_pcie (u : Nat) (f : CodecUnit → CodecUnit) : (c.updCodec u f).pcie = c.pcie := rfl
@[simp] theorem Core.updCodec_pcieCfg (u : Nat) (f : CodecUnit → CodecUnit) : (c.updCodec u f).pcieCfg = c.pcieCfg := rfl
@[simp] theorem Core.updCodec_dmaLast (u : Nat) (f : CodecUnit → CodecUnit) : (c.updCodec u f).dmaLast = c.dmaLast := rfl
@[simp] theorem Core.updCodec_clients (u : Nat) (f : CodecUnit → CodecUnit) : (c.updCodec u f).clients = c.clients := rfl
@[simp] theorem Core.updCodec_staged (u : Nat) (f : CodecUnit → CodecUnit) : (c.updCodec u f).staged = c.staged := rfl
@[simp] theorem Core.updCodec_commits (u : Nat) (f : CodecUnit → CodecUnit) : (c.updCodec u f).commits = c.commits := rfl
@[simp] theorem Core.updCodec_locks (u : Nat) (f : CodecUnit → CodecUnit) : (c.updCodec u f).locks = c.locks := rfl
@[simp] theorem Core.updCodec_audit (u : Nat) (f : CodecUnit → CodecUnit) : (c.updCodec u f).audit = c.audit := rfl
@[simp] theorem Core.updCodec_auditNext (u : Nat) (f : CodecUnit → CodecUnit) : (c.updCodec u f).auditNext = c.auditNext := rfl
@[simp] theorem Core.updCodec_reasms (u : Nat) (f : CodecUnit → CodecUnit) : (c.updCodec u f).reasms = c.reasms := rfl
@[simp] theorem Core.updCodec_cans (u : Nat) (f : CodecUnit → CodecUnit) : (c.updCodec u f).cans = c.cans := rfl
@[simp] theorem Core.updCodec_slots (u : Nat) (f : CodecUnit → CodecUnit) : (c.updCodec u f).slots = c.slots := rfl
@[simp] theorem Core.updCodec_loopMark (u : Nat) (f : CodecUnit → CodecUnit) : (c.updCodec u f).loopMark = c.loopMark := rfl
@[simp] theorem Core.updCodec_loopMarks (u : Nat) (f : CodecUnit → CodecUnit) : (c.updCodec u f).loopMarks = c.loopMarks := rfl
@[simp] theorem Core.updCodec_ainSeqs (u : Nat) (f : CodecUnit → CodecUnit) : (c.updCodec u f).ainSeqs = c.ainSeqs := rfl
@[simp] theorem Core.updCodec_ainTimed (u : Nat) (f : CodecUnit → CodecUnit) : (c.updCodec u f).ainTimed = c.ainTimed := rfl
@[simp] theorem Core.updCodec_loopFree (u : Nat) (f : CodecUnit → CodecUnit) : (c.updCodec u f).loopFree = c.loopFree := rfl
@[simp] theorem Core.updCodec_loopAt (u : Nat) (f : CodecUnit → CodecUnit) : (c.updCodec u f).loopAt = c.loopAt := rfl
@[simp] theorem Core.updCodec_gpioSeen (u : Nat) (f : CodecUnit → CodecUnit) : (c.updCodec u f).gpioSeen = c.gpioSeen := rfl
@[simp] theorem Core.updCodec_gpioIn (u : Nat) (f : CodecUnit → CodecUnit) : (c.updCodec u f).gpioIn = c.gpioIn := rfl
@[simp] theorem Core.updCodec_pwms (u : Nat) (f : CodecUnit → CodecUnit) : (c.updCodec u f).pwms = c.pwms := rfl
@[simp] theorem Core.updCodec_ptp (u : Nat) (f : CodecUnit → CodecUnit) : (c.updCodec u f).ptp = c.ptp := rfl
@[simp] theorem Core.updCodec_align (u : Nat) (f : CodecUnit → CodecUnit) : (c.updCodec u f).align = c.align := rfl
@[simp] theorem Core.updCodec_qd (u : Nat) (f : CodecUnit → CodecUnit) : (c.updCodec u f).qd = c.qd := rfl
@[simp] theorem Core.updCodec_faults (u : Nat) (f : CodecUnit → CodecUnit) : (c.updCodec u f).faults = c.faults := rfl
@[simp] theorem Core.updCodec_scopes (u : Nat) (f : CodecUnit → CodecUnit) : (c.updCodec u f).scopes = c.scopes := rfl
@[simp] theorem Core.updCodec_recoveries (u : Nat) (f : CodecUnit → CodecUnit) : (c.updCodec u f).recoveries = c.recoveries := rfl
@[simp] theorem Core.updCodec_recoverAt (u : Nat) (f : CodecUnit → CodecUnit) : (c.updCodec u f).recoverAt = c.recoverAt := rfl
@[simp] theorem Core.updCodec_rail (u : Nat) (f : CodecUnit → CodecUnit) : (c.updCodec u f).rail = c.rail := rfl
@[simp] theorem Core.updCodec_boot (u : Nat) (f : CodecUnit → CodecUnit) : (c.updCodec u f).boot = c.boot := rfl
@[simp] theorem Core.updCodec_nor (u : Nat) (f : CodecUnit → CodecUnit) : (c.updCodec u f).nor = c.nor := rfl
@[simp] theorem Core.updCodec_fw (u : Nat) (f : CodecUnit → CodecUnit) : (c.updCodec u f).fw = c.fw := rfl
@[simp] theorem Core.updCodec_get (u : Nat) (f : CodecUnit → CodecUnit) (p : Obj) : (c.updCodec u f).get p = c.get p := rfl

@[simp] theorem Core.updLock_objs (k : Nat) (f : Lock → Lock) : (c.updLock k f).objs = c.objs := rfl
@[simp] theorem Core.updLock_time (k : Nat) (f : Lock → Lock) : (c.updLock k f).time = c.time := rfl
@[simp] theorem Core.updLock_sample (k : Nat) (f : Lock → Lock) : (c.updLock k f).sample = c.sample := rfl
@[simp] theorem Core.updLock_beam (k : Nat) (f : Lock → Lock) : (c.updLock k f).beam = c.beam := rfl
@[simp] theorem Core.updLock_reply (k : Nat) (f : Lock → Lock) : (c.updLock k f).reply = c.reply := rfl
@[simp] theorem Core.updLock_raises (k : Nat) (f : Lock → Lock) : (c.updLock k f).raises = c.raises := rfl
@[simp] theorem Core.updLock_out (k : Nat) (f : Lock → Lock) : (c.updLock k f).out = c.out := rfl
@[simp] theorem Core.updLock_fresh (k : Nat) (f : Lock → Lock) : (c.updLock k f).fresh = c.fresh := rfl
@[simp] theorem Core.updLock_encs (k : Nat) (f : Lock → Lock) : (c.updLock k f).encs = c.encs := rfl
@[simp] theorem Core.updLock_sposs (k : Nat) (f : Lock → Lock) : (c.updLock k f).sposs = c.sposs := rfl
@[simp] theorem Core.updLock_passes (k : Nat) (f : Lock → Lock) : (c.updLock k f).passes = c.passes := rfl
@[simp] theorem Core.updLock_cmps (k : Nat) (f : Lock → Lock) : (c.updLock k f).cmps = c.cmps := rfl
@[simp] theorem Core.updLock_lines (k : Nat) (f : Lock → Lock) : (c.updLock k f).lines = c.lines := rfl
@[simp] theorem Core.updLock_lcs (k : Nat) (f : Lock → Lock) : (c.updLock k f).lcs = c.lcs := rfl
@[simp] theorem Core.updLock_lists (k : Nat) (f : Lock → Lock) : (c.updLock k f).lists = c.lists := rfl
@[simp] theorem Core.updLock_imgs (k : Nat) (f : Lock → Lock) : (c.updLock k f).imgs = c.imgs := rfl
@[simp] theorem Core.updLock_runs (k : Nat) (f : Lock → Lock) : (c.updLock k f).runs = c.runs := rfl
@[simp] theorem Core.updLock_fires (k : Nat) (f : Lock → Lock) : (c.updLock k f).fires = c.fires := rfl
@[simp] theorem Core.updLock_lanes (k : Nat) (f : Lock → Lock) : (c.updLock k f).lanes = c.lanes := rfl
@[simp] theorem Core.updLock_returns (k : Nat) (f : Lock → Lock) : (c.updLock k f).returns = c.returns := rfl
@[simp] theorem Core.updLock_syncAt (k : Nat) (f : Lock → Lock) : (c.updLock k f).syncAt = c.syncAt := rfl
@[simp] theorem Core.updLock_syncs (k : Nat) (f : Lock → Lock) : (c.updLock k f).syncs = c.syncs := rfl
@[simp] theorem Core.updLock_scans (k : Nat) (f : Lock → Lock) : (c.updLock k f).scans = c.scans := rfl
@[simp] theorem Core.updLock_pages (k : Nat) (f : Lock → Lock) : (c.updLock k f).pages = c.pages := rfl
@[simp] theorem Core.updLock_sheets (k : Nat) (f : Lock → Lock) : (c.updLock k f).sheets = c.sheets := rfl
@[simp] theorem Core.updLock_drivePhase (k : Nat) (f : Lock → Lock) : (c.updLock k f).drivePhase = c.drivePhase := rfl
@[simp] theorem Core.updLock_driveCount (k : Nat) (f : Lock → Lock) : (c.updLock k f).driveCount = c.driveCount := rfl
@[simp] theorem Core.updLock_jobs (k : Nat) (f : Lock → Lock) : (c.updLock k f).jobs = c.jobs := rfl
@[simp] theorem Core.updLock_rcst (k : Nat) (f : Lock → Lock) : (c.updLock k f).rcst = c.rcst := rfl
@[simp] theorem Core.updLock_sprues (k : Nat) (f : Lock → Lock) : (c.updLock k f).sprues = c.sprues := rfl
@[simp] theorem Core.updLock_codecs (k : Nat) (f : Lock → Lock) : (c.updLock k f).codecs = c.codecs := rfl
@[simp] theorem Core.updLock_codecQueue (k : Nat) (f : Lock → Lock) : (c.updLock k f).codecQueue = c.codecQueue := rfl
@[simp] theorem Core.updLock_codecAborts (k : Nat) (f : Lock → Lock) : (c.updLock k f).codecAborts = c.codecAborts := rfl
@[simp] theorem Core.updLock_hub (k : Nat) (f : Lock → Lock) : (c.updLock k f).hub = c.hub := rfl
@[simp] theorem Core.updLock_rings (k : Nat) (f : Lock → Lock) : (c.updLock k f).rings = c.rings := rfl
@[simp] theorem Core.updLock_vectors (k : Nat) (f : Lock → Lock) : (c.updLock k f).vectors = c.vectors := rfl
@[simp] theorem Core.updLock_dmas (k : Nat) (f : Lock → Lock) : (c.updLock k f).dmas = c.dmas := rfl
@[simp] theorem Core.updLock_pcie (k : Nat) (f : Lock → Lock) : (c.updLock k f).pcie = c.pcie := rfl
@[simp] theorem Core.updLock_pcieCfg (k : Nat) (f : Lock → Lock) : (c.updLock k f).pcieCfg = c.pcieCfg := rfl
@[simp] theorem Core.updLock_dmaLast (k : Nat) (f : Lock → Lock) : (c.updLock k f).dmaLast = c.dmaLast := rfl
@[simp] theorem Core.updLock_clients (k : Nat) (f : Lock → Lock) : (c.updLock k f).clients = c.clients := rfl
@[simp] theorem Core.updLock_staged (k : Nat) (f : Lock → Lock) : (c.updLock k f).staged = c.staged := rfl
@[simp] theorem Core.updLock_commits (k : Nat) (f : Lock → Lock) : (c.updLock k f).commits = c.commits := rfl
@[simp] theorem Core.updLock_audit (k : Nat) (f : Lock → Lock) : (c.updLock k f).audit = c.audit := rfl
@[simp] theorem Core.updLock_auditNext (k : Nat) (f : Lock → Lock) : (c.updLock k f).auditNext = c.auditNext := rfl
@[simp] theorem Core.updLock_reasms (k : Nat) (f : Lock → Lock) : (c.updLock k f).reasms = c.reasms := rfl
@[simp] theorem Core.updLock_cans (k : Nat) (f : Lock → Lock) : (c.updLock k f).cans = c.cans := rfl
@[simp] theorem Core.updLock_slots (k : Nat) (f : Lock → Lock) : (c.updLock k f).slots = c.slots := rfl
@[simp] theorem Core.updLock_loopMark (k : Nat) (f : Lock → Lock) : (c.updLock k f).loopMark = c.loopMark := rfl
@[simp] theorem Core.updLock_loopMarks (k : Nat) (f : Lock → Lock) : (c.updLock k f).loopMarks = c.loopMarks := rfl
@[simp] theorem Core.updLock_ainSeqs (k : Nat) (f : Lock → Lock) : (c.updLock k f).ainSeqs = c.ainSeqs := rfl
@[simp] theorem Core.updLock_ainTimed (k : Nat) (f : Lock → Lock) : (c.updLock k f).ainTimed = c.ainTimed := rfl
@[simp] theorem Core.updLock_loopFree (k : Nat) (f : Lock → Lock) : (c.updLock k f).loopFree = c.loopFree := rfl
@[simp] theorem Core.updLock_loopAt (k : Nat) (f : Lock → Lock) : (c.updLock k f).loopAt = c.loopAt := rfl
@[simp] theorem Core.updLock_gpioSeen (k : Nat) (f : Lock → Lock) : (c.updLock k f).gpioSeen = c.gpioSeen := rfl
@[simp] theorem Core.updLock_gpioIn (k : Nat) (f : Lock → Lock) : (c.updLock k f).gpioIn = c.gpioIn := rfl
@[simp] theorem Core.updLock_pwms (k : Nat) (f : Lock → Lock) : (c.updLock k f).pwms = c.pwms := rfl
@[simp] theorem Core.updLock_ptp (k : Nat) (f : Lock → Lock) : (c.updLock k f).ptp = c.ptp := rfl
@[simp] theorem Core.updLock_align (k : Nat) (f : Lock → Lock) : (c.updLock k f).align = c.align := rfl
@[simp] theorem Core.updLock_qd (k : Nat) (f : Lock → Lock) : (c.updLock k f).qd = c.qd := rfl
@[simp] theorem Core.updLock_faults (k : Nat) (f : Lock → Lock) : (c.updLock k f).faults = c.faults := rfl
@[simp] theorem Core.updLock_scopes (k : Nat) (f : Lock → Lock) : (c.updLock k f).scopes = c.scopes := rfl
@[simp] theorem Core.updLock_recoveries (k : Nat) (f : Lock → Lock) : (c.updLock k f).recoveries = c.recoveries := rfl
@[simp] theorem Core.updLock_recoverAt (k : Nat) (f : Lock → Lock) : (c.updLock k f).recoverAt = c.recoverAt := rfl
@[simp] theorem Core.updLock_rail (k : Nat) (f : Lock → Lock) : (c.updLock k f).rail = c.rail := rfl
@[simp] theorem Core.updLock_boot (k : Nat) (f : Lock → Lock) : (c.updLock k f).boot = c.boot := rfl
@[simp] theorem Core.updLock_nor (k : Nat) (f : Lock → Lock) : (c.updLock k f).nor = c.nor := rfl
@[simp] theorem Core.updLock_fw (k : Nat) (f : Lock → Lock) : (c.updLock k f).fw = c.fw := rfl
@[simp] theorem Core.updLock_get (k : Nat) (f : Lock → Lock) (p : Obj) : (c.updLock k f).get p = c.get p := rfl

@[simp] theorem Core.updDma_objs (k : Nat) (f : Dma → Dma) : (c.updDma k f).objs = c.objs := rfl
@[simp] theorem Core.updDma_time (k : Nat) (f : Dma → Dma) : (c.updDma k f).time = c.time := rfl
@[simp] theorem Core.updDma_sample (k : Nat) (f : Dma → Dma) : (c.updDma k f).sample = c.sample := rfl
@[simp] theorem Core.updDma_beam (k : Nat) (f : Dma → Dma) : (c.updDma k f).beam = c.beam := rfl
@[simp] theorem Core.updDma_reply (k : Nat) (f : Dma → Dma) : (c.updDma k f).reply = c.reply := rfl
@[simp] theorem Core.updDma_raises (k : Nat) (f : Dma → Dma) : (c.updDma k f).raises = c.raises := rfl
@[simp] theorem Core.updDma_out (k : Nat) (f : Dma → Dma) : (c.updDma k f).out = c.out := rfl
@[simp] theorem Core.updDma_fresh (k : Nat) (f : Dma → Dma) : (c.updDma k f).fresh = c.fresh := rfl
@[simp] theorem Core.updDma_encs (k : Nat) (f : Dma → Dma) : (c.updDma k f).encs = c.encs := rfl
@[simp] theorem Core.updDma_sposs (k : Nat) (f : Dma → Dma) : (c.updDma k f).sposs = c.sposs := rfl
@[simp] theorem Core.updDma_passes (k : Nat) (f : Dma → Dma) : (c.updDma k f).passes = c.passes := rfl
@[simp] theorem Core.updDma_cmps (k : Nat) (f : Dma → Dma) : (c.updDma k f).cmps = c.cmps := rfl
@[simp] theorem Core.updDma_lines (k : Nat) (f : Dma → Dma) : (c.updDma k f).lines = c.lines := rfl
@[simp] theorem Core.updDma_lcs (k : Nat) (f : Dma → Dma) : (c.updDma k f).lcs = c.lcs := rfl
@[simp] theorem Core.updDma_lists (k : Nat) (f : Dma → Dma) : (c.updDma k f).lists = c.lists := rfl
@[simp] theorem Core.updDma_imgs (k : Nat) (f : Dma → Dma) : (c.updDma k f).imgs = c.imgs := rfl
@[simp] theorem Core.updDma_runs (k : Nat) (f : Dma → Dma) : (c.updDma k f).runs = c.runs := rfl
@[simp] theorem Core.updDma_fires (k : Nat) (f : Dma → Dma) : (c.updDma k f).fires = c.fires := rfl
@[simp] theorem Core.updDma_lanes (k : Nat) (f : Dma → Dma) : (c.updDma k f).lanes = c.lanes := rfl
@[simp] theorem Core.updDma_returns (k : Nat) (f : Dma → Dma) : (c.updDma k f).returns = c.returns := rfl
@[simp] theorem Core.updDma_syncAt (k : Nat) (f : Dma → Dma) : (c.updDma k f).syncAt = c.syncAt := rfl
@[simp] theorem Core.updDma_syncs (k : Nat) (f : Dma → Dma) : (c.updDma k f).syncs = c.syncs := rfl
@[simp] theorem Core.updDma_scans (k : Nat) (f : Dma → Dma) : (c.updDma k f).scans = c.scans := rfl
@[simp] theorem Core.updDma_pages (k : Nat) (f : Dma → Dma) : (c.updDma k f).pages = c.pages := rfl
@[simp] theorem Core.updDma_sheets (k : Nat) (f : Dma → Dma) : (c.updDma k f).sheets = c.sheets := rfl
@[simp] theorem Core.updDma_drivePhase (k : Nat) (f : Dma → Dma) : (c.updDma k f).drivePhase = c.drivePhase := rfl
@[simp] theorem Core.updDma_driveCount (k : Nat) (f : Dma → Dma) : (c.updDma k f).driveCount = c.driveCount := rfl
@[simp] theorem Core.updDma_jobs (k : Nat) (f : Dma → Dma) : (c.updDma k f).jobs = c.jobs := rfl
@[simp] theorem Core.updDma_rcst (k : Nat) (f : Dma → Dma) : (c.updDma k f).rcst = c.rcst := rfl
@[simp] theorem Core.updDma_sprues (k : Nat) (f : Dma → Dma) : (c.updDma k f).sprues = c.sprues := rfl
@[simp] theorem Core.updDma_codecs (k : Nat) (f : Dma → Dma) : (c.updDma k f).codecs = c.codecs := rfl
@[simp] theorem Core.updDma_codecQueue (k : Nat) (f : Dma → Dma) : (c.updDma k f).codecQueue = c.codecQueue := rfl
@[simp] theorem Core.updDma_codecAborts (k : Nat) (f : Dma → Dma) : (c.updDma k f).codecAborts = c.codecAborts := rfl
@[simp] theorem Core.updDma_hub (k : Nat) (f : Dma → Dma) : (c.updDma k f).hub = c.hub := rfl
@[simp] theorem Core.updDma_rings (k : Nat) (f : Dma → Dma) : (c.updDma k f).rings = c.rings := rfl
@[simp] theorem Core.updDma_vectors (k : Nat) (f : Dma → Dma) : (c.updDma k f).vectors = c.vectors := rfl
@[simp] theorem Core.updDma_pcie (k : Nat) (f : Dma → Dma) : (c.updDma k f).pcie = c.pcie := rfl
@[simp] theorem Core.updDma_pcieCfg (k : Nat) (f : Dma → Dma) : (c.updDma k f).pcieCfg = c.pcieCfg := rfl
@[simp] theorem Core.updDma_dmaLast (k : Nat) (f : Dma → Dma) : (c.updDma k f).dmaLast = c.dmaLast := rfl
@[simp] theorem Core.updDma_clients (k : Nat) (f : Dma → Dma) : (c.updDma k f).clients = c.clients := rfl
@[simp] theorem Core.updDma_staged (k : Nat) (f : Dma → Dma) : (c.updDma k f).staged = c.staged := rfl
@[simp] theorem Core.updDma_commits (k : Nat) (f : Dma → Dma) : (c.updDma k f).commits = c.commits := rfl
@[simp] theorem Core.updDma_locks (k : Nat) (f : Dma → Dma) : (c.updDma k f).locks = c.locks := rfl
@[simp] theorem Core.updDma_audit (k : Nat) (f : Dma → Dma) : (c.updDma k f).audit = c.audit := rfl
@[simp] theorem Core.updDma_auditNext (k : Nat) (f : Dma → Dma) : (c.updDma k f).auditNext = c.auditNext := rfl
@[simp] theorem Core.updDma_reasms (k : Nat) (f : Dma → Dma) : (c.updDma k f).reasms = c.reasms := rfl
@[simp] theorem Core.updDma_cans (k : Nat) (f : Dma → Dma) : (c.updDma k f).cans = c.cans := rfl
@[simp] theorem Core.updDma_slots (k : Nat) (f : Dma → Dma) : (c.updDma k f).slots = c.slots := rfl
@[simp] theorem Core.updDma_loopMark (k : Nat) (f : Dma → Dma) : (c.updDma k f).loopMark = c.loopMark := rfl
@[simp] theorem Core.updDma_loopMarks (k : Nat) (f : Dma → Dma) : (c.updDma k f).loopMarks = c.loopMarks := rfl
@[simp] theorem Core.updDma_ainSeqs (k : Nat) (f : Dma → Dma) : (c.updDma k f).ainSeqs = c.ainSeqs := rfl
@[simp] theorem Core.updDma_ainTimed (k : Nat) (f : Dma → Dma) : (c.updDma k f).ainTimed = c.ainTimed := rfl
@[simp] theorem Core.updDma_loopFree (k : Nat) (f : Dma → Dma) : (c.updDma k f).loopFree = c.loopFree := rfl
@[simp] theorem Core.updDma_loopAt (k : Nat) (f : Dma → Dma) : (c.updDma k f).loopAt = c.loopAt := rfl
@[simp] theorem Core.updDma_gpioSeen (k : Nat) (f : Dma → Dma) : (c.updDma k f).gpioSeen = c.gpioSeen := rfl
@[simp] theorem Core.updDma_gpioIn (k : Nat) (f : Dma → Dma) : (c.updDma k f).gpioIn = c.gpioIn := rfl
@[simp] theorem Core.updDma_pwms (k : Nat) (f : Dma → Dma) : (c.updDma k f).pwms = c.pwms := rfl
@[simp] theorem Core.updDma_ptp (k : Nat) (f : Dma → Dma) : (c.updDma k f).ptp = c.ptp := rfl
@[simp] theorem Core.updDma_align (k : Nat) (f : Dma → Dma) : (c.updDma k f).align = c.align := rfl
@[simp] theorem Core.updDma_qd (k : Nat) (f : Dma → Dma) : (c.updDma k f).qd = c.qd := rfl
@[simp] theorem Core.updDma_faults (k : Nat) (f : Dma → Dma) : (c.updDma k f).faults = c.faults := rfl
@[simp] theorem Core.updDma_scopes (k : Nat) (f : Dma → Dma) : (c.updDma k f).scopes = c.scopes := rfl
@[simp] theorem Core.updDma_recoveries (k : Nat) (f : Dma → Dma) : (c.updDma k f).recoveries = c.recoveries := rfl
@[simp] theorem Core.updDma_recoverAt (k : Nat) (f : Dma → Dma) : (c.updDma k f).recoverAt = c.recoverAt := rfl
@[simp] theorem Core.updDma_rail (k : Nat) (f : Dma → Dma) : (c.updDma k f).rail = c.rail := rfl
@[simp] theorem Core.updDma_boot (k : Nat) (f : Dma → Dma) : (c.updDma k f).boot = c.boot := rfl
@[simp] theorem Core.updDma_nor (k : Nat) (f : Dma → Dma) : (c.updDma k f).nor = c.nor := rfl
@[simp] theorem Core.updDma_fw (k : Nat) (f : Dma → Dma) : (c.updDma k f).fw = c.fw := rfl
@[simp] theorem Core.updDma_get (k : Nat) (f : Dma → Dma) (p : Obj) : (c.updDma k f).get p = c.get p := rfl

@[simp] theorem Core.updFault_objs (id : Nat) (f : FaultEntry → FaultEntry) : (c.updFault id f).objs = c.objs := rfl
@[simp] theorem Core.updFault_time (id : Nat) (f : FaultEntry → FaultEntry) : (c.updFault id f).time = c.time := rfl
@[simp] theorem Core.updFault_sample (id : Nat) (f : FaultEntry → FaultEntry) : (c.updFault id f).sample = c.sample := rfl
@[simp] theorem Core.updFault_beam (id : Nat) (f : FaultEntry → FaultEntry) : (c.updFault id f).beam = c.beam := rfl
@[simp] theorem Core.updFault_reply (id : Nat) (f : FaultEntry → FaultEntry) : (c.updFault id f).reply = c.reply := rfl
@[simp] theorem Core.updFault_raises (id : Nat) (f : FaultEntry → FaultEntry) : (c.updFault id f).raises = c.raises := rfl
@[simp] theorem Core.updFault_out (id : Nat) (f : FaultEntry → FaultEntry) : (c.updFault id f).out = c.out := rfl
@[simp] theorem Core.updFault_fresh (id : Nat) (f : FaultEntry → FaultEntry) : (c.updFault id f).fresh = c.fresh := rfl
@[simp] theorem Core.updFault_encs (id : Nat) (f : FaultEntry → FaultEntry) : (c.updFault id f).encs = c.encs := rfl
@[simp] theorem Core.updFault_sposs (id : Nat) (f : FaultEntry → FaultEntry) : (c.updFault id f).sposs = c.sposs := rfl
@[simp] theorem Core.updFault_passes (id : Nat) (f : FaultEntry → FaultEntry) : (c.updFault id f).passes = c.passes := rfl
@[simp] theorem Core.updFault_cmps (id : Nat) (f : FaultEntry → FaultEntry) : (c.updFault id f).cmps = c.cmps := rfl
@[simp] theorem Core.updFault_lines (id : Nat) (f : FaultEntry → FaultEntry) : (c.updFault id f).lines = c.lines := rfl
@[simp] theorem Core.updFault_lcs (id : Nat) (f : FaultEntry → FaultEntry) : (c.updFault id f).lcs = c.lcs := rfl
@[simp] theorem Core.updFault_lists (id : Nat) (f : FaultEntry → FaultEntry) : (c.updFault id f).lists = c.lists := rfl
@[simp] theorem Core.updFault_imgs (id : Nat) (f : FaultEntry → FaultEntry) : (c.updFault id f).imgs = c.imgs := rfl
@[simp] theorem Core.updFault_runs (id : Nat) (f : FaultEntry → FaultEntry) : (c.updFault id f).runs = c.runs := rfl
@[simp] theorem Core.updFault_fires (id : Nat) (f : FaultEntry → FaultEntry) : (c.updFault id f).fires = c.fires := rfl
@[simp] theorem Core.updFault_lanes (id : Nat) (f : FaultEntry → FaultEntry) : (c.updFault id f).lanes = c.lanes := rfl
@[simp] theorem Core.updFault_returns (id : Nat) (f : FaultEntry → FaultEntry) : (c.updFault id f).returns = c.returns := rfl
@[simp] theorem Core.updFault_syncAt (id : Nat) (f : FaultEntry → FaultEntry) : (c.updFault id f).syncAt = c.syncAt := rfl
@[simp] theorem Core.updFault_syncs (id : Nat) (f : FaultEntry → FaultEntry) : (c.updFault id f).syncs = c.syncs := rfl
@[simp] theorem Core.updFault_scans (id : Nat) (f : FaultEntry → FaultEntry) : (c.updFault id f).scans = c.scans := rfl
@[simp] theorem Core.updFault_pages (id : Nat) (f : FaultEntry → FaultEntry) : (c.updFault id f).pages = c.pages := rfl
@[simp] theorem Core.updFault_sheets (id : Nat) (f : FaultEntry → FaultEntry) : (c.updFault id f).sheets = c.sheets := rfl
@[simp] theorem Core.updFault_drivePhase (id : Nat) (f : FaultEntry → FaultEntry) : (c.updFault id f).drivePhase = c.drivePhase := rfl
@[simp] theorem Core.updFault_driveCount (id : Nat) (f : FaultEntry → FaultEntry) : (c.updFault id f).driveCount = c.driveCount := rfl
@[simp] theorem Core.updFault_jobs (id : Nat) (f : FaultEntry → FaultEntry) : (c.updFault id f).jobs = c.jobs := rfl
@[simp] theorem Core.updFault_rcst (id : Nat) (f : FaultEntry → FaultEntry) : (c.updFault id f).rcst = c.rcst := rfl
@[simp] theorem Core.updFault_sprues (id : Nat) (f : FaultEntry → FaultEntry) : (c.updFault id f).sprues = c.sprues := rfl
@[simp] theorem Core.updFault_codecs (id : Nat) (f : FaultEntry → FaultEntry) : (c.updFault id f).codecs = c.codecs := rfl
@[simp] theorem Core.updFault_codecQueue (id : Nat) (f : FaultEntry → FaultEntry) : (c.updFault id f).codecQueue = c.codecQueue := rfl
@[simp] theorem Core.updFault_codecAborts (id : Nat) (f : FaultEntry → FaultEntry) : (c.updFault id f).codecAborts = c.codecAborts := rfl
@[simp] theorem Core.updFault_hub (id : Nat) (f : FaultEntry → FaultEntry) : (c.updFault id f).hub = c.hub := rfl
@[simp] theorem Core.updFault_rings (id : Nat) (f : FaultEntry → FaultEntry) : (c.updFault id f).rings = c.rings := rfl
@[simp] theorem Core.updFault_vectors (id : Nat) (f : FaultEntry → FaultEntry) : (c.updFault id f).vectors = c.vectors := rfl
@[simp] theorem Core.updFault_dmas (id : Nat) (f : FaultEntry → FaultEntry) : (c.updFault id f).dmas = c.dmas := rfl
@[simp] theorem Core.updFault_pcie (id : Nat) (f : FaultEntry → FaultEntry) : (c.updFault id f).pcie = c.pcie := rfl
@[simp] theorem Core.updFault_pcieCfg (id : Nat) (f : FaultEntry → FaultEntry) : (c.updFault id f).pcieCfg = c.pcieCfg := rfl
@[simp] theorem Core.updFault_dmaLast (id : Nat) (f : FaultEntry → FaultEntry) : (c.updFault id f).dmaLast = c.dmaLast := rfl
@[simp] theorem Core.updFault_clients (id : Nat) (f : FaultEntry → FaultEntry) : (c.updFault id f).clients = c.clients := rfl
@[simp] theorem Core.updFault_staged (id : Nat) (f : FaultEntry → FaultEntry) : (c.updFault id f).staged = c.staged := rfl
@[simp] theorem Core.updFault_commits (id : Nat) (f : FaultEntry → FaultEntry) : (c.updFault id f).commits = c.commits := rfl
@[simp] theorem Core.updFault_locks (id : Nat) (f : FaultEntry → FaultEntry) : (c.updFault id f).locks = c.locks := rfl
@[simp] theorem Core.updFault_audit (id : Nat) (f : FaultEntry → FaultEntry) : (c.updFault id f).audit = c.audit := rfl
@[simp] theorem Core.updFault_auditNext (id : Nat) (f : FaultEntry → FaultEntry) : (c.updFault id f).auditNext = c.auditNext := rfl
@[simp] theorem Core.updFault_reasms (id : Nat) (f : FaultEntry → FaultEntry) : (c.updFault id f).reasms = c.reasms := rfl
@[simp] theorem Core.updFault_cans (id : Nat) (f : FaultEntry → FaultEntry) : (c.updFault id f).cans = c.cans := rfl
@[simp] theorem Core.updFault_slots (id : Nat) (f : FaultEntry → FaultEntry) : (c.updFault id f).slots = c.slots := rfl
@[simp] theorem Core.updFault_loopMark (id : Nat) (f : FaultEntry → FaultEntry) : (c.updFault id f).loopMark = c.loopMark := rfl
@[simp] theorem Core.updFault_loopMarks (id : Nat) (f : FaultEntry → FaultEntry) : (c.updFault id f).loopMarks = c.loopMarks := rfl
@[simp] theorem Core.updFault_ainSeqs (id : Nat) (f : FaultEntry → FaultEntry) : (c.updFault id f).ainSeqs = c.ainSeqs := rfl
@[simp] theorem Core.updFault_ainTimed (id : Nat) (f : FaultEntry → FaultEntry) : (c.updFault id f).ainTimed = c.ainTimed := rfl
@[simp] theorem Core.updFault_loopFree (id : Nat) (f : FaultEntry → FaultEntry) : (c.updFault id f).loopFree = c.loopFree := rfl
@[simp] theorem Core.updFault_loopAt (id : Nat) (f : FaultEntry → FaultEntry) : (c.updFault id f).loopAt = c.loopAt := rfl
@[simp] theorem Core.updFault_gpioSeen (id : Nat) (f : FaultEntry → FaultEntry) : (c.updFault id f).gpioSeen = c.gpioSeen := rfl
@[simp] theorem Core.updFault_gpioIn (id : Nat) (f : FaultEntry → FaultEntry) : (c.updFault id f).gpioIn = c.gpioIn := rfl
@[simp] theorem Core.updFault_pwms (id : Nat) (f : FaultEntry → FaultEntry) : (c.updFault id f).pwms = c.pwms := rfl
@[simp] theorem Core.updFault_ptp (id : Nat) (f : FaultEntry → FaultEntry) : (c.updFault id f).ptp = c.ptp := rfl
@[simp] theorem Core.updFault_align (id : Nat) (f : FaultEntry → FaultEntry) : (c.updFault id f).align = c.align := rfl
@[simp] theorem Core.updFault_qd (id : Nat) (f : FaultEntry → FaultEntry) : (c.updFault id f).qd = c.qd := rfl
@[simp] theorem Core.updFault_scopes (id : Nat) (f : FaultEntry → FaultEntry) : (c.updFault id f).scopes = c.scopes := rfl
@[simp] theorem Core.updFault_recoveries (id : Nat) (f : FaultEntry → FaultEntry) : (c.updFault id f).recoveries = c.recoveries := rfl
@[simp] theorem Core.updFault_recoverAt (id : Nat) (f : FaultEntry → FaultEntry) : (c.updFault id f).recoverAt = c.recoverAt := rfl
@[simp] theorem Core.updFault_rail (id : Nat) (f : FaultEntry → FaultEntry) : (c.updFault id f).rail = c.rail := rfl
@[simp] theorem Core.updFault_boot (id : Nat) (f : FaultEntry → FaultEntry) : (c.updFault id f).boot = c.boot := rfl
@[simp] theorem Core.updFault_nor (id : Nat) (f : FaultEntry → FaultEntry) : (c.updFault id f).nor = c.nor := rfl
@[simp] theorem Core.updFault_fw (id : Nat) (f : FaultEntry → FaultEntry) : (c.updFault id f).fw = c.fw := rfl
@[simp] theorem Core.updFault_get (id : Nat) (f : FaultEntry → FaultEntry) (p : Obj) : (c.updFault id f).get p = c.get p := rfl

@[simp] theorem Core.updFire_objs (n : Nat) (f : ChFire → ChFire) : (c.updFire n f).objs = c.objs := rfl
@[simp] theorem Core.updFire_time (n : Nat) (f : ChFire → ChFire) : (c.updFire n f).time = c.time := rfl
@[simp] theorem Core.updFire_sample (n : Nat) (f : ChFire → ChFire) : (c.updFire n f).sample = c.sample := rfl
@[simp] theorem Core.updFire_beam (n : Nat) (f : ChFire → ChFire) : (c.updFire n f).beam = c.beam := rfl
@[simp] theorem Core.updFire_reply (n : Nat) (f : ChFire → ChFire) : (c.updFire n f).reply = c.reply := rfl
@[simp] theorem Core.updFire_raises (n : Nat) (f : ChFire → ChFire) : (c.updFire n f).raises = c.raises := rfl
@[simp] theorem Core.updFire_out (n : Nat) (f : ChFire → ChFire) : (c.updFire n f).out = c.out := rfl
@[simp] theorem Core.updFire_fresh (n : Nat) (f : ChFire → ChFire) : (c.updFire n f).fresh = c.fresh := rfl
@[simp] theorem Core.updFire_encs (n : Nat) (f : ChFire → ChFire) : (c.updFire n f).encs = c.encs := rfl
@[simp] theorem Core.updFire_sposs (n : Nat) (f : ChFire → ChFire) : (c.updFire n f).sposs = c.sposs := rfl
@[simp] theorem Core.updFire_passes (n : Nat) (f : ChFire → ChFire) : (c.updFire n f).passes = c.passes := rfl
@[simp] theorem Core.updFire_cmps (n : Nat) (f : ChFire → ChFire) : (c.updFire n f).cmps = c.cmps := rfl
@[simp] theorem Core.updFire_lines (n : Nat) (f : ChFire → ChFire) : (c.updFire n f).lines = c.lines := rfl
@[simp] theorem Core.updFire_lcs (n : Nat) (f : ChFire → ChFire) : (c.updFire n f).lcs = c.lcs := rfl
@[simp] theorem Core.updFire_lists (n : Nat) (f : ChFire → ChFire) : (c.updFire n f).lists = c.lists := rfl
@[simp] theorem Core.updFire_imgs (n : Nat) (f : ChFire → ChFire) : (c.updFire n f).imgs = c.imgs := rfl
@[simp] theorem Core.updFire_runs (n : Nat) (f : ChFire → ChFire) : (c.updFire n f).runs = c.runs := rfl
@[simp] theorem Core.updFire_lanes (n : Nat) (f : ChFire → ChFire) : (c.updFire n f).lanes = c.lanes := rfl
@[simp] theorem Core.updFire_returns (n : Nat) (f : ChFire → ChFire) : (c.updFire n f).returns = c.returns := rfl
@[simp] theorem Core.updFire_syncAt (n : Nat) (f : ChFire → ChFire) : (c.updFire n f).syncAt = c.syncAt := rfl
@[simp] theorem Core.updFire_syncs (n : Nat) (f : ChFire → ChFire) : (c.updFire n f).syncs = c.syncs := rfl
@[simp] theorem Core.updFire_scans (n : Nat) (f : ChFire → ChFire) : (c.updFire n f).scans = c.scans := rfl
@[simp] theorem Core.updFire_pages (n : Nat) (f : ChFire → ChFire) : (c.updFire n f).pages = c.pages := rfl
@[simp] theorem Core.updFire_sheets (n : Nat) (f : ChFire → ChFire) : (c.updFire n f).sheets = c.sheets := rfl
@[simp] theorem Core.updFire_drivePhase (n : Nat) (f : ChFire → ChFire) : (c.updFire n f).drivePhase = c.drivePhase := rfl
@[simp] theorem Core.updFire_driveCount (n : Nat) (f : ChFire → ChFire) : (c.updFire n f).driveCount = c.driveCount := rfl
@[simp] theorem Core.updFire_jobs (n : Nat) (f : ChFire → ChFire) : (c.updFire n f).jobs = c.jobs := rfl
@[simp] theorem Core.updFire_rcst (n : Nat) (f : ChFire → ChFire) : (c.updFire n f).rcst = c.rcst := rfl
@[simp] theorem Core.updFire_sprues (n : Nat) (f : ChFire → ChFire) : (c.updFire n f).sprues = c.sprues := rfl
@[simp] theorem Core.updFire_codecs (n : Nat) (f : ChFire → ChFire) : (c.updFire n f).codecs = c.codecs := rfl
@[simp] theorem Core.updFire_codecQueue (n : Nat) (f : ChFire → ChFire) : (c.updFire n f).codecQueue = c.codecQueue := rfl
@[simp] theorem Core.updFire_codecAborts (n : Nat) (f : ChFire → ChFire) : (c.updFire n f).codecAborts = c.codecAborts := rfl
@[simp] theorem Core.updFire_hub (n : Nat) (f : ChFire → ChFire) : (c.updFire n f).hub = c.hub := rfl
@[simp] theorem Core.updFire_rings (n : Nat) (f : ChFire → ChFire) : (c.updFire n f).rings = c.rings := rfl
@[simp] theorem Core.updFire_vectors (n : Nat) (f : ChFire → ChFire) : (c.updFire n f).vectors = c.vectors := rfl
@[simp] theorem Core.updFire_dmas (n : Nat) (f : ChFire → ChFire) : (c.updFire n f).dmas = c.dmas := rfl
@[simp] theorem Core.updFire_pcie (n : Nat) (f : ChFire → ChFire) : (c.updFire n f).pcie = c.pcie := rfl
@[simp] theorem Core.updFire_pcieCfg (n : Nat) (f : ChFire → ChFire) : (c.updFire n f).pcieCfg = c.pcieCfg := rfl
@[simp] theorem Core.updFire_dmaLast (n : Nat) (f : ChFire → ChFire) : (c.updFire n f).dmaLast = c.dmaLast := rfl
@[simp] theorem Core.updFire_clients (n : Nat) (f : ChFire → ChFire) : (c.updFire n f).clients = c.clients := rfl
@[simp] theorem Core.updFire_staged (n : Nat) (f : ChFire → ChFire) : (c.updFire n f).staged = c.staged := rfl
@[simp] theorem Core.updFire_commits (n : Nat) (f : ChFire → ChFire) : (c.updFire n f).commits = c.commits := rfl
@[simp] theorem Core.updFire_locks (n : Nat) (f : ChFire → ChFire) : (c.updFire n f).locks = c.locks := rfl
@[simp] theorem Core.updFire_audit (n : Nat) (f : ChFire → ChFire) : (c.updFire n f).audit = c.audit := rfl
@[simp] theorem Core.updFire_auditNext (n : Nat) (f : ChFire → ChFire) : (c.updFire n f).auditNext = c.auditNext := rfl
@[simp] theorem Core.updFire_reasms (n : Nat) (f : ChFire → ChFire) : (c.updFire n f).reasms = c.reasms := rfl
@[simp] theorem Core.updFire_cans (n : Nat) (f : ChFire → ChFire) : (c.updFire n f).cans = c.cans := rfl
@[simp] theorem Core.updFire_slots (n : Nat) (f : ChFire → ChFire) : (c.updFire n f).slots = c.slots := rfl
@[simp] theorem Core.updFire_loopMark (n : Nat) (f : ChFire → ChFire) : (c.updFire n f).loopMark = c.loopMark := rfl
@[simp] theorem Core.updFire_loopMarks (n : Nat) (f : ChFire → ChFire) : (c.updFire n f).loopMarks = c.loopMarks := rfl
@[simp] theorem Core.updFire_ainSeqs (n : Nat) (f : ChFire → ChFire) : (c.updFire n f).ainSeqs = c.ainSeqs := rfl
@[simp] theorem Core.updFire_ainTimed (n : Nat) (f : ChFire → ChFire) : (c.updFire n f).ainTimed = c.ainTimed := rfl
@[simp] theorem Core.updFire_loopFree (n : Nat) (f : ChFire → ChFire) : (c.updFire n f).loopFree = c.loopFree := rfl
@[simp] theorem Core.updFire_loopAt (n : Nat) (f : ChFire → ChFire) : (c.updFire n f).loopAt = c.loopAt := rfl
@[simp] theorem Core.updFire_gpioSeen (n : Nat) (f : ChFire → ChFire) : (c.updFire n f).gpioSeen = c.gpioSeen := rfl
@[simp] theorem Core.updFire_gpioIn (n : Nat) (f : ChFire → ChFire) : (c.updFire n f).gpioIn = c.gpioIn := rfl
@[simp] theorem Core.updFire_pwms (n : Nat) (f : ChFire → ChFire) : (c.updFire n f).pwms = c.pwms := rfl
@[simp] theorem Core.updFire_ptp (n : Nat) (f : ChFire → ChFire) : (c.updFire n f).ptp = c.ptp := rfl
@[simp] theorem Core.updFire_align (n : Nat) (f : ChFire → ChFire) : (c.updFire n f).align = c.align := rfl
@[simp] theorem Core.updFire_qd (n : Nat) (f : ChFire → ChFire) : (c.updFire n f).qd = c.qd := rfl
@[simp] theorem Core.updFire_faults (n : Nat) (f : ChFire → ChFire) : (c.updFire n f).faults = c.faults := rfl
@[simp] theorem Core.updFire_scopes (n : Nat) (f : ChFire → ChFire) : (c.updFire n f).scopes = c.scopes := rfl
@[simp] theorem Core.updFire_recoveries (n : Nat) (f : ChFire → ChFire) : (c.updFire n f).recoveries = c.recoveries := rfl
@[simp] theorem Core.updFire_recoverAt (n : Nat) (f : ChFire → ChFire) : (c.updFire n f).recoverAt = c.recoverAt := rfl
@[simp] theorem Core.updFire_rail (n : Nat) (f : ChFire → ChFire) : (c.updFire n f).rail = c.rail := rfl
@[simp] theorem Core.updFire_boot (n : Nat) (f : ChFire → ChFire) : (c.updFire n f).boot = c.boot := rfl
@[simp] theorem Core.updFire_nor (n : Nat) (f : ChFire → ChFire) : (c.updFire n f).nor = c.nor := rfl
@[simp] theorem Core.updFire_fw (n : Nat) (f : ChFire → ChFire) : (c.updFire n f).fw = c.fw := rfl
@[simp] theorem Core.updFire_get (n : Nat) (f : ChFire → ChFire) (p : Obj) : (c.updFire n f).get p = c.get p := rfl

@[simp] theorem Core.updNor_objs (f : Nor → Nor) : (c.updNor f).objs = c.objs := rfl
@[simp] theorem Core.updNor_time (f : Nor → Nor) : (c.updNor f).time = c.time := rfl
@[simp] theorem Core.updNor_sample (f : Nor → Nor) : (c.updNor f).sample = c.sample := rfl
@[simp] theorem Core.updNor_beam (f : Nor → Nor) : (c.updNor f).beam = c.beam := rfl
@[simp] theorem Core.updNor_reply (f : Nor → Nor) : (c.updNor f).reply = c.reply := rfl
@[simp] theorem Core.updNor_raises (f : Nor → Nor) : (c.updNor f).raises = c.raises := rfl
@[simp] theorem Core.updNor_out (f : Nor → Nor) : (c.updNor f).out = c.out := rfl
@[simp] theorem Core.updNor_fresh (f : Nor → Nor) : (c.updNor f).fresh = c.fresh := rfl
@[simp] theorem Core.updNor_encs (f : Nor → Nor) : (c.updNor f).encs = c.encs := rfl
@[simp] theorem Core.updNor_sposs (f : Nor → Nor) : (c.updNor f).sposs = c.sposs := rfl
@[simp] theorem Core.updNor_passes (f : Nor → Nor) : (c.updNor f).passes = c.passes := rfl
@[simp] theorem Core.updNor_cmps (f : Nor → Nor) : (c.updNor f).cmps = c.cmps := rfl
@[simp] theorem Core.updNor_lines (f : Nor → Nor) : (c.updNor f).lines = c.lines := rfl
@[simp] theorem Core.updNor_lcs (f : Nor → Nor) : (c.updNor f).lcs = c.lcs := rfl
@[simp] theorem Core.updNor_lists (f : Nor → Nor) : (c.updNor f).lists = c.lists := rfl
@[simp] theorem Core.updNor_imgs (f : Nor → Nor) : (c.updNor f).imgs = c.imgs := rfl
@[simp] theorem Core.updNor_runs (f : Nor → Nor) : (c.updNor f).runs = c.runs := rfl
@[simp] theorem Core.updNor_fires (f : Nor → Nor) : (c.updNor f).fires = c.fires := rfl
@[simp] theorem Core.updNor_lanes (f : Nor → Nor) : (c.updNor f).lanes = c.lanes := rfl
@[simp] theorem Core.updNor_returns (f : Nor → Nor) : (c.updNor f).returns = c.returns := rfl
@[simp] theorem Core.updNor_syncAt (f : Nor → Nor) : (c.updNor f).syncAt = c.syncAt := rfl
@[simp] theorem Core.updNor_syncs (f : Nor → Nor) : (c.updNor f).syncs = c.syncs := rfl
@[simp] theorem Core.updNor_scans (f : Nor → Nor) : (c.updNor f).scans = c.scans := rfl
@[simp] theorem Core.updNor_pages (f : Nor → Nor) : (c.updNor f).pages = c.pages := rfl
@[simp] theorem Core.updNor_sheets (f : Nor → Nor) : (c.updNor f).sheets = c.sheets := rfl
@[simp] theorem Core.updNor_drivePhase (f : Nor → Nor) : (c.updNor f).drivePhase = c.drivePhase := rfl
@[simp] theorem Core.updNor_driveCount (f : Nor → Nor) : (c.updNor f).driveCount = c.driveCount := rfl
@[simp] theorem Core.updNor_jobs (f : Nor → Nor) : (c.updNor f).jobs = c.jobs := rfl
@[simp] theorem Core.updNor_rcst (f : Nor → Nor) : (c.updNor f).rcst = c.rcst := rfl
@[simp] theorem Core.updNor_sprues (f : Nor → Nor) : (c.updNor f).sprues = c.sprues := rfl
@[simp] theorem Core.updNor_codecs (f : Nor → Nor) : (c.updNor f).codecs = c.codecs := rfl
@[simp] theorem Core.updNor_codecQueue (f : Nor → Nor) : (c.updNor f).codecQueue = c.codecQueue := rfl
@[simp] theorem Core.updNor_codecAborts (f : Nor → Nor) : (c.updNor f).codecAborts = c.codecAborts := rfl
@[simp] theorem Core.updNor_hub (f : Nor → Nor) : (c.updNor f).hub = c.hub := rfl
@[simp] theorem Core.updNor_rings (f : Nor → Nor) : (c.updNor f).rings = c.rings := rfl
@[simp] theorem Core.updNor_vectors (f : Nor → Nor) : (c.updNor f).vectors = c.vectors := rfl
@[simp] theorem Core.updNor_dmas (f : Nor → Nor) : (c.updNor f).dmas = c.dmas := rfl
@[simp] theorem Core.updNor_pcie (f : Nor → Nor) : (c.updNor f).pcie = c.pcie := rfl
@[simp] theorem Core.updNor_pcieCfg (f : Nor → Nor) : (c.updNor f).pcieCfg = c.pcieCfg := rfl
@[simp] theorem Core.updNor_dmaLast (f : Nor → Nor) : (c.updNor f).dmaLast = c.dmaLast := rfl
@[simp] theorem Core.updNor_clients (f : Nor → Nor) : (c.updNor f).clients = c.clients := rfl
@[simp] theorem Core.updNor_staged (f : Nor → Nor) : (c.updNor f).staged = c.staged := rfl
@[simp] theorem Core.updNor_commits (f : Nor → Nor) : (c.updNor f).commits = c.commits := rfl
@[simp] theorem Core.updNor_locks (f : Nor → Nor) : (c.updNor f).locks = c.locks := rfl
@[simp] theorem Core.updNor_audit (f : Nor → Nor) : (c.updNor f).audit = c.audit := rfl
@[simp] theorem Core.updNor_auditNext (f : Nor → Nor) : (c.updNor f).auditNext = c.auditNext := rfl
@[simp] theorem Core.updNor_reasms (f : Nor → Nor) : (c.updNor f).reasms = c.reasms := rfl
@[simp] theorem Core.updNor_cans (f : Nor → Nor) : (c.updNor f).cans = c.cans := rfl
@[simp] theorem Core.updNor_slots (f : Nor → Nor) : (c.updNor f).slots = c.slots := rfl
@[simp] theorem Core.updNor_loopMark (f : Nor → Nor) : (c.updNor f).loopMark = c.loopMark := rfl
@[simp] theorem Core.updNor_loopMarks (f : Nor → Nor) : (c.updNor f).loopMarks = c.loopMarks := rfl
@[simp] theorem Core.updNor_ainSeqs (f : Nor → Nor) : (c.updNor f).ainSeqs = c.ainSeqs := rfl
@[simp] theorem Core.updNor_ainTimed (f : Nor → Nor) : (c.updNor f).ainTimed = c.ainTimed := rfl
@[simp] theorem Core.updNor_loopFree (f : Nor → Nor) : (c.updNor f).loopFree = c.loopFree := rfl
@[simp] theorem Core.updNor_loopAt (f : Nor → Nor) : (c.updNor f).loopAt = c.loopAt := rfl
@[simp] theorem Core.updNor_gpioSeen (f : Nor → Nor) : (c.updNor f).gpioSeen = c.gpioSeen := rfl
@[simp] theorem Core.updNor_gpioIn (f : Nor → Nor) : (c.updNor f).gpioIn = c.gpioIn := rfl
@[simp] theorem Core.updNor_pwms (f : Nor → Nor) : (c.updNor f).pwms = c.pwms := rfl
@[simp] theorem Core.updNor_ptp (f : Nor → Nor) : (c.updNor f).ptp = c.ptp := rfl
@[simp] theorem Core.updNor_align (f : Nor → Nor) : (c.updNor f).align = c.align := rfl
@[simp] theorem Core.updNor_qd (f : Nor → Nor) : (c.updNor f).qd = c.qd := rfl
@[simp] theorem Core.updNor_faults (f : Nor → Nor) : (c.updNor f).faults = c.faults := rfl
@[simp] theorem Core.updNor_scopes (f : Nor → Nor) : (c.updNor f).scopes = c.scopes := rfl
@[simp] theorem Core.updNor_recoveries (f : Nor → Nor) : (c.updNor f).recoveries = c.recoveries := rfl
@[simp] theorem Core.updNor_recoverAt (f : Nor → Nor) : (c.updNor f).recoverAt = c.recoverAt := rfl
@[simp] theorem Core.updNor_rail (f : Nor → Nor) : (c.updNor f).rail = c.rail := rfl
@[simp] theorem Core.updNor_boot (f : Nor → Nor) : (c.updNor f).boot = c.boot := rfl
@[simp] theorem Core.updNor_fw (f : Nor → Nor) : (c.updNor f).fw = c.fw := rfl
@[simp] theorem Core.updNor_get (f : Nor → Nor) (p : Obj) : (c.updNor f).get p = c.get p := rfl

@[simp] theorem Core.updFw_objs (f : Fw → Fw) : (c.updFw f).objs = c.objs := rfl
@[simp] theorem Core.updFw_time (f : Fw → Fw) : (c.updFw f).time = c.time := rfl
@[simp] theorem Core.updFw_sample (f : Fw → Fw) : (c.updFw f).sample = c.sample := rfl
@[simp] theorem Core.updFw_beam (f : Fw → Fw) : (c.updFw f).beam = c.beam := rfl
@[simp] theorem Core.updFw_reply (f : Fw → Fw) : (c.updFw f).reply = c.reply := rfl
@[simp] theorem Core.updFw_raises (f : Fw → Fw) : (c.updFw f).raises = c.raises := rfl
@[simp] theorem Core.updFw_out (f : Fw → Fw) : (c.updFw f).out = c.out := rfl
@[simp] theorem Core.updFw_fresh (f : Fw → Fw) : (c.updFw f).fresh = c.fresh := rfl
@[simp] theorem Core.updFw_encs (f : Fw → Fw) : (c.updFw f).encs = c.encs := rfl
@[simp] theorem Core.updFw_sposs (f : Fw → Fw) : (c.updFw f).sposs = c.sposs := rfl
@[simp] theorem Core.updFw_passes (f : Fw → Fw) : (c.updFw f).passes = c.passes := rfl
@[simp] theorem Core.updFw_cmps (f : Fw → Fw) : (c.updFw f).cmps = c.cmps := rfl
@[simp] theorem Core.updFw_lines (f : Fw → Fw) : (c.updFw f).lines = c.lines := rfl
@[simp] theorem Core.updFw_lcs (f : Fw → Fw) : (c.updFw f).lcs = c.lcs := rfl
@[simp] theorem Core.updFw_lists (f : Fw → Fw) : (c.updFw f).lists = c.lists := rfl
@[simp] theorem Core.updFw_imgs (f : Fw → Fw) : (c.updFw f).imgs = c.imgs := rfl
@[simp] theorem Core.updFw_runs (f : Fw → Fw) : (c.updFw f).runs = c.runs := rfl
@[simp] theorem Core.updFw_fires (f : Fw → Fw) : (c.updFw f).fires = c.fires := rfl
@[simp] theorem Core.updFw_lanes (f : Fw → Fw) : (c.updFw f).lanes = c.lanes := rfl
@[simp] theorem Core.updFw_returns (f : Fw → Fw) : (c.updFw f).returns = c.returns := rfl
@[simp] theorem Core.updFw_syncAt (f : Fw → Fw) : (c.updFw f).syncAt = c.syncAt := rfl
@[simp] theorem Core.updFw_syncs (f : Fw → Fw) : (c.updFw f).syncs = c.syncs := rfl
@[simp] theorem Core.updFw_scans (f : Fw → Fw) : (c.updFw f).scans = c.scans := rfl
@[simp] theorem Core.updFw_pages (f : Fw → Fw) : (c.updFw f).pages = c.pages := rfl
@[simp] theorem Core.updFw_sheets (f : Fw → Fw) : (c.updFw f).sheets = c.sheets := rfl
@[simp] theorem Core.updFw_drivePhase (f : Fw → Fw) : (c.updFw f).drivePhase = c.drivePhase := rfl
@[simp] theorem Core.updFw_driveCount (f : Fw → Fw) : (c.updFw f).driveCount = c.driveCount := rfl
@[simp] theorem Core.updFw_jobs (f : Fw → Fw) : (c.updFw f).jobs = c.jobs := rfl
@[simp] theorem Core.updFw_rcst (f : Fw → Fw) : (c.updFw f).rcst = c.rcst := rfl
@[simp] theorem Core.updFw_sprues (f : Fw → Fw) : (c.updFw f).sprues = c.sprues := rfl
@[simp] theorem Core.updFw_codecs (f : Fw → Fw) : (c.updFw f).codecs = c.codecs := rfl
@[simp] theorem Core.updFw_codecQueue (f : Fw → Fw) : (c.updFw f).codecQueue = c.codecQueue := rfl
@[simp] theorem Core.updFw_codecAborts (f : Fw → Fw) : (c.updFw f).codecAborts = c.codecAborts := rfl
@[simp] theorem Core.updFw_hub (f : Fw → Fw) : (c.updFw f).hub = c.hub := rfl
@[simp] theorem Core.updFw_rings (f : Fw → Fw) : (c.updFw f).rings = c.rings := rfl
@[simp] theorem Core.updFw_vectors (f : Fw → Fw) : (c.updFw f).vectors = c.vectors := rfl
@[simp] theorem Core.updFw_dmas (f : Fw → Fw) : (c.updFw f).dmas = c.dmas := rfl
@[simp] theorem Core.updFw_pcie (f : Fw → Fw) : (c.updFw f).pcie = c.pcie := rfl
@[simp] theorem Core.updFw_pcieCfg (f : Fw → Fw) : (c.updFw f).pcieCfg = c.pcieCfg := rfl
@[simp] theorem Core.updFw_dmaLast (f : Fw → Fw) : (c.updFw f).dmaLast = c.dmaLast := rfl
@[simp] theorem Core.updFw_clients (f : Fw → Fw) : (c.updFw f).clients = c.clients := rfl
@[simp] theorem Core.updFw_staged (f : Fw → Fw) : (c.updFw f).staged = c.staged := rfl
@[simp] theorem Core.updFw_commits (f : Fw → Fw) : (c.updFw f).commits = c.commits := rfl
@[simp] theorem Core.updFw_locks (f : Fw → Fw) : (c.updFw f).locks = c.locks := rfl
@[simp] theorem Core.updFw_audit (f : Fw → Fw) : (c.updFw f).audit = c.audit := rfl
@[simp] theorem Core.updFw_auditNext (f : Fw → Fw) : (c.updFw f).auditNext = c.auditNext := rfl
@[simp] theorem Core.updFw_reasms (f : Fw → Fw) : (c.updFw f).reasms = c.reasms := rfl
@[simp] theorem Core.updFw_cans (f : Fw → Fw) : (c.updFw f).cans = c.cans := rfl
@[simp] theorem Core.updFw_slots (f : Fw → Fw) : (c.updFw f).slots = c.slots := rfl
@[simp] theorem Core.updFw_loopMark (f : Fw → Fw) : (c.updFw f).loopMark = c.loopMark := rfl
@[simp] theorem Core.updFw_loopMarks (f : Fw → Fw) : (c.updFw f).loopMarks = c.loopMarks := rfl
@[simp] theorem Core.updFw_ainSeqs (f : Fw → Fw) : (c.updFw f).ainSeqs = c.ainSeqs := rfl
@[simp] theorem Core.updFw_ainTimed (f : Fw → Fw) : (c.updFw f).ainTimed = c.ainTimed := rfl
@[simp] theorem Core.updFw_loopFree (f : Fw → Fw) : (c.updFw f).loopFree = c.loopFree := rfl
@[simp] theorem Core.updFw_loopAt (f : Fw → Fw) : (c.updFw f).loopAt = c.loopAt := rfl
@[simp] theorem Core.updFw_gpioSeen (f : Fw → Fw) : (c.updFw f).gpioSeen = c.gpioSeen := rfl
@[simp] theorem Core.updFw_gpioIn (f : Fw → Fw) : (c.updFw f).gpioIn = c.gpioIn := rfl
@[simp] theorem Core.updFw_pwms (f : Fw → Fw) : (c.updFw f).pwms = c.pwms := rfl
@[simp] theorem Core.updFw_ptp (f : Fw → Fw) : (c.updFw f).ptp = c.ptp := rfl
@[simp] theorem Core.updFw_align (f : Fw → Fw) : (c.updFw f).align = c.align := rfl
@[simp] theorem Core.updFw_qd (f : Fw → Fw) : (c.updFw f).qd = c.qd := rfl
@[simp] theorem Core.updFw_faults (f : Fw → Fw) : (c.updFw f).faults = c.faults := rfl
@[simp] theorem Core.updFw_scopes (f : Fw → Fw) : (c.updFw f).scopes = c.scopes := rfl
@[simp] theorem Core.updFw_recoveries (f : Fw → Fw) : (c.updFw f).recoveries = c.recoveries := rfl
@[simp] theorem Core.updFw_recoverAt (f : Fw → Fw) : (c.updFw f).recoverAt = c.recoverAt := rfl
@[simp] theorem Core.updFw_rail (f : Fw → Fw) : (c.updFw f).rail = c.rail := rfl
@[simp] theorem Core.updFw_boot (f : Fw → Fw) : (c.updFw f).boot = c.boot := rfl
@[simp] theorem Core.updFw_nor (f : Fw → Fw) : (c.updFw f).nor = c.nor := rfl
@[simp] theorem Core.updFw_get (f : Fw → Fw) (p : Obj) : (c.updFw f).get p = c.get p := rfl

@[simp] theorem Core.updRing_objs (k : Nat) (f : Ring → Ring) : (c.updRing k f).objs = c.objs := rfl
@[simp] theorem Core.updRing_time (k : Nat) (f : Ring → Ring) : (c.updRing k f).time = c.time := rfl
@[simp] theorem Core.updRing_sample (k : Nat) (f : Ring → Ring) : (c.updRing k f).sample = c.sample := rfl
@[simp] theorem Core.updRing_beam (k : Nat) (f : Ring → Ring) : (c.updRing k f).beam = c.beam := rfl
@[simp] theorem Core.updRing_reply (k : Nat) (f : Ring → Ring) : (c.updRing k f).reply = c.reply := rfl
@[simp] theorem Core.updRing_raises (k : Nat) (f : Ring → Ring) : (c.updRing k f).raises = c.raises := rfl
@[simp] theorem Core.updRing_out (k : Nat) (f : Ring → Ring) : (c.updRing k f).out = c.out := rfl
@[simp] theorem Core.updRing_fresh (k : Nat) (f : Ring → Ring) : (c.updRing k f).fresh = c.fresh := rfl
@[simp] theorem Core.updRing_encs (k : Nat) (f : Ring → Ring) : (c.updRing k f).encs = c.encs := rfl
@[simp] theorem Core.updRing_sposs (k : Nat) (f : Ring → Ring) : (c.updRing k f).sposs = c.sposs := rfl
@[simp] theorem Core.updRing_passes (k : Nat) (f : Ring → Ring) : (c.updRing k f).passes = c.passes := rfl
@[simp] theorem Core.updRing_cmps (k : Nat) (f : Ring → Ring) : (c.updRing k f).cmps = c.cmps := rfl
@[simp] theorem Core.updRing_lines (k : Nat) (f : Ring → Ring) : (c.updRing k f).lines = c.lines := rfl
@[simp] theorem Core.updRing_lcs (k : Nat) (f : Ring → Ring) : (c.updRing k f).lcs = c.lcs := rfl
@[simp] theorem Core.updRing_lists (k : Nat) (f : Ring → Ring) : (c.updRing k f).lists = c.lists := rfl
@[simp] theorem Core.updRing_imgs (k : Nat) (f : Ring → Ring) : (c.updRing k f).imgs = c.imgs := rfl
@[simp] theorem Core.updRing_runs (k : Nat) (f : Ring → Ring) : (c.updRing k f).runs = c.runs := rfl
@[simp] theorem Core.updRing_fires (k : Nat) (f : Ring → Ring) : (c.updRing k f).fires = c.fires := rfl
@[simp] theorem Core.updRing_lanes (k : Nat) (f : Ring → Ring) : (c.updRing k f).lanes = c.lanes := rfl
@[simp] theorem Core.updRing_returns (k : Nat) (f : Ring → Ring) : (c.updRing k f).returns = c.returns := rfl
@[simp] theorem Core.updRing_syncAt (k : Nat) (f : Ring → Ring) : (c.updRing k f).syncAt = c.syncAt := rfl
@[simp] theorem Core.updRing_syncs (k : Nat) (f : Ring → Ring) : (c.updRing k f).syncs = c.syncs := rfl
@[simp] theorem Core.updRing_scans (k : Nat) (f : Ring → Ring) : (c.updRing k f).scans = c.scans := rfl
@[simp] theorem Core.updRing_pages (k : Nat) (f : Ring → Ring) : (c.updRing k f).pages = c.pages := rfl
@[simp] theorem Core.updRing_sheets (k : Nat) (f : Ring → Ring) : (c.updRing k f).sheets = c.sheets := rfl
@[simp] theorem Core.updRing_drivePhase (k : Nat) (f : Ring → Ring) : (c.updRing k f).drivePhase = c.drivePhase := rfl
@[simp] theorem Core.updRing_driveCount (k : Nat) (f : Ring → Ring) : (c.updRing k f).driveCount = c.driveCount := rfl
@[simp] theorem Core.updRing_jobs (k : Nat) (f : Ring → Ring) : (c.updRing k f).jobs = c.jobs := rfl
@[simp] theorem Core.updRing_rcst (k : Nat) (f : Ring → Ring) : (c.updRing k f).rcst = c.rcst := rfl
@[simp] theorem Core.updRing_sprues (k : Nat) (f : Ring → Ring) : (c.updRing k f).sprues = c.sprues := rfl
@[simp] theorem Core.updRing_codecs (k : Nat) (f : Ring → Ring) : (c.updRing k f).codecs = c.codecs := rfl
@[simp] theorem Core.updRing_codecQueue (k : Nat) (f : Ring → Ring) : (c.updRing k f).codecQueue = c.codecQueue := rfl
@[simp] theorem Core.updRing_codecAborts (k : Nat) (f : Ring → Ring) : (c.updRing k f).codecAborts = c.codecAborts := rfl
@[simp] theorem Core.updRing_hub (k : Nat) (f : Ring → Ring) : (c.updRing k f).hub = c.hub := rfl
@[simp] theorem Core.updRing_vectors (k : Nat) (f : Ring → Ring) : (c.updRing k f).vectors = c.vectors := rfl
@[simp] theorem Core.updRing_dmas (k : Nat) (f : Ring → Ring) : (c.updRing k f).dmas = c.dmas := rfl
@[simp] theorem Core.updRing_pcie (k : Nat) (f : Ring → Ring) : (c.updRing k f).pcie = c.pcie := rfl
@[simp] theorem Core.updRing_pcieCfg (k : Nat) (f : Ring → Ring) : (c.updRing k f).pcieCfg = c.pcieCfg := rfl
@[simp] theorem Core.updRing_dmaLast (k : Nat) (f : Ring → Ring) : (c.updRing k f).dmaLast = c.dmaLast := rfl
@[simp] theorem Core.updRing_clients (k : Nat) (f : Ring → Ring) : (c.updRing k f).clients = c.clients := rfl
@[simp] theorem Core.updRing_staged (k : Nat) (f : Ring → Ring) : (c.updRing k f).staged = c.staged := rfl
@[simp] theorem Core.updRing_commits (k : Nat) (f : Ring → Ring) : (c.updRing k f).commits = c.commits := rfl
@[simp] theorem Core.updRing_locks (k : Nat) (f : Ring → Ring) : (c.updRing k f).locks = c.locks := rfl
@[simp] theorem Core.updRing_audit (k : Nat) (f : Ring → Ring) : (c.updRing k f).audit = c.audit := rfl
@[simp] theorem Core.updRing_auditNext (k : Nat) (f : Ring → Ring) : (c.updRing k f).auditNext = c.auditNext := rfl
@[simp] theorem Core.updRing_reasms (k : Nat) (f : Ring → Ring) : (c.updRing k f).reasms = c.reasms := rfl
@[simp] theorem Core.updRing_cans (k : Nat) (f : Ring → Ring) : (c.updRing k f).cans = c.cans := rfl
@[simp] theorem Core.updRing_slots (k : Nat) (f : Ring → Ring) : (c.updRing k f).slots = c.slots := rfl
@[simp] theorem Core.updRing_loopMark (k : Nat) (f : Ring → Ring) : (c.updRing k f).loopMark = c.loopMark := rfl
@[simp] theorem Core.updRing_loopMarks (k : Nat) (f : Ring → Ring) : (c.updRing k f).loopMarks = c.loopMarks := rfl
@[simp] theorem Core.updRing_ainSeqs (k : Nat) (f : Ring → Ring) : (c.updRing k f).ainSeqs = c.ainSeqs := rfl
@[simp] theorem Core.updRing_ainTimed (k : Nat) (f : Ring → Ring) : (c.updRing k f).ainTimed = c.ainTimed := rfl
@[simp] theorem Core.updRing_loopFree (k : Nat) (f : Ring → Ring) : (c.updRing k f).loopFree = c.loopFree := rfl
@[simp] theorem Core.updRing_loopAt (k : Nat) (f : Ring → Ring) : (c.updRing k f).loopAt = c.loopAt := rfl
@[simp] theorem Core.updRing_gpioSeen (k : Nat) (f : Ring → Ring) : (c.updRing k f).gpioSeen = c.gpioSeen := rfl
@[simp] theorem Core.updRing_gpioIn (k : Nat) (f : Ring → Ring) : (c.updRing k f).gpioIn = c.gpioIn := rfl
@[simp] theorem Core.updRing_pwms (k : Nat) (f : Ring → Ring) : (c.updRing k f).pwms = c.pwms := rfl
@[simp] theorem Core.updRing_ptp (k : Nat) (f : Ring → Ring) : (c.updRing k f).ptp = c.ptp := rfl
@[simp] theorem Core.updRing_align (k : Nat) (f : Ring → Ring) : (c.updRing k f).align = c.align := rfl
@[simp] theorem Core.updRing_qd (k : Nat) (f : Ring → Ring) : (c.updRing k f).qd = c.qd := rfl
@[simp] theorem Core.updRing_faults (k : Nat) (f : Ring → Ring) : (c.updRing k f).faults = c.faults := rfl
@[simp] theorem Core.updRing_scopes (k : Nat) (f : Ring → Ring) : (c.updRing k f).scopes = c.scopes := rfl
@[simp] theorem Core.updRing_recoveries (k : Nat) (f : Ring → Ring) : (c.updRing k f).recoveries = c.recoveries := rfl
@[simp] theorem Core.updRing_recoverAt (k : Nat) (f : Ring → Ring) : (c.updRing k f).recoverAt = c.recoverAt := rfl
@[simp] theorem Core.updRing_rail (k : Nat) (f : Ring → Ring) : (c.updRing k f).rail = c.rail := rfl
@[simp] theorem Core.updRing_boot (k : Nat) (f : Ring → Ring) : (c.updRing k f).boot = c.boot := rfl
@[simp] theorem Core.updRing_nor (k : Nat) (f : Ring → Ring) : (c.updRing k f).nor = c.nor := rfl
@[simp] theorem Core.updRing_fw (k : Nat) (f : Ring → Ring) : (c.updRing k f).fw = c.fw := rfl
@[simp] theorem Core.updRing_get (k : Nat) (f : Ring → Ring) (p : Obj) : (c.updRing k f).get p = c.get p := rfl

@[simp] theorem Core.updHub_objs (f : Hub → Hub) : (c.updHub f).objs = c.objs := rfl
@[simp] theorem Core.updHub_time (f : Hub → Hub) : (c.updHub f).time = c.time := rfl
@[simp] theorem Core.updHub_sample (f : Hub → Hub) : (c.updHub f).sample = c.sample := rfl
@[simp] theorem Core.updHub_beam (f : Hub → Hub) : (c.updHub f).beam = c.beam := rfl
@[simp] theorem Core.updHub_reply (f : Hub → Hub) : (c.updHub f).reply = c.reply := rfl
@[simp] theorem Core.updHub_raises (f : Hub → Hub) : (c.updHub f).raises = c.raises := rfl
@[simp] theorem Core.updHub_out (f : Hub → Hub) : (c.updHub f).out = c.out := rfl
@[simp] theorem Core.updHub_fresh (f : Hub → Hub) : (c.updHub f).fresh = c.fresh := rfl
@[simp] theorem Core.updHub_encs (f : Hub → Hub) : (c.updHub f).encs = c.encs := rfl
@[simp] theorem Core.updHub_sposs (f : Hub → Hub) : (c.updHub f).sposs = c.sposs := rfl
@[simp] theorem Core.updHub_passes (f : Hub → Hub) : (c.updHub f).passes = c.passes := rfl
@[simp] theorem Core.updHub_cmps (f : Hub → Hub) : (c.updHub f).cmps = c.cmps := rfl
@[simp] theorem Core.updHub_lines (f : Hub → Hub) : (c.updHub f).lines = c.lines := rfl
@[simp] theorem Core.updHub_lcs (f : Hub → Hub) : (c.updHub f).lcs = c.lcs := rfl
@[simp] theorem Core.updHub_lists (f : Hub → Hub) : (c.updHub f).lists = c.lists := rfl
@[simp] theorem Core.updHub_imgs (f : Hub → Hub) : (c.updHub f).imgs = c.imgs := rfl
@[simp] theorem Core.updHub_runs (f : Hub → Hub) : (c.updHub f).runs = c.runs := rfl
@[simp] theorem Core.updHub_fires (f : Hub → Hub) : (c.updHub f).fires = c.fires := rfl
@[simp] theorem Core.updHub_lanes (f : Hub → Hub) : (c.updHub f).lanes = c.lanes := rfl
@[simp] theorem Core.updHub_returns (f : Hub → Hub) : (c.updHub f).returns = c.returns := rfl
@[simp] theorem Core.updHub_syncAt (f : Hub → Hub) : (c.updHub f).syncAt = c.syncAt := rfl
@[simp] theorem Core.updHub_syncs (f : Hub → Hub) : (c.updHub f).syncs = c.syncs := rfl
@[simp] theorem Core.updHub_scans (f : Hub → Hub) : (c.updHub f).scans = c.scans := rfl
@[simp] theorem Core.updHub_pages (f : Hub → Hub) : (c.updHub f).pages = c.pages := rfl
@[simp] theorem Core.updHub_sheets (f : Hub → Hub) : (c.updHub f).sheets = c.sheets := rfl
@[simp] theorem Core.updHub_drivePhase (f : Hub → Hub) : (c.updHub f).drivePhase = c.drivePhase := rfl
@[simp] theorem Core.updHub_driveCount (f : Hub → Hub) : (c.updHub f).driveCount = c.driveCount := rfl
@[simp] theorem Core.updHub_jobs (f : Hub → Hub) : (c.updHub f).jobs = c.jobs := rfl
@[simp] theorem Core.updHub_rcst (f : Hub → Hub) : (c.updHub f).rcst = c.rcst := rfl
@[simp] theorem Core.updHub_sprues (f : Hub → Hub) : (c.updHub f).sprues = c.sprues := rfl
@[simp] theorem Core.updHub_codecs (f : Hub → Hub) : (c.updHub f).codecs = c.codecs := rfl
@[simp] theorem Core.updHub_codecQueue (f : Hub → Hub) : (c.updHub f).codecQueue = c.codecQueue := rfl
@[simp] theorem Core.updHub_codecAborts (f : Hub → Hub) : (c.updHub f).codecAborts = c.codecAborts := rfl
@[simp] theorem Core.updHub_rings (f : Hub → Hub) : (c.updHub f).rings = c.rings := rfl
@[simp] theorem Core.updHub_vectors (f : Hub → Hub) : (c.updHub f).vectors = c.vectors := rfl
@[simp] theorem Core.updHub_dmas (f : Hub → Hub) : (c.updHub f).dmas = c.dmas := rfl
@[simp] theorem Core.updHub_pcie (f : Hub → Hub) : (c.updHub f).pcie = c.pcie := rfl
@[simp] theorem Core.updHub_pcieCfg (f : Hub → Hub) : (c.updHub f).pcieCfg = c.pcieCfg := rfl
@[simp] theorem Core.updHub_dmaLast (f : Hub → Hub) : (c.updHub f).dmaLast = c.dmaLast := rfl
@[simp] theorem Core.updHub_clients (f : Hub → Hub) : (c.updHub f).clients = c.clients := rfl
@[simp] theorem Core.updHub_staged (f : Hub → Hub) : (c.updHub f).staged = c.staged := rfl
@[simp] theorem Core.updHub_commits (f : Hub → Hub) : (c.updHub f).commits = c.commits := rfl
@[simp] theorem Core.updHub_locks (f : Hub → Hub) : (c.updHub f).locks = c.locks := rfl
@[simp] theorem Core.updHub_audit (f : Hub → Hub) : (c.updHub f).audit = c.audit := rfl
@[simp] theorem Core.updHub_auditNext (f : Hub → Hub) : (c.updHub f).auditNext = c.auditNext := rfl
@[simp] theorem Core.updHub_reasms (f : Hub → Hub) : (c.updHub f).reasms = c.reasms := rfl
@[simp] theorem Core.updHub_cans (f : Hub → Hub) : (c.updHub f).cans = c.cans := rfl
@[simp] theorem Core.updHub_slots (f : Hub → Hub) : (c.updHub f).slots = c.slots := rfl
@[simp] theorem Core.updHub_loopMark (f : Hub → Hub) : (c.updHub f).loopMark = c.loopMark := rfl
@[simp] theorem Core.updHub_loopMarks (f : Hub → Hub) : (c.updHub f).loopMarks = c.loopMarks := rfl
@[simp] theorem Core.updHub_ainSeqs (f : Hub → Hub) : (c.updHub f).ainSeqs = c.ainSeqs := rfl
@[simp] theorem Core.updHub_ainTimed (f : Hub → Hub) : (c.updHub f).ainTimed = c.ainTimed := rfl
@[simp] theorem Core.updHub_loopFree (f : Hub → Hub) : (c.updHub f).loopFree = c.loopFree := rfl
@[simp] theorem Core.updHub_loopAt (f : Hub → Hub) : (c.updHub f).loopAt = c.loopAt := rfl
@[simp] theorem Core.updHub_gpioSeen (f : Hub → Hub) : (c.updHub f).gpioSeen = c.gpioSeen := rfl
@[simp] theorem Core.updHub_gpioIn (f : Hub → Hub) : (c.updHub f).gpioIn = c.gpioIn := rfl
@[simp] theorem Core.updHub_pwms (f : Hub → Hub) : (c.updHub f).pwms = c.pwms := rfl
@[simp] theorem Core.updHub_ptp (f : Hub → Hub) : (c.updHub f).ptp = c.ptp := rfl
@[simp] theorem Core.updHub_align (f : Hub → Hub) : (c.updHub f).align = c.align := rfl
@[simp] theorem Core.updHub_qd (f : Hub → Hub) : (c.updHub f).qd = c.qd := rfl
@[simp] theorem Core.updHub_faults (f : Hub → Hub) : (c.updHub f).faults = c.faults := rfl
@[simp] theorem Core.updHub_scopes (f : Hub → Hub) : (c.updHub f).scopes = c.scopes := rfl
@[simp] theorem Core.updHub_recoveries (f : Hub → Hub) : (c.updHub f).recoveries = c.recoveries := rfl
@[simp] theorem Core.updHub_recoverAt (f : Hub → Hub) : (c.updHub f).recoverAt = c.recoverAt := rfl
@[simp] theorem Core.updHub_rail (f : Hub → Hub) : (c.updHub f).rail = c.rail := rfl
@[simp] theorem Core.updHub_boot (f : Hub → Hub) : (c.updHub f).boot = c.boot := rfl
@[simp] theorem Core.updHub_nor (f : Hub → Hub) : (c.updHub f).nor = c.nor := rfl
@[simp] theorem Core.updHub_fw (f : Hub → Hub) : (c.updHub f).fw = c.fw := rfl
@[simp] theorem Core.updHub_get (f : Hub → Hub) (p : Obj) : (c.updHub f).get p = c.get p := rfl

@[simp] theorem Core.updImg_objs (n : Nat) (f : ChImg → ChImg) : (c.updImg n f).objs = c.objs := rfl
@[simp] theorem Core.updImg_time (n : Nat) (f : ChImg → ChImg) : (c.updImg n f).time = c.time := rfl
@[simp] theorem Core.updImg_sample (n : Nat) (f : ChImg → ChImg) : (c.updImg n f).sample = c.sample := rfl
@[simp] theorem Core.updImg_beam (n : Nat) (f : ChImg → ChImg) : (c.updImg n f).beam = c.beam := rfl
@[simp] theorem Core.updImg_reply (n : Nat) (f : ChImg → ChImg) : (c.updImg n f).reply = c.reply := rfl
@[simp] theorem Core.updImg_raises (n : Nat) (f : ChImg → ChImg) : (c.updImg n f).raises = c.raises := rfl
@[simp] theorem Core.updImg_out (n : Nat) (f : ChImg → ChImg) : (c.updImg n f).out = c.out := rfl
@[simp] theorem Core.updImg_fresh (n : Nat) (f : ChImg → ChImg) : (c.updImg n f).fresh = c.fresh := rfl
@[simp] theorem Core.updImg_encs (n : Nat) (f : ChImg → ChImg) : (c.updImg n f).encs = c.encs := rfl
@[simp] theorem Core.updImg_sposs (n : Nat) (f : ChImg → ChImg) : (c.updImg n f).sposs = c.sposs := rfl
@[simp] theorem Core.updImg_passes (n : Nat) (f : ChImg → ChImg) : (c.updImg n f).passes = c.passes := rfl
@[simp] theorem Core.updImg_cmps (n : Nat) (f : ChImg → ChImg) : (c.updImg n f).cmps = c.cmps := rfl
@[simp] theorem Core.updImg_lines (n : Nat) (f : ChImg → ChImg) : (c.updImg n f).lines = c.lines := rfl
@[simp] theorem Core.updImg_lcs (n : Nat) (f : ChImg → ChImg) : (c.updImg n f).lcs = c.lcs := rfl
@[simp] theorem Core.updImg_lists (n : Nat) (f : ChImg → ChImg) : (c.updImg n f).lists = c.lists := rfl
@[simp] theorem Core.updImg_runs (n : Nat) (f : ChImg → ChImg) : (c.updImg n f).runs = c.runs := rfl
@[simp] theorem Core.updImg_fires (n : Nat) (f : ChImg → ChImg) : (c.updImg n f).fires = c.fires := rfl
@[simp] theorem Core.updImg_lanes (n : Nat) (f : ChImg → ChImg) : (c.updImg n f).lanes = c.lanes := rfl
@[simp] theorem Core.updImg_returns (n : Nat) (f : ChImg → ChImg) : (c.updImg n f).returns = c.returns := rfl
@[simp] theorem Core.updImg_syncAt (n : Nat) (f : ChImg → ChImg) : (c.updImg n f).syncAt = c.syncAt := rfl
@[simp] theorem Core.updImg_syncs (n : Nat) (f : ChImg → ChImg) : (c.updImg n f).syncs = c.syncs := rfl
@[simp] theorem Core.updImg_scans (n : Nat) (f : ChImg → ChImg) : (c.updImg n f).scans = c.scans := rfl
@[simp] theorem Core.updImg_pages (n : Nat) (f : ChImg → ChImg) : (c.updImg n f).pages = c.pages := rfl
@[simp] theorem Core.updImg_sheets (n : Nat) (f : ChImg → ChImg) : (c.updImg n f).sheets = c.sheets := rfl
@[simp] theorem Core.updImg_drivePhase (n : Nat) (f : ChImg → ChImg) : (c.updImg n f).drivePhase = c.drivePhase := rfl
@[simp] theorem Core.updImg_driveCount (n : Nat) (f : ChImg → ChImg) : (c.updImg n f).driveCount = c.driveCount := rfl
@[simp] theorem Core.updImg_jobs (n : Nat) (f : ChImg → ChImg) : (c.updImg n f).jobs = c.jobs := rfl
@[simp] theorem Core.updImg_rcst (n : Nat) (f : ChImg → ChImg) : (c.updImg n f).rcst = c.rcst := rfl
@[simp] theorem Core.updImg_sprues (n : Nat) (f : ChImg → ChImg) : (c.updImg n f).sprues = c.sprues := rfl
@[simp] theorem Core.updImg_codecs (n : Nat) (f : ChImg → ChImg) : (c.updImg n f).codecs = c.codecs := rfl
@[simp] theorem Core.updImg_codecQueue (n : Nat) (f : ChImg → ChImg) : (c.updImg n f).codecQueue = c.codecQueue := rfl
@[simp] theorem Core.updImg_codecAborts (n : Nat) (f : ChImg → ChImg) : (c.updImg n f).codecAborts = c.codecAborts := rfl
@[simp] theorem Core.updImg_hub (n : Nat) (f : ChImg → ChImg) : (c.updImg n f).hub = c.hub := rfl
@[simp] theorem Core.updImg_rings (n : Nat) (f : ChImg → ChImg) : (c.updImg n f).rings = c.rings := rfl
@[simp] theorem Core.updImg_vectors (n : Nat) (f : ChImg → ChImg) : (c.updImg n f).vectors = c.vectors := rfl
@[simp] theorem Core.updImg_dmas (n : Nat) (f : ChImg → ChImg) : (c.updImg n f).dmas = c.dmas := rfl
@[simp] theorem Core.updImg_pcie (n : Nat) (f : ChImg → ChImg) : (c.updImg n f).pcie = c.pcie := rfl
@[simp] theorem Core.updImg_pcieCfg (n : Nat) (f : ChImg → ChImg) : (c.updImg n f).pcieCfg = c.pcieCfg := rfl
@[simp] theorem Core.updImg_dmaLast (n : Nat) (f : ChImg → ChImg) : (c.updImg n f).dmaLast = c.dmaLast := rfl
@[simp] theorem Core.updImg_clients (n : Nat) (f : ChImg → ChImg) : (c.updImg n f).clients = c.clients := rfl
@[simp] theorem Core.updImg_staged (n : Nat) (f : ChImg → ChImg) : (c.updImg n f).staged = c.staged := rfl
@[simp] theorem Core.updImg_commits (n : Nat) (f : ChImg → ChImg) : (c.updImg n f).commits = c.commits := rfl
@[simp] theorem Core.updImg_locks (n : Nat) (f : ChImg → ChImg) : (c.updImg n f).locks = c.locks := rfl
@[simp] theorem Core.updImg_audit (n : Nat) (f : ChImg → ChImg) : (c.updImg n f).audit = c.audit := rfl
@[simp] theorem Core.updImg_auditNext (n : Nat) (f : ChImg → ChImg) : (c.updImg n f).auditNext = c.auditNext := rfl
@[simp] theorem Core.updImg_reasms (n : Nat) (f : ChImg → ChImg) : (c.updImg n f).reasms = c.reasms := rfl
@[simp] theorem Core.updImg_cans (n : Nat) (f : ChImg → ChImg) : (c.updImg n f).cans = c.cans := rfl
@[simp] theorem Core.updImg_slots (n : Nat) (f : ChImg → ChImg) : (c.updImg n f).slots = c.slots := rfl
@[simp] theorem Core.updImg_loopMark (n : Nat) (f : ChImg → ChImg) : (c.updImg n f).loopMark = c.loopMark := rfl
@[simp] theorem Core.updImg_loopMarks (n : Nat) (f : ChImg → ChImg) : (c.updImg n f).loopMarks = c.loopMarks := rfl
@[simp] theorem Core.updImg_ainSeqs (n : Nat) (f : ChImg → ChImg) : (c.updImg n f).ainSeqs = c.ainSeqs := rfl
@[simp] theorem Core.updImg_ainTimed (n : Nat) (f : ChImg → ChImg) : (c.updImg n f).ainTimed = c.ainTimed := rfl
@[simp] theorem Core.updImg_loopFree (n : Nat) (f : ChImg → ChImg) : (c.updImg n f).loopFree = c.loopFree := rfl
@[simp] theorem Core.updImg_loopAt (n : Nat) (f : ChImg → ChImg) : (c.updImg n f).loopAt = c.loopAt := rfl
@[simp] theorem Core.updImg_gpioSeen (n : Nat) (f : ChImg → ChImg) : (c.updImg n f).gpioSeen = c.gpioSeen := rfl
@[simp] theorem Core.updImg_gpioIn (n : Nat) (f : ChImg → ChImg) : (c.updImg n f).gpioIn = c.gpioIn := rfl
@[simp] theorem Core.updImg_pwms (n : Nat) (f : ChImg → ChImg) : (c.updImg n f).pwms = c.pwms := rfl
@[simp] theorem Core.updImg_ptp (n : Nat) (f : ChImg → ChImg) : (c.updImg n f).ptp = c.ptp := rfl
@[simp] theorem Core.updImg_align (n : Nat) (f : ChImg → ChImg) : (c.updImg n f).align = c.align := rfl
@[simp] theorem Core.updImg_qd (n : Nat) (f : ChImg → ChImg) : (c.updImg n f).qd = c.qd := rfl
@[simp] theorem Core.updImg_faults (n : Nat) (f : ChImg → ChImg) : (c.updImg n f).faults = c.faults := rfl
@[simp] theorem Core.updImg_scopes (n : Nat) (f : ChImg → ChImg) : (c.updImg n f).scopes = c.scopes := rfl
@[simp] theorem Core.updImg_recoveries (n : Nat) (f : ChImg → ChImg) : (c.updImg n f).recoveries = c.recoveries := rfl
@[simp] theorem Core.updImg_recoverAt (n : Nat) (f : ChImg → ChImg) : (c.updImg n f).recoverAt = c.recoverAt := rfl
@[simp] theorem Core.updImg_rail (n : Nat) (f : ChImg → ChImg) : (c.updImg n f).rail = c.rail := rfl
@[simp] theorem Core.updImg_boot (n : Nat) (f : ChImg → ChImg) : (c.updImg n f).boot = c.boot := rfl
@[simp] theorem Core.updImg_nor (n : Nat) (f : ChImg → ChImg) : (c.updImg n f).nor = c.nor := rfl
@[simp] theorem Core.updImg_fw (n : Nat) (f : ChImg → ChImg) : (c.updImg n f).fw = c.fw := rfl
@[simp] theorem Core.updImg_get (n : Nat) (f : ChImg → ChImg) (p : Obj) : (c.updImg n f).get p = c.get p := rfl

@[simp] theorem Core.updJob_objs (n : Nat) (f : ChJob → ChJob) : (c.updJob n f).objs = c.objs := rfl
@[simp] theorem Core.updJob_time (n : Nat) (f : ChJob → ChJob) : (c.updJob n f).time = c.time := rfl
@[simp] theorem Core.updJob_sample (n : Nat) (f : ChJob → ChJob) : (c.updJob n f).sample = c.sample := rfl
@[simp] theorem Core.updJob_beam (n : Nat) (f : ChJob → ChJob) : (c.updJob n f).beam = c.beam := rfl
@[simp] theorem Core.updJob_reply (n : Nat) (f : ChJob → ChJob) : (c.updJob n f).reply = c.reply := rfl
@[simp] theorem Core.updJob_raises (n : Nat) (f : ChJob → ChJob) : (c.updJob n f).raises = c.raises := rfl
@[simp] theorem Core.updJob_out (n : Nat) (f : ChJob → ChJob) : (c.updJob n f).out = c.out := rfl
@[simp] theorem Core.updJob_fresh (n : Nat) (f : ChJob → ChJob) : (c.updJob n f).fresh = c.fresh := rfl
@[simp] theorem Core.updJob_encs (n : Nat) (f : ChJob → ChJob) : (c.updJob n f).encs = c.encs := rfl
@[simp] theorem Core.updJob_sposs (n : Nat) (f : ChJob → ChJob) : (c.updJob n f).sposs = c.sposs := rfl
@[simp] theorem Core.updJob_passes (n : Nat) (f : ChJob → ChJob) : (c.updJob n f).passes = c.passes := rfl
@[simp] theorem Core.updJob_cmps (n : Nat) (f : ChJob → ChJob) : (c.updJob n f).cmps = c.cmps := rfl
@[simp] theorem Core.updJob_lines (n : Nat) (f : ChJob → ChJob) : (c.updJob n f).lines = c.lines := rfl
@[simp] theorem Core.updJob_lcs (n : Nat) (f : ChJob → ChJob) : (c.updJob n f).lcs = c.lcs := rfl
@[simp] theorem Core.updJob_lists (n : Nat) (f : ChJob → ChJob) : (c.updJob n f).lists = c.lists := rfl
@[simp] theorem Core.updJob_imgs (n : Nat) (f : ChJob → ChJob) : (c.updJob n f).imgs = c.imgs := rfl
@[simp] theorem Core.updJob_runs (n : Nat) (f : ChJob → ChJob) : (c.updJob n f).runs = c.runs := rfl
@[simp] theorem Core.updJob_fires (n : Nat) (f : ChJob → ChJob) : (c.updJob n f).fires = c.fires := rfl
@[simp] theorem Core.updJob_lanes (n : Nat) (f : ChJob → ChJob) : (c.updJob n f).lanes = c.lanes := rfl
@[simp] theorem Core.updJob_returns (n : Nat) (f : ChJob → ChJob) : (c.updJob n f).returns = c.returns := rfl
@[simp] theorem Core.updJob_syncAt (n : Nat) (f : ChJob → ChJob) : (c.updJob n f).syncAt = c.syncAt := rfl
@[simp] theorem Core.updJob_syncs (n : Nat) (f : ChJob → ChJob) : (c.updJob n f).syncs = c.syncs := rfl
@[simp] theorem Core.updJob_scans (n : Nat) (f : ChJob → ChJob) : (c.updJob n f).scans = c.scans := rfl
@[simp] theorem Core.updJob_pages (n : Nat) (f : ChJob → ChJob) : (c.updJob n f).pages = c.pages := rfl
@[simp] theorem Core.updJob_sheets (n : Nat) (f : ChJob → ChJob) : (c.updJob n f).sheets = c.sheets := rfl
@[simp] theorem Core.updJob_drivePhase (n : Nat) (f : ChJob → ChJob) : (c.updJob n f).drivePhase = c.drivePhase := rfl
@[simp] theorem Core.updJob_driveCount (n : Nat) (f : ChJob → ChJob) : (c.updJob n f).driveCount = c.driveCount := rfl
@[simp] theorem Core.updJob_rcst (n : Nat) (f : ChJob → ChJob) : (c.updJob n f).rcst = c.rcst := rfl
@[simp] theorem Core.updJob_sprues (n : Nat) (f : ChJob → ChJob) : (c.updJob n f).sprues = c.sprues := rfl
@[simp] theorem Core.updJob_codecs (n : Nat) (f : ChJob → ChJob) : (c.updJob n f).codecs = c.codecs := rfl
@[simp] theorem Core.updJob_codecQueue (n : Nat) (f : ChJob → ChJob) : (c.updJob n f).codecQueue = c.codecQueue := rfl
@[simp] theorem Core.updJob_codecAborts (n : Nat) (f : ChJob → ChJob) : (c.updJob n f).codecAborts = c.codecAborts := rfl
@[simp] theorem Core.updJob_hub (n : Nat) (f : ChJob → ChJob) : (c.updJob n f).hub = c.hub := rfl
@[simp] theorem Core.updJob_rings (n : Nat) (f : ChJob → ChJob) : (c.updJob n f).rings = c.rings := rfl
@[simp] theorem Core.updJob_vectors (n : Nat) (f : ChJob → ChJob) : (c.updJob n f).vectors = c.vectors := rfl
@[simp] theorem Core.updJob_dmas (n : Nat) (f : ChJob → ChJob) : (c.updJob n f).dmas = c.dmas := rfl
@[simp] theorem Core.updJob_pcie (n : Nat) (f : ChJob → ChJob) : (c.updJob n f).pcie = c.pcie := rfl
@[simp] theorem Core.updJob_pcieCfg (n : Nat) (f : ChJob → ChJob) : (c.updJob n f).pcieCfg = c.pcieCfg := rfl
@[simp] theorem Core.updJob_dmaLast (n : Nat) (f : ChJob → ChJob) : (c.updJob n f).dmaLast = c.dmaLast := rfl
@[simp] theorem Core.updJob_clients (n : Nat) (f : ChJob → ChJob) : (c.updJob n f).clients = c.clients := rfl
@[simp] theorem Core.updJob_staged (n : Nat) (f : ChJob → ChJob) : (c.updJob n f).staged = c.staged := rfl
@[simp] theorem Core.updJob_commits (n : Nat) (f : ChJob → ChJob) : (c.updJob n f).commits = c.commits := rfl
@[simp] theorem Core.updJob_locks (n : Nat) (f : ChJob → ChJob) : (c.updJob n f).locks = c.locks := rfl
@[simp] theorem Core.updJob_audit (n : Nat) (f : ChJob → ChJob) : (c.updJob n f).audit = c.audit := rfl
@[simp] theorem Core.updJob_auditNext (n : Nat) (f : ChJob → ChJob) : (c.updJob n f).auditNext = c.auditNext := rfl
@[simp] theorem Core.updJob_reasms (n : Nat) (f : ChJob → ChJob) : (c.updJob n f).reasms = c.reasms := rfl
@[simp] theorem Core.updJob_cans (n : Nat) (f : ChJob → ChJob) : (c.updJob n f).cans = c.cans := rfl
@[simp] theorem Core.updJob_slots (n : Nat) (f : ChJob → ChJob) : (c.updJob n f).slots = c.slots := rfl
@[simp] theorem Core.updJob_loopMark (n : Nat) (f : ChJob → ChJob) : (c.updJob n f).loopMark = c.loopMark := rfl
@[simp] theorem Core.updJob_loopMarks (n : Nat) (f : ChJob → ChJob) : (c.updJob n f).loopMarks = c.loopMarks := rfl
@[simp] theorem Core.updJob_ainSeqs (n : Nat) (f : ChJob → ChJob) : (c.updJob n f).ainSeqs = c.ainSeqs := rfl
@[simp] theorem Core.updJob_ainTimed (n : Nat) (f : ChJob → ChJob) : (c.updJob n f).ainTimed = c.ainTimed := rfl
@[simp] theorem Core.updJob_loopFree (n : Nat) (f : ChJob → ChJob) : (c.updJob n f).loopFree = c.loopFree := rfl
@[simp] theorem Core.updJob_loopAt (n : Nat) (f : ChJob → ChJob) : (c.updJob n f).loopAt = c.loopAt := rfl
@[simp] theorem Core.updJob_gpioSeen (n : Nat) (f : ChJob → ChJob) : (c.updJob n f).gpioSeen = c.gpioSeen := rfl
@[simp] theorem Core.updJob_gpioIn (n : Nat) (f : ChJob → ChJob) : (c.updJob n f).gpioIn = c.gpioIn := rfl
@[simp] theorem Core.updJob_pwms (n : Nat) (f : ChJob → ChJob) : (c.updJob n f).pwms = c.pwms := rfl
@[simp] theorem Core.updJob_ptp (n : Nat) (f : ChJob → ChJob) : (c.updJob n f).ptp = c.ptp := rfl
@[simp] theorem Core.updJob_align (n : Nat) (f : ChJob → ChJob) : (c.updJob n f).align = c.align := rfl
@[simp] theorem Core.updJob_qd (n : Nat) (f : ChJob → ChJob) : (c.updJob n f).qd = c.qd := rfl
@[simp] theorem Core.updJob_faults (n : Nat) (f : ChJob → ChJob) : (c.updJob n f).faults = c.faults := rfl
@[simp] theorem Core.updJob_scopes (n : Nat) (f : ChJob → ChJob) : (c.updJob n f).scopes = c.scopes := rfl
@[simp] theorem Core.updJob_recoveries (n : Nat) (f : ChJob → ChJob) : (c.updJob n f).recoveries = c.recoveries := rfl
@[simp] theorem Core.updJob_recoverAt (n : Nat) (f : ChJob → ChJob) : (c.updJob n f).recoverAt = c.recoverAt := rfl
@[simp] theorem Core.updJob_rail (n : Nat) (f : ChJob → ChJob) : (c.updJob n f).rail = c.rail := rfl
@[simp] theorem Core.updJob_boot (n : Nat) (f : ChJob → ChJob) : (c.updJob n f).boot = c.boot := rfl
@[simp] theorem Core.updJob_nor (n : Nat) (f : ChJob → ChJob) : (c.updJob n f).nor = c.nor := rfl
@[simp] theorem Core.updJob_fw (n : Nat) (f : ChJob → ChJob) : (c.updJob n f).fw = c.fw := rfl
@[simp] theorem Core.updJob_get (n : Nat) (f : ChJob → ChJob) (p : Obj) : (c.updJob n f).get p = c.get p := rfl

@[simp] theorem Core.updLane_objs (m : Nat) (f : Lane → Lane) : (c.updLane m f).objs = c.objs := rfl
@[simp] theorem Core.updLane_time (m : Nat) (f : Lane → Lane) : (c.updLane m f).time = c.time := rfl
@[simp] theorem Core.updLane_sample (m : Nat) (f : Lane → Lane) : (c.updLane m f).sample = c.sample := rfl
@[simp] theorem Core.updLane_beam (m : Nat) (f : Lane → Lane) : (c.updLane m f).beam = c.beam := rfl
@[simp] theorem Core.updLane_reply (m : Nat) (f : Lane → Lane) : (c.updLane m f).reply = c.reply := rfl
@[simp] theorem Core.updLane_raises (m : Nat) (f : Lane → Lane) : (c.updLane m f).raises = c.raises := rfl
@[simp] theorem Core.updLane_out (m : Nat) (f : Lane → Lane) : (c.updLane m f).out = c.out := rfl
@[simp] theorem Core.updLane_fresh (m : Nat) (f : Lane → Lane) : (c.updLane m f).fresh = c.fresh := rfl
@[simp] theorem Core.updLane_encs (m : Nat) (f : Lane → Lane) : (c.updLane m f).encs = c.encs := rfl
@[simp] theorem Core.updLane_sposs (m : Nat) (f : Lane → Lane) : (c.updLane m f).sposs = c.sposs := rfl
@[simp] theorem Core.updLane_passes (m : Nat) (f : Lane → Lane) : (c.updLane m f).passes = c.passes := rfl
@[simp] theorem Core.updLane_cmps (m : Nat) (f : Lane → Lane) : (c.updLane m f).cmps = c.cmps := rfl
@[simp] theorem Core.updLane_lines (m : Nat) (f : Lane → Lane) : (c.updLane m f).lines = c.lines := rfl
@[simp] theorem Core.updLane_lcs (m : Nat) (f : Lane → Lane) : (c.updLane m f).lcs = c.lcs := rfl
@[simp] theorem Core.updLane_lists (m : Nat) (f : Lane → Lane) : (c.updLane m f).lists = c.lists := rfl
@[simp] theorem Core.updLane_imgs (m : Nat) (f : Lane → Lane) : (c.updLane m f).imgs = c.imgs := rfl
@[simp] theorem Core.updLane_runs (m : Nat) (f : Lane → Lane) : (c.updLane m f).runs = c.runs := rfl
@[simp] theorem Core.updLane_fires (m : Nat) (f : Lane → Lane) : (c.updLane m f).fires = c.fires := rfl
@[simp] theorem Core.updLane_returns (m : Nat) (f : Lane → Lane) : (c.updLane m f).returns = c.returns := rfl
@[simp] theorem Core.updLane_syncAt (m : Nat) (f : Lane → Lane) : (c.updLane m f).syncAt = c.syncAt := rfl
@[simp] theorem Core.updLane_syncs (m : Nat) (f : Lane → Lane) : (c.updLane m f).syncs = c.syncs := rfl
@[simp] theorem Core.updLane_scans (m : Nat) (f : Lane → Lane) : (c.updLane m f).scans = c.scans := rfl
@[simp] theorem Core.updLane_pages (m : Nat) (f : Lane → Lane) : (c.updLane m f).pages = c.pages := rfl
@[simp] theorem Core.updLane_sheets (m : Nat) (f : Lane → Lane) : (c.updLane m f).sheets = c.sheets := rfl
@[simp] theorem Core.updLane_drivePhase (m : Nat) (f : Lane → Lane) : (c.updLane m f).drivePhase = c.drivePhase := rfl
@[simp] theorem Core.updLane_driveCount (m : Nat) (f : Lane → Lane) : (c.updLane m f).driveCount = c.driveCount := rfl
@[simp] theorem Core.updLane_jobs (m : Nat) (f : Lane → Lane) : (c.updLane m f).jobs = c.jobs := rfl
@[simp] theorem Core.updLane_rcst (m : Nat) (f : Lane → Lane) : (c.updLane m f).rcst = c.rcst := rfl
@[simp] theorem Core.updLane_sprues (m : Nat) (f : Lane → Lane) : (c.updLane m f).sprues = c.sprues := rfl
@[simp] theorem Core.updLane_codecs (m : Nat) (f : Lane → Lane) : (c.updLane m f).codecs = c.codecs := rfl
@[simp] theorem Core.updLane_codecQueue (m : Nat) (f : Lane → Lane) : (c.updLane m f).codecQueue = c.codecQueue := rfl
@[simp] theorem Core.updLane_codecAborts (m : Nat) (f : Lane → Lane) : (c.updLane m f).codecAborts = c.codecAborts := rfl
@[simp] theorem Core.updLane_hub (m : Nat) (f : Lane → Lane) : (c.updLane m f).hub = c.hub := rfl
@[simp] theorem Core.updLane_rings (m : Nat) (f : Lane → Lane) : (c.updLane m f).rings = c.rings := rfl
@[simp] theorem Core.updLane_vectors (m : Nat) (f : Lane → Lane) : (c.updLane m f).vectors = c.vectors := rfl
@[simp] theorem Core.updLane_dmas (m : Nat) (f : Lane → Lane) : (c.updLane m f).dmas = c.dmas := rfl
@[simp] theorem Core.updLane_pcie (m : Nat) (f : Lane → Lane) : (c.updLane m f).pcie = c.pcie := rfl
@[simp] theorem Core.updLane_pcieCfg (m : Nat) (f : Lane → Lane) : (c.updLane m f).pcieCfg = c.pcieCfg := rfl
@[simp] theorem Core.updLane_dmaLast (m : Nat) (f : Lane → Lane) : (c.updLane m f).dmaLast = c.dmaLast := rfl
@[simp] theorem Core.updLane_clients (m : Nat) (f : Lane → Lane) : (c.updLane m f).clients = c.clients := rfl
@[simp] theorem Core.updLane_staged (m : Nat) (f : Lane → Lane) : (c.updLane m f).staged = c.staged := rfl
@[simp] theorem Core.updLane_commits (m : Nat) (f : Lane → Lane) : (c.updLane m f).commits = c.commits := rfl
@[simp] theorem Core.updLane_locks (m : Nat) (f : Lane → Lane) : (c.updLane m f).locks = c.locks := rfl
@[simp] theorem Core.updLane_audit (m : Nat) (f : Lane → Lane) : (c.updLane m f).audit = c.audit := rfl
@[simp] theorem Core.updLane_auditNext (m : Nat) (f : Lane → Lane) : (c.updLane m f).auditNext = c.auditNext := rfl
@[simp] theorem Core.updLane_reasms (m : Nat) (f : Lane → Lane) : (c.updLane m f).reasms = c.reasms := rfl
@[simp] theorem Core.updLane_cans (m : Nat) (f : Lane → Lane) : (c.updLane m f).cans = c.cans := rfl
@[simp] theorem Core.updLane_slots (m : Nat) (f : Lane → Lane) : (c.updLane m f).slots = c.slots := rfl
@[simp] theorem Core.updLane_loopMark (m : Nat) (f : Lane → Lane) : (c.updLane m f).loopMark = c.loopMark := rfl
@[simp] theorem Core.updLane_loopMarks (m : Nat) (f : Lane → Lane) : (c.updLane m f).loopMarks = c.loopMarks := rfl
@[simp] theorem Core.updLane_ainSeqs (m : Nat) (f : Lane → Lane) : (c.updLane m f).ainSeqs = c.ainSeqs := rfl
@[simp] theorem Core.updLane_ainTimed (m : Nat) (f : Lane → Lane) : (c.updLane m f).ainTimed = c.ainTimed := rfl
@[simp] theorem Core.updLane_loopFree (m : Nat) (f : Lane → Lane) : (c.updLane m f).loopFree = c.loopFree := rfl
@[simp] theorem Core.updLane_loopAt (m : Nat) (f : Lane → Lane) : (c.updLane m f).loopAt = c.loopAt := rfl
@[simp] theorem Core.updLane_gpioSeen (m : Nat) (f : Lane → Lane) : (c.updLane m f).gpioSeen = c.gpioSeen := rfl
@[simp] theorem Core.updLane_gpioIn (m : Nat) (f : Lane → Lane) : (c.updLane m f).gpioIn = c.gpioIn := rfl
@[simp] theorem Core.updLane_pwms (m : Nat) (f : Lane → Lane) : (c.updLane m f).pwms = c.pwms := rfl
@[simp] theorem Core.updLane_ptp (m : Nat) (f : Lane → Lane) : (c.updLane m f).ptp = c.ptp := rfl
@[simp] theorem Core.updLane_align (m : Nat) (f : Lane → Lane) : (c.updLane m f).align = c.align := rfl
@[simp] theorem Core.updLane_qd (m : Nat) (f : Lane → Lane) : (c.updLane m f).qd = c.qd := rfl
@[simp] theorem Core.updLane_faults (m : Nat) (f : Lane → Lane) : (c.updLane m f).faults = c.faults := rfl
@[simp] theorem Core.updLane_scopes (m : Nat) (f : Lane → Lane) : (c.updLane m f).scopes = c.scopes := rfl
@[simp] theorem Core.updLane_recoveries (m : Nat) (f : Lane → Lane) : (c.updLane m f).recoveries = c.recoveries := rfl
@[simp] theorem Core.updLane_recoverAt (m : Nat) (f : Lane → Lane) : (c.updLane m f).recoverAt = c.recoverAt := rfl
@[simp] theorem Core.updLane_rail (m : Nat) (f : Lane → Lane) : (c.updLane m f).rail = c.rail := rfl
@[simp] theorem Core.updLane_boot (m : Nat) (f : Lane → Lane) : (c.updLane m f).boot = c.boot := rfl
@[simp] theorem Core.updLane_nor (m : Nat) (f : Lane → Lane) : (c.updLane m f).nor = c.nor := rfl
@[simp] theorem Core.updLane_fw (m : Nat) (f : Lane → Lane) : (c.updLane m f).fw = c.fw := rfl
@[simp] theorem Core.updLane_get (m : Nat) (f : Lane → Lane) (p : Obj) : (c.updLane m f).get p = c.get p := rfl

@[simp] theorem Core.updSlot_objs (s : Nat) (f : LoopSlot → LoopSlot) : (c.updSlot s f).objs = c.objs := rfl
@[simp] theorem Core.updSlot_time (s : Nat) (f : LoopSlot → LoopSlot) : (c.updSlot s f).time = c.time := rfl
@[simp] theorem Core.updSlot_sample (s : Nat) (f : LoopSlot → LoopSlot) : (c.updSlot s f).sample = c.sample := rfl
@[simp] theorem Core.updSlot_beam (s : Nat) (f : LoopSlot → LoopSlot) : (c.updSlot s f).beam = c.beam := rfl
@[simp] theorem Core.updSlot_reply (s : Nat) (f : LoopSlot → LoopSlot) : (c.updSlot s f).reply = c.reply := rfl
@[simp] theorem Core.updSlot_raises (s : Nat) (f : LoopSlot → LoopSlot) : (c.updSlot s f).raises = c.raises := rfl
@[simp] theorem Core.updSlot_out (s : Nat) (f : LoopSlot → LoopSlot) : (c.updSlot s f).out = c.out := rfl
@[simp] theorem Core.updSlot_fresh (s : Nat) (f : LoopSlot → LoopSlot) : (c.updSlot s f).fresh = c.fresh := rfl
@[simp] theorem Core.updSlot_encs (s : Nat) (f : LoopSlot → LoopSlot) : (c.updSlot s f).encs = c.encs := rfl
@[simp] theorem Core.updSlot_sposs (s : Nat) (f : LoopSlot → LoopSlot) : (c.updSlot s f).sposs = c.sposs := rfl
@[simp] theorem Core.updSlot_passes (s : Nat) (f : LoopSlot → LoopSlot) : (c.updSlot s f).passes = c.passes := rfl
@[simp] theorem Core.updSlot_cmps (s : Nat) (f : LoopSlot → LoopSlot) : (c.updSlot s f).cmps = c.cmps := rfl
@[simp] theorem Core.updSlot_lines (s : Nat) (f : LoopSlot → LoopSlot) : (c.updSlot s f).lines = c.lines := rfl
@[simp] theorem Core.updSlot_lcs (s : Nat) (f : LoopSlot → LoopSlot) : (c.updSlot s f).lcs = c.lcs := rfl
@[simp] theorem Core.updSlot_lists (s : Nat) (f : LoopSlot → LoopSlot) : (c.updSlot s f).lists = c.lists := rfl
@[simp] theorem Core.updSlot_imgs (s : Nat) (f : LoopSlot → LoopSlot) : (c.updSlot s f).imgs = c.imgs := rfl
@[simp] theorem Core.updSlot_runs (s : Nat) (f : LoopSlot → LoopSlot) : (c.updSlot s f).runs = c.runs := rfl
@[simp] theorem Core.updSlot_fires (s : Nat) (f : LoopSlot → LoopSlot) : (c.updSlot s f).fires = c.fires := rfl
@[simp] theorem Core.updSlot_lanes (s : Nat) (f : LoopSlot → LoopSlot) : (c.updSlot s f).lanes = c.lanes := rfl
@[simp] theorem Core.updSlot_returns (s : Nat) (f : LoopSlot → LoopSlot) : (c.updSlot s f).returns = c.returns := rfl
@[simp] theorem Core.updSlot_syncAt (s : Nat) (f : LoopSlot → LoopSlot) : (c.updSlot s f).syncAt = c.syncAt := rfl
@[simp] theorem Core.updSlot_syncs (s : Nat) (f : LoopSlot → LoopSlot) : (c.updSlot s f).syncs = c.syncs := rfl
@[simp] theorem Core.updSlot_scans (s : Nat) (f : LoopSlot → LoopSlot) : (c.updSlot s f).scans = c.scans := rfl
@[simp] theorem Core.updSlot_pages (s : Nat) (f : LoopSlot → LoopSlot) : (c.updSlot s f).pages = c.pages := rfl
@[simp] theorem Core.updSlot_sheets (s : Nat) (f : LoopSlot → LoopSlot) : (c.updSlot s f).sheets = c.sheets := rfl
@[simp] theorem Core.updSlot_drivePhase (s : Nat) (f : LoopSlot → LoopSlot) : (c.updSlot s f).drivePhase = c.drivePhase := rfl
@[simp] theorem Core.updSlot_driveCount (s : Nat) (f : LoopSlot → LoopSlot) : (c.updSlot s f).driveCount = c.driveCount := rfl
@[simp] theorem Core.updSlot_jobs (s : Nat) (f : LoopSlot → LoopSlot) : (c.updSlot s f).jobs = c.jobs := rfl
@[simp] theorem Core.updSlot_rcst (s : Nat) (f : LoopSlot → LoopSlot) : (c.updSlot s f).rcst = c.rcst := rfl
@[simp] theorem Core.updSlot_sprues (s : Nat) (f : LoopSlot → LoopSlot) : (c.updSlot s f).sprues = c.sprues := rfl
@[simp] theorem Core.updSlot_codecs (s : Nat) (f : LoopSlot → LoopSlot) : (c.updSlot s f).codecs = c.codecs := rfl
@[simp] theorem Core.updSlot_codecQueue (s : Nat) (f : LoopSlot → LoopSlot) : (c.updSlot s f).codecQueue = c.codecQueue := rfl
@[simp] theorem Core.updSlot_codecAborts (s : Nat) (f : LoopSlot → LoopSlot) : (c.updSlot s f).codecAborts = c.codecAborts := rfl
@[simp] theorem Core.updSlot_hub (s : Nat) (f : LoopSlot → LoopSlot) : (c.updSlot s f).hub = c.hub := rfl
@[simp] theorem Core.updSlot_rings (s : Nat) (f : LoopSlot → LoopSlot) : (c.updSlot s f).rings = c.rings := rfl
@[simp] theorem Core.updSlot_vectors (s : Nat) (f : LoopSlot → LoopSlot) : (c.updSlot s f).vectors = c.vectors := rfl
@[simp] theorem Core.updSlot_dmas (s : Nat) (f : LoopSlot → LoopSlot) : (c.updSlot s f).dmas = c.dmas := rfl
@[simp] theorem Core.updSlot_pcie (s : Nat) (f : LoopSlot → LoopSlot) : (c.updSlot s f).pcie = c.pcie := rfl
@[simp] theorem Core.updSlot_pcieCfg (s : Nat) (f : LoopSlot → LoopSlot) : (c.updSlot s f).pcieCfg = c.pcieCfg := rfl
@[simp] theorem Core.updSlot_dmaLast (s : Nat) (f : LoopSlot → LoopSlot) : (c.updSlot s f).dmaLast = c.dmaLast := rfl
@[simp] theorem Core.updSlot_clients (s : Nat) (f : LoopSlot → LoopSlot) : (c.updSlot s f).clients = c.clients := rfl
@[simp] theorem Core.updSlot_staged (s : Nat) (f : LoopSlot → LoopSlot) : (c.updSlot s f).staged = c.staged := rfl
@[simp] theorem Core.updSlot_commits (s : Nat) (f : LoopSlot → LoopSlot) : (c.updSlot s f).commits = c.commits := rfl
@[simp] theorem Core.updSlot_locks (s : Nat) (f : LoopSlot → LoopSlot) : (c.updSlot s f).locks = c.locks := rfl
@[simp] theorem Core.updSlot_audit (s : Nat) (f : LoopSlot → LoopSlot) : (c.updSlot s f).audit = c.audit := rfl
@[simp] theorem Core.updSlot_auditNext (s : Nat) (f : LoopSlot → LoopSlot) : (c.updSlot s f).auditNext = c.auditNext := rfl
@[simp] theorem Core.updSlot_reasms (s : Nat) (f : LoopSlot → LoopSlot) : (c.updSlot s f).reasms = c.reasms := rfl
@[simp] theorem Core.updSlot_cans (s : Nat) (f : LoopSlot → LoopSlot) : (c.updSlot s f).cans = c.cans := rfl
@[simp] theorem Core.updSlot_loopMark (s : Nat) (f : LoopSlot → LoopSlot) : (c.updSlot s f).loopMark = c.loopMark := rfl
@[simp] theorem Core.updSlot_loopMarks (s : Nat) (f : LoopSlot → LoopSlot) : (c.updSlot s f).loopMarks = c.loopMarks := rfl
@[simp] theorem Core.updSlot_ainSeqs (s : Nat) (f : LoopSlot → LoopSlot) : (c.updSlot s f).ainSeqs = c.ainSeqs := rfl
@[simp] theorem Core.updSlot_ainTimed (s : Nat) (f : LoopSlot → LoopSlot) : (c.updSlot s f).ainTimed = c.ainTimed := rfl
@[simp] theorem Core.updSlot_loopFree (s : Nat) (f : LoopSlot → LoopSlot) : (c.updSlot s f).loopFree = c.loopFree := rfl
@[simp] theorem Core.updSlot_loopAt (s : Nat) (f : LoopSlot → LoopSlot) : (c.updSlot s f).loopAt = c.loopAt := rfl
@[simp] theorem Core.updSlot_gpioSeen (s : Nat) (f : LoopSlot → LoopSlot) : (c.updSlot s f).gpioSeen = c.gpioSeen := rfl
@[simp] theorem Core.updSlot_gpioIn (s : Nat) (f : LoopSlot → LoopSlot) : (c.updSlot s f).gpioIn = c.gpioIn := rfl
@[simp] theorem Core.updSlot_pwms (s : Nat) (f : LoopSlot → LoopSlot) : (c.updSlot s f).pwms = c.pwms := rfl
@[simp] theorem Core.updSlot_ptp (s : Nat) (f : LoopSlot → LoopSlot) : (c.updSlot s f).ptp = c.ptp := rfl
@[simp] theorem Core.updSlot_align (s : Nat) (f : LoopSlot → LoopSlot) : (c.updSlot s f).align = c.align := rfl
@[simp] theorem Core.updSlot_qd (s : Nat) (f : LoopSlot → LoopSlot) : (c.updSlot s f).qd = c.qd := rfl
@[simp] theorem Core.updSlot_faults (s : Nat) (f : LoopSlot → LoopSlot) : (c.updSlot s f).faults = c.faults := rfl
@[simp] theorem Core.updSlot_scopes (s : Nat) (f : LoopSlot → LoopSlot) : (c.updSlot s f).scopes = c.scopes := rfl
@[simp] theorem Core.updSlot_recoveries (s : Nat) (f : LoopSlot → LoopSlot) : (c.updSlot s f).recoveries = c.recoveries := rfl
@[simp] theorem Core.updSlot_recoverAt (s : Nat) (f : LoopSlot → LoopSlot) : (c.updSlot s f).recoverAt = c.recoverAt := rfl
@[simp] theorem Core.updSlot_rail (s : Nat) (f : LoopSlot → LoopSlot) : (c.updSlot s f).rail = c.rail := rfl
@[simp] theorem Core.updSlot_boot (s : Nat) (f : LoopSlot → LoopSlot) : (c.updSlot s f).boot = c.boot := rfl
@[simp] theorem Core.updSlot_nor (s : Nat) (f : LoopSlot → LoopSlot) : (c.updSlot s f).nor = c.nor := rfl
@[simp] theorem Core.updSlot_fw (s : Nat) (f : LoopSlot → LoopSlot) : (c.updSlot s f).fw = c.fw := rfl
@[simp] theorem Core.updSlot_get (s : Nat) (f : LoopSlot → LoopSlot) (p : Obj) : (c.updSlot s f).get p = c.get p := rfl

@[simp] theorem Core.updQd_objs (f : Qd → Qd) : (c.updQd f).objs = c.objs := rfl
@[simp] theorem Core.updQd_time (f : Qd → Qd) : (c.updQd f).time = c.time := rfl
@[simp] theorem Core.updQd_sample (f : Qd → Qd) : (c.updQd f).sample = c.sample := rfl
@[simp] theorem Core.updQd_beam (f : Qd → Qd) : (c.updQd f).beam = c.beam := rfl
@[simp] theorem Core.updQd_reply (f : Qd → Qd) : (c.updQd f).reply = c.reply := rfl
@[simp] theorem Core.updQd_raises (f : Qd → Qd) : (c.updQd f).raises = c.raises := rfl
@[simp] theorem Core.updQd_out (f : Qd → Qd) : (c.updQd f).out = c.out := rfl
@[simp] theorem Core.updQd_fresh (f : Qd → Qd) : (c.updQd f).fresh = c.fresh := rfl
@[simp] theorem Core.updQd_encs (f : Qd → Qd) : (c.updQd f).encs = c.encs := rfl
@[simp] theorem Core.updQd_sposs (f : Qd → Qd) : (c.updQd f).sposs = c.sposs := rfl
@[simp] theorem Core.updQd_passes (f : Qd → Qd) : (c.updQd f).passes = c.passes := rfl
@[simp] theorem Core.updQd_cmps (f : Qd → Qd) : (c.updQd f).cmps = c.cmps := rfl
@[simp] theorem Core.updQd_lines (f : Qd → Qd) : (c.updQd f).lines = c.lines := rfl
@[simp] theorem Core.updQd_lcs (f : Qd → Qd) : (c.updQd f).lcs = c.lcs := rfl
@[simp] theorem Core.updQd_lists (f : Qd → Qd) : (c.updQd f).lists = c.lists := rfl
@[simp] theorem Core.updQd_imgs (f : Qd → Qd) : (c.updQd f).imgs = c.imgs := rfl
@[simp] theorem Core.updQd_runs (f : Qd → Qd) : (c.updQd f).runs = c.runs := rfl
@[simp] theorem Core.updQd_fires (f : Qd → Qd) : (c.updQd f).fires = c.fires := rfl
@[simp] theorem Core.updQd_lanes (f : Qd → Qd) : (c.updQd f).lanes = c.lanes := rfl
@[simp] theorem Core.updQd_returns (f : Qd → Qd) : (c.updQd f).returns = c.returns := rfl
@[simp] theorem Core.updQd_syncAt (f : Qd → Qd) : (c.updQd f).syncAt = c.syncAt := rfl
@[simp] theorem Core.updQd_syncs (f : Qd → Qd) : (c.updQd f).syncs = c.syncs := rfl
@[simp] theorem Core.updQd_scans (f : Qd → Qd) : (c.updQd f).scans = c.scans := rfl
@[simp] theorem Core.updQd_pages (f : Qd → Qd) : (c.updQd f).pages = c.pages := rfl
@[simp] theorem Core.updQd_sheets (f : Qd → Qd) : (c.updQd f).sheets = c.sheets := rfl
@[simp] theorem Core.updQd_drivePhase (f : Qd → Qd) : (c.updQd f).drivePhase = c.drivePhase := rfl
@[simp] theorem Core.updQd_driveCount (f : Qd → Qd) : (c.updQd f).driveCount = c.driveCount := rfl
@[simp] theorem Core.updQd_jobs (f : Qd → Qd) : (c.updQd f).jobs = c.jobs := rfl
@[simp] theorem Core.updQd_rcst (f : Qd → Qd) : (c.updQd f).rcst = c.rcst := rfl
@[simp] theorem Core.updQd_sprues (f : Qd → Qd) : (c.updQd f).sprues = c.sprues := rfl
@[simp] theorem Core.updQd_codecs (f : Qd → Qd) : (c.updQd f).codecs = c.codecs := rfl
@[simp] theorem Core.updQd_codecQueue (f : Qd → Qd) : (c.updQd f).codecQueue = c.codecQueue := rfl
@[simp] theorem Core.updQd_codecAborts (f : Qd → Qd) : (c.updQd f).codecAborts = c.codecAborts := rfl
@[simp] theorem Core.updQd_hub (f : Qd → Qd) : (c.updQd f).hub = c.hub := rfl
@[simp] theorem Core.updQd_rings (f : Qd → Qd) : (c.updQd f).rings = c.rings := rfl
@[simp] theorem Core.updQd_vectors (f : Qd → Qd) : (c.updQd f).vectors = c.vectors := rfl
@[simp] theorem Core.updQd_dmas (f : Qd → Qd) : (c.updQd f).dmas = c.dmas := rfl
@[simp] theorem Core.updQd_pcie (f : Qd → Qd) : (c.updQd f).pcie = c.pcie := rfl
@[simp] theorem Core.updQd_pcieCfg (f : Qd → Qd) : (c.updQd f).pcieCfg = c.pcieCfg := rfl
@[simp] theorem Core.updQd_dmaLast (f : Qd → Qd) : (c.updQd f).dmaLast = c.dmaLast := rfl
@[simp] theorem Core.updQd_clients (f : Qd → Qd) : (c.updQd f).clients = c.clients := rfl
@[simp] theorem Core.updQd_staged (f : Qd → Qd) : (c.updQd f).staged = c.staged := rfl
@[simp] theorem Core.updQd_commits (f : Qd → Qd) : (c.updQd f).commits = c.commits := rfl
@[simp] theorem Core.updQd_locks (f : Qd → Qd) : (c.updQd f).locks = c.locks := rfl
@[simp] theorem Core.updQd_audit (f : Qd → Qd) : (c.updQd f).audit = c.audit := rfl
@[simp] theorem Core.updQd_auditNext (f : Qd → Qd) : (c.updQd f).auditNext = c.auditNext := rfl
@[simp] theorem Core.updQd_reasms (f : Qd → Qd) : (c.updQd f).reasms = c.reasms := rfl
@[simp] theorem Core.updQd_cans (f : Qd → Qd) : (c.updQd f).cans = c.cans := rfl
@[simp] theorem Core.updQd_slots (f : Qd → Qd) : (c.updQd f).slots = c.slots := rfl
@[simp] theorem Core.updQd_loopMark (f : Qd → Qd) : (c.updQd f).loopMark = c.loopMark := rfl
@[simp] theorem Core.updQd_loopMarks (f : Qd → Qd) : (c.updQd f).loopMarks = c.loopMarks := rfl
@[simp] theorem Core.updQd_ainSeqs (f : Qd → Qd) : (c.updQd f).ainSeqs = c.ainSeqs := rfl
@[simp] theorem Core.updQd_ainTimed (f : Qd → Qd) : (c.updQd f).ainTimed = c.ainTimed := rfl
@[simp] theorem Core.updQd_loopFree (f : Qd → Qd) : (c.updQd f).loopFree = c.loopFree := rfl
@[simp] theorem Core.updQd_loopAt (f : Qd → Qd) : (c.updQd f).loopAt = c.loopAt := rfl
@[simp] theorem Core.updQd_gpioSeen (f : Qd → Qd) : (c.updQd f).gpioSeen = c.gpioSeen := rfl
@[simp] theorem Core.updQd_gpioIn (f : Qd → Qd) : (c.updQd f).gpioIn = c.gpioIn := rfl
@[simp] theorem Core.updQd_pwms (f : Qd → Qd) : (c.updQd f).pwms = c.pwms := rfl
@[simp] theorem Core.updQd_ptp (f : Qd → Qd) : (c.updQd f).ptp = c.ptp := rfl
@[simp] theorem Core.updQd_align (f : Qd → Qd) : (c.updQd f).align = c.align := rfl
@[simp] theorem Core.updQd_faults (f : Qd → Qd) : (c.updQd f).faults = c.faults := rfl
@[simp] theorem Core.updQd_scopes (f : Qd → Qd) : (c.updQd f).scopes = c.scopes := rfl
@[simp] theorem Core.updQd_recoveries (f : Qd → Qd) : (c.updQd f).recoveries = c.recoveries := rfl
@[simp] theorem Core.updQd_recoverAt (f : Qd → Qd) : (c.updQd f).recoverAt = c.recoverAt := rfl
@[simp] theorem Core.updQd_rail (f : Qd → Qd) : (c.updQd f).rail = c.rail := rfl
@[simp] theorem Core.updQd_boot (f : Qd → Qd) : (c.updQd f).boot = c.boot := rfl
@[simp] theorem Core.updQd_nor (f : Qd → Qd) : (c.updQd f).nor = c.nor := rfl
@[simp] theorem Core.updQd_fw (f : Qd → Qd) : (c.updQd f).fw = c.fw := rfl
@[simp] theorem Core.updQd_get (f : Qd → Qd) (p : Obj) : (c.updQd f).get p = c.get p := rfl

@[simp] theorem Core.updRail_objs (f : Rail → Rail) : (c.updRail f).objs = c.objs := rfl
@[simp] theorem Core.updRail_time (f : Rail → Rail) : (c.updRail f).time = c.time := rfl
@[simp] theorem Core.updRail_sample (f : Rail → Rail) : (c.updRail f).sample = c.sample := rfl
@[simp] theorem Core.updRail_beam (f : Rail → Rail) : (c.updRail f).beam = c.beam := rfl
@[simp] theorem Core.updRail_reply (f : Rail → Rail) : (c.updRail f).reply = c.reply := rfl
@[simp] theorem Core.updRail_raises (f : Rail → Rail) : (c.updRail f).raises = c.raises := rfl
@[simp] theorem Core.updRail_out (f : Rail → Rail) : (c.updRail f).out = c.out := rfl
@[simp] theorem Core.updRail_fresh (f : Rail → Rail) : (c.updRail f).fresh = c.fresh := rfl
@[simp] theorem Core.updRail_encs (f : Rail → Rail) : (c.updRail f).encs = c.encs := rfl
@[simp] theorem Core.updRail_sposs (f : Rail → Rail) : (c.updRail f).sposs = c.sposs := rfl
@[simp] theorem Core.updRail_passes (f : Rail → Rail) : (c.updRail f).passes = c.passes := rfl
@[simp] theorem Core.updRail_cmps (f : Rail → Rail) : (c.updRail f).cmps = c.cmps := rfl
@[simp] theorem Core.updRail_lines (f : Rail → Rail) : (c.updRail f).lines = c.lines := rfl
@[simp] theorem Core.updRail_lcs (f : Rail → Rail) : (c.updRail f).lcs = c.lcs := rfl
@[simp] theorem Core.updRail_lists (f : Rail → Rail) : (c.updRail f).lists = c.lists := rfl
@[simp] theorem Core.updRail_imgs (f : Rail → Rail) : (c.updRail f).imgs = c.imgs := rfl
@[simp] theorem Core.updRail_runs (f : Rail → Rail) : (c.updRail f).runs = c.runs := rfl
@[simp] theorem Core.updRail_fires (f : Rail → Rail) : (c.updRail f).fires = c.fires := rfl
@[simp] theorem Core.updRail_lanes (f : Rail → Rail) : (c.updRail f).lanes = c.lanes := rfl
@[simp] theorem Core.updRail_returns (f : Rail → Rail) : (c.updRail f).returns = c.returns := rfl
@[simp] theorem Core.updRail_syncAt (f : Rail → Rail) : (c.updRail f).syncAt = c.syncAt := rfl
@[simp] theorem Core.updRail_syncs (f : Rail → Rail) : (c.updRail f).syncs = c.syncs := rfl
@[simp] theorem Core.updRail_scans (f : Rail → Rail) : (c.updRail f).scans = c.scans := rfl
@[simp] theorem Core.updRail_pages (f : Rail → Rail) : (c.updRail f).pages = c.pages := rfl
@[simp] theorem Core.updRail_sheets (f : Rail → Rail) : (c.updRail f).sheets = c.sheets := rfl
@[simp] theorem Core.updRail_drivePhase (f : Rail → Rail) : (c.updRail f).drivePhase = c.drivePhase := rfl
@[simp] theorem Core.updRail_driveCount (f : Rail → Rail) : (c.updRail f).driveCount = c.driveCount := rfl
@[simp] theorem Core.updRail_jobs (f : Rail → Rail) : (c.updRail f).jobs = c.jobs := rfl
@[simp] theorem Core.updRail_rcst (f : Rail → Rail) : (c.updRail f).rcst = c.rcst := rfl
@[simp] theorem Core.updRail_sprues (f : Rail → Rail) : (c.updRail f).sprues = c.sprues := rfl
@[simp] theorem Core.updRail_codecs (f : Rail → Rail) : (c.updRail f).codecs = c.codecs := rfl
@[simp] theorem Core.updRail_codecQueue (f : Rail → Rail) : (c.updRail f).codecQueue = c.codecQueue := rfl
@[simp] theorem Core.updRail_codecAborts (f : Rail → Rail) : (c.updRail f).codecAborts = c.codecAborts := rfl
@[simp] theorem Core.updRail_hub (f : Rail → Rail) : (c.updRail f).hub = c.hub := rfl
@[simp] theorem Core.updRail_rings (f : Rail → Rail) : (c.updRail f).rings = c.rings := rfl
@[simp] theorem Core.updRail_vectors (f : Rail → Rail) : (c.updRail f).vectors = c.vectors := rfl
@[simp] theorem Core.updRail_dmas (f : Rail → Rail) : (c.updRail f).dmas = c.dmas := rfl
@[simp] theorem Core.updRail_pcie (f : Rail → Rail) : (c.updRail f).pcie = c.pcie := rfl
@[simp] theorem Core.updRail_pcieCfg (f : Rail → Rail) : (c.updRail f).pcieCfg = c.pcieCfg := rfl
@[simp] theorem Core.updRail_dmaLast (f : Rail → Rail) : (c.updRail f).dmaLast = c.dmaLast := rfl
@[simp] theorem Core.updRail_clients (f : Rail → Rail) : (c.updRail f).clients = c.clients := rfl
@[simp] theorem Core.updRail_staged (f : Rail → Rail) : (c.updRail f).staged = c.staged := rfl
@[simp] theorem Core.updRail_commits (f : Rail → Rail) : (c.updRail f).commits = c.commits := rfl
@[simp] theorem Core.updRail_locks (f : Rail → Rail) : (c.updRail f).locks = c.locks := rfl
@[simp] theorem Core.updRail_audit (f : Rail → Rail) : (c.updRail f).audit = c.audit := rfl
@[simp] theorem Core.updRail_auditNext (f : Rail → Rail) : (c.updRail f).auditNext = c.auditNext := rfl
@[simp] theorem Core.updRail_reasms (f : Rail → Rail) : (c.updRail f).reasms = c.reasms := rfl
@[simp] theorem Core.updRail_cans (f : Rail → Rail) : (c.updRail f).cans = c.cans := rfl
@[simp] theorem Core.updRail_slots (f : Rail → Rail) : (c.updRail f).slots = c.slots := rfl
@[simp] theorem Core.updRail_loopMark (f : Rail → Rail) : (c.updRail f).loopMark = c.loopMark := rfl
@[simp] theorem Core.updRail_loopMarks (f : Rail → Rail) : (c.updRail f).loopMarks = c.loopMarks := rfl
@[simp] theorem Core.updRail_ainSeqs (f : Rail → Rail) : (c.updRail f).ainSeqs = c.ainSeqs := rfl
@[simp] theorem Core.updRail_ainTimed (f : Rail → Rail) : (c.updRail f).ainTimed = c.ainTimed := rfl
@[simp] theorem Core.updRail_loopFree (f : Rail → Rail) : (c.updRail f).loopFree = c.loopFree := rfl
@[simp] theorem Core.updRail_loopAt (f : Rail → Rail) : (c.updRail f).loopAt = c.loopAt := rfl
@[simp] theorem Core.updRail_gpioSeen (f : Rail → Rail) : (c.updRail f).gpioSeen = c.gpioSeen := rfl
@[simp] theorem Core.updRail_gpioIn (f : Rail → Rail) : (c.updRail f).gpioIn = c.gpioIn := rfl
@[simp] theorem Core.updRail_pwms (f : Rail → Rail) : (c.updRail f).pwms = c.pwms := rfl
@[simp] theorem Core.updRail_ptp (f : Rail → Rail) : (c.updRail f).ptp = c.ptp := rfl
@[simp] theorem Core.updRail_align (f : Rail → Rail) : (c.updRail f).align = c.align := rfl
@[simp] theorem Core.updRail_qd (f : Rail → Rail) : (c.updRail f).qd = c.qd := rfl
@[simp] theorem Core.updRail_faults (f : Rail → Rail) : (c.updRail f).faults = c.faults := rfl
@[simp] theorem Core.updRail_scopes (f : Rail → Rail) : (c.updRail f).scopes = c.scopes := rfl
@[simp] theorem Core.updRail_recoveries (f : Rail → Rail) : (c.updRail f).recoveries = c.recoveries := rfl
@[simp] theorem Core.updRail_recoverAt (f : Rail → Rail) : (c.updRail f).recoverAt = c.recoverAt := rfl
@[simp] theorem Core.updRail_boot (f : Rail → Rail) : (c.updRail f).boot = c.boot := rfl
@[simp] theorem Core.updRail_nor (f : Rail → Rail) : (c.updRail f).nor = c.nor := rfl
@[simp] theorem Core.updRail_fw (f : Rail → Rail) : (c.updRail f).fw = c.fw := rfl
@[simp] theorem Core.updRail_get (f : Rail → Rail) (p : Obj) : (c.updRail f).get p = c.get p := rfl

@[simp] theorem Core.updRcst_objs (f : Rcst → Rcst) : (c.updRcst f).objs = c.objs := rfl
@[simp] theorem Core.updRcst_time (f : Rcst → Rcst) : (c.updRcst f).time = c.time := rfl
@[simp] theorem Core.updRcst_sample (f : Rcst → Rcst) : (c.updRcst f).sample = c.sample := rfl
@[simp] theorem Core.updRcst_beam (f : Rcst → Rcst) : (c.updRcst f).beam = c.beam := rfl
@[simp] theorem Core.updRcst_reply (f : Rcst → Rcst) : (c.updRcst f).reply = c.reply := rfl
@[simp] theorem Core.updRcst_raises (f : Rcst → Rcst) : (c.updRcst f).raises = c.raises := rfl
@[simp] theorem Core.updRcst_out (f : Rcst → Rcst) : (c.updRcst f).out = c.out := rfl
@[simp] theorem Core.updRcst_fresh (f : Rcst → Rcst) : (c.updRcst f).fresh = c.fresh := rfl
@[simp] theorem Core.updRcst_encs (f : Rcst → Rcst) : (c.updRcst f).encs = c.encs := rfl
@[simp] theorem Core.updRcst_sposs (f : Rcst → Rcst) : (c.updRcst f).sposs = c.sposs := rfl
@[simp] theorem Core.updRcst_passes (f : Rcst → Rcst) : (c.updRcst f).passes = c.passes := rfl
@[simp] theorem Core.updRcst_cmps (f : Rcst → Rcst) : (c.updRcst f).cmps = c.cmps := rfl
@[simp] theorem Core.updRcst_lines (f : Rcst → Rcst) : (c.updRcst f).lines = c.lines := rfl
@[simp] theorem Core.updRcst_lcs (f : Rcst → Rcst) : (c.updRcst f).lcs = c.lcs := rfl
@[simp] theorem Core.updRcst_lists (f : Rcst → Rcst) : (c.updRcst f).lists = c.lists := rfl
@[simp] theorem Core.updRcst_imgs (f : Rcst → Rcst) : (c.updRcst f).imgs = c.imgs := rfl
@[simp] theorem Core.updRcst_runs (f : Rcst → Rcst) : (c.updRcst f).runs = c.runs := rfl
@[simp] theorem Core.updRcst_fires (f : Rcst → Rcst) : (c.updRcst f).fires = c.fires := rfl
@[simp] theorem Core.updRcst_lanes (f : Rcst → Rcst) : (c.updRcst f).lanes = c.lanes := rfl
@[simp] theorem Core.updRcst_returns (f : Rcst → Rcst) : (c.updRcst f).returns = c.returns := rfl
@[simp] theorem Core.updRcst_syncAt (f : Rcst → Rcst) : (c.updRcst f).syncAt = c.syncAt := rfl
@[simp] theorem Core.updRcst_syncs (f : Rcst → Rcst) : (c.updRcst f).syncs = c.syncs := rfl
@[simp] theorem Core.updRcst_scans (f : Rcst → Rcst) : (c.updRcst f).scans = c.scans := rfl
@[simp] theorem Core.updRcst_pages (f : Rcst → Rcst) : (c.updRcst f).pages = c.pages := rfl
@[simp] theorem Core.updRcst_sheets (f : Rcst → Rcst) : (c.updRcst f).sheets = c.sheets := rfl
@[simp] theorem Core.updRcst_drivePhase (f : Rcst → Rcst) : (c.updRcst f).drivePhase = c.drivePhase := rfl
@[simp] theorem Core.updRcst_driveCount (f : Rcst → Rcst) : (c.updRcst f).driveCount = c.driveCount := rfl
@[simp] theorem Core.updRcst_jobs (f : Rcst → Rcst) : (c.updRcst f).jobs = c.jobs := rfl
@[simp] theorem Core.updRcst_sprues (f : Rcst → Rcst) : (c.updRcst f).sprues = c.sprues := rfl
@[simp] theorem Core.updRcst_codecs (f : Rcst → Rcst) : (c.updRcst f).codecs = c.codecs := rfl
@[simp] theorem Core.updRcst_codecQueue (f : Rcst → Rcst) : (c.updRcst f).codecQueue = c.codecQueue := rfl
@[simp] theorem Core.updRcst_codecAborts (f : Rcst → Rcst) : (c.updRcst f).codecAborts = c.codecAborts := rfl
@[simp] theorem Core.updRcst_hub (f : Rcst → Rcst) : (c.updRcst f).hub = c.hub := rfl
@[simp] theorem Core.updRcst_rings (f : Rcst → Rcst) : (c.updRcst f).rings = c.rings := rfl
@[simp] theorem Core.updRcst_vectors (f : Rcst → Rcst) : (c.updRcst f).vectors = c.vectors := rfl
@[simp] theorem Core.updRcst_dmas (f : Rcst → Rcst) : (c.updRcst f).dmas = c.dmas := rfl
@[simp] theorem Core.updRcst_pcie (f : Rcst → Rcst) : (c.updRcst f).pcie = c.pcie := rfl
@[simp] theorem Core.updRcst_pcieCfg (f : Rcst → Rcst) : (c.updRcst f).pcieCfg = c.pcieCfg := rfl
@[simp] theorem Core.updRcst_dmaLast (f : Rcst → Rcst) : (c.updRcst f).dmaLast = c.dmaLast := rfl
@[simp] theorem Core.updRcst_clients (f : Rcst → Rcst) : (c.updRcst f).clients = c.clients := rfl
@[simp] theorem Core.updRcst_staged (f : Rcst → Rcst) : (c.updRcst f).staged = c.staged := rfl
@[simp] theorem Core.updRcst_commits (f : Rcst → Rcst) : (c.updRcst f).commits = c.commits := rfl
@[simp] theorem Core.updRcst_locks (f : Rcst → Rcst) : (c.updRcst f).locks = c.locks := rfl
@[simp] theorem Core.updRcst_audit (f : Rcst → Rcst) : (c.updRcst f).audit = c.audit := rfl
@[simp] theorem Core.updRcst_auditNext (f : Rcst → Rcst) : (c.updRcst f).auditNext = c.auditNext := rfl
@[simp] theorem Core.updRcst_reasms (f : Rcst → Rcst) : (c.updRcst f).reasms = c.reasms := rfl
@[simp] theorem Core.updRcst_cans (f : Rcst → Rcst) : (c.updRcst f).cans = c.cans := rfl
@[simp] theorem Core.updRcst_slots (f : Rcst → Rcst) : (c.updRcst f).slots = c.slots := rfl
@[simp] theorem Core.updRcst_loopMark (f : Rcst → Rcst) : (c.updRcst f).loopMark = c.loopMark := rfl
@[simp] theorem Core.updRcst_loopMarks (f : Rcst → Rcst) : (c.updRcst f).loopMarks = c.loopMarks := rfl
@[simp] theorem Core.updRcst_ainSeqs (f : Rcst → Rcst) : (c.updRcst f).ainSeqs = c.ainSeqs := rfl
@[simp] theorem Core.updRcst_ainTimed (f : Rcst → Rcst) : (c.updRcst f).ainTimed = c.ainTimed := rfl
@[simp] theorem Core.updRcst_loopFree (f : Rcst → Rcst) : (c.updRcst f).loopFree = c.loopFree := rfl
@[simp] theorem Core.updRcst_loopAt (f : Rcst → Rcst) : (c.updRcst f).loopAt = c.loopAt := rfl
@[simp] theorem Core.updRcst_gpioSeen (f : Rcst → Rcst) : (c.updRcst f).gpioSeen = c.gpioSeen := rfl
@[simp] theorem Core.updRcst_gpioIn (f : Rcst → Rcst) : (c.updRcst f).gpioIn = c.gpioIn := rfl
@[simp] theorem Core.updRcst_pwms (f : Rcst → Rcst) : (c.updRcst f).pwms = c.pwms := rfl
@[simp] theorem Core.updRcst_ptp (f : Rcst → Rcst) : (c.updRcst f).ptp = c.ptp := rfl
@[simp] theorem Core.updRcst_align (f : Rcst → Rcst) : (c.updRcst f).align = c.align := rfl
@[simp] theorem Core.updRcst_qd (f : Rcst → Rcst) : (c.updRcst f).qd = c.qd := rfl
@[simp] theorem Core.updRcst_faults (f : Rcst → Rcst) : (c.updRcst f).faults = c.faults := rfl
@[simp] theorem Core.updRcst_scopes (f : Rcst → Rcst) : (c.updRcst f).scopes = c.scopes := rfl
@[simp] theorem Core.updRcst_recoveries (f : Rcst → Rcst) : (c.updRcst f).recoveries = c.recoveries := rfl
@[simp] theorem Core.updRcst_recoverAt (f : Rcst → Rcst) : (c.updRcst f).recoverAt = c.recoverAt := rfl
@[simp] theorem Core.updRcst_rail (f : Rcst → Rcst) : (c.updRcst f).rail = c.rail := rfl
@[simp] theorem Core.updRcst_boot (f : Rcst → Rcst) : (c.updRcst f).boot = c.boot := rfl
@[simp] theorem Core.updRcst_nor (f : Rcst → Rcst) : (c.updRcst f).nor = c.nor := rfl
@[simp] theorem Core.updRcst_fw (f : Rcst → Rcst) : (c.updRcst f).fw = c.fw := rfl
@[simp] theorem Core.updRcst_get (f : Rcst → Rcst) (p : Obj) : (c.updRcst f).get p = c.get p := rfl

@[simp] theorem Core.updPtp_objs (f : Ptp → Ptp) : (c.updPtp f).objs = c.objs := rfl
@[simp] theorem Core.updPtp_time (f : Ptp → Ptp) : (c.updPtp f).time = c.time := rfl
@[simp] theorem Core.updPtp_sample (f : Ptp → Ptp) : (c.updPtp f).sample = c.sample := rfl
@[simp] theorem Core.updPtp_beam (f : Ptp → Ptp) : (c.updPtp f).beam = c.beam := rfl
@[simp] theorem Core.updPtp_reply (f : Ptp → Ptp) : (c.updPtp f).reply = c.reply := rfl
@[simp] theorem Core.updPtp_raises (f : Ptp → Ptp) : (c.updPtp f).raises = c.raises := rfl
@[simp] theorem Core.updPtp_out (f : Ptp → Ptp) : (c.updPtp f).out = c.out := rfl
@[simp] theorem Core.updPtp_fresh (f : Ptp → Ptp) : (c.updPtp f).fresh = c.fresh := rfl
@[simp] theorem Core.updPtp_encs (f : Ptp → Ptp) : (c.updPtp f).encs = c.encs := rfl
@[simp] theorem Core.updPtp_sposs (f : Ptp → Ptp) : (c.updPtp f).sposs = c.sposs := rfl
@[simp] theorem Core.updPtp_passes (f : Ptp → Ptp) : (c.updPtp f).passes = c.passes := rfl
@[simp] theorem Core.updPtp_cmps (f : Ptp → Ptp) : (c.updPtp f).cmps = c.cmps := rfl
@[simp] theorem Core.updPtp_lines (f : Ptp → Ptp) : (c.updPtp f).lines = c.lines := rfl
@[simp] theorem Core.updPtp_lcs (f : Ptp → Ptp) : (c.updPtp f).lcs = c.lcs := rfl
@[simp] theorem Core.updPtp_lists (f : Ptp → Ptp) : (c.updPtp f).lists = c.lists := rfl
@[simp] theorem Core.updPtp_imgs (f : Ptp → Ptp) : (c.updPtp f).imgs = c.imgs := rfl
@[simp] theorem Core.updPtp_runs (f : Ptp → Ptp) : (c.updPtp f).runs = c.runs := rfl
@[simp] theorem Core.updPtp_fires (f : Ptp → Ptp) : (c.updPtp f).fires = c.fires := rfl
@[simp] theorem Core.updPtp_lanes (f : Ptp → Ptp) : (c.updPtp f).lanes = c.lanes := rfl
@[simp] theorem Core.updPtp_returns (f : Ptp → Ptp) : (c.updPtp f).returns = c.returns := rfl
@[simp] theorem Core.updPtp_syncAt (f : Ptp → Ptp) : (c.updPtp f).syncAt = c.syncAt := rfl
@[simp] theorem Core.updPtp_syncs (f : Ptp → Ptp) : (c.updPtp f).syncs = c.syncs := rfl
@[simp] theorem Core.updPtp_scans (f : Ptp → Ptp) : (c.updPtp f).scans = c.scans := rfl
@[simp] theorem Core.updPtp_pages (f : Ptp → Ptp) : (c.updPtp f).pages = c.pages := rfl
@[simp] theorem Core.updPtp_sheets (f : Ptp → Ptp) : (c.updPtp f).sheets = c.sheets := rfl
@[simp] theorem Core.updPtp_drivePhase (f : Ptp → Ptp) : (c.updPtp f).drivePhase = c.drivePhase := rfl
@[simp] theorem Core.updPtp_driveCount (f : Ptp → Ptp) : (c.updPtp f).driveCount = c.driveCount := rfl
@[simp] theorem Core.updPtp_jobs (f : Ptp → Ptp) : (c.updPtp f).jobs = c.jobs := rfl
@[simp] theorem Core.updPtp_rcst (f : Ptp → Ptp) : (c.updPtp f).rcst = c.rcst := rfl
@[simp] theorem Core.updPtp_sprues (f : Ptp → Ptp) : (c.updPtp f).sprues = c.sprues := rfl
@[simp] theorem Core.updPtp_codecs (f : Ptp → Ptp) : (c.updPtp f).codecs = c.codecs := rfl
@[simp] theorem Core.updPtp_codecQueue (f : Ptp → Ptp) : (c.updPtp f).codecQueue = c.codecQueue := rfl
@[simp] theorem Core.updPtp_codecAborts (f : Ptp → Ptp) : (c.updPtp f).codecAborts = c.codecAborts := rfl
@[simp] theorem Core.updPtp_hub (f : Ptp → Ptp) : (c.updPtp f).hub = c.hub := rfl
@[simp] theorem Core.updPtp_rings (f : Ptp → Ptp) : (c.updPtp f).rings = c.rings := rfl
@[simp] theorem Core.updPtp_vectors (f : Ptp → Ptp) : (c.updPtp f).vectors = c.vectors := rfl
@[simp] theorem Core.updPtp_dmas (f : Ptp → Ptp) : (c.updPtp f).dmas = c.dmas := rfl
@[simp] theorem Core.updPtp_pcie (f : Ptp → Ptp) : (c.updPtp f).pcie = c.pcie := rfl
@[simp] theorem Core.updPtp_pcieCfg (f : Ptp → Ptp) : (c.updPtp f).pcieCfg = c.pcieCfg := rfl
@[simp] theorem Core.updPtp_dmaLast (f : Ptp → Ptp) : (c.updPtp f).dmaLast = c.dmaLast := rfl
@[simp] theorem Core.updPtp_clients (f : Ptp → Ptp) : (c.updPtp f).clients = c.clients := rfl
@[simp] theorem Core.updPtp_staged (f : Ptp → Ptp) : (c.updPtp f).staged = c.staged := rfl
@[simp] theorem Core.updPtp_commits (f : Ptp → Ptp) : (c.updPtp f).commits = c.commits := rfl
@[simp] theorem Core.updPtp_locks (f : Ptp → Ptp) : (c.updPtp f).locks = c.locks := rfl
@[simp] theorem Core.updPtp_audit (f : Ptp → Ptp) : (c.updPtp f).audit = c.audit := rfl
@[simp] theorem Core.updPtp_auditNext (f : Ptp → Ptp) : (c.updPtp f).auditNext = c.auditNext := rfl
@[simp] theorem Core.updPtp_reasms (f : Ptp → Ptp) : (c.updPtp f).reasms = c.reasms := rfl
@[simp] theorem Core.updPtp_cans (f : Ptp → Ptp) : (c.updPtp f).cans = c.cans := rfl
@[simp] theorem Core.updPtp_slots (f : Ptp → Ptp) : (c.updPtp f).slots = c.slots := rfl
@[simp] theorem Core.updPtp_loopMark (f : Ptp → Ptp) : (c.updPtp f).loopMark = c.loopMark := rfl
@[simp] theorem Core.updPtp_loopMarks (f : Ptp → Ptp) : (c.updPtp f).loopMarks = c.loopMarks := rfl
@[simp] theorem Core.updPtp_ainSeqs (f : Ptp → Ptp) : (c.updPtp f).ainSeqs = c.ainSeqs := rfl
@[simp] theorem Core.updPtp_ainTimed (f : Ptp → Ptp) : (c.updPtp f).ainTimed = c.ainTimed := rfl
@[simp] theorem Core.updPtp_loopFree (f : Ptp → Ptp) : (c.updPtp f).loopFree = c.loopFree := rfl
@[simp] theorem Core.updPtp_loopAt (f : Ptp → Ptp) : (c.updPtp f).loopAt = c.loopAt := rfl
@[simp] theorem Core.updPtp_gpioSeen (f : Ptp → Ptp) : (c.updPtp f).gpioSeen = c.gpioSeen := rfl
@[simp] theorem Core.updPtp_gpioIn (f : Ptp → Ptp) : (c.updPtp f).gpioIn = c.gpioIn := rfl
@[simp] theorem Core.updPtp_pwms (f : Ptp → Ptp) : (c.updPtp f).pwms = c.pwms := rfl
@[simp] theorem Core.updPtp_align (f : Ptp → Ptp) : (c.updPtp f).align = c.align := rfl
@[simp] theorem Core.updPtp_qd (f : Ptp → Ptp) : (c.updPtp f).qd = c.qd := rfl
@[simp] theorem Core.updPtp_faults (f : Ptp → Ptp) : (c.updPtp f).faults = c.faults := rfl
@[simp] theorem Core.updPtp_scopes (f : Ptp → Ptp) : (c.updPtp f).scopes = c.scopes := rfl
@[simp] theorem Core.updPtp_recoveries (f : Ptp → Ptp) : (c.updPtp f).recoveries = c.recoveries := rfl
@[simp] theorem Core.updPtp_recoverAt (f : Ptp → Ptp) : (c.updPtp f).recoverAt = c.recoverAt := rfl
@[simp] theorem Core.updPtp_rail (f : Ptp → Ptp) : (c.updPtp f).rail = c.rail := rfl
@[simp] theorem Core.updPtp_boot (f : Ptp → Ptp) : (c.updPtp f).boot = c.boot := rfl
@[simp] theorem Core.updPtp_nor (f : Ptp → Ptp) : (c.updPtp f).nor = c.nor := rfl
@[simp] theorem Core.updPtp_fw (f : Ptp → Ptp) : (c.updPtp f).fw = c.fw := rfl
@[simp] theorem Core.updPtp_get (f : Ptp → Ptp) (p : Obj) : (c.updPtp f).get p = c.get p := rfl

@[simp] theorem Core.updAlign_objs (f : Align → Align) : (c.updAlign f).objs = c.objs := rfl
@[simp] theorem Core.updAlign_time (f : Align → Align) : (c.updAlign f).time = c.time := rfl
@[simp] theorem Core.updAlign_sample (f : Align → Align) : (c.updAlign f).sample = c.sample := rfl
@[simp] theorem Core.updAlign_beam (f : Align → Align) : (c.updAlign f).beam = c.beam := rfl
@[simp] theorem Core.updAlign_reply (f : Align → Align) : (c.updAlign f).reply = c.reply := rfl
@[simp] theorem Core.updAlign_raises (f : Align → Align) : (c.updAlign f).raises = c.raises := rfl
@[simp] theorem Core.updAlign_out (f : Align → Align) : (c.updAlign f).out = c.out := rfl
@[simp] theorem Core.updAlign_fresh (f : Align → Align) : (c.updAlign f).fresh = c.fresh := rfl
@[simp] theorem Core.updAlign_encs (f : Align → Align) : (c.updAlign f).encs = c.encs := rfl
@[simp] theorem Core.updAlign_sposs (f : Align → Align) : (c.updAlign f).sposs = c.sposs := rfl
@[simp] theorem Core.updAlign_passes (f : Align → Align) : (c.updAlign f).passes = c.passes := rfl
@[simp] theorem Core.updAlign_cmps (f : Align → Align) : (c.updAlign f).cmps = c.cmps := rfl
@[simp] theorem Core.updAlign_lines (f : Align → Align) : (c.updAlign f).lines = c.lines := rfl
@[simp] theorem Core.updAlign_lcs (f : Align → Align) : (c.updAlign f).lcs = c.lcs := rfl
@[simp] theorem Core.updAlign_lists (f : Align → Align) : (c.updAlign f).lists = c.lists := rfl
@[simp] theorem Core.updAlign_imgs (f : Align → Align) : (c.updAlign f).imgs = c.imgs := rfl
@[simp] theorem Core.updAlign_runs (f : Align → Align) : (c.updAlign f).runs = c.runs := rfl
@[simp] theorem Core.updAlign_fires (f : Align → Align) : (c.updAlign f).fires = c.fires := rfl
@[simp] theorem Core.updAlign_lanes (f : Align → Align) : (c.updAlign f).lanes = c.lanes := rfl
@[simp] theorem Core.updAlign_returns (f : Align → Align) : (c.updAlign f).returns = c.returns := rfl
@[simp] theorem Core.updAlign_syncAt (f : Align → Align) : (c.updAlign f).syncAt = c.syncAt := rfl
@[simp] theorem Core.updAlign_syncs (f : Align → Align) : (c.updAlign f).syncs = c.syncs := rfl
@[simp] theorem Core.updAlign_scans (f : Align → Align) : (c.updAlign f).scans = c.scans := rfl
@[simp] theorem Core.updAlign_pages (f : Align → Align) : (c.updAlign f).pages = c.pages := rfl
@[simp] theorem Core.updAlign_sheets (f : Align → Align) : (c.updAlign f).sheets = c.sheets := rfl
@[simp] theorem Core.updAlign_drivePhase (f : Align → Align) : (c.updAlign f).drivePhase = c.drivePhase := rfl
@[simp] theorem Core.updAlign_driveCount (f : Align → Align) : (c.updAlign f).driveCount = c.driveCount := rfl
@[simp] theorem Core.updAlign_jobs (f : Align → Align) : (c.updAlign f).jobs = c.jobs := rfl
@[simp] theorem Core.updAlign_rcst (f : Align → Align) : (c.updAlign f).rcst = c.rcst := rfl
@[simp] theorem Core.updAlign_sprues (f : Align → Align) : (c.updAlign f).sprues = c.sprues := rfl
@[simp] theorem Core.updAlign_codecs (f : Align → Align) : (c.updAlign f).codecs = c.codecs := rfl
@[simp] theorem Core.updAlign_codecQueue (f : Align → Align) : (c.updAlign f).codecQueue = c.codecQueue := rfl
@[simp] theorem Core.updAlign_codecAborts (f : Align → Align) : (c.updAlign f).codecAborts = c.codecAborts := rfl
@[simp] theorem Core.updAlign_hub (f : Align → Align) : (c.updAlign f).hub = c.hub := rfl
@[simp] theorem Core.updAlign_rings (f : Align → Align) : (c.updAlign f).rings = c.rings := rfl
@[simp] theorem Core.updAlign_vectors (f : Align → Align) : (c.updAlign f).vectors = c.vectors := rfl
@[simp] theorem Core.updAlign_dmas (f : Align → Align) : (c.updAlign f).dmas = c.dmas := rfl
@[simp] theorem Core.updAlign_pcie (f : Align → Align) : (c.updAlign f).pcie = c.pcie := rfl
@[simp] theorem Core.updAlign_pcieCfg (f : Align → Align) : (c.updAlign f).pcieCfg = c.pcieCfg := rfl
@[simp] theorem Core.updAlign_dmaLast (f : Align → Align) : (c.updAlign f).dmaLast = c.dmaLast := rfl
@[simp] theorem Core.updAlign_clients (f : Align → Align) : (c.updAlign f).clients = c.clients := rfl
@[simp] theorem Core.updAlign_staged (f : Align → Align) : (c.updAlign f).staged = c.staged := rfl
@[simp] theorem Core.updAlign_commits (f : Align → Align) : (c.updAlign f).commits = c.commits := rfl
@[simp] theorem Core.updAlign_locks (f : Align → Align) : (c.updAlign f).locks = c.locks := rfl
@[simp] theorem Core.updAlign_audit (f : Align → Align) : (c.updAlign f).audit = c.audit := rfl
@[simp] theorem Core.updAlign_auditNext (f : Align → Align) : (c.updAlign f).auditNext = c.auditNext := rfl
@[simp] theorem Core.updAlign_reasms (f : Align → Align) : (c.updAlign f).reasms = c.reasms := rfl
@[simp] theorem Core.updAlign_cans (f : Align → Align) : (c.updAlign f).cans = c.cans := rfl
@[simp] theorem Core.updAlign_slots (f : Align → Align) : (c.updAlign f).slots = c.slots := rfl
@[simp] theorem Core.updAlign_loopMark (f : Align → Align) : (c.updAlign f).loopMark = c.loopMark := rfl
@[simp] theorem Core.updAlign_loopMarks (f : Align → Align) : (c.updAlign f).loopMarks = c.loopMarks := rfl
@[simp] theorem Core.updAlign_ainSeqs (f : Align → Align) : (c.updAlign f).ainSeqs = c.ainSeqs := rfl
@[simp] theorem Core.updAlign_ainTimed (f : Align → Align) : (c.updAlign f).ainTimed = c.ainTimed := rfl
@[simp] theorem Core.updAlign_loopFree (f : Align → Align) : (c.updAlign f).loopFree = c.loopFree := rfl
@[simp] theorem Core.updAlign_loopAt (f : Align → Align) : (c.updAlign f).loopAt = c.loopAt := rfl
@[simp] theorem Core.updAlign_gpioSeen (f : Align → Align) : (c.updAlign f).gpioSeen = c.gpioSeen := rfl
@[simp] theorem Core.updAlign_gpioIn (f : Align → Align) : (c.updAlign f).gpioIn = c.gpioIn := rfl
@[simp] theorem Core.updAlign_pwms (f : Align → Align) : (c.updAlign f).pwms = c.pwms := rfl
@[simp] theorem Core.updAlign_ptp (f : Align → Align) : (c.updAlign f).ptp = c.ptp := rfl
@[simp] theorem Core.updAlign_qd (f : Align → Align) : (c.updAlign f).qd = c.qd := rfl
@[simp] theorem Core.updAlign_faults (f : Align → Align) : (c.updAlign f).faults = c.faults := rfl
@[simp] theorem Core.updAlign_scopes (f : Align → Align) : (c.updAlign f).scopes = c.scopes := rfl
@[simp] theorem Core.updAlign_recoveries (f : Align → Align) : (c.updAlign f).recoveries = c.recoveries := rfl
@[simp] theorem Core.updAlign_recoverAt (f : Align → Align) : (c.updAlign f).recoverAt = c.recoverAt := rfl
@[simp] theorem Core.updAlign_rail (f : Align → Align) : (c.updAlign f).rail = c.rail := rfl
@[simp] theorem Core.updAlign_boot (f : Align → Align) : (c.updAlign f).boot = c.boot := rfl
@[simp] theorem Core.updAlign_nor (f : Align → Align) : (c.updAlign f).nor = c.nor := rfl
@[simp] theorem Core.updAlign_fw (f : Align → Align) : (c.updAlign f).fw = c.fw := rfl
@[simp] theorem Core.updAlign_get (f : Align → Align) (p : Obj) : (c.updAlign f).get p = c.get p := rfl

end

end Sys2Proof.Machine
end

