-- ==== Sys2Proof/Laws/Store.lean ====
section
/-! SUPPORT. Sys2Proof/Laws/Store.lean: the maps that hold the object store, DRAM and the tables: a put reads back, leaves
every other key alone, and keeps the canonical form. -/

namespace Sys2Proof.Machine

section
variable {α : Type}

theorem sget_sins_self (d : α) (a : Nat) (v : α) (m : List (Nat × α)) (h : ∀ p ∈ m, p.1 ≠ a) :
    sget d (sins a v m) a = v := by
  induction m with
  | nil => simp [sins, sget]
  | cons p r ih =>
    have hp := h p (by simp)
    simp only [sins]
    split
    · simp [sget]
    · simp only [sget, if_neg (Ne.symm hp)]
      exact ih fun q hq => h q (by simp [hq])

theorem sget_sins_other (d : α) (a b : Nat) (v : α) (m : List (Nat × α)) (h : b ≠ a) :
    sget d (sins a v m) b = sget d m b := by
  induction m with
  | nil => simp [sins, sget, h]
  | cons p r ih =>
    simp only [sins]
    split
    · simp [sget, h]
    · simp only [sget, ih]

theorem sget_filter_self (d : α) (a : Nat) (m : List (Nat × α)) :
    sget d (m.filter fun p => p.1 != a) a = d := by
  induction m with
  | nil => rfl
  | cons p r ih =>
    by_cases hp : p.1 = a
    · simp [hp, ih]
    · simp [hp, sget, Ne.symm hp, ih]

theorem sget_filter_other (d : α) (a b : Nat) (m : List (Nat × α)) (h : b ≠ a) :
    sget d (m.filter fun p => p.1 != a) b = sget d m b := by
  induction m with
  | nil => rfl
  | cons p r ih =>
    by_cases hp : p.1 = a
    · simp [hp, sget, h, ih]
    · simp [hp, sget, ih]

theorem mem_sins (a : Nat) (v : α) (m : List (Nat × α)) (p : Nat × α) : p ∈ sins a v m ↔ p = (a, v) ∨ p ∈ m := by
  induction m with
  | nil => simp [sins]
  | cons q r ih =>
    simp only [sins]
    split
    · simp
    · simp only [List.mem_cons, ih]
      constructor
      · rintro (h | h | h) <;> simp [h]
      · rintro (h | h | h) <;> simp [h]

theorem sins_ascending (a : Nat) (v : α) (m : List (Nat × α)) (h : (m.map Prod.fst).Pairwise (fun a b => a < b))
    (hn : ∀ p ∈ m, p.1 ≠ a) : ((sins a v m).map Prod.fst).Pairwise (fun a b => a < b) := by
  induction m with
  | nil => simp [sins]
  | cons q r ih =>
    simp only [List.map_cons, List.pairwise_cons] at h
    simp only [sins]
    split
    · rename_i hq
      simp only [List.map_cons, List.pairwise_cons, List.mem_cons]
      refine ⟨?_, h.1, h.2⟩
      rintro x (rfl | hx)
      · exact hq
      · exact Nat.lt_trans hq (h.1 x hx)
    · rename_i hq
      simp only [List.map_cons, List.pairwise_cons]
      refine ⟨?_, ih h.2 fun p hp => hn p (by simp [hp])⟩
      intro x hx
      obtain ⟨p, hp, rfl⟩ := List.mem_map.1 hx
      rcases (mem_sins a v r p).1 hp with rfl | hp
      · have := hn q (by simp)
        omega
      · exact h.1 _ (List.mem_map_of_mem hp)

theorem ascending_filter (a : Nat) (m : List (Nat × α)) (h : (m.map Prod.fst).Pairwise (fun a b => a < b)) :
    ((m.filter fun p => p.1 != a).map Prod.fst).Pairwise (fun a b => a < b) :=
  h.sublist (List.Sublist.map _ List.filter_sublist)

variable [DecidableEq α]

/-- A value that is put reads back. -/
theorem sget_sput_self (d : α) (m : List (Nat × α)) (a : Nat) (v : α) : sget d (sput d m a v) a = v := by
  unfold sput
  split
  · rename_i h; rw [sget_filter_self, h]
  · exact sget_sins_self d a v _ (by simp)

/-- A put leaves every other key alone, whatever default it is read with. -/
theorem sget_sput_other (d e : α) (m : List (Nat × α)) (a b : Nat) (v : α) (h : b ≠ a) :
    sget e (sput d m a v) b = sget e m b := by
  unfold sput
  dsimp only
  split
  · exact sget_filter_other e a b m h
  · rw [sget_sins_other e a b v _ h, sget_filter_other e a b m h]

/-- The canonical form, as its two parts. -/
theorem swf_iff (d : α) (m : List (Nat × α)) :
    swf d m = true ↔ (m.map Prod.fst).Pairwise (fun a b => a < b) ∧ ∀ p ∈ m, p.2 ≠ d := by
  induction m with
  | nil => simp [swf]
  | cons p r ih =>
    cases r with
    | nil => simp [swf]
    | cons q t =>
      simp only [swf, Bool.and_eq_true, decide_eq_true_eq, ih, List.map_cons, List.pairwise_cons, List.mem_cons]
      constructor
      · rintro ⟨⟨h1, h2⟩, ⟨h3, h4⟩, h5⟩
        refine ⟨⟨?_, h3, h4⟩, ?_⟩
        · rintro x (rfl | hx)
          · exact h2
          · exact Nat.lt_trans h2 (h3 x hx)
        · rintro x (rfl | hx)
          · exact h1
          · exact h5 x hx
      · rintro ⟨⟨h1, h2, h3⟩, h4⟩
        exact ⟨⟨h4 p (Or.inl rfl), h1 _ (Or.inl rfl)⟩, ⟨h2, h3⟩, fun x hx => h4 x (Or.inr hx)⟩

/-- A put keeps the ascending order. -/
theorem sput_ascending (d : α) (m : List (Nat × α)) (a : Nat) (v : α)
    (h : (m.map Prod.fst).Pairwise (fun a b => a < b)) : ((sput d m a v).map Prod.fst).Pairwise (fun a b => a < b) := by
  unfold sput
  dsimp only
  split
  · exact ascending_filter a m h
  · exact sins_ascending a v _ (ascending_filter a m h) (by simp)

/-- A put keeps the canonical form. -/
theorem sput_wf (d : α) (m : List (Nat × α)) (a : Nat) (v : α) (h : swf d m = true) : swf d (sput d m a v) = true := by
  rw [swf_iff] at h ⊢
  refine ⟨sput_ascending d m a v h.1, ?_⟩
  unfold sput
  dsimp only
  split
  · exact fun p hp => h.2 p ((List.mem_filter.1 hp).1)
  · rename_i hv
    intro p hp
    rcases (mem_sins a v _ p).1 hp with rfl | hp
    · exact hv
    · exact h.2 p ((List.mem_filter.1 hp).1)

/-- A run of puts keeps the canonical form. -/
theorem sputs_wf (d : α) (l : List α) (m : List (Nat × α)) (a : Nat) (h : swf d m = true) :
    swf d (sputs d m a l) = true := by
  induction l generalizing m a with
  | nil => exact h
  | cons v r ih => exact ih _ _ (sput_wf d m a v h)

end

/-- Storing bytes keeps DRAM canonical. -/
theorem dramPut_wf (m : List Host.Cell) (a : Nat) (l : List Byte) (h : Memory.wf m = true) :
    Memory.wf (dramPut m a l) = true := sputs_wf 0#8 l m a h

/-- The write of a requester keeps DRAM canonical. -/
theorem hubWrite_wf (c : Core) (m : List Host.Cell) (master a : Nat) (l : List Byte) (h : Memory.wf m = true) :
    Memory.wf (c.hubWrite m master a l).2.2 = true := by
  unfold Core.hubWrite
  dsimp only
  split
  · exact h
  · split
    · exact h
    · exact dramPut_wf _ _ _ h

/-- An object that is set reads as its value, cut to its width. -/
theorem get_set_self (c : Core) (o : Obj) (v : Nat) : (c.set o v).get o = v % 256 ^ o.bytes :=
  sget_sput_self _ _ _ _

/-- Setting an object leaves every other object alone. -/
theorem get_set_other (c : Core) (o p : Obj) (v : Nat) (h : p.key ≠ o.key) : (c.set o v).get p = c.get p :=
  sget_sput_other _ _ _ _ _ _ h

end Sys2Proof.Machine
end

