-- ==== Sys2Proof/Laws/Writes.lean ====
section
/-! SUPPORT. Sys2Proof/Laws/Writes.lean: values on the wire, and an accepted write of an object by a command. -/

namespace Sys2Proof.Machine

theorem natLE_bytesLE (n v : Nat) (h : v < 256 ^ n) : natLE (bytesLE n v) = v := by
  induction n generalizing v with
  | zero => simp at h; simp [bytesLE, natLE, h]
  | succ n ih =>
    have h1 : v / 256 < 256 ^ n := by
      rw [Nat.div_lt_iff_lt_mul (by decide)]
      rwa [Nat.pow_succ] at h
    simp only [bytesLE, natLE, ih _ h1, BitVec.toNat_ofNat]
    omega

theorem natBE_bytesBE (n v : Nat) (h : v < 256 ^ n) : natBE (bytesBE n v) = v := by
  simp only [natBE, bytesBE, List.reverse_reverse]
  exact natLE_bytesLE n v h

theorem length_bytesLE (n v : Nat) : (bytesLE n v).length = n := by
  induction n generalizing v with
  | zero => rfl
  | succ n ih => simp [bytesLE, ih]

theorem length_bytesBE (n v : Nat) : (bytesBE n v).length = n := by simp [bytesBE, length_bytesLE]

/-- A value other than a byte string is read from the wire as it was put there. -/
theorem wireValue_wireBytes (typ size v : Nat) (h10 : typ ≠ 10) (h7 : typ = 7 → size = 4) (h : v < 256 ^ size) :
    wireValue typ (wireBytes typ size v) = v := by
  unfold wireValue wireBytes
  simp only [if_neg h10]
  split
  · rename_i h'
    rw [h7 h'] at h
    have hl : (bytesBE 3 (v % 2 ^ 24)).length = 3 := length_bytesBE _ _
    rw [List.take_append_of_le_length (by omega), List.take_of_length_le (by omega), List.drop_append_of_le_length (by omega),
      List.drop_of_length_le (by omega), List.nil_append, natBE_bytesBE _ _ (by omega), natBE_bytesBE _ _ (by omega)]
    omega
  · exact natBE_bytesBE _ _ h

/-- An accepted write of an object whose action is known. -/
theorem put_answered (o : Obj) (a : Acc) (d : Desc) (w : Writer) (v : Nat) (s : State)
    (act : Core → List Host.Cell → Core × List Host.Cell) (hrow : Row o a d)
    (hplain : o.key / 256 < 0x4000 ∨ 0x4400 ≤ o.key / 256 ∨ o.key % 256 ≠ 1) (hacc : Accepts s w d v)
    (hact : ∀ (e : Core) (m : List Host.Cell), writeEffect w d 0 (wireBytes d.typ d.obj.bytes v) e m = act e m) :
    runPut true s w o v =
      .next { s with core := finish (answered w d v act s).1, dram := (answered w d v act s).2 } := by
  obtain ⟨hd, ho, -, -, -⟩ := hrow
  obtain ⟨hl, hs, hb, hc⟩ := hacc
  unfold runPut
  rw [runMem_live _ _ _ _ rfl hl]
  have : serverPut w o v s.core s.dram = answered w d v act s := by
    unfold serverPut
    rw [hd]
    dsimp only
    rw [serverWrite_ok w _ _ 0 0 _ s.core s.dram d hs hb ((resolve_plain _ _ _ hplain).trans hd) hc]
    simp only [hact, answered]
  rw [this]

/-- The whole value of a write of an object that is not a byte string. -/
theorem writeWhole_value (c : Core) (o : Obj) (a : Acc) (d : Desc) (v : Nat) (hrow : Row o a d) (hv : v < 256 ^ o.bytes) :
    writeWhole c d 0 (wireBytes d.typ d.obj.bytes v) = v := by
  obtain ⟨-, ho, -, ht, h7⟩ := hrow
  unfold writeWhole
  rw [if_neg ht, ho]
  exact wireValue_wireBytes _ _ _ ht h7 hv

end Sys2Proof.Machine
end

