-- ==== Sys2Proof/Tests/Slice0.lean ====
section
/-! SUPPORT. Sys2Proof/Tests/Slice0.lean: for every hypothesis of the statements a machine and operands that meet it (met_…),
an ill-formed command for each check of well-formedness, and worked examples of the spec (test_…). -/

namespace Sys2Proof.Tests
open Sys2Proof Sys2Proof.Machine
set_option Elab.async false

/-- A machine that has booted: out of reset, every domain usable, in STANDBY. -/
def up : Core :=
  ((({ boot := { inReset := false, step := 9 } } : Core).set K.devPdStatus 0x1FFFF).set K.devPdEnable 0x1FFFF).set K.devState 2

def state (c : Core) : State := { pending := [], core := c, dram := [] }

def me : Writer := { transport := 1, addr := 0, client := 7 }

def row (o : Obj) : Desc := (descOf (o.key / 256) (o.key % 256)).getD ⟨o, 0, .ro, .any, false⟩

/-- List 0 armed on synthesiser 0 with one entry, of the action given, that is reached. -/
def cueCore (action : Nat) : Core :=
  let e := 2 ^ 80 + action * 2 ^ 64
  { (((up.set (K.cueListState 0) 1).set (K.cueEntry 0) e).set (K.cueListClock 0) 0) with
    lists := upd up.lists 0 fun (x : CueList) => { x with entry := e } }

/-- Channel 0 RUNNING at position 0, with its boundary of line 0 still to come. -/
def running : Core := (up.set (K.chState 0) 3).set (K.chLineHigh 0) (2 ^ 40 - 1)

/-- Channel 0 RUNNING with a contone line in the Flask. -/
def coreLined : Core :=
  ((running.set (K.chFlaskWrite 0) 4).set (K.chLineHigh 0) 0).updJob 0 fun (x : ChJob) =>
    { x with jobs := [{ uid := 1, id := 1, state := 2, lines := 10 }] }

/-- Lane 0 UP with block lock. -/
def coreHearing : Core := (up.set (K.klState 0) 3).updLane 0 fun (x : Lane) => { x with locked := true }

/-- A raw band of one line of 8 bytes, not yet placed. -/
def aBand : Band :=
  { uid := 2, job := 1, seq := 1, raw := true, src := 0x1000, length := 8, crc := 0, start := 0, lines := 1, repeats := 0, pageMask := 0, page := 0, quiet := false, pageEnd := false, jobEnd := false, verify := false, resident := false }

/-- A compressor job of one line of 64 bytes. -/
def aJob : List Byte :=
  [1, 0, 0, 0] ++ bytesLE 4 64 ++ bytesLE 8 0x10000 ++ bytesLE 4 1 ++ bytesLE 4 64 ++ bytesLE 8 0x20000 ++ bytesLE 4 64 ++
    [1, 0] ++ List.replicate 26 0

/-- The hub trained: requests are granted. -/
def coreHub : Core := (up.updHub fun (h : Hub) => { h with granted := true }).set K.hubTrainState 2

/-- A descriptor of a DMA channel: a linear copy of n bytes between DRAM addresses, with flags and link. -/
def aDesc (flags n link : Nat) : List Byte :=
  [1, BitVec.ofNat 8 flags, 0, 0] ++ bytesLE 4 0x77 ++ bytesLE 8 0x1000 ++ bytesLE 8 0x2000 ++ bytesLE 4 n ++ bytesLE 28 0 ++ bytesLE 8 link

/-- DMA channel 0 with a chain of two copies in the state given. -/
def dmaCore (state flags : Nat) : Core :=
  { coreHub with dmas := upd coreHub.dmas 0 fun (x : Dma) =>
      { x with state := state, chain := [{ addr := 0x8000, bytes := aDesc flags 16 0x9000 }, { addr := 0x9000, bytes := aDesc 12 16 1 }] } }

/-- A message of the grandmaster 5, sequence 1. -/
def aMsg : PtpMsg :=
  { domain := 0, srcId := 5, srcPort := 1, seq := 1, rxTime := 0, correction := 0, twoStep := false, origin := 0, reqId := 0, reqPort := 1, priority1 := 1, clockClass := 6, accuracy := 0x21, variance := 0, priority2 := 1, gmId := 5, stepsRemoved := 0, logInterval := 0, utcOffset := 37 }

/-- PTP running on port 0. -/
def corePtp : Core := ((up.set K.timeMode 1).set K.timePtpPort 0).updPtp fun (x : Ptp) => { x with run := true }

/-- PTP a slave of grandmaster 5. -/
def coreSlave : Core := (corePtp.set K.timePtpState 9).updPtp fun (x : Ptp) => { x with parent := some (5, 1) }

/-- A delay table of 64 bands, 80 ps apart and 200 ps wide. -/
def aTable : Nat := natLE ((List.range 64).flatMap fun (j : Nat) => bytesLE 4 (800 * j * 65536 + 20000))

/-- The Quadrille running; this device has address 0, and its peer 1. -/
def coreQd : Core := ((up.set K.qdEnable 1).set K.qdAddr 0).set K.qdPeers 3

/-- A step record of device 1. -/
def aRec : QdRec :=
  { addr := 1, stepNo := 1, rev := 0, state := 0, flags := 0, prop := 0xFF000000, step := 0xFF000000, fw := 1, serial := 9, digest := 0, tFall := 0, tRisePrev := 0, pFall := 0 }

/-- The clock identity of this device has FFFEH in its middle. -/
theorem midLt (a b : Nat) : 5 < a * 2 ^ 40 + 0xFFFE * 2 ^ 24 + b := by omega
theorem fiveLt (c : Core) : 5 < c.ownClock := midLt _ _

theorem met_encEdge : ∃ (s : State) (c : Core) (n : Nat) (a : Bool) (b : Bool),
    c = s.core ∧
    n < 4 ∧
    Live s 4 ∧
    c.get (K.encSource n) = 0 ∧
    (a != (nth c.encs n).a) != (b != (nth c.encs n).b) :=
  ⟨state up, up, 0, true, false,
    rfl, by decide +kernel, by decide +kernel, by decide +kernel, by decide +kernel⟩

def coreEncUnreliable : Core :=
  { (up.set (K.encDoubleLimit 0) 0) with encs := upd up.encs 0 fun x => { x with doubles := [0] } }

theorem met_encUnreliable : ∃ (s : State) (c : Core) (n : Nat),
    c = s.core ∧
    n < 4 ∧
    Live s 4 ∧
    c.get (K.encDoubleLimit n) < doublesInWindow c n ∧
    c.bitOf (K.encStatus n) 2 = false :=
  ⟨state coreEncUnreliable, coreEncUnreliable, 0,
    rfl, by decide +kernel, by decide +kernel, by decide +kernel, by decide +kernel⟩

def coreEncIndex : Core :=
  { up with encs := upd up.encs 0 fun x => { x with abAt := some 0 } }

theorem met_encIndex : ∃ (s : State) (c : Core) (n : Nat) (z : Bool),
    c = s.core ∧
    n < 4 ∧
    Live s 4 ∧
    z = true ∧
    c.bitOf (K.encInvert n) 1 = false ∧
    (nth c.encs n).z = false ∧
    (nth c.encs n).abAt = some c.sample :=
  ⟨state coreEncIndex, coreEncIndex, 0, true,
    rfl, by decide +kernel, by decide +kernel, by decide +kernel, by decide +kernel, by decide +kernel, by decide +kernel⟩

def coreSposRequest : Core :=
  up.set (K.sposEnable 0) 1

theorem met_sposRequest : ∃ (s : State) (c : Core) (n : Nat) (dataHigh : Bool),
    c = s.core ∧
    n < 4 ∧
    Live s 4 ∧
    dataHigh = true ∧
    c.get (K.sposEnable n) = 1 ∧
    (nth c.sposs n).nextReq ≤ c.sample :=
  ⟨state coreSposRequest, coreSposRequest, 0, true,
    rfl, by decide +kernel, by decide +kernel, by decide +kernel, by decide +kernel, by decide +kernel⟩

def coreSposWord : Core :=
  { (up.set (K.sposCrcSel 0) 0 |>.set (K.sposStatusBits 0) 0 |>.set (K.sposMaxStep 0) 0) with sposs := upd up.sposs 0 fun x => { x with req := some (5, 7) } }

theorem met_sposWord : ∃ (s : State) (c : Core) (n : Nat) (startClocks : Nat) (delay : Nat) (stamp : Nat) (t0 : Nat),
    c = s.core ∧
    n < 4 ∧
    Live s 4 ∧
    (nth c.sposs n).req = some (stamp, t0) ∧
    (nth c.sposs n).wordDone = false ∧
    startClocks ≤ c.get (K.sposStartTimeout n) ∧
    delay ≤ 2000 ∧
    c.get (K.sposCrcSel n) = 0 ∧
    c.get (K.sposStatusBits n) = 0 ∧
    c.get (K.sposMaxStep n) = 0 :=
  ⟨state coreSposWord, coreSposWord, 0, 0, 0, 5, 7,
    rfl, by decide +kernel, by decide +kernel, by decide +kernel, by decide +kernel, by decide +kernel, by decide +kernel, by decide +kernel, by decide +kernel, by decide +kernel⟩

def coreSposWordTimeout : Core :=
  { up with sample := 1000000, sposs := upd up.sposs 0 fun x => { x with req := some (5, 7), wordDone := true } }

theorem met_sposWordTimeout : ∃ (s : State) (c : Core) (n : Nat) (stamp : Nat) (t0 : Nat),
    c = s.core ∧
    n < 4 ∧
    Live s 4 ∧
    (nth c.sposs n).req = some (stamp, t0) ∧
    (nth c.sposs n).timeoutDone = false ∧
    (nth c.sposs n).wordDone = true ∧
    stamp + c.get (K.sposWordTimeout n) / 5 ≤ c.sample :=
  ⟨state coreSposWordTimeout, coreSposWordTimeout, 0, 5, 7,
    rfl, by decide +kernel, by decide +kernel, by decide +kernel, by decide +kernel, by decide +kernel, by decide +kernel⟩

def coreSposLost : Core :=
  { up with sposs := upd up.sposs 0 fun x => { x with badRun := 1000 } }

theorem met_sposLost : ∃ (s : State) (c : Core) (n : Nat),
    c = s.core ∧
    n < 4 ∧
    Live s 4 ∧
    (nth c.sposs n).lostRaised = false ∧
    c.get (K.sposErrorLimit n) ≤ (nth c.sposs n).badRun :=
  ⟨state coreSposLost, coreSposLost, 0,
    rfl, by decide +kernel, by decide +kernel, by decide +kernel, by decide +kernel⟩

def corePassOverrun : Core :=
  { (up.set (K.passMode 0) 2) with passes := upd up.passes 0 fun x => { x with overrunDone := false, left := 3 } }

theorem met_passOverrun : ∃ (s : State) (c : Core) (p : Nat),
    c = s.core ∧
    p < 2 ∧
    Live s 4 ∧
    c.get (K.passMode p) = 2 ∧
    (nth c.passes p).overrunDone = false ∧
    (nth c.passes p).left ≠ 0 ∧
    (nth c.passes p).start + (nth c.passes p).len ≤ c.sample :=
  ⟨state corePassOverrun, corePassOverrun, 0,
    rfl, by decide +kernel, by decide +kernel, by decide +kernel, by decide +kernel, by decide +kernel, by decide +kernel⟩

def coreCompareTarget : Core :=
  { (up.set (K.cmpMode 0) 1) with cmps := upd up.cmps 0 fun x => { x with armed := true } }

theorem met_compareTarget : ∃ (s : State) (c : Core) (n : Nat) (d : Core),
    c = s.core ∧
    n < 8 ∧
    Live s 4 ∧
    (nth c.cmps n).armed = true ∧
    c.get (K.cmpMode n) = 1 ∧
    d = cmpCross c n (nth c.cmps n).k (targetsUpTo (cmpPitch c n) (cmpDist c n (nth c.cmps n).k (cmpPos c n))) (targetsUpTo (cmpPitch c n) (cmpDist c n (nth c.cmps n).k (nth c.cmps n).high - 1)) ∧
    (d.get (K.cmpCount n) = 0 ∨ d.get (K.cmpFired n) < d.get (K.cmpCount n)) :=
  ⟨state coreCompareTarget, coreCompareTarget, 0, cmpCross coreCompareTarget 0 (nth coreCompareTarget.cmps 0).k (targetsUpTo (cmpPitch coreCompareTarget 0) (cmpDist coreCompareTarget 0 (nth coreCompareTarget.cmps 0).k (cmpPos coreCompareTarget 0))) (targetsUpTo (cmpPitch coreCompareTarget 0) (cmpDist coreCompareTarget 0 (nth coreCompareTarget.cmps 0).k (nth coreCompareTarget.cmps 0).high - 1)),
    rfl, by decide +kernel, by decide +kernel, by decide +kernel, by decide +kernel, rfl, by decide +kernel⟩

def coreCmpPulse : Core :=
  { (up.set (K.cmpMode 0) 2 |>.set (K.cueEntry 0) (1000 + 0x0C * 2 ^ 64 + 2 ^ 80)) with cmps := upd up.cmps 0 fun x => { x with armed := true } }

theorem met_cmpPulse : ∃ (s : State) (c : Core) (n : Nat) (k2 : Nat) (kh : Nat),
    c = s.core ∧
    n < 8 ∧
    Live s 4 ∧
    (nth c.cmps n).armed = true ∧
    c.get (K.cmpMode n) = 2 ∧
    k2 = cmpListIndex c n (cmpListTargets c n) (cmpPos c n) (nth c.cmps n).k ∧
    kh = cmpListForward c n (cmpListTargets c n) (posAdd (nth c.cmps n).high (-1)) 4096 (nth c.cmps n).k ∧
    cmpListHas (cmpCross c n (nth c.cmps n).k k2 kh) n (cmpListTargets c n) k2 = true :=
  ⟨state coreCmpPulse, coreCmpPulse, 0, cmpListIndex coreCmpPulse 0 (cmpListTargets coreCmpPulse 0) (cmpPos coreCmpPulse 0) (nth coreCmpPulse.cmps 0).k, cmpListForward coreCmpPulse 0 (cmpListTargets coreCmpPulse 0) (posAdd (nth coreCmpPulse.cmps 0).high (-1)) 4096 (nth coreCmpPulse.cmps 0).k,
    rfl, by decide +kernel, by decide +kernel, by decide +kernel, by decide +kernel, rfl, rfl, by decide +kernel⟩

def coreCmpPulseEnd : Core :=
  { up with cmps := upd up.cmps 0 fun x => { x with pulseEnd := some 0 } }

theorem met_cmpPulseEnd : ∃ (s : State) (c : Core) (n : Nat) (t : Nat),
    c = s.core ∧
    n < 8 ∧
    Live s 4 ∧
    (nth c.cmps n).pulseEnd = some t ∧
    t ≤ c.sample ∧
    (nth c.cmps n).deferred = [] :=
  ⟨state coreCmpPulseEnd, coreCmpPulseEnd, 0, 0,
    rfl, by decide +kernel, by decide +kernel, by decide +kernel, by decide +kernel, by decide +kernel⟩

def coreCmpCapture : Core :=
  (up.set (K.cmpMode 0) 3).set (K.cmpCaptEdge 0) 3

theorem met_cmpCapture : ∃ (s : State) (c : Core) (n : Nat) (pos : Nat) (time : Nat) (chPos : Nat),
    c = s.core ∧
    n < 8 ∧
    Live s 4 ∧
    c.get (K.cmpMode n) = 3 ∧
    c.get (K.cmpCaptEdge n) = 3 ∧
    (nth c.cmps n).captured = false ∧
    (nth c.cmps n).history.getD (c.get (K.cmpCaptFilter n)) (cmpPos c n, c.now, c.chPos (c.get (K.cmpRingCh n))) = (pos, time, chPos) :=
  ⟨state coreCmpCapture, coreCmpCapture, 0, 0, 0, 0,
    rfl, by decide +kernel, by decide +kernel, by decide +kernel, by decide +kernel, by decide +kernel, by decide +kernel⟩

theorem met_encRawPulse : ∃ (s : State) (c : Core) (n : Nat),
    c = s.core ∧
    n < 4 ∧
    Live s 4 :=
  ⟨state up, up, 0,
    rfl, by decide +kernel, by decide +kernel⟩

def coreLcTrackExit : Core :=
  (up.set (K.lcEnable 0) 1 |>.set (K.lcStatus 0) 1 |>.set (K.lcRatio 0) (2 ^ 40))

theorem met_lcTrackExit : ∃ (s : State) (c : Core) (n : Nat),
    c = s.core ∧
    n < 4 ∧
    Live s 4 ∧
    lcOn c n = true ∧
    lcTrack c n = true ∧
    (nth c.lcs n).v.natAbs * 200000000 < c.get (K.lcSlowRate n) * c.get (K.lcRatio n) * 2 ^ 32 :=
  ⟨state coreLcTrackExit, coreLcTrackExit, 0,
    rfl, by decide +kernel, by decide +kernel, by decide +kernel, by decide +kernel, by decide +kernel⟩

def coreLcStill : Core :=
  { (up.set (K.lcEnable 0) 1) with sample := 2 ^ 50 }

theorem met_lcStill : ∃ (s : State) (c : Core) (n : Nat),
    c = s.core ∧
    n < 4 ∧
    Live s 4 ∧
    lcOn c n = true ∧
    lcTrack c n = false ∧
    c.bitOf (K.lcStatus n) 4 = false ∧
    (nth c.lcs n).lastChange + c.get (K.lcStillTime n) * 200 ≤ c.sample :=
  ⟨state coreLcStill, coreLcStill, 0,
    rfl, by decide +kernel, by decide +kernel, by decide +kernel, by decide +kernel, by decide +kernel, by decide +kernel⟩

def coreLcUnlock : Core :=
  { (up.set (K.lcEnable 0) 1 |>.set (K.lcStatus 0) 3) with lcs := upd up.lcs 0 fun x => { x with e := 2 ^ 60 } }

theorem met_lcUnlock : ∃ (s : State) (c : Core) (n : Nat),
    c = s.core ∧
    n < 4 ∧
    Live s 4 ∧
    lcOn c n = true ∧
    lcTrack c n = true ∧
    c.bitOf (K.lcStatus n) 1 = true ∧
    c.get (K.lcUnlockTol n) * 2 ^ 32 < (nth c.lcs n).e.natAbs :=
  ⟨state coreLcUnlock, coreLcUnlock, 0,
    rfl, by decide +kernel, by decide +kernel, by decide +kernel, by decide +kernel, by decide +kernel, by decide +kernel⟩

def coreLcRelock : Core :=
  { (up.set (K.lcEnable 0) 1 |>.set (K.lcStatus 0) 1) with sample := 2 ^ 50, lcs := upd up.lcs 0 fun x => { x with okSince := some 0 } }

theorem met_lcRelock : ∃ (s : State) (c : Core) (n : Nat),
    c = s.core ∧
    n < 4 ∧
    Live s 4 ∧
    lcSteady c n = true ∧
    c.bitOf (K.lcStatus n) 1 = false :=
  ⟨state coreLcRelock, coreLcRelock, 0,
    rfl, by decide +kernel, by decide +kernel, by decide +kernel, by decide +kernel⟩

theorem met_lcSettled : ∃ (s : State) (c : Core) (n : Nat),
    c = s.core ∧
    n < 4 ∧
    Live s 4 ∧
    lcSteady c n = true :=
  ⟨state coreLcRelock, coreLcRelock, 0,
    rfl, by decide +kernel, by decide +kernel, by decide +kernel⟩

def coreNop : Core :=
  cueCore 0

theorem met_nop : ∃ (s : State) (c : Core) (k : Nat) (j : Nat) (e : Nat),
    c = s.core ∧
    k < 16 ∧
    Live s 4 ∧
    cueOnChannel c k = false ∧
    cueOnCapture (cueWalk k c) k = false ∧
    cuesFrozen c = false ∧
    cueReachedAt (cueWalk k c) k (cueClock (cueWalk k c) k).1 = some (j, e) ∧
    cueAction e = 0 :=
  ⟨state coreNop, coreNop, 0, 0, 2 ^ 80 + 0 * 2 ^ 64,
    rfl, by decide +kernel, by decide +kernel, by decide +kernel, by decide +kernel, by decide +kernel, by decide +kernel, by decide +kernel⟩

def coreToneSwap : Core :=
  cueCore 1

theorem met_toneSwap : ∃ (s : State) (c : Core) (k : Nat) (j : Nat) (e : Nat),
    c = s.core ∧
    k < 16 ∧
    Live s 4 ∧
    cueOnChannel c k = false ∧
    cueOnCapture (cueWalk k c) k = false ∧
    cuesFrozen c = false ∧
    cueReachedAt (cueWalk k c) k (cueClock (cueWalk k c) k).1 = some (j, e) ∧
    cueAction e = 1 :=
  ⟨state coreToneSwap, coreToneSwap, 0, 0, 2 ^ 80 + 1 * 2 ^ 64,
    rfl, by decide +kernel, by decide +kernel, by decide +kernel, by decide +kernel, by decide +kernel, by decide +kernel, by decide +kernel⟩

def coreCommit : Core :=
  cueCore 2

theorem met_commit : ∃ (s : State) (c : Core) (k : Nat) (j : Nat) (e : Nat),
    c = s.core ∧
    k < 16 ∧
    Live s 4 ∧
    cueOnChannel c k = false ∧
    cueOnCapture (cueWalk k c) k = false ∧
    cuesFrozen c = false ∧
    cueReachedAt (cueWalk k c) k (cueClock (cueWalk k c) k).1 = some (j, e) ∧
    cueAction e = 2 :=
  ⟨state coreCommit, coreCommit, 0, 0, 2 ^ 80 + 2 * 2 ^ 64,
    rfl, by decide +kernel, by decide +kernel, by decide +kernel, by decide +kernel, by decide +kernel, by decide +kernel, by decide +kernel⟩

def coreDevCommit : Core :=
  cueCore 3

theorem met_devCommit : ∃ (s : State) (c : Core) (k : Nat) (j : Nat) (e : Nat),
    c = s.core ∧
    k < 16 ∧
    Live s 4 ∧
    cueOnChannel c k = false ∧
    cueOnCapture (cueWalk k c) k = false ∧
    cuesFrozen c = false ∧
    cueReachedAt (cueWalk k c) k (cueClock (cueWalk k c) k).1 = some (j, e) ∧
    cueAction e = 3 :=
  ⟨state coreDevCommit, coreDevCommit, 0, 0, 2 ^ 80 + 3 * 2 ^ 64,
    rfl, by decide +kernel, by decide +kernel, by decide +kernel, by decide +kernel, by decide +kernel, by decide +kernel, by decide +kernel⟩

def coreLoopSample : Core :=
  cueCore 4

theorem met_loopSample : ∃ (s : State) (c : Core) (k : Nat) (j : Nat) (e : Nat),
    c = s.core ∧
    k < 16 ∧
    Live s 4 ∧
    cueOnChannel c k = false ∧
    cueOnCapture (cueWalk k c) k = false ∧
    cuesFrozen c = false ∧
    cueReachedAt (cueWalk k c) k (cueClock (cueWalk k c) k).1 = some (j, e) ∧
    cueAction e = 4 :=
  ⟨state coreLoopSample, coreLoopSample, 0, 0, 2 ^ 80 + 4 * 2 ^ 64,
    rfl, by decide +kernel, by decide +kernel, by decide +kernel, by decide +kernel, by decide +kernel, by decide +kernel, by decide +kernel⟩

def coreLoopBank : Core :=
  cueCore 5

theorem met_loopBank : ∃ (s : State) (c : Core) (k : Nat) (j : Nat) (e : Nat),
    c = s.core ∧
    k < 16 ∧
    Live s 4 ∧
    cueOnChannel c k = false ∧
    cueOnCapture (cueWalk k c) k = false ∧
    cuesFrozen c = false ∧
    cueReachedAt (cueWalk k c) k (cueClock (cueWalk k c) k).1 = some (j, e) ∧
    cueAction e = 5 :=
  ⟨state coreLoopBank, coreLoopBank, 0, 0, 2 ^ 80 + 5 * 2 ^ 64,
    rfl, by decide +kernel, by decide +kernel, by decide +kernel, by decide +kernel, by decide +kernel, by decide +kernel, by decide +kernel⟩

def coreAdcTrigger : Core :=
  cueCore 6

theorem met_adcTrigger : ∃ (s : State) (c : Core) (k : Nat) (j : Nat) (e : Nat),
    c = s.core ∧
    k < 16 ∧
    Live s 4 ∧
    cueOnChannel c k = false ∧
    cueOnCapture (cueWalk k c) k = false ∧
    cuesFrozen c = false ∧
    cueReachedAt (cueWalk k c) k (cueClock (cueWalk k c) k).1 = some (j, e) ∧
    cueAction e = 6 :=
  ⟨state coreAdcTrigger, coreAdcTrigger, 0, 0, 2 ^ 80 + 6 * 2 ^ 64,
    rfl, by decide +kernel, by decide +kernel, by decide +kernel, by decide +kernel, by decide +kernel, by decide +kernel, by decide +kernel⟩

def coreGpio : Core :=
  cueCore 7

theorem met_gpio : ∃ (s : State) (c : Core) (k : Nat) (j : Nat) (e : Nat),
    c = s.core ∧
    k < 16 ∧
    Live s 4 ∧
    cueOnChannel c k = false ∧
    cueOnCapture (cueWalk k c) k = false ∧
    cuesFrozen c = false ∧
    cueReachedAt (cueWalk k c) k (cueClock (cueWalk k c) k).1 = some (j, e) ∧
    cueAction e = 7 :=
  ⟨state coreGpio, coreGpio, 0, 0, 2 ^ 80 + 7 * 2 ^ 64,
    rfl, by decide +kernel, by decide +kernel, by decide +kernel, by decide +kernel, by decide +kernel, by decide +kernel, by decide +kernel⟩

def coreEvent : Core :=
  cueCore 8

theorem met_event : ∃ (s : State) (c : Core) (k : Nat) (j : Nat) (e : Nat),
    c = s.core ∧
    k < 16 ∧
    Live s 4 ∧
    cueOnChannel c k = false ∧
    cueOnCapture (cueWalk k c) k = false ∧
    cuesFrozen c = false ∧
    cueReachedAt (cueWalk k c) k (cueClock (cueWalk k c) k).1 = some (j, e) ∧
    cueAction e = 8 :=
  ⟨state coreEvent, coreEvent, 0, 0, 2 ^ 80 + 8 * 2 ^ 64,
    rfl, by decide +kernel, by decide +kernel, by decide +kernel, by decide +kernel, by decide +kernel, by decide +kernel, by decide +kernel⟩

def coreListArm : Core :=
  cueCore 9

theorem met_listArm : ∃ (s : State) (c : Core) (k : Nat) (j : Nat) (e : Nat),
    c = s.core ∧
    k < 16 ∧
    Live s 4 ∧
    cueOnChannel c k = false ∧
    cueOnCapture (cueWalk k c) k = false ∧
    cuesFrozen c = false ∧
    cueReachedAt (cueWalk k c) k (cueClock (cueWalk k c) k).1 = some (j, e) ∧
    cueAction e = 9 :=
  ⟨state coreListArm, coreListArm, 0, 0, 2 ^ 80 + 9 * 2 ^ 64,
    rfl, by decide +kernel, by decide +kernel, by decide +kernel, by decide +kernel, by decide +kernel, by decide +kernel, by decide +kernel⟩

def coreRecastReq : Core :=
  cueCore 10

theorem met_recastReq : ∃ (s : State) (c : Core) (k : Nat) (j : Nat) (e : Nat),
    c = s.core ∧
    k < 16 ∧
    Live s 4 ∧
    cueOnChannel c k = false ∧
    cueOnCapture (cueWalk k c) k = false ∧
    cuesFrozen c = false ∧
    cueReachedAt (cueWalk k c) k (cueClock (cueWalk k c) k).1 = some (j, e) ∧
    cueAction e = 10 :=
  ⟨state coreRecastReq, coreRecastReq, 0, 0, 2 ^ 80 + 10 * 2 ^ 64,
    rfl, by decide +kernel, by decide +kernel, by decide +kernel, by decide +kernel, by decide +kernel, by decide +kernel, by decide +kernel⟩

def corePageStart : Core :=
  cueCore 11

theorem met_pageStart : ∃ (s : State) (c : Core) (k : Nat) (j : Nat) (e : Nat),
    c = s.core ∧
    k < 16 ∧
    Live s 4 ∧
    cueOnChannel c k = false ∧
    cueOnCapture (cueWalk k c) k = false ∧
    cuesFrozen c = false ∧
    cueReachedAt (cueWalk k c) k (cueClock (cueWalk k c) k).1 = some (j, e) ∧
    cueAction e = 11 :=
  ⟨state corePageStart, corePageStart, 0, 0, 2 ^ 80 + 11 * 2 ^ 64,
    rfl, by decide +kernel, by decide +kernel, by decide +kernel, by decide +kernel, by decide +kernel, by decide +kernel, by decide +kernel⟩

theorem met_lineBoundary : ∃ (s : State) (c : Core) (n : Nat),
    c = s.core ∧
    n < 8 ∧
    Live s (7 + n) ∧
    c.get (K.chState n) = 3 ∧
    (nth c.jobs n).holdReq = false ∧
    (nth c.lines n).boundAt ≠ some c.sample ∧
    reached (c.chPos n) (256 * (c.get (K.chLineHigh n) + 1) % posMod) = true :=
  ⟨state running, running, 0,
    rfl, by decide +kernel, by decide +kernel, by decide +kernel, by decide +kernel, by decide +kernel, by decide +kernel⟩

def coreFireIssue : Core :=
  { running with fires := upd running.fires 0 fun x => { x with pending := [{ line := 5, row := 0, group := 0, pos := 0, due := some 8000 }] } }

theorem met_fireIssue : ∃ (s : State) (c : Core) (n : Nat) (x : FireEv) (rest : List FireEv) (tF : Int) (ks : List Nat),
    c = s.core ∧
    n < 8 ∧
    Live s (7 + n) ∧
    (nth (fireMark n (dropReversed n c)).fires n).pending = x :: rest ∧
    x.due = some tF ∧
    (ks = (List.range 4).filter (fun (k : Nat) => (fireMark n (dropReversed n c)).laneHasGroup n k x.row x.group)) ∧
    ((ks.any fun (k : Nat) => (fireMark n (dropReversed n c)).laneUp (4 * n + k) && !(nth (fireMark n (dropReversed n c)).lanes (4 * n + k)).framed.contains x.line) = false) :=
  ⟨state coreFireIssue, coreFireIssue, 0, ({ line := 5, row := 0, group := 0, pos := 0, due := some 8000 } : FireEv), [], 8000, (List.range 4).filter (fun (k : Nat) => (fireMark 0 (dropReversed 0 coreFireIssue)).laneHasGroup 0 k (({ line := 5, row := 0, group := 0, pos := 0, due := some 8000 } : FireEv)).row (({ line := 5, row := 0, group := 0, pos := 0, due := some 8000 } : FireEv)).group),
    rfl, by decide +kernel, by decide +kernel, by decide +kernel, by decide +kernel, rfl, by decide +kernel⟩

def coreFlaskReadDone : Core :=
  coreLined.updHub fun h => { h with granted := true }

theorem met_flaskReadDone : ∃ (s : State) (c : Core) (n : Nat) (line : Nat) (burst : Nat) (late : Bool),
    c = s.core ∧
    n < 8 ∧
    Live s (7 + n) ∧
    c.hubWaits = false ∧
    late = false ∧
    line < c.get (K.chFlaskWrite n) ∧
    c.released n ≤ line ∧
    64 * burst < c.lineBytes n ∧
    c.get (K.chState n) = 3 :=
  ⟨state coreFlaskReadDone, coreFlaskReadDone, 0, 0, 0, false,
    rfl, by decide +kernel, by decide +kernel, by decide +kernel, by decide +kernel, by decide +kernel, by decide +kernel, by decide +kernel, by decide +kernel⟩

def coreToneDrainEnd : Core :=
  up.set (K.chToneState 0) 1

theorem met_toneDrainEnd : ∃ (s : State) (c : Core) (n : Nat),
    c = s.core ∧
    n < 8 ∧
    Live s (7 + n) ∧
    c.draining n = true ∧
    c.get (K.chState n) ≠ 4 ∧
    (nth c.imgs n).swapLine + c.dMax n ≤ c.get (K.chLineHigh n) :=
  ⟨state coreToneDrainEnd, coreToneDrainEnd, 0,
    rfl, by decide +kernel, by decide +kernel, by decide +kernel, by decide +kernel, by decide +kernel⟩

def coreToneCopyDone : Core :=
  { up with imgs := upd up.imgs 0 fun x => { x with copyRun := true } }

theorem met_toneCopyDone : ∃ (s : State) (c : Core) (n : Nat),
    c = s.core ∧
    n < 8 ∧
    Live s (7 + n) ∧
    (nth c.imgs n).copyRun = true ∧
    (nth c.imgs n).copyEnd ≤ c.sample :=
  ⟨state coreToneCopyDone, coreToneCopyDone, 0,
    rfl, by decide +kernel, by decide +kernel, by decide +kernel, by decide +kernel⟩

def coreNozResyncDone : Core :=
  up.set (K.chNozState 0) 2

theorem met_nozResyncDone : ∃ (s : State) (c : Core) (n : Nat),
    c = s.core ∧
    n < 8 ∧
    Live s (7 + n) ∧
    c.nozResync n = true ∧
    (nth c.imgs n).resyncEnd ≤ c.sample :=
  ⟨state coreNozResyncDone, coreNozResyncDone, 0,
    rfl, by decide +kernel, by decide +kernel, by decide +kernel, by decide +kernel⟩

def coreTblLoadDone : Core :=
  { coreHub with imgs := upd coreHub.imgs 0 fun x => { x with tbl := some { load := true, id := 2, addr := 0, first := 0, count := 1 } } }

theorem met_tblLoadDone : ∃ (s : State) (c : Core) (n : Nat) (t : TblJob),
    c = s.core ∧
    n < 8 ∧
    Live s (7 + n) ∧
    c.hubWaits = false ∧
    (nth c.imgs n).tbl = some t ∧
    t.load = true ∧
    t.id ≠ 1 :=
  ⟨state coreTblLoadDone, coreTblLoadDone, 0, ({ load := true, id := 2, addr := 0, first := 0, count := 1 } : TblJob),
    rfl, by decide +kernel, by decide +kernel, by decide +kernel, by decide +kernel, by decide +kernel, by decide +kernel⟩

theorem met_sramScrubRead : ∃ (s : State) (c : Core) (n : Nat) (table : Nat) (entry : Nat) (flips : Nat),
    c = s.core ∧
    n < 8 ∧
    (Live s (if table = 6 then 4 else 7 + n)) ∧
    table = 4 ∧
    entry < tblEntries 4 ∧
    knownBad 4 entry (nth c.imgs n) = false ∧
    secdedResult (syndromeOf (flips % 2 ^ 39)) = .uncorrectable :=
  ⟨state up, up, 0, 4, 0, 3,
    rfl, by decide +kernel, by decide +kernel, by decide +kernel, by decide +kernel, by decide +kernel, by decide +kernel⟩

def coreHeadTempStale : Core :=
  { (running.set (K.chTempMask 0) 1) with sample := 2 ^ 50 }

theorem met_headTempStale : ∃ (s : State) (c : Core) (n : Nat) (h : Nat),
    c = s.core ∧
    n < 8 ∧
    Live s (7 + n) ∧
    c.monitored n h = true ∧
    c.staleJudged n = true ∧
    c.headHot n h = false ∧
    (nth c.fires n).old.testBit h = false ∧
    max ((nth c.fires n).reports.getD h 0) (nth c.fires n).armTime + c.get (K.chTempStale n) * 1000 ≤ c.clock :=
  ⟨state coreHeadTempStale, coreHeadTempStale, 0, 0,
    rfl, by decide +kernel, by decide +kernel, by decide +kernel, by decide +kernel, by decide +kernel, by decide +kernel, by decide +kernel⟩

theorem met_temp : ∃ (s : State) (c : Core) (m : Nat) (head : Nat) (t : Nat) (sensor : Nat) (j : Nat),
    c = s.core ∧
    m < 32 ∧
    Live s (15 + m / 16) ∧
    c.hears m = true ∧
    sensor % 2 = 0 ∧
    (heard m 0xC3 c).localHead (m / 4) (m % 4) (head % 64) = some j ∧
    (headReport (m / 4) j (signed 16 t) (heard m 0xC3 c)).get (K.klTempRecords m) = 0 :=
  ⟨state coreHearing, coreHearing, 0, 0, 250, 0, 0,
    rfl, by decide +kernel, by decide +kernel, by decide +kernel, by decide +kernel, by decide +kernel, by decide +kernel⟩

theorem met_nozzle : ∃ (s : State) (c : Core) (m : Nat),
    c = s.core ∧
    m < 32 ∧
    Live s (15 + m / 16) ∧
    c.hears m = true ∧
    c.beam = false :=
  ⟨state coreHearing, coreHearing, 0,
    rfl, by decide +kernel, by decide +kernel, by decide +kernel, by decide +kernel⟩

theorem met_fault : ∃ (s : State) (c : Core) (m : Nat),
    c = s.core ∧
    m < 32 ∧
    Live s (15 + m / 16) ∧
    c.hears m = true :=
  ⟨state coreHearing, coreHearing, 0,
    rfl, by decide +kernel, by decide +kernel, by decide +kernel⟩

theorem met_status : ∃ (s : State) (c : Core) (m : Nat),
    c = s.core ∧
    m < 32 ∧
    Live s (15 + m / 16) ∧
    c.hears m = true :=
  ⟨state coreHearing, coreHearing, 0,
    rfl, by decide +kernel, by decide +kernel, by decide +kernel⟩

def coreLineNak : Core :=
  { coreHearing with imgs := upd coreHearing.imgs 0 fun x => { x with bufs := [{ line := 7, levels := [(0, 1)] }] } }

theorem met_lineNak : ∃ (s : State) (c : Core) (m : Nat) (line : Nat) (b : LineBuf) (d : Core),
    c = s.core ∧
    m < 32 ∧
    Live s (15 + m / 16) ∧
    d = (heard m 0xE1 c).bump (K.klNaks m) ∧
    c.hears m = true ∧
    c.laneUp m = true ∧
    ((nth d.imgs (m / 4)).bufs.find? (fun (y : LineBuf) => y.line % 2 ^ 24 = line % 2 ^ 24) = some b) ∧
    (nth d.fires (m / 4)).issued.contains b.line = false :=
  ⟨state coreLineNak, coreLineNak, 0, 7, ({ line := 7, levels := [(0, 1)] } : LineBuf), (heard 0 0xE1 coreLineNak).bump (K.klNaks 0),
    rfl, by decide +kernel, by decide +kernel, rfl, by decide +kernel, by decide +kernel, by decide +kernel, by decide +kernel⟩

def coreCtrlAck : Core :=
  coreHearing.updLane 0 fun x => { x with ctrl := some { write := true, addr := 0x100, data := 1, attempts := 1, sentAt := 0, host := true } }

theorem met_ctrlAck : ∃ (s : State) (c : Core) (m : Nat) (status : Nat) (addr : Nat) (a : CtrlAcc),
    c = s.core ∧
    m < 32 ∧
    Live s (15 + m / 16) ∧
    c.hears m = true ∧
    addr ≠ 0x3FFF ∧
    (nth (heard m 0xA5 c).lanes m).ctrl = some a ∧
    a.addr = addr ∧
    a.host = true ∧
    a.write = true ∧
    status = 0 :=
  ⟨state coreCtrlAck, coreCtrlAck, 0, 0, 0x100, ({ write := true, addr := 0x100, data := 1, attempts := 1, sentAt := 0, host := true } : CtrlAcc),
    rfl, by decide +kernel, by decide +kernel, by decide +kernel, by decide +kernel, by decide +kernel, by decide +kernel, by decide +kernel, by decide +kernel, by decide +kernel⟩

def coreEchoRsp : Core :=
  (coreHearing.set (K.klState 0) 1).updLane 0 fun x => { x with echoSent := 1 }

theorem met_echoRsp : ∃ (s : State) (c : Core) (m : Nat),
    c = s.core ∧
    m < 32 ∧
    Live s (15 + m / 16) ∧
    c.hears m = true ∧
    c.get (K.klState m) = 1 ∧
    (nth c.lanes m).trips.length < (nth c.lanes m).echoSent ∧
    (nth c.lanes m).trips.length < 15 :=
  ⟨state coreEchoRsp, coreEchoRsp, 0,
    rfl, by decide +kernel, by decide +kernel, by decide +kernel, by decide +kernel, by decide +kernel, by decide +kernel⟩

def coreTrain : Core :=
  coreHearing.set (K.klState 0) 1

theorem met_train : ∃ (s : State) (c : Core) (m : Nat) (laneNo : Nat),
    c = s.core ∧
    m < 32 ∧
    Live s (15 + m / 16) ∧
    c.hears m = true ∧
    c.laneUp m = false ∧
    c.get (K.klState m) = 1 ∧
    laneNo = m :=
  ⟨state coreTrain, coreTrain, 0, 0,
    rfl, by decide +kernel, by decide +kernel, by decide +kernel, by decide +kernel, by decide +kernel, by decide +kernel⟩

theorem met_klInvalidBlock : ∃ (s : State) (c : Core) (m : Nat) (block : Nat),
    c = s.core ∧
    m < 32 ∧
    Live s (15 + m / 16) ∧
    c.linkOn m = true ∧
    c.get (K.klState m) ≠ 0 ∧
    block / 2 ^ 64 = 2 ∧
    ctlValid (block % 2 ^ 64) = false :=
  ⟨state coreHearing, coreHearing, 0, 2 * 2 ^ 64 + 0x5B,
    rfl, by decide +kernel, by decide +kernel, by decide +kernel, by decide +kernel, by decide +kernel, by decide +kernel⟩

def coreKlLockLoss : Core :=
  coreHearing.updLane 0 fun x => { x with badHeaders := List.replicate 16 0 }

theorem met_klLockLoss : ∃ (s : State) (c : Core) (m : Nat) (t : Nat),
    c = s.core ∧
    m < 32 ∧
    Live s (15 + m / 16) ∧
    (nth c.lanes m).badHeaders[15]? = some t ∧
    (nth c.lanes m).locked = true ∧
    c.clock * 100 < t * 100 + 64 * 528 ∧
    ((c.updLane m fun (x : Lane) => { x with badHeaders := [] }).laneUp m = true) :=
  ⟨state coreKlLockLoss, coreKlLockLoss, 0, 0,
    rfl, by decide +kernel, by decide +kernel, by decide +kernel, by decide +kernel, by decide +kernel, by decide +kernel⟩

def coreKlSilence : Core :=
  { coreHearing with sample := 2 ^ 50 }

theorem met_klSilence : ∃ (s : State) (c : Core) (m : Nat),
    c = s.core ∧
    m < 32 ∧
    Live s (15 + m / 16) ∧
    c.laneUp m = true ∧
    (nth c.lanes m).rxAt + 20000 ≤ c.clock :=
  ⟨state coreKlSilence, coreKlSilence, 0,
    rfl, by decide +kernel, by decide +kernel, by decide +kernel, by decide +kernel⟩

def coreKlBlockLock : Core :=
  up.set (K.klState 0) 1

theorem met_klBlockLock : ∃ (s : State) (c : Core) (m : Nat) (echo : Nat),
    c = s.core ∧
    m < 32 ∧
    Live s (15 + m / 16) ∧
    c.get (K.klState m) = 1 ∧
    (nth c.lanes m).locked = false ∧
    echo = m :=
  ⟨state coreKlBlockLock, coreKlBlockLock, 0, 0,
    rfl, by decide +kernel, by decide +kernel, by decide +kernel, by decide +kernel, by decide +kernel⟩

def coreKlStageTimer : Core :=
  { ((up.set (K.klState 0) 1).updLane 0 fun x => { x with bothSince := some 0, txStage := 1 }) with sample := 2 ^ 50 }

theorem met_klStageTimer : ∃ (s : State) (c : Core) (m : Nat) (t : Nat),
    c = s.core ∧
    m < 32 ∧
    Live s (15 + m / 16) ∧
    (nth c.lanes m).bothSince = some t ∧
    c.get (K.klState m) = 1 ∧
    (nth c.lanes m).txStage = 1 ∧
    t + 1000000 ≤ c.clock :=
  ⟨state coreKlStageTimer, coreKlStageTimer, 0, 0,
    rfl, by decide +kernel, by decide +kernel, by decide +kernel, by decide +kernel, by decide +kernel, by decide +kernel⟩

def coreLaneTrainStart : Core :=
  up.set (K.klEnable 0) 1

theorem met_laneTrainStart : ∃ (s : State) (c : Core) (m : Nat),
    c = s.core ∧
    m < 32 ∧
    Live s (15 + m / 16) ∧
    c.mayTrain m = true ∧
    c.get (K.klState m) = 0 :=
  ⟨state coreLaneTrainStart, coreLaneTrainStart, 0,
    rfl, by decide +kernel, by decide +kernel, by decide +kernel, by decide +kernel⟩

def coreKlTrainTimeout : Core :=
  { (up.set (K.klState 0) 1) with sample := 2 ^ 50 }

theorem met_klTrainTimeout : ∃ (s : State) (c : Core) (m : Nat),
    c = s.core ∧
    m < 32 ∧
    Live s (15 + m / 16) ∧
    c.get (K.klState m) = 1 ∧
    (nth c.lanes m).trainStart + c.get (K.klTrainTimeout m) * 1000000 ≤ c.clock :=
  ⟨state coreKlTrainTimeout, coreKlTrainTimeout, 0,
    rfl, by decide +kernel, by decide +kernel, by decide +kernel, by decide +kernel⟩

def coreKlRetryTimer : Core :=
  { (up.set (K.klState 0) 5 |>.set (K.klEnable 0) 1) with sample := 2 ^ 50 }

theorem met_klRetryTimer : ∃ (s : State) (c : Core) (m : Nat),
    c = s.core ∧
    m < 32 ∧
    Live s (15 + m / 16) ∧
    c.get (K.klState m) = 5 ∧
    c.mayTrain m = true ∧
    (nth c.lanes m).failedAt + 1000000000 ≤ c.clock :=
  ⟨state coreKlRetryTimer, coreKlRetryTimer, 0,
    rfl, by decide +kernel, by decide +kernel, by decide +kernel, by decide +kernel, by decide +kernel⟩

def coreKlSyncDue : Core :=
  { up with sample := 2 ^ 50 }

theorem met_klSyncDue : ∃ (s : State) (c : Core),
    c = s.core ∧
    Live s 1 ∧
    c.syncAt * 100 + 574464 ≤ c.clock * 100 :=
  ⟨state coreKlSyncDue, coreKlSyncDue,
    rfl, by decide +kernel, by decide +kernel⟩

theorem met_keepaliveDue : ∃ (s : State) (c : Core) (m : Nat),
    c = s.core ∧
    m < 32 ∧
    Live s (15 + m / 16) ∧
    c.laneUp m = true :=
  ⟨state coreHearing, coreHearing, 0,
    rfl, by decide +kernel, by decide +kernel, by decide +kernel⟩

theorem met_lineFrameOpen : ∃ (s : State) (c : Core) (m : Nat) (line : Nat) (l : List (Nat × Nat)),
    c = s.core ∧
    m < 32 ∧
    Live s (15 + m / 16) ∧
    c.lineReady m = true ∧
    (nth c.lanes m).bulkOpen = false ∧
    c.nextFrame m = some line ∧
    (l = c.laneLevels (m / 4) (m % 4) (((nth c.imgs (m / 4)).bufs.find? fun (b : LineBuf) => b.line = line).getD { line := line, levels := [] })) ∧
    l ≠ [] :=
  ⟨state coreLineNak, coreLineNak, 0, 7, coreLineNak.laneLevels (0 / 4) (0 % 4) (((nth coreLineNak.imgs (0 / 4)).bufs.find? fun (b : LineBuf) => b.line = 7).getD { line := 7, levels := [] }),
    rfl, by decide +kernel, by decide +kernel, by decide +kernel, by decide +kernel, by decide +kernel, rfl, by decide +kernel⟩

def coreKlCtrlTimeout : Core :=
  { coreCtrlAck with sample := 2 ^ 50 }

theorem met_klCtrlTimeout : ∃ (s : State) (c : Core) (m : Nat) (a : CtrlAcc) (d : Core),
    c = s.core ∧
    m < 32 ∧
    Live s (15 + m / 16) ∧
    d = c.bump (K.klCtrlRetries m) ∧
    (nth c.lanes m).ctrl = some a ∧
    a.sentAt + 20000 ≤ c.clock ∧
    a.attempts < 4 :=
  ⟨state coreKlCtrlTimeout, coreKlCtrlTimeout, 0, ({ write := true, addr := 0x100, data := 1, attempts := 1, sentAt := 0, host := true } : CtrlAcc), coreKlCtrlTimeout.bump (K.klCtrlRetries 0),
    rfl, by decide +kernel, by decide +kernel, rfl, by decide +kernel, by decide +kernel, by decide +kernel⟩

def coreEchoReqDue : Core :=
  (up.set (K.klState 0) 1).updLane 0 fun x => { x with txStage := 2, rxStage := 2 }

theorem met_echoReqDue : ∃ (s : State) (c : Core) (m : Nat),
    c = s.core ∧
    m < 32 ∧
    Live s (15 + m / 16) ∧
    c.get (K.klState m) = 1 ∧
    (nth c.lanes m).txStage = 2 ∧
    (nth c.lanes m).rxStage = 2 ∧
    (nth c.lanes m).echoSent = 0 :=
  ⟨state coreEchoReqDue, coreEchoReqDue, 0,
    rfl, by decide +kernel, by decide +kernel, by decide +kernel, by decide +kernel, by decide +kernel, by decide +kernel⟩

def coreLineFrameComplete : Core :=
  coreLineNak.updLane 0 fun x => { x with openLine := some 7 }

theorem met_lineFrameComplete : ∃ (s : State) (c : Core) (m : Nat) (line : Nat),
    c = s.core ∧
    m < 32 ∧
    Live s (15 + m / 16) ∧
    (nth c.lanes m).openLine = some line :=
  ⟨state coreLineFrameComplete, coreLineFrameComplete, 0, 7,
    rfl, by decide +kernel, by decide +kernel, by decide +kernel⟩

def coreScanPulse : Core :=
  { (((up.set K.beamScanFreq 48828125).set (K.chScanState 0) 2).set (K.chMirPhaseNom 0) 0) with beam := true }

theorem met_scanPulse : ∃ (s : State) (c : Core) (n : Nat) (sensorB : Bool) (rise : Nat) (fall : Nat) (k : Nat),
    c = s.core ∧
    n < 8 ∧
    Live s (7 + n) ∧
    sensorB = false ∧
    c.sweeping n = true ∧
    rise + 4 * c.get (K.chScanMinPulse n) ≤ fall ∧
    c.sweepAt n false (((rise + fall : Nat) : Int) * 2 ^ 29) = some k ∧
    (nth c.scans n).lastA = none ∧
    c.get (K.chScanState n) = 2 :=
  ⟨state coreScanPulse, coreScanPulse, 0, false, 0, 20000, 0,
    rfl, by decide +kernel, by decide +kernel, by decide +kernel, by decide +kernel, by decide +kernel, by decide +kernel, by decide +kernel, by decide +kernel⟩

def coreScanMiss : Core :=
  { ((up.set K.beamScanFreq 48828125).set (K.chScanState 0) 3) with beam := true, time := 2 ^ 100, driveCount := 100 }

theorem met_scanMiss : ∃ (s : State) (c : Core) (n : Nat),
    c = s.core ∧
    n < 8 ∧
    Live s (7 + n) ∧
    c.get (K.chScanState n) = 3 ∧
    ((∀ b : Bool, match c.pulseWindow n (nth c.scans n).judged b with | some (_, hi) => hi ≤ (c.time : Int) | none => c.sweepExact n (nth c.scans n).judged + c.quarterPeriod ≤ (c.time : Int))) ∧
    ((nth c.scans n).seenA.contains (nth c.scans n).judged && (nth c.scans n).seenB.contains (nth c.scans n).judged) = false :=
  ⟨state coreScanMiss, coreScanMiss, 0,
    rfl, by decide +kernel, by decide +kernel, by decide +kernel, (by intro b; have h : (match coreScanMiss.pulseWindow 0 (nth coreScanMiss.scans 0).judged b with | some p => decide (p.2 ≤ (coreScanMiss.time : Int)) | none => decide (coreScanMiss.sweepExact 0 (nth coreScanMiss.scans 0).judged + coreScanMiss.quarterPeriod ≤ (coreScanMiss.time : Int))) = true := (by cases b <;> decide +kernel); revert h; cases coreScanMiss.pulseWindow 0 (nth coreScanMiss.scans 0).judged b <;> exact of_decide_eq_true), by decide +kernel⟩

def coreScanLost : Core :=
  { ((up.set K.beamScanFreq 48828125).set (K.chScanState 0) 3) with beam := true, scans := upd up.scans 0 fun x => { x with missRun := 1000 } }

theorem met_scanLost : ∃ (s : State) (c : Core) (n : Nat),
    c = s.core ∧
    n < 8 ∧
    Live s (7 + n) ∧
    c.get (K.chScanState n) = 3 ∧
    c.get (K.chScanMissLimit n) ≤ (nth c.scans n).missRun :=
  ⟨state coreScanLost, coreScanLost, 0,
    rfl, by decide +kernel, by decide +kernel, by decide +kernel, by decide +kernel⟩

def coreScanSpinupDone : Core :=
  { ((((((up.set (K.chScanState 0) 1).set (K.klState 0) 3).set (K.klState 1) 3).set (K.klState 2) 3).set (K.klState 3) 3) : Core) with beam := true, sample := 2 ^ 50 }

theorem met_scanSpinupDone : ∃ (s : State) (c : Core) (n : Nat),
    c = s.core ∧
    n < 8 ∧
    Live s (7 + n) ∧
    c.beam = true ∧
    c.get (K.chScanState n) = 1 ∧
    c.lanesUp n = true ∧
    (nth c.scans n).spinAt + c.get (K.chMirSpinup n) * 1000000 ≤ c.clock :=
  ⟨state coreScanSpinupDone, coreScanSpinupDone, 0,
    rfl, by decide +kernel, by decide +kernel, by decide +kernel, by decide +kernel, by decide +kernel, by decide +kernel⟩

def coreScanAcquired : Core :=
  { ((up.set K.beamScanFreq 48828125).set (K.chScanState 0) 2) with beam := true, scans := upd up.scans 0 fun x => { x with goodRun := 64 } }

theorem met_scanAcquired : ∃ (s : State) (c : Core) (n : Nat),
    c = s.core ∧
    n < 8 ∧
    Live s (7 + n) ∧
    c.get (K.chScanState n) = 2 ∧
    64 ≤ (nth c.scans n).goodRun ∧
    (nth c.scans n).switch = none :=
  ⟨state coreScanAcquired, coreScanAcquired, 0,
    rfl, by decide +kernel, by decide +kernel, by decide +kernel, by decide +kernel, by decide +kernel⟩

def coreScanAcqTimeout : Core :=
  { ((up.set K.beamScanFreq 48828125).set (K.chScanState 0) 2) with beam := true, sample := 2 ^ 50 }

theorem met_scanAcqTimeout : ∃ (s : State) (c : Core) (n : Nat),
    c = s.core ∧
    n < 8 ∧
    Live s (7 + n) ∧
    c.get (K.chScanState n) = 2 ∧
    (nth c.scans n).acqAt + c.get (K.chScanAcqTimeout n) * 1000000 < c.clock :=
  ⟨state coreScanAcqTimeout, coreScanAcqTimeout, 0,
    rfl, by decide +kernel, by decide +kernel, by decide +kernel, by decide +kernel⟩

def coreScanLostRetry : Core :=
  { (up.set (K.chScanState 0) 4) with beam := true, sample := 2 ^ 50 }

theorem met_scanLostRetry : ∃ (s : State) (c : Core) (n : Nat),
    c = s.core ∧
    n < 8 ∧
    Live s (7 + n) ∧
    c.get (K.chScanState n) = 4 ∧
    (nth c.scans n).lostAt + 100000000 ≤ c.clock :=
  ⟨state coreScanLostRetry, coreScanLostRetry, 0,
    rfl, by decide +kernel, by decide +kernel, by decide +kernel, by decide +kernel⟩

def coreSweepCommit : Core :=
  { ((up.set K.beamScanFreq 48828125).set (K.chScanState 0) 2) with beam := true, time := 2 ^ 100 }

theorem met_sweepCommit : ∃ (s : State) (c : Core) (n : Nat) (k : Nat) (d : Core),
    c = s.core ∧
    n < 8 ∧
    Live s (7 + n) ∧
    k = c.nextSweep n ∧
    c.sweeping n = true ∧
    c.commitTime n k ≤ (c.time : Int) ∧
    c.sweepIncomplete n k = false ∧
    (d = runPage n (powerSend n (switchAgain n (switchApply n k ((List.range 4).foldl (fun (a : Core) (j : Nat) => if a.laneUp (4 * n + j) then a.block (4 * n + j) 0x5B (2 ^ 33 * (k % 2 ^ 15) + 2 ^ 32 * (k % 2) + unsigned 32 (c.sweepTime n k / 2 ^ 30)) else a) ((c.updScan n fun (x : Scan) => { x with cPrev := if x.any then x.cLast else c.commitTime n k, cLast := c.commitTime n k, any := true, linesDone := 0, dark := if c.laneUp (c.apcLane n k) then x.dark else (k :: x.dark).take 64 }).set (K.chSweep n) k)))))) :=
  ⟨state coreSweepCommit, coreSweepCommit, 0, coreSweepCommit.nextSweep 0, runPage 0 (powerSend 0 (switchAgain 0 (switchApply 0 (coreSweepCommit.nextSweep 0) ((List.range 4).foldl (fun (a : Core) (j : Nat) => if a.laneUp (4 * 0 + j) then a.block (4 * 0 + j) 0x5B (2 ^ 33 * ((coreSweepCommit.nextSweep 0) % 2 ^ 15) + 2 ^ 32 * ((coreSweepCommit.nextSweep 0) % 2) + unsigned 32 (coreSweepCommit.sweepTime 0 (coreSweepCommit.nextSweep 0) / 2 ^ 30)) else a) ((coreSweepCommit.updScan 0 fun (x : Scan) => { x with cPrev := if x.any then x.cLast else coreSweepCommit.commitTime 0 (coreSweepCommit.nextSweep 0), cLast := coreSweepCommit.commitTime 0 (coreSweepCommit.nextSweep 0), any := true, linesDone := 0, dark := if coreSweepCommit.laneUp (coreSweepCommit.apcLane 0 (coreSweepCommit.nextSweep 0)) then x.dark else ((coreSweepCommit.nextSweep 0) :: x.dark).take 64 }).set (K.chSweep 0) (coreSweepCommit.nextSweep 0)))))),
    rfl, by decide +kernel, by decide +kernel, rfl, by decide +kernel, by decide +kernel, by decide +kernel, rfl⟩

def coreScanPagePhase2 : Core :=
  { ((up.set K.beamScanFreq 48828125).set (K.chScanState 0) 3) with beam := true, scans := upd up.scans 0 fun x => { x with switch := some { apply := 5, left1 := [], left2 := [0], phase2 := false, kind := 0, slt := false } } }

theorem met_scanPagePhase2 : ∃ (s : State) (c : Core) (n : Nat) (w : PageSwitch),
    c = s.core ∧
    n < 8 ∧
    Live s (7 + n) ∧
    (nth c.scans n).switch = some w ∧
    w.phase2 = false ∧
    w.left1 = [] :=
  ⟨state coreScanPagePhase2, coreScanPagePhase2, 0, ({ apply := 5, left1 := [], left2 := [0], phase2 := false, kind := 0, slt := false } : PageSwitch),
    rfl, by decide +kernel, by decide +kernel, by decide +kernel, by decide +kernel, by decide +kernel⟩

def coreScanSplit : Core :=
  { ((up.set K.beamScanFreq 48828125).set (K.chScanState 0) 3) with beam := true, scans := upd up.scans 0 fun x => { x with any := true, switch := some { apply := 1, left1 := [], left2 := [2], phase2 := true, kind := 1, slt := false } } }

theorem met_scanSplit : ∃ (s : State) (c : Core) (n : Nat) (w : PageSwitch),
    c = s.core ∧
    n < 8 ∧
    Live s (7 + n) ∧
    (nth c.scans n).switch = some w ∧
    w.splitRaised = false ∧
    w.left2 ≠ [] ∧
    c.splitDue n w (c.commitTime n (-1)) = true :=
  ⟨state coreScanSplit, coreScanSplit, 0, ({ apply := 1, left1 := [], left2 := [2], phase2 := true, kind := 1, slt := false } : PageSwitch),
    rfl, by decide +kernel, by decide +kernel, by decide +kernel, by decide +kernel, by decide +kernel, by decide +kernel⟩

def coreSltDone : Core :=
  { up with beam := true, scans := upd up.scans 0 fun x => { x with slt := some (3, 64) } }

theorem met_sltDone : ∃ (s : State) (c : Core) (n : Nat) (a : Nat),
    c = s.core ∧
    n < 8 ∧
    Live s (7 + n) ∧
    (nth c.scans n).slt = some (3, a) :=
  ⟨state coreSltDone, coreSltDone, 0, 64,
    rfl, by decide +kernel, by decide +kernel, by decide +kernel⟩

def coreApcSample : Core :=
  { ((((((up.set K.beamScanFreq 48828125).set (K.chScanState 0) 2).set (K.chApcAin 0) 0).set (K.chMirPhaseNom 0) 0).set (K.chApcSample 0) 0).set (K.chSweep 0) 500) with beam := true, time := 2 ^ 100, driveCount := 100, scans := upd up.scans 0 fun x => { x with any := true } }

theorem met_apcSample : ∃ (s : State) (c : Core) (n : Nat) (k : Nat),
    c = s.core ∧
    n < 8 ∧
    Live s (7 + n) ∧
    c.apcDue n = some k :=
  ⟨state coreApcSample, coreApcSample, 0, 200,
    rfl, by decide +kernel, by decide +kernel, by decide +kernel⟩

def coreStationFinished : Core :=
  { (((up.set K.beamScanFreq 48828125).set (K.chScanState 0) 2).set (K.chState 0) 3) with beam := true, time := 2 ^ 100, driveCount := 100, scans := upd up.scans 0 fun x => { x with any := true }, runs := upd up.runs 0 fun _ => [{ page := 1, job := 1, l0 := 0, c0 := 0, lines := 1 }], pages := [{ num := 1, mask := 3, bound := true, cued := 3, started := 3 }] }

theorem met_stationFinished : ∃ (s : State) (c : Core) (n : Nat) (x : PageRun) (d : Core) (p : Page),
    c = s.core ∧
    n < 8 ∧
    Live s (7 + n) ∧
    ((nth c.runs n).find? (fun (y : PageRun) => !y.finished) = some x) ∧
    (nth c.scans n).any = true ∧
    (c.runEnd n x - 1) / c.beams n ≤ c.get (K.chSweep n) ∧
    c.sweepEnd n ((c.runEnd n x - 1) / c.beams n) ≤ (c.time : Int) ∧
    (d = pageState n (updPage x.page (fun (q : Page) => { q with finished := setBit q.finished n true }) { c with runs := upd c.runs n fun (l : List PageRun) => (l.map fun (y : PageRun) => if y.page = x.page && !y.finished then { y with finished := true } else y) })) ∧
    d.pageOf x.page = some p ∧
    p.finished ≠ p.mask :=
  ⟨state coreStationFinished, coreStationFinished, 0, ({ page := 1, job := 1, l0 := 0, c0 := 0, lines := 1 } : PageRun), pageState 0 (updPage (({ page := 1, job := 1, l0 := 0, c0 := 0, lines := 1 } : PageRun)).page (fun (q : Page) => { q with finished := setBit q.finished 0 true }) { coreStationFinished with runs := upd coreStationFinished.runs 0 fun (l : List PageRun) => (l.map fun (y : PageRun) => if y.page = (({ page := 1, job := 1, l0 := 0, c0 := 0, lines := 1 } : PageRun)).page && !y.finished then { y with finished := true } else y) }), ({ num := 1, mask := 3, bound := true, cued := 3, started := 3, finished := 1 } : Page),
    rfl, by decide +kernel, by decide +kernel, by decide +kernel, by decide +kernel, by decide +kernel, by decide +kernel, rfl, by decide +kernel, by decide +kernel⟩

def corePageSpoiledReport : Core :=
  { up with beam := true, pages := [{ num := 1, mask := 1, bound := true, cued := 1, started := 0, reason := 2, cause := 0 }] }

theorem met_pageSpoiledReport : ∃ (s : State) (c : Core) (n : Nat) (p : Page),
    c = s.core ∧
    n < 8 ∧
    Live s (7 + n) ∧
    (c.pages.find? (fun (q : Page) => q.reason != 0 && q.mask.testBit n && (bitsOf 8 q.mask).all (fun (k : Nat) => !c.begun k q.num || q.finished.testBit k)) = some p) :=
  ⟨state corePageSpoiledReport, corePageSpoiledReport, 0, ({ num := 1, mask := 1, bound := true, cued := 1, started := 0, reason := 2, cause := 0 } : Page),
    rfl, by decide +kernel, by decide +kernel, by decide +kernel⟩

def coreJobDescriptor : Core :=
  ((((up.set (K.chState 0) 1).set K.devAdmHostBudget 10000).set K.devAdmHostLink 10000).set K.devAdmDramBudget 100000).updJob 0 fun x => { x with entries := [1 :: List.replicate 63 0] }

theorem met_jobDescriptor : ∃ (s : State) (c : Core) (n : Nat) (e : List Byte) (c1 : Core) (c2 : Core) (j : Job),
    c = s.core ∧
    n < 8 ∧
    Live s (7 + n) ∧
    c.headEntry n = some e ∧
    leAt e 0 1 = 1 ∧
    c1 = popEntry n c ∧
    jobBad c1 e = false ∧
    j = c1.jobFrom n e 1 ∧
    c1.admFits n j = true ∧
    c2 = ((admObjects n [j] c1).set K.devAdmLastJob j.id).set K.devAdmLastVerdict 0 ∧
    c2.placeLate n j = false :=
  ⟨state coreJobDescriptor, coreJobDescriptor, 0, (1 :: List.replicate 63 0), popEntry 0 coreJobDescriptor, ((admObjects 0 [((popEntry 0 coreJobDescriptor).jobFrom 0 ((1 :: List.replicate 63 0)) 1)] (popEntry 0 coreJobDescriptor)).set K.devAdmLastJob ((popEntry 0 coreJobDescriptor).jobFrom 0 ((1 :: List.replicate 63 0)) 1).id).set K.devAdmLastVerdict 0, (popEntry 0 coreJobDescriptor).jobFrom 0 ((1 :: List.replicate 63 0)) 1,
    rfl, by decide +kernel, by decide +kernel, by decide +kernel, by decide +kernel, rfl, by decide +kernel, rfl, by decide +kernel, rfl, by decide +kernel⟩

def coreBandDescriptor : Core :=
  (up.set (K.chState 0) 1).updJob 0 fun x => { x with jobs := [{ uid := 1, id := 1, state := 1 }], nextUid := 2, entries := [[2, 0, 5, 0] ++ bytesLE 4 1 ++ bytesLE 8 0x40000000 ++ bytesLE 4 8 ++ bytesLE 8 0 ++ bytesLE 4 1 ++ List.replicate 32 0] }

theorem met_bandDescriptor : ∃ (s : State) (c : Core) (n : Nat) (e : List Byte) (c1 : Core) (j : Job),
    c = s.core ∧
    n < 8 ∧
    Live s (7 + n) ∧
    c.headEntry n = some e ∧
    leAt e 0 1 = 2 ∧
    c1 = popEntry n c ∧
    c1.openJob n = some j ∧
    j.state ≠ 4 ∧
    j.state ≠ 5 ∧
    c1.bandRejected n e = false :=
  ⟨state coreBandDescriptor, coreBandDescriptor, 0, ([2, 0, 5, 0] ++ bytesLE 4 1 ++ bytesLE 8 0x40000000 ++ bytesLE 4 8 ++ bytesLE 8 0 ++ bytesLE 4 1 ++ List.replicate 32 0), popEntry 0 coreBandDescriptor, ({ uid := 1, id := 1, state := 1 } : Job),
    rfl, by decide +kernel, by decide +kernel, by decide +kernel, by decide +kernel, rfl, by decide +kernel, by decide +kernel, by decide +kernel, by decide +kernel⟩

def coreStopDescriptor : Core :=
  (up.set (K.chState 0) 1).updJob 0 fun x => { x with entries := [3 :: List.replicate 63 0] }

theorem met_stopDescriptor : ∃ (s : State) (c : Core) (n : Nat) (e : List Byte),
    c = s.core ∧
    n < 8 ∧
    Live s (7 + n) ∧
    c.headEntry n = some e ∧
    leAt e 0 1 = 3 ∧
    leAt e 1 3 = 0 ∧
    leAt e 8 56 = 0 :=
  ⟨state coreStopDescriptor, coreStopDescriptor, 0, (3 :: List.replicate 63 0),
    rfl, by decide +kernel, by decide +kernel, by decide +kernel, by decide +kernel, by decide +kernel, by decide +kernel⟩

def coreBandFetchStart : Core :=
  (((up.set (K.chState 0) 3).set (K.chIntakeDma 0) 0).set (K.chIntakeSize 0) 4096).updJob 0 fun x => { x with jobs := [{ uid := 1, id := 1, state := 2 }], bands := [aBand], nextUid := 3 }

theorem met_bandFetchStart : ∃ (s : State) (c : Core) (n : Nat) (b : Band) (off : Nat),
    c = s.core ∧
    n < 8 ∧
    Live s (7 + n) ∧
    c.nextFetch n = some b ∧
    c.get (K.chState n) = 3 ∧
    ((nth c.jobs n).bands.any (fun (y : Band) => y.fetching) = false) ∧
    (nth c.dmas (c.get (K.chIntakeDma n))).state = 0 ∧
    placeBand (c.get (K.chIntakeSize n)) (nth c.jobs n).writePoint (nth c.jobs n).spaces (pad64 b.length) = some off :=
  ⟨state coreBandFetchStart, coreBandFetchStart, 0, aBand, 0,
    rfl, by decide +kernel, by decide +kernel, by decide +kernel, by decide +kernel, by decide +kernel, by decide +kernel, by decide +kernel⟩

def coreBandFetched : Core :=
  { (((coreHub.set (K.chState 0) 3).set (K.chIntakeDma 0) 0).set (K.chIntakeSize 0) 4096).updJob 0 (fun x => { x with jobs := [{ uid := 1, id := 1, state := 2 }], bands := [{ aBand with fetching := true, placed := true, space := 64 }], nextUid := 3 }) with dmas := upd up.dmas 0 fun x => { x with state := 1, intake := some 0, chain := [{ addr := 0, bytes := List.replicate 64 0 }] } }

theorem met_bandFetched : ∃ (s : State) (c : Core) (n : Nat) (data : List Byte) (err : Nat) (b : Band) (d : Core) (m : List Host.Cell),
    c = s.core ∧
    n < 8 ∧
    Live s (7 + n) ∧
    c.hubWaits = false ∧
    ((nth c.jobs n).bands.find? (fun (y : Band) => y.fetching) = some b) ∧
    (nth c.dmas (c.get (K.chIntakeDma n))).intake = some n ∧
    (nth c.dmas (c.get (K.chIntakeDma n))).state = 1 ∧
    err = 0 ∧
    dmaIntakeDone (c.get (K.chIntakeDma n)) data c s.dram = (false, d, m) ∧
    (b.verify = false ∨ crc32 ((measure n b.length (updBandOf n b.uid (fun (y : Band) => { y with fetching := false }) d)).readBytes m b.addr b.length) = b.crc) :=
  ⟨state coreBandFetched, coreBandFetched, 0, [], 0, ({ aBand with fetching := true, placed := true, space := 64 }), (dmaIntakeDone 0 [] coreBandFetched []).2.1, [],
    rfl, by decide +kernel, by decide +kernel, by decide +kernel, by decide +kernel, by decide +kernel, by decide +kernel, by decide +kernel, by decide +kernel, by decide +kernel⟩

def coreSprueBandStart : Core :=
  (up.set (K.chState 0) 3).updJob 0 fun x => { x with jobs := [{ uid := 1, id := 1, state := 2 }], bands := [{ aBand with placed := true, landed := true, passed := true }], nextUid := 3 }

theorem met_sprueBandStart : ∃ (s : State) (c : Core) (n : Nat) (b : Band),
    c = s.core ∧
    n < 8 ∧
    Live s (7 + n) ∧
    c.sprueRuns n = true ∧
    c.sprueBand n = none ∧
    c.sprueNext n = some b :=
  ⟨state coreSprueBandStart, coreSprueBandStart, 0, ({ aBand with placed := true, landed := true, passed := true }),
    rfl, by decide +kernel, by decide +kernel, by decide +kernel, by decide +kernel, by decide +kernel⟩

def coreSprueLine : Core :=
  { ((coreHub.set (K.chState 0) 3).set (K.chFlaskLines 0) 16).updJob 0 (fun x => { x with jobs := [{ uid := 1, id := 1, state := 2 }], bands := [{ aBand with placed := true, landed := true, passed := true }], nextUid := 3 }) with sprues := upd up.sprues 0 fun _ => some { band := 2, pass := 0, line := 0, bit := 0, atHeader := false, block := 0, blockLines := 0, prev := [], a := 4, n := 1 } }

theorem met_sprueLine : ∃ (s : State) (c : Core) (n : Nat) (b : Band) (t : SprueCur),
    c = s.core ∧
    n < 8 ∧
    Live s (7 + n) ∧
    c.hubWaits = false ∧
    c.sprueBand n = some (b, t) ∧
    c.sprueRuns n = true ∧
    c.flaskFree n = true ∧
    t.line < b.lines :=
  ⟨state coreSprueLine, coreSprueLine, 0, ({ aBand with placed := true, landed := true, passed := true }), ({ band := 2, pass := 0, line := 0, bit := 0, atHeader := false, block := 0, blockLines := 0, prev := [], a := 4, n := 1 } : SprueCur),
    rfl, by decide +kernel, by decide +kernel, by decide +kernel, by decide +kernel, by decide +kernel, by decide +kernel, by decide +kernel⟩

def coreHeldStop : Core :=
  ((up.set (K.chState 0) 3).set (K.chLineHigh 0) (2 ^ 40 - 1)).updJob 0 fun x => { x with holdReq := true }

theorem met_heldStop : ∃ (s : State) (c : Core) (n : Nat),
    c = s.core ∧
    n < 8 ∧
    Live s (7 + n) ∧
    (nth c.jobs n).holdReq = true ∧
    c.get (K.chState n) = 3 ∧
    reached (c.chPos n) (256 * (c.get (K.chLineHigh n) + 1) % posMod) = true :=
  ⟨state coreHeldStop, coreHeldStop, 0,
    rfl, by decide +kernel, by decide +kernel, by decide +kernel, by decide +kernel, by decide +kernel⟩

def coreRecastBackup : Core :=
  up.set K.rcstPhase 1

theorem met_recastBackup : ∃ (s : State) (c : Core),
    c = s.core ∧
    Live s 1 ∧
    c.get K.rcstPhase = 1 ∧
    reached c.rcstWeb (c.get K.rcstPClear) = true :=
  ⟨state coreRecastBackup, coreRecastBackup,
    rfl, by decide +kernel, by decide +kernel, by decide +kernel⟩

def coreRecastWait : Core :=
  up.set K.rcstPhase 2

theorem met_recastWait : ∃ (s : State) (c : Core),
    c = s.core ∧
    Live s 1 ∧
    c.get K.rcstPhase = 2 ∧
    reached (c.get K.rcstPBack) c.rcstWeb = true :=
  ⟨state coreRecastWait, coreRecastWait,
    rfl, by decide +kernel, by decide +kernel, by decide +kernel⟩

def coreRecastApproach : Core :=
  up.set K.rcstPhase 3

theorem met_recastApproach : ∃ (s : State) (c : Core),
    c = s.core ∧
    Live s 1 ∧
    c.get K.rcstPhase = 3 ∧
    c.heldChannels.all c.readyData = true :=
  ⟨state coreRecastApproach, coreRecastApproach,
    rfl, by decide +kernel, by decide +kernel, by decide +kernel⟩

def coreRecastDecide : Core :=
  (up.set K.rcstPhase 4).updRcst fun x => { x with below := true }

theorem met_recastDecide : ∃ (s : State) (c : Core),
    c = s.core ∧
    Live s 1 ∧
    c.get K.rcstPhase = 4 ∧
    c.rcst.below = true ∧
    reached c.rcstWeb (c.get K.rcstPDecide) = true ∧
    ((c.updRcst fun (x : Rcst) => { x with below := false }).heldChannels.all (c.updRcst fun (x : Rcst) => { x with below := false }).heldReady = true) ∧
    c.severalDevices = false :=
  ⟨state coreRecastDecide, coreRecastDecide,
    rfl, by decide +kernel, by decide +kernel, by decide +kernel, by decide +kernel, by decide +kernel, by decide +kernel⟩

def coreChannelResume : Core :=
  (up.set K.rcstPhase 5).set (K.chState 0) 4 |> fun c => (([0, 1, 2, 3].foldl (fun (c : Core) m => c.set (K.klState m) 3) c).set (K.lcStatus 0) 6).set (K.chFetchLead 0) 0 |> fun c => (c.set K.rcstDataAhead 0).set (K.chClockSrc 0) 0

theorem met_channelResume : ∃ (s : State) (c : Core) (n : Nat),
    c = s.core ∧
    n < 8 ∧
    Live s (7 + n) ∧
    c.get K.rcstPhase = 5 ∧
    c.get (K.chState n) = 4 ∧
    (nth c.lines n).boundAt ≠ some c.sample ∧
    reached (c.chPos n) (256 * c.get (K.chHeldLine n) % posMod) = true ∧
    c.heldReady n = true :=
  ⟨state coreChannelResume, coreChannelResume, 0,
    rfl, by decide +kernel, by decide +kernel, by decide +kernel, by decide +kernel, by decide +kernel, by decide +kernel, by decide +kernel⟩

def coreRecastOverrun : Core :=
  (up.set K.rcstPhase 2).set K.rcstPRequest (2 ^ 48 - 2 ^ 40)

theorem met_recastOverrun : ∃ (s : State) (c : Core),
    c = s.core ∧
    Live s 1 ∧
    c.get K.rcstPhase ≠ 0 ∧
    c.rcst.overrun = false ∧
    reached c.rcstWeb (posAdd (c.get K.rcstPRequest) (c.get K.rcstOverrunMax : Nat)) = true :=
  ⟨state coreRecastOverrun, coreRecastOverrun,
    rfl, by decide +kernel, by decide +kernel, by decide +kernel, by decide +kernel⟩

def coreRecastHoldTimeout : Core :=
  { (up.set K.rcstPhase 2) with sample := 2 ^ 50 }

theorem met_recastHoldTimeout : ∃ (s : State) (c : Core),
    c = s.core ∧
    Live s 1 ∧
    c.get K.rcstPhase ≠ 0 ∧
    c.get K.rcstPhase ≠ 5 ∧
    c.rcst.requestAt + c.get K.rcstHoldTimeout * 1000000 ≤ c.clock :=
  ⟨state coreRecastHoldTimeout, coreRecastHoldTimeout,
    rfl, by decide +kernel, by decide +kernel, by decide +kernel, by decide +kernel⟩

def coreRecastPassLimit : Core :=
  (up.set K.rcstPhase 2).updRcst fun x => { x with passes := 1000 }

theorem met_recastPassLimit : ∃ (s : State) (c : Core),
    c = s.core ∧
    Live s 1 ∧
    c.get K.rcstPhase ≠ 0 ∧
    c.get K.rcstMaxPasses ≤ c.rcst.passes :=
  ⟨state coreRecastPassLimit, coreRecastPassLimit,
    rfl, by decide +kernel, by decide +kernel, by decide +kernel⟩

def coreCodecJobStart : Core :=
  { up with codecQueue := upd up.codecQueue 1 fun _ => [aJob] }

theorem met_codecJobStart : ∃ (s : State) (c : Core) (u : Nat) (j : Nat) (job : List (List Byte)) (rest : List (List Byte)) (d : Core),
    c = s.core ∧
    u < 2 ∧
    Live s 5 ∧
    (nth c.codecs u).running = false ∧
    (((List.range 4).map (fun (x : Nat) => ((nth c.codecs u).last + 1 + x) % 4)).find? (fun (k : Nat) => (jobSplit (nth c.codecQueue k)).isSome && !c.codecs.any fun (x : CodecUnit) => x.running && x.ring = k) = some j) ∧
    jobSplit (nth c.codecQueue j) = some (job, rest) ∧
    (d = (({ c with codecQueue := upd c.codecQueue j fun (_ : List (List Byte)) => rest } : Core).updCodec u fun (x : CodecUnit) => { x with last := j }).set (if u = 0 then K.codecUnit0Tag else K.codecUnit1Tag) (jdTag (job.headD []))) ∧
    d.jobFormat job = false :=
  ⟨state coreCodecJobStart, coreCodecJobStart, 0, 1, [aJob], [], (({ coreCodecJobStart with codecQueue := upd coreCodecJobStart.codecQueue 1 fun (_ : List (List Byte)) => ([]) } : Core).updCodec 0 fun (x : CodecUnit) => { x with last := 1 }).set (if 0 = 0 then K.codecUnit0Tag else K.codecUnit1Tag) (jdTag (([aJob]).headD [])),
    rfl, by decide +kernel, by decide +kernel, by decide +kernel, by decide +kernel, by decide +kernel, rfl, by decide +kernel⟩

def coreCodecJobDone : Core :=
  { coreHub with codecs := upd coreHub.codecs 0 fun x => { x with running := true, ring := 0, job := [aJob], last := 3 } }

def encT : EncSt × Core := encJob [] 0 { input := jobInput [aJob], outSize := jdOutSize aJob, logSize := if jdLog aJob then some (jdLogSize aJob) else none, width := jdWidth aJob, block := jdBlock aJob } [aJob] {} coreCodecJobDone
def encD : Option Nat × Core × List Host.Cell := (codecFree 0 encT.2).hubWrite [] (0x30 + 0) (jdOut aJob) encT.1.out

theorem met_codecJobDone : ∃ (s : State) (c : Core) (u : Nat) (q : Nat) (k : Nat) (f : List Byte) (r : List (List Byte)) (t : EncSt) (d : Core) (d1 : Core) (d2 : Core) (m1 : List Host.Cell) (m2 : List Host.Cell) (b1 : Option Nat) (b2 : Option Nat),
    c = s.core ∧
    u < 2 ∧
    Live s 5 ∧
    c.hubWaits = false ∧
    nth c.codecs u = { running := true, ring := q, job := f :: r, last := k } ∧
    (encJob s.dram u { input := jobInput (f :: r), outSize := jdOutSize f, logSize := if jdLog f then some (jdLogSize f) else none, width := jdWidth f, block := jdBlock f } (f :: r) {} c = (t, d)) ∧
    t.status = 0 ∧
    (codecFree u d).hubWrite s.dram (0x30 + u) (jdOut f) t.out = (b1, d1, m1) ∧
    ((b2, d2, m2) = if jdLog f then d1.hubWrite m1 (0x30 + u) (jdLogAddr f) (t.log.flatMap fun (p : Nat × Nat) => bytesLE 8 (2 ^ 32 * p.1 + p.2)) else (none, d1, m1)) :=
  ⟨state coreCodecJobDone, coreCodecJobDone, 0, 0, 3, aJob, [], encT.1, encT.2, encD.2.1, encD.2.1, encD.2.2, encD.2.2, encD.1, none,
    rfl, by decide +kernel, by decide +kernel, by decide +kernel, by decide +kernel, ((show _ = encT from rfl).trans (Prod.eta encT).symm), by decide +kernel, by decide +kernel, by decide +kernel⟩

def coreDramTraining : Core :=
  up.updHub fun h => { h with trainDue := true }

theorem met_dramTraining : ∃ (s : State) (c : Core),
    c = s.core ∧
    Live s 2 ∧
    c.hubOn = true ∧
    c.hub.trainDue = true ∧
    c.resumes = false :=
  ⟨state coreDramTraining, coreDramTraining,
    rfl, by decide +kernel, by decide +kernel, by decide +kernel, by decide +kernel⟩

def coreDramTrainDone : Core :=
  { (up.set K.hubTrainState 1) with boot := { up.boot with step := 6 } }

theorem met_dramTrainDone : ∃ (s : State) (c : Core) (ok : Bool) (result : Nat),
    c = s.core ∧
    Live s 2 ∧
    c.get K.hubTrainState = 1 ∧
    c.boot.step = 6 ∧
    (dramTrainDone ok result c).get K.hubTrainState = 2 :=
  ⟨state coreDramTrainDone, coreDramTrainDone, true, 0,
    rfl, by decide +kernel, by decide +kernel, by decide +kernel, by decide +kernel⟩

def coreDramFillDone : Core :=
  { ((up.updHub fun h => { h with fillNext := true }).set K.hubTrainState 2) with boot := { up.boot with step := 7 } }

theorem met_dramFillDone : ∃ (s : State) (c : Core),
    c = s.core ∧
    Live s 2 ∧
    c.hub.fillNext = true ∧
    c.boot.step = 7 ∧
    (dramFillDone c s.dram).1.boot.step = 7 ∧
    (dramFillDone c s.dram).1.hub.fillNext = false :=
  ⟨state coreDramFillDone, coreDramFillDone,
    rfl, by decide +kernel, by decide +kernel, by decide +kernel, by decide +kernel, by decide +kernel⟩

theorem met_dramReadReturn : ∃ (s : State) (c : Core) (addr : Nat),
    c = s.core ∧
    Live s 0 ∧
    c.hubWaits = false ∧
    c.refuses (addr / 64) = false :=
  ⟨state coreHub, coreHub, 0x1000,
    rfl, by decide +kernel, by decide +kernel, by decide +kernel⟩

theorem met_partialWriteMerge : ∃ (s : State) (c : Core) (addr : Nat) (data : List Byte),
    c = s.core ∧
    Live s 0 ∧
    c.hubWaits = false ∧
    data ≠ [] ∧
    data.length < 64 ∧
    addr % 64 + data.length ≤ 64 ∧
    c.refuses (addr / 64) = false :=
  ⟨state coreHub, coreHub, 0x1008, [1,2],
    rfl, by decide +kernel, by decide +kernel, by decide +kernel, by decide +kernel, by decide +kernel, by decide +kernel⟩

def coreScrubRead : Core :=
  { coreHub with sample := 2 ^ 50 }

theorem met_scrubRead : ∃ (s : State) (c : Core) (errs : List (Nat × Nat)) (d : Core),
    c = s.core ∧
    Live s 2 ∧
    c.hubOn = true ∧
    c.hubWaits = false ∧
    nth c.hub.idleSr (c.subOf (64 * c.hub.scrub)) = false ∧
    c.hub.scrubAt + c.scrubNs ≤ c.clock ∧
    (d = ((c.updHub fun (h : Hub) => { h with scrubAt := c.clock }).addFlips c.hub.scrub errs).hubMove 0x3B false c.hub.scrub 1 0) ∧
    ((c.updHub fun (h : Hub) => { h with scrubAt := c.clock }).refuses c.hub.scrub = false) ∧
    (burstRead (d.flipsOf c.hub.scrub)).bad = false ∧
    (burstRead (d.flipsOf c.hub.scrub)).corrected ≠ 0 :=
  ⟨state coreScrubRead, coreScrubRead, [(0, 1)], ((coreScrubRead.updHub fun (h : Hub) => { h with scrubAt := coreScrubRead.clock }).addFlips coreScrubRead.hub.scrub ([(0, 1)])).hubMove 0x3B false coreScrubRead.hub.scrub 1 0,
    rfl, by decide +kernel, by decide +kernel, by decide +kernel, by decide +kernel, by decide +kernel, rfl, by decide +kernel, by decide +kernel, by decide +kernel⟩

def coreRefreshDue : Core :=
  { (coreHub.updHub fun h => { h with cfg := (0, 0, 0, 2) }) with sample := 2 ^ 50 }

theorem met_refreshDue : ∃ (s : State) (c : Core) (ch : Nat) (sub : Nat) (panic : Bool) (d : Core),
    c = s.core ∧
    (ch < 4 ∧ sub < 2) ∧
    Live s 2 ∧
    c.hubOn = true ∧
    c.hub.granted = true ∧
    c.headPanics (2 * ch + sub) = panic ∧
    nth c.hub.idleSr (2 * ch + sub) = false ∧
    nth c.hub.refreshAt (2 * ch + sub) + c.refreshNs (2 * ch + sub) ≤ c.clock ∧
    (d = c.updHub fun (h : Hub) => { h with refreshAt := h.refreshAt.set (2 * ch + sub) c.clock }) :=
  ⟨state coreRefreshDue, coreRefreshDue, 0, 0, false, coreRefreshDue.updHub fun (h : Hub) => { h with refreshAt := h.refreshAt.set (2 * 0 + 0) coreRefreshDue.clock },
    rfl, by decide +kernel, by decide +kernel, by decide +kernel, by decide +kernel, by decide +kernel, by decide +kernel, by decide +kernel, rfl⟩

theorem met_dramTempPoll : ∃ (s : State) (c : Core) (ch : Nat) (sub : Nat) (hot : Bool),
    c = s.core ∧
    (ch < 4 ∧ sub < 2) ∧
    Live s 2 ∧
    hot = true ∧
    c.hubOn = true ∧
    c.hub.granted = true ∧
    nth c.hub.tempAt (2 * ch + sub) + 16000000 ≤ c.clock ∧
    c.bitOf K.hubHotMap (2 * ch + sub) = false :=
  ⟨state coreRefreshDue, coreRefreshDue, 3, 1, true,
    rfl, by decide +kernel, by decide +kernel, by decide +kernel, by decide +kernel, by decide +kernel, by decide +kernel, by decide +kernel⟩

theorem met_zqCal : ∃ (s : State) (c : Core) (ch : Nat),
    c = s.core ∧
    ch < 4 ∧
    Live s 2 ∧
    c.hubOn = true ∧
    c.hub.granted = true ∧
    c.rankCount = 2 ∧
    nth c.hub.zqAt (2 * ch) + 128000000 ≤ c.clock ∧
    nth (c.hub.zqAt.set (2 * ch) c.clock) (2 * ch + 1) + 128000000 ≤ c.clock :=
  ⟨state coreRefreshDue, coreRefreshDue, 3,
    rfl, by decide +kernel, by decide +kernel, by decide +kernel, by decide +kernel, by decide +kernel, by decide +kernel, by decide +kernel⟩

theorem met_dqsOscRead : ∃ (s : State) (c : Core) (ch : Nat) (sub : Nat) (r : Nat),
    c = s.core ∧
    (ch < 4 ∧ sub < 2) ∧
    Live s 2 ∧
    c.hubOn = true ∧
    c.hub.granted = true ∧
    c.oscDue (2 * ch + sub) = some r :=
  ⟨state coreRefreshDue, coreRefreshDue, 0, 0, 0,
    rfl, by decide +kernel, by decide +kernel, by decide +kernel, by decide +kernel, by decide +kernel⟩

def coreSrEntry : Core :=
  coreRefreshDue.set K.hubSrIdle 100

theorem met_srEntry : ∃ (s : State) (c : Core) (ch : Nat) (sub : Nat),
    c = s.core ∧
    (ch < 4 ∧ sub < 2) ∧
    Live s 2 ∧
    c.hubOn = true ∧
    c.hub.granted = true ∧
    c.get K.hubSrIdle ≠ 0 ∧
    (c.get K.devState = 2 ∨ c.get K.devState = 3) ∧
    (∀ j : Nat, j < 8 → c.get (K.chState j) = 0) ∧
    nth c.hub.idleSr (2 * ch + sub) = false ∧
    nth c.hub.lastReq (2 * ch + sub) + c.get K.hubSrIdle * 1000 ≤ c.clock :=
  ⟨state coreSrEntry, coreSrEntry, 0, 0,
    rfl, by decide +kernel, by decide +kernel, by decide +kernel, by decide +kernel, by decide +kernel, by decide +kernel, by decide +kernel, by decide +kernel, by decide +kernel⟩

def coreSrExit : Core :=
  coreHub.updHub fun h => { h with idleSr := h.idleSr.set 1 true }

theorem met_srExit : ∃ (s : State) (c : Core) (ch : Nat) (sub : Nat),
    c = s.core ∧
    (ch < 4 ∧ sub < 2) ∧
    Live s 2 ∧
    c.hubOn = true ∧
    c.hub.granted = true ∧
    nth c.hub.idleSr (2 * ch + sub) = true ∧
    ((c.hub.idleSr.set (2 * ch + sub) false).all (fun (b : Bool) => !b) = true) :=
  ⟨state coreSrExit, coreSrExit, 0, 1,
    rfl, by decide +kernel, by decide +kernel, by decide +kernel, by decide +kernel, by decide +kernel, by decide +kernel⟩

theorem met_perstNAssert : ∃ (s : State) (c : Core),
    c = s.core ∧
    Live s 3 :=
  ⟨state up, up,
    rfl, by decide +kernel⟩

theorem met_functionLevelReset : ∃ (s : State) (c : Core),
    c = s.core ∧
    Live s 3 :=
  ⟨state up, up,
    rfl, by decide +kernel⟩

theorem met_pcieLinkDown : ∃ (s : State) (c : Core),
    c = s.core ∧
    Live s 3 :=
  ⟨state up, up,
    rfl, by decide +kernel⟩

theorem met_pcieAer : ∃ (s : State) (c : Core) (status : Nat),
    c = s.core ∧
    Live s 3 ∧
    status < 2 ^ 32 :=
  ⟨state up, up, 0x1000,
    rfl, by decide +kernel, by decide +kernel⟩

theorem met_bar0Write : ∃ (s : State) (c : Core) (bar : Nat) (offset : Nat) (size : Nat),
    c = s.core ∧
    Live s 3 ∧
    bar = 0 ∧
    (size = 4 ∨ size = 8) ∧
    offset % size = 0 :=
  ⟨state up, up, 0, 8, 4,
    rfl, by decide +kernel, by decide +kernel, by decide +kernel, by decide +kernel⟩

theorem met_glbTimeRead : ∃ (s : State) (c : Core),
    c = s.core ∧
    Live s 3 :=
  ⟨state up, up,
    rfl, by decide +kernel⟩

theorem met_bar2Read : ∃ (s : State) (c : Core) (x : Nat) (len : Nat),
    c = s.core ∧
    Live s 3 ∧
    c.hubWaits = false ∧
    x + len ≤ 2 ^ 26 ∧
    c.refusedIn (burstsOf (c.bar2Addr x) len).1 (burstsOf (c.bar2Addr x) len).2 = [] :=
  ⟨state coreHub, coreHub, 0, 64,
    rfl, by decide +kernel, by decide +kernel, by decide +kernel, by decide +kernel⟩

theorem met_bar2Write : ∃ (s : State) (c : Core) (x : Nat) (data : List Byte) (poisoned : Bool),
    c = s.core ∧
    Live s 3 ∧
    c.hubWaits = false ∧
    x + data.length ≤ 2 ^ 26 ∧
    poisoned = false :=
  ⟨state coreHub, coreHub, 0, [1,2,3,4], false,
    rfl, by decide +kernel, by decide +kernel, by decide +kernel, by decide +kernel⟩

theorem met_mbxSubmit : ∃ (s : State) (c : Core) (len : Nat),
    c = s.core ∧
    Live s 3 ∧
    c.pcie.reqBusy = false ∧
    c.pcie.rspReady = false ∧
    len ≠ 0 ∧
    len ≤ 16384 :=
  ⟨state up, up, 16,
    rfl, by decide +kernel, by decide +kernel, by decide +kernel, by decide +kernel, by decide +kernel⟩

theorem met_mbxRspAck : ∃ (s : State) (c : Core),
    c = s.core ∧
    Live s 3 :=
  ⟨state up, up,
    rfl, by decide +kernel⟩

theorem met_ringEnable : ∃ (s : State) (c : Core) (k : Nat) (v : Nat),
    c = s.core ∧
    k < 64 ∧
    Live s 3 ∧
    (nth c.rings k).enable = false ∧
    4 ≤ v % 32 ∧
    v % 32 ≤ 16 ∧
    v.testBit 31 = true :=
  ⟨state up, up, 63, 0x80000008,
    rfl, by decide +kernel, by decide +kernel, by decide +kernel, by decide +kernel, by decide +kernel, by decide +kernel⟩

theorem met_ringDisable : ∃ (s : State) (c : Core) (k : Nat),
    c = s.core ∧
    k < 64 ∧
    Live s 3 :=
  ⟨state up, up, 0,
    rfl, by decide +kernel, by decide +kernel⟩

def coreRingDb : Core :=
  { up with rings := upd up.rings 0 fun x => { x with enable := true, size := 4 } }

theorem met_ringDb : ∃ (s : State) (c : Core) (k : Nat) (v : Nat),
    c = s.core ∧
    k < 64 ∧
    Live s 3 ∧
    ringToDevice k = true ∧
    (nth c.rings k).enable = true ∧
    (v % 2 ^ 32 + (2 ^ 32 - (nth c.rings k).cons)) % 2 ^ 32 ≤ 2 ^ (nth c.rings k).size ∧
    v % 2 ^ 32 ≠ (nth c.rings k).prod :=
  ⟨state coreRingDb, coreRingDb, 0, 3,
    rfl, by decide +kernel, by decide +kernel, by decide +kernel, by decide +kernel, by decide +kernel, by decide +kernel⟩

def coreRingEntryRead : Core :=
  { up with rings := upd up.rings 0 fun x => { x with enable := true, size := 4, prod := 3 } }

theorem met_ringEntryRead : ∃ (s : State) (c : Core) (k : Nat) (err : Nat),
    c = s.core ∧
    k < 64 ∧
    Live s 3 ∧
    k < 48 ∧
    ringToDevice k = true ∧
    (nth c.rings k).enable = true ∧
    (nth c.rings k).readFailed = false ∧
    (nth c.rings k).cons ≠ (nth c.rings k).prod ∧
    err = 0 :=
  ⟨state coreRingEntryRead, coreRingEntryRead, 0, 0,
    rfl, by decide +kernel, by decide +kernel, by decide +kernel, by decide +kernel, by decide +kernel, by decide +kernel, by decide +kernel, by decide +kernel⟩

def coreRingInterruptDue : Core :=
  { up with rings := upd up.rings 0 fun x => { x with enable := true, size := 4, since := 1 } }

theorem met_ringInterruptDue : ∃ (s : State) (c : Core) (k : Nat),
    c = s.core ∧
    k < 64 ∧
    Live s 3 ∧
    (nth c.rings k).since ≠ 0 ∧
    max 1 (nth c.rings k).modCount ≤ (nth c.rings k).since :=
  ⟨state coreRingInterruptDue, coreRingInterruptDue, 0,
    rfl, by decide +kernel, by decide +kernel, by decide +kernel, by decide +kernel⟩

def coreMsixUnmask : Core :=
  { up with vectors := upd up.vectors 127 fun x => { x with pending := true } }

theorem met_msixUnmask : ∃ (s : State) (c : Core) (v : Nat),
    c = s.core ∧
    v < 128 ∧
    Live s 3 ∧
    (nth c.vectors v).pending = true :=
  ⟨state coreMsixUnmask, coreMsixUnmask, 127,
    rfl, by decide +kernel, by decide +kernel, by decide +kernel⟩

theorem met_pcieLinkUp : ∃ (s : State) (c : Core) (gen : Nat) (width : Nat),
    c = s.core ∧
    Live s 3 ∧
    3 ≤ gen ∧
    gen ≤ c.get K.pcieMaxGen ∧
    (width = 1 ∨ width = 2 ∨ width = 4 ∨ width = 8) :=
  ⟨state up, up, 4, 8,
    rfl, by decide +kernel, by decide +kernel, by decide +kernel, by decide +kernel⟩

theorem met_dmaStart : ∃ (s : State) (c : Core) (ch : Nat),
    c = s.core ∧
    ch < 16 ∧
    Live s 3 ∧
    c.dmaOwned ch = false ∧
    ((nth c.dmas ch).state = 0 ∨ (nth c.dmas ch).state = 2) :=
  ⟨state coreHub, coreHub, 0,
    rfl, by decide +kernel, by decide +kernel, by decide +kernel, by decide +kernel⟩

def coreDmaStop : Core :=
  dmaCore 1 12

theorem met_dmaStop : ∃ (s : State) (c : Core) (ch : Nat),
    c = s.core ∧
    ch < 16 ∧
    Live s 3 ∧
    c.dmaOwned ch = false ∧
    ((nth c.dmas ch).state = 1 ∨ (nth c.dmas ch).state = 2) :=
  ⟨state coreDmaStop, coreDmaStop, 0,
    rfl, by decide +kernel, by decide +kernel, by decide +kernel, by decide +kernel⟩

theorem met_dmaReset : ∃ (s : State) (c : Core) (ch : Nat),
    c = s.core ∧
    ch < 16 ∧
    Live s 3 ∧
    c.dmaOwned ch = false ∧
    ((nth c.dmas ch).state = 0 ∨ (nth c.dmas ch).state = 4) :=
  ⟨state coreHub, coreHub, 15,
    rfl, by decide +kernel, by decide +kernel, by decide +kernel, by decide +kernel⟩

theorem met_dmaHeadWrite : ∃ (s : State) (c : Core) (ch : Nat),
    c = s.core ∧
    ch < 16 ∧
    Live s 3 ∧
    c.dmaOwned ch = false ∧
    ((nth c.dmas ch).state = 0 ∨ (nth c.dmas ch).state = 2 ∨ (nth c.dmas ch).state = 4) :=
  ⟨state coreHub, coreHub, 0,
    rfl, by decide +kernel, by decide +kernel, by decide +kernel, by decide +kernel⟩

def coreDmaKick : Core :=
  dmaCore 1 12

theorem met_dmaKick : ∃ (s : State) (c : Core) (ch : Nat),
    c = s.core ∧
    ch < 16 ∧
    Live s 3 ∧
    c.dmaOwned ch = false ∧
    (nth c.dmas ch).state ≠ 0 ∧
    (nth c.dmas ch).state ≠ 4 :=
  ⟨state coreDmaKick, coreDmaKick, 0,
    rfl, by decide +kernel, by decide +kernel, by decide +kernel, by decide +kernel, by decide +kernel⟩

def coreDmaDescFetched : Core :=
  { coreDmaKick with dmas := upd coreDmaKick.dmas 0 fun x => { x with next := some 0x9000, chain := x.chain.take 1 } }

theorem met_dmaDescFetched : ∃ (s : State) (c : Core) (ch : Nat) (desc : List Byte) (err : Nat) (a : Nat),
    c = s.core ∧
    ch < 16 ∧
    Live s 3 ∧
    (nth c.dmas ch).next = some a ∧
    (nth c.dmas ch).state = 1 ∧
    (nth c.dmas ch).chain.length < 4 ∧
    (nth c.dmas ch).chain ≠ [] ∧
    dmaSpace a = false ∧
    err = 0 ∧
    dBad (padTo 64 desc) = false ∧
    dEnd (padTo 64 desc) = false :=
  ⟨state coreDmaDescFetched, coreDmaDescFetched, 0, (aDesc 12 64 0xA000), 0, 0x9000,
    rfl, by decide +kernel, by decide +kernel, by decide +kernel, by decide +kernel, by decide +kernel, by decide +kernel, by decide +kernel, by decide +kernel, by decide +kernel, by decide +kernel⟩

def coreDmaLinkReread : Core :=
  { coreHub with dmas := upd coreHub.dmas 0 fun x => { x with state := 1, reread := some (0x8000, true) } }

theorem met_dmaLinkReread : ∃ (s : State) (c : Core) (ch : Nat) (link : Nat) (err : Nat) (a : Nat) (kick : Bool),
    c = s.core ∧
    ch < 16 ∧
    Live s 3 ∧
    (nth c.dmas ch).reread = some (a, kick) ∧
    (nth c.dmas ch).state = 1 ∧
    dmaSpace a = false ∧
    err = 0 ∧
    (natLE (bytesLE 8 link)).testBit 0 = false :=
  ⟨state coreDmaLinkReread, coreDmaLinkReread, 0, 0x9000, 0, 0x8000, true,
    rfl, by decide +kernel, by decide +kernel, by decide +kernel, by decide +kernel, by decide +kernel, by decide +kernel, by decide +kernel⟩

def coreDmaHalfPoint : Core :=
  dmaCore 1 13

theorem met_dmaHalfPoint : ∃ (s : State) (c : Core) (ch : Nat) (x : DmaDesc) (rest : List DmaDesc),
    c = s.core ∧
    ch < 16 ∧
    Live s 3 ∧
    c.hubWaits = false ∧
    (nth c.dmas ch).chain = x :: rest ∧
    (nth c.dmas ch).state = 1 ∧
    x.err = 0 ∧
    dHalf x.bytes = true ∧
    (nth c.dmas ch).halfDone = false :=
  ⟨state coreDmaHalfPoint, coreDmaHalfPoint, 0, ({ addr := 0x8000, bytes := aDesc 13 16 0x9000 } : DmaDesc), [{ addr := 0x9000, bytes := aDesc 12 16 1 }],
    rfl, by decide +kernel, by decide +kernel, by decide +kernel, by decide +kernel, by decide +kernel, by decide +kernel, by decide +kernel, by decide +kernel⟩

def coreDmaDescDone : Core :=
  dmaCore 1 12

theorem met_dmaDescDone : ∃ (s : State) (c : Core) (ch : Nat) (x : DmaDesc) (rest : List DmaDesc),
    c = s.core ∧
    ch < 16 ∧
    Live s 3 ∧
    c.hubWaits = false ∧
    (nth c.dmas ch).chain = x :: rest ∧
    (nth c.dmas ch).state = 1 ∧
    (nth c.dmas ch).intake = none ∧
    x.err = 0 ∧
    dHalf x.bytes = false :=
  ⟨state coreDmaDescDone, coreDmaDescDone, 0, ({ addr := 0x8000, bytes := aDesc 12 16 0x9000 } : DmaDesc), [{ addr := 0x9000, bytes := aDesc 12 16 1 }],
    rfl, by decide +kernel, by decide +kernel, by decide +kernel, by decide +kernel, by decide +kernel, by decide +kernel, by decide +kernel, by decide +kernel⟩

def coreDmaStopped : Core :=
  dmaCore 3 12

theorem met_dmaStopped : ∃ (s : State) (c : Core) (ch : Nat) (upTo : Nat) (x : DmaDesc) (rest : List DmaDesc),
    c = s.core ∧
    ch < 16 ∧
    Live s 3 ∧
    c.hubWaits = false ∧
    (nth c.dmas ch).chain = x :: rest ∧
    (nth c.dmas ch).state = 3 ∧
    x.err = 0 ∧
    (nth c.dmas ch).moved ≤ upTo ∧
    upTo ≤ dTotal x.bytes ∧
    (dType x.bytes = 4 ∨ dAligned x.bytes upTo = true) :=
  ⟨state coreDmaStopped, coreDmaStopped, 0, 16, ({ addr := 0x8000, bytes := aDesc 12 16 0x9000 } : DmaDesc), [{ addr := 0x9000, bytes := aDesc 12 16 1 }],
    rfl, by decide +kernel, by decide +kernel, by decide +kernel, by decide +kernel, by decide +kernel, by decide +kernel, by decide +kernel, by decide +kernel, by decide +kernel⟩

def coreDmaError : Core :=
  dmaCore 1 8

theorem met_dmaError : ∃ (s : State) (c : Core) (ch : Nat) (kind : Nat) (typ : Nat) (x : DmaDesc) (rest : List DmaDesc),
    c = s.core ∧
    ch < 16 ∧
    Live s 3 ∧
    (nth c.dmas ch).chain = x :: rest ∧
    (nth c.dmas ch).state = 1 ∧
    x.err = 0 ∧
    (nth c.dmas ch).intake = none ∧
    typ = 3 ∧
    dSrcDram x.bytes = false ∧
    1 ≤ kind ∧
    kind ≤ 4 :=
  ⟨state coreDmaError, coreDmaError, 0, 1, 3, ({ addr := 0x8000, bytes := aDesc 8 16 0x9000 } : DmaDesc), [{ addr := 0x9000, bytes := aDesc 12 16 1 }],
    rfl, by decide +kernel, by decide +kernel, by decide +kernel, by decide +kernel, by decide +kernel, by decide +kernel, by decide +kernel, by decide +kernel, by decide +kernel, by decide +kernel⟩

def coreWopRequest : Core :=
  up.set (K.wopEthEnable 0) 1

theorem met_wopRequest : ∃ (s : State) (c : Core) (transport : Nat),
    c = s.core ∧
    Live s 1 ∧
    transport = 1 ∧
    c.ethUp 0 = true :=
  ⟨state coreWopRequest, coreWopRequest, 1,
    rfl, by decide +kernel, by decide +kernel, by decide +kernel⟩

def coreUdpDatagram : Core :=
  up.set (K.wopEthEnable 0) 1

theorem met_udpDatagram : ∃ (s : State) (c : Core) (p : Nat) (addr : Nat) (fragOffset : Nat) (more : Bool) (payload : List Byte),
    c = s.core ∧
    p < 2 ∧
    Live s 4 ∧
    c.ethUp p = true ∧
    fragOffset = 0 ∧
    more = false ∧
    8 ≤ beAt payload 4 2 ∧
    beAt payload 4 2 ≤ payload.length ∧
    beAt payload 2 2 = 47250 ∧
    udpChecksumFails addr (c.get (K.wopEthIpAddr p)) (payload.take (beAt payload 4 2)) = false :=
  ⟨state coreUdpDatagram, coreUdpDatagram, 0, 5, 0, false, (bytesBE 2 4000 ++ bytesBE 2 47250 ++ bytesBE 2 10 ++ bytesBE 2 0 ++ [1, 2]),
    rfl, by decide +kernel, by decide +kernel, by decide +kernel, by decide +kernel, by decide +kernel, by decide +kernel, by decide +kernel, by decide +kernel, by decide +kernel⟩

def coreReassemblyTimeout : Core :=
  { up with reasms := [[{ addr := 1, ident := 1, at_ := 0, frags := [], total := none }], []], sample := 2 ^ 50 }

theorem met_reassemblyTimeout : ∃ (s : State) (c : Core) (x : Reasm),
    c = s.core ∧
    Live s 4 ∧
    nth c.reasms 0 = [x] ∧
    nth c.reasms 1 = [] ∧
    x.at_ + 100000000 < c.clock :=
  ⟨state coreReassemblyTimeout, coreReassemblyTimeout, ({ addr := 1, ident := 1, at_ := 0, frags := [], total := none } : Reasm),
    rfl, by decide +kernel, by decide +kernel, by decide +kernel, by decide +kernel⟩

theorem met_arpRequest : ∃ (s : State) (c : Core) (p : Nat) (ip : Nat),
    c = s.core ∧
    p < 2 ∧
    Live s 4 ∧
    c.ethAnswers p = true ∧
    ip = c.get (K.wopEthIpAddr p) :=
  ⟨state up, up, 0, (up.get (K.wopEthIpAddr 0)),
    rfl, by decide +kernel, by decide +kernel, by decide +kernel, by decide +kernel⟩

theorem met_icmpEcho : ∃ (s : State) (c : Core) (p : Nat),
    c = s.core ∧
    p < 2 ∧
    Live s 4 ∧
    c.ethAnswers p = true :=
  ⟨state up, up, 1,
    rfl, by decide +kernel, by decide +kernel, by decide +kernel⟩

def coreCanFrame : Core :=
  up.set (K.wopCanEnable 0) 1

theorem met_canFrame : ∃ (s : State) (c : Core) (ch : Nat) (id : Nat) (fd : Bool) (data : List Byte),
    c = s.core ∧
    ch < 2 ∧
    Live s 4 ∧
    c.canUp ch = true ∧
    fd = true ∧
    id = c.get (K.wopCanReqId ch) ∧
    0 < data.length ∧
    data.length ≤ 64 ∧
    (beAt data 0 1).testBit 7 = true ∧
    (beAt data 0 1).testBit 6 = false ∧
    beAt data 0 1 % 64 = 0 :=
  ⟨state coreCanFrame, coreCanFrame, 0, (coreCanFrame.get (K.wopCanReqId 0)), true, [0x80, 1],
    rfl, by decide +kernel, by decide +kernel, by decide +kernel, by decide +kernel, by decide +kernel, by decide +kernel, by decide +kernel, by decide +kernel, by decide +kernel, by decide +kernel⟩

def coreSegTimeout : Core :=
  { up with cans := upd up.cans 0 fun x => { x with msg := some ([1], 1) }, sample := 2 ^ 50 }

theorem met_segTimeout : ∃ (s : State) (c : Core) (ch : Nat),
    c = s.core ∧
    ch < 2 ∧
    Live s 4 ∧
    (nth c.cans ch).msg.isSome = true ∧
    (nth c.cans ch).at_ + c.get (K.wopCanSegTimeout ch) * 1000000 < c.clock :=
  ⟨state coreSegTimeout, coreSegTimeout, 0,
    rfl, by decide +kernel, by decide +kernel, by decide +kernel, by decide +kernel⟩

def coreCanBusOff : Core :=
  up.set (K.wopCanEnable 1) 1

theorem met_canBusOff : ∃ (s : State) (c : Core) (ch : Nat),
    c = s.core ∧
    ch < 2 ∧
    Live s 4 ∧
    c.canUp ch = true :=
  ⟨state coreCanBusOff, coreCanBusOff, 1,
    rfl, by decide +kernel, by decide +kernel, by decide +kernel⟩

theorem met_ethLinkChange : ∃ (s : State) (c : Core) (p : Nat),
    c = s.core ∧
    p < 2 ∧
    Live s 4 ∧
    (c.get K.devPdStatus).testBit 4 = true :=
  ⟨state up, up, 0,
    rfl, by decide +kernel, by decide +kernel, by decide +kernel⟩

def corePdSwitchDone : Core :=
  { up with boot := { up.boot with offs := [16] } }

theorem met_pdSwitchDone : ∃ (s : State) (c : Core) (d : Nat) (rest : List Nat),
    c = s.core ∧
    d < 17 ∧
    Live s 0 ∧
    c.boot.offs = d :: rest :=
  ⟨state corePdSwitchDone, corePdSwitchDone, 16, [],
    rfl, by decide +kernel, by decide +kernel, by decide +kernel⟩

def coreLockLeaseExpiry : Core :=
  { up with locks := upd up.locks 9 fun x => { x with owner := some me } }

theorem met_lockLeaseExpiry : ∃ (s : State) (c : Core) (k : Nat),
    c = s.core ∧
    k < 10 ∧
    Live s 1 ∧
    c.fw.op = 0 ∧
    (nth c.locks k).ends ≤ c.clock :=
  ⟨state coreLockLeaseExpiry, coreLockLeaseExpiry, 9,
    rfl, by decide +kernel, by decide +kernel, by decide +kernel, by decide +kernel⟩

def coreOpEnd : Core :=
  { up with fw := { up.fw with op := 1 } }

theorem met_opEnd : ∃ (s : State) (c : Core) (ok : Bool),
    c = s.core ∧
    Live s 1 ∧
    ok = false ∧
    c.fw.op = 1 :=
  ⟨state coreOpEnd, coreOpEnd, false,
    rfl, by decide +kernel, by decide +kernel, by decide +kernel⟩

def coreOpTimeout : Core :=
  { up with fw := { up.fw with op := 1 }, sample := 2 ^ 50 }

theorem met_opTimeout : ∃ (s : State) (c : Core),
    c = s.core ∧
    Live s 1 ∧
    c.fw.op ≠ 0 ∧
    c.fw.op ≠ 5 ∧
    c.fw.opAt + opMax c.fw.op * 1000000 ≤ c.clock :=
  ⟨state coreOpTimeout, coreOpTimeout,
    rfl, by decide +kernel, by decide +kernel, by decide +kernel, by decide +kernel⟩

def coreLoopPeriodTrigger : Core :=
  { ((((up.set (K.loopSlotEnable 0) 1).set (K.loopSlotTrigger 0) 1).set (K.loopSlotPeriod 0) 10) : Core) with time := 2 ^ 60 }

theorem met_loopPeriodTrigger : ∃ (s : State) (c : Core) (slot : Nat),
    c = s.core ∧
    slot < 64 ∧
    Live s 6 ∧
    c.loopOn = true ∧
    c.slotOn slot = true ∧
    c.slotMode slot = 1 ∧
    nextInstant (c.get (K.loopSlotPeriod slot) * 1000) (c.get (K.loopSlotPhase slot) * 1000) (nth c.slots slot).instant ≤ c.now :=
  ⟨state coreLoopPeriodTrigger, coreLoopPeriodTrigger, 0,
    rfl, by decide +kernel, by decide +kernel, by decide +kernel, by decide +kernel, by decide +kernel, by decide +kernel⟩

def coreLoopSampleRun : Core :=
  { (up.set (K.loopSlotDeadline 3) 100) with slots := upd up.slots 3 fun x => { x with wait := some { time := 0, cycle := 0, x := [], r := [], ff := [], stale := [] } } }

theorem met_loopSampleRun : ∃ (s : State) (c : Core) (d : Core) (k : Nat) (t : LoopWait),
    c = s.core ∧
    Live s 6 ∧
    c.loopOn = true ∧
    c.loopFree ≤ 2 * c.clock ∧
    (d = (List.range 64).foldl (fun (a : Core) (k : Nat) => loopExpire k a) c) ∧
    d.nextSample = some k ∧
    (nth d.slots k).wait = some t :=
  ⟨state coreLoopSampleRun, coreLoopSampleRun, ((List.range 64).foldl (fun (a : Core) (j : Nat) => loopExpire j a) coreLoopSampleRun), 3, ({ time := 0, cycle := 0, x := [], r := [], ff := [], stale := [] } : LoopWait),
    rfl, by decide +kernel, by decide +kernel, by decide +kernel, rfl, by decide +kernel, by decide +kernel⟩

theorem met_loopDeadlineMiss : ∃ (s : State) (c : Core) (slot : Nat),
    c = s.core ∧
    slot < 64 ∧
    Live s 6 ∧
    c.loopOn = true :=
  ⟨state coreLoopSampleRun, coreLoopSampleRun, 0,
    rfl, by decide +kernel, by decide +kernel, by decide +kernel⟩

def coreLoopToneWrite : Core :=
  { up with slots := upd up.slots 0 fun x => { x with toneDue := true } }

theorem met_loopToneWrite : ∃ (s : State) (c : Core) (slot : Nat),
    c = s.core ∧
    slot < 64 ∧
    Live s 6 ∧
    c.loopOn = true ∧
    (nth c.slots slot).toneDue = true ∧
    (nth c.slots slot).toneRuns = [] :=
  ⟨state coreLoopToneWrite, coreLoopToneWrite, 0,
    rfl, by decide +kernel, by decide +kernel, by decide +kernel, by decide +kernel, by decide +kernel⟩

def coreLoopToneWriteDone : Core :=
  { coreHub with slots := upd coreHub.slots 0 fun x => { x with toneRuns := [(0, [])] } }

theorem met_loopToneWriteDone : ∃ (s : State) (c : Core) (slot : Nat),
    c = s.core ∧
    slot < 64 ∧
    Live s 6 ∧
    c.hubWaits = false ∧
    c.loopOn = true ∧
    (nth c.slots slot).toneRuns ≠ [] :=
  ⟨state coreLoopToneWriteDone, coreLoopToneWriteDone, 0,
    rfl, by decide +kernel, by decide +kernel, by decide +kernel, by decide +kernel, by decide +kernel⟩

theorem met_loopPendingWrite : ∃ (s : State) (c : Core) (slot : Nat),
    c = s.core ∧
    slot < 64 ∧
    Live s 6 ∧
    c.loopOn = true :=
  ⟨state up, up, 63,
    rfl, by decide +kernel, by decide +kernel, by decide +kernel⟩

def coreAinSeqPeriod : Core :=
  { (up.set (K.loopSeqPeriod 7) 10) with time := 2 ^ 60 }

theorem met_ainSeqPeriod : ∃ (s : State) (c : Core) (q : Nat),
    c = s.core ∧
    q < 8 ∧
    Live s 6 ∧
    c.loopOn = true ∧
    c.get (K.loopSeqPeriod q) ≠ 0 ∧
    nextInstant (c.get (K.loopSeqPeriod q) * 1000) 0 (nth c.ainSeqs q).instant ≤ c.now :=
  ⟨state coreAinSeqPeriod, coreAinSeqPeriod, 7,
    rfl, by decide +kernel, by decide +kernel, by decide +kernel, by decide +kernel, by decide +kernel⟩

def coreAinSeqDone : Core :=
  { up with ainSeqs := upd up.ainSeqs 0 fun x => { x with running := true } }

theorem met_ainSeqDone : ∃ (s : State) (c : Core) (q : Nat),
    c = s.core ∧
    q < 8 ∧
    Live s 6 ∧
    c.loopOn = true ∧
    (nth c.ainSeqs q).running = true :=
  ⟨state coreAinSeqDone, coreAinSeqDone, 0,
    rfl, by decide +kernel, by decide +kernel, by decide +kernel, by decide +kernel⟩

def coreAinScanConversion : Core :=
  up.set K.loopAinScan 0x1FFFFFF

theorem met_ainScanConversion : ∃ (s : State) (c : Core) (input : Nat),
    c = s.core ∧
    input < 25 ∧
    Live s 1 ∧
    c.loopOn = true ∧
    c.bitOf K.loopAinScan input = true :=
  ⟨state coreAinScanConversion, coreAinScanConversion, 24,
    rfl, by decide +kernel, by decide +kernel, by decide +kernel, by decide +kernel⟩

theorem met_ptpSyncRx : ∃ (s : State) (c : Core) (p : Nat) (msg : PtpMsg),
    c = s.core ∧
    p < 2 ∧
    Live s 4 ∧
    c.ptpHears p msg = true ∧
    (c.bump K.timePtpSyncs).fromParent msg = true ∧
    msg.twoStep = false :=
  ⟨state coreSlave, coreSlave, 0, aMsg,
    rfl, by decide +kernel, by decide +kernel, by decide +kernel, by decide +kernel, by decide +kernel⟩

def corePtpFollowUpRx : Core :=
  coreSlave.updPtp fun x => { x with waiting := some (1, 0, 0) }

theorem met_ptpFollowUpRx : ∃ (s : State) (c : Core) (p : Nat) (msg : PtpMsg) (t2 : Int) (corr : Int),
    c = s.core ∧
    p < 2 ∧
    Live s 4 ∧
    c.ptpHears p msg = true ∧
    c.fromParent msg = true ∧
    c.ptp.waiting = some (msg.seq, t2, corr) :=
  ⟨state corePtpFollowUpRx, corePtpFollowUpRx, 0, aMsg, 0, 0,
    rfl, by decide +kernel, by decide +kernel, by decide +kernel, by decide +kernel, by decide +kernel⟩

def corePtpDelayRespRx : Core :=
  coreSlave.updPtp fun x => { x with req := some (1, 0), dms := some 0 }

theorem met_ptpDelayRespRx : ∃ (s : State) (c : Core) (p : Nat) (msg : PtpMsg) (t3 : Int) (dms : Int) (d : Core),
    c = s.core ∧
    p < 2 ∧
    Live s 4 ∧
    c.ptpHears p msg = true ∧
    c.fromParent msg = true ∧
    msg.reqId = c.ownClock ∧
    c.ptp.req = some (msg.seq, t3) ∧
    c.ptp.dms = some dms ∧
    (d = c.updPtp fun (x : Ptp) => { x with req := none, delays := (roundFree (dms + (msg.origin * 2 ^ 16 - msg.correction - t3)) 2 :: x.delays).take 8 }) :=
  ⟨state corePtpDelayRespRx, corePtpDelayRespRx, 0, ({ aMsg with reqId := corePtpDelayRespRx.ownClock } : PtpMsg), 0, 0, corePtpDelayRespRx.updPtp fun (x : Ptp) => { x with req := none, delays := (roundFree (0 + ((({ aMsg with reqId := corePtpDelayRespRx.ownClock } : PtpMsg)).origin * 2 ^ 16 - (({ aMsg with reqId := corePtpDelayRespRx.ownClock } : PtpMsg)).correction - 0)) 2 :: x.delays).take 8 },
    rfl, by decide +kernel, by decide +kernel, by decide +kernel, by decide +kernel, rfl, by decide +kernel, by decide +kernel, rfl⟩

def corePtpDelayReqRx : Core :=
  corePtp.set K.timePtpState 6

theorem met_ptpDelayReqRx : ∃ (s : State) (c : Core) (p : Nat) (msg : PtpMsg),
    c = s.core ∧
    p < 2 ∧
    Live s 4 ∧
    c.ptpHears p msg = true ∧
    c.get K.timePtpState = 6 :=
  ⟨state corePtpDelayReqRx, corePtpDelayReqRx, 0, aMsg,
    rfl, by decide +kernel, by decide +kernel, by decide +kernel, by decide +kernel⟩

def corePtpAnnounceRx : Core :=
  corePtp.updPtp fun x => { x with foreign := [{ srcId := 5, srcPort := 1, data := [1, 6, 0x21, 0, 1, 5, 0], times := [0] }] }

theorem met_ptpAnnounceRx : ∃ (s : State) (c : Core) (p : Nat) (msg : PtpMsg) (f : Foreign) (b : Foreign) (d : Core),
    c = s.core ∧
    p < 2 ∧
    Live s 4 ∧
    c.ptpHears p msg = true ∧
    c.get K.timeMode = 1 ∧
    msg.srcId ≠ c.ownClock ∧
    msg.stepsRemoved < 255 ∧
    (f = { srcId := msg.srcId, srcPort := msg.srcPort, data := [msg.priority1, msg.clockClass, msg.accuracy, msg.variance, msg.priority2, msg.gmId, msg.stepsRemoved], times := (match c.ptp.foreign.find? (fun (y : Foreign) => y.srcId = msg.srcId && y.srcPort = msg.srcPort) with | some g => (c.clock :: g.times).take 2 | none => [c.clock]) }) ∧
    (d = c.updPtp fun (x : Ptp) => { x with foreign := f :: x.foreign.filter fun (y : Foreign) => !(y.srcId = msg.srcId && y.srcPort = msg.srcPort : Bool) }) ∧
    bestMaster d.qualified = some b ∧
    d.get K.timeMode = 1 :=
  ⟨state corePtpAnnounceRx, corePtpAnnounceRx, 0, aMsg, { srcId := aMsg.srcId, srcPort := aMsg.srcPort, data := [aMsg.priority1, aMsg.clockClass, aMsg.accuracy, aMsg.variance, aMsg.priority2, aMsg.gmId, aMsg.stepsRemoved], times := (match corePtpAnnounceRx.ptp.foreign.find? (fun (y : Foreign) => y.srcId = aMsg.srcId && y.srcPort = aMsg.srcPort) with | some g => (corePtpAnnounceRx.clock :: g.times).take 2 | none => [corePtpAnnounceRx.clock]) }, ({ srcId := 5, srcPort := 1, data := [1, 6, 0x21, 0, 1, 5, 0], times := [0, 0] } : Foreign), corePtpAnnounceRx.updPtp fun (x : Ptp) => { x with foreign := ({ srcId := aMsg.srcId, srcPort := aMsg.srcPort, data := [aMsg.priority1, aMsg.clockClass, aMsg.accuracy, aMsg.variance, aMsg.priority2, aMsg.gmId, aMsg.stepsRemoved], times := (match corePtpAnnounceRx.ptp.foreign.find? (fun (y : Foreign) => y.srcId = aMsg.srcId && y.srcPort = aMsg.srcPort) with | some g => (corePtpAnnounceRx.clock :: g.times).take 2 | none => [corePtpAnnounceRx.clock]) }) :: x.foreign.filter fun (y : Foreign) => !(y.srcId = aMsg.srcId && y.srcPort = aMsg.srcPort : Bool) },
    rfl, by decide +kernel, by decide +kernel, by decide +kernel, by decide +kernel, (Nat.ne_of_lt (fiveLt corePtpAnnounceRx)), by decide +kernel, rfl, rfl, by decide +kernel, by decide +kernel⟩

def corePtpSyncTx : Core :=
  { (corePtp.set K.timePtpState 6) with sample := 2 ^ 50 }

theorem met_ptpSyncTx : ∃ (s : State) (c : Core) (p : Nat) (d : Core),
    c = s.core ∧
    p < 2 ∧
    Live s 4 ∧
    c.ptpOn p = true ∧
    c.get K.timePtpState = 6 ∧
    c.ptp.syncTx + logNs (c.geti K.timePtpLogSync) ≤ c.clock ∧
    (d = c.updPtp fun (x : Ptp) => { x with syncSeq := (c.ptp.syncSeq + 1) % 2 ^ 16, syncTx := c.clock }) :=
  ⟨state corePtpSyncTx, corePtpSyncTx, 0, corePtpSyncTx.updPtp fun (x : Ptp) => { x with syncSeq := (corePtpSyncTx.ptp.syncSeq + 1) % 2 ^ 16, syncTx := corePtpSyncTx.clock },
    rfl, by decide +kernel, by decide +kernel, by decide +kernel, by decide +kernel, by decide +kernel, rfl⟩

def corePtpDelayReqTx : Core :=
  { coreSlave with sample := 2 ^ 50 }

theorem met_ptpDelayReqTx : ∃ (s : State) (c : Core) (p : Nat),
    c = s.core ∧
    p < 2 ∧
    Live s 4 ∧
    c.ptpOn p = true ∧
    (c.get K.timePtpState = 8 ∨ c.get K.timePtpState = 9) ∧
    c.ptp.reqAt + logNs (c.geti K.timePtpLogDelayreq) ≤ c.clock :=
  ⟨state corePtpDelayReqTx, corePtpDelayReqTx, 0,
    rfl, by decide +kernel, by decide +kernel, by decide +kernel, by decide +kernel, by decide +kernel⟩

theorem met_ptpAnnounceTx : ∃ (s : State) (c : Core) (p : Nat),
    c = s.core ∧
    p < 2 ∧
    Live s 4 ∧
    c.ptpOn p = true ∧
    c.get K.timePtpState = 6 ∧
    c.ptp.announceTx + logNs (c.geti K.timePtpLogAnnounce) ≤ c.clock :=
  ⟨state corePtpSyncTx, corePtpSyncTx, 0,
    rfl, by decide +kernel, by decide +kernel, by decide +kernel, by decide +kernel, by decide +kernel⟩

theorem met_ptpAnnounceTimeout : ∃ (s : State) (c : Core) (p : Nat),
    c = s.core ∧
    p < 2 ∧
    Live s 4 ∧
    c.ptpOn p = true ∧
    (c.get K.timePtpState = 4 ∨ c.get K.timePtpState = 7 ∨ c.get K.timePtpState = 8 ∨ c.get K.timePtpState = 9) ∧
    c.ptp.announceAt + c.get K.timePtpAnnounceTimeout * logNs (c.geti K.timePtpLogAnnounce) ≤ c.clock ∧
    ((c.updPtp fun (x : Ptp) => { x with foreign := [] }).get K.timeMode = 1) :=
  ⟨state corePtpDelayReqTx, corePtpDelayReqTx, 0,
    rfl, by decide +kernel, by decide +kernel, by decide +kernel, by decide +kernel, by decide +kernel, by decide +kernel⟩

def coreTimeValidHold : Core :=
  { (up.set K.timeStatus 1) with sample := 2 ^ 50 }

theorem met_timeValidHold : ∃ (s : State) (c : Core),
    c = s.core ∧
    Live s 4 ∧
    c.timeValid = true ∧
    c.get K.timePtpState ≠ 6 ∧
    max c.ptp.syncAt c.ptp.validAt + c.get K.timeValidHold * 1000000000 ≤ c.clock :=
  ⟨state coreTimeValidHold, coreTimeValidHold,
    rfl, by decide +kernel, by decide +kernel, by decide +kernel, by decide +kernel⟩

def coreTimeSnap : Core :=
  ((up.set K.timeStatus 1).set K.timeSnapMode 1).set K.alignState 4

theorem met_timeSnap : ∃ (s : State) (c : Core) (t : Int) (g : Int),
    c = s.core ∧
    Live s 4 ∧
    c.get K.timeSnapMode = 1 ∧
    c.snapped = false ∧
    c.get K.alignState = 4 ∧
    c.timeValid = true ∧
    (c.geti K.timeOffset).natAbs ≤ c.get K.timeSnapTol ∧
    c.maySteps = true ∧
    (c.sample - c.align.origin) % max 1 c.alignRatio = 0 ∧
    t = (c.time : Int) - roundFree (c.get K.alignRefDelay * 2 ^ 32 : Nat) 1000 ∧
    g = ((c.get K.timeSnapGrid * 2 ^ 32 : Nat) : Int) :=
  ⟨state coreTimeSnap, coreTimeSnap, (coreTimeSnap.time : Int) - roundFree (coreTimeSnap.get K.alignRefDelay * 2 ^ 32 : Nat) 1000, ((coreTimeSnap.get K.timeSnapGrid * 2 ^ 32 : Nat) : Int),
    rfl, by decide +kernel, by decide +kernel, by decide +kernel, by decide +kernel, by decide +kernel, by decide +kernel, by decide +kernel, by decide +kernel, rfl, rfl⟩

def coreTimeSnapLost : Core :=
  { ((up.set K.timeStatus 4).set K.alignState 5) with sample := 2 ^ 50 }

theorem met_timeSnapLost : ∃ (s : State) (c : Core),
    c = s.core ∧
    Live s 4 ∧
    c.snapped = true ∧
    c.get K.alignState = 5 ∧
    c.align.coastAt + c.get K.alignCoastKeep * 1000000 < c.clock :=
  ⟨state coreTimeSnapLost, coreTimeSnapLost,
    rfl, by decide +kernel, by decide +kernel, by decide +kernel, by decide +kernel⟩

def coreAlignAcquire : Core :=
  ((up.set K.alignRefFreq 1).set K.alignState 2).set K.alignBandTable aTable

theorem met_alignAcquire : ∃ (s : State) (c : Core) (phase : Int) (j : Nat) (fine : Nat),
    c = s.core ∧
    Live s 4 ∧
    c.get K.alignRefFreq ≠ 0 ∧
    c.get K.alignState = 2 ∧
    tableBad (c.get K.alignBandTable) = none ∧
    bandFor (c.get K.alignBandTable) (phase - (c.get K.alignRefDelay : Nat)) = some (j, fine) :=
  ⟨state coreAlignAcquire, coreAlignAcquire, 2500, 31, 102,
    rfl, by decide +kernel, by decide +kernel, by decide +kernel, by decide +kernel, by decide +kernel⟩

def coreAlignLocked : Core :=
  { ((up.set K.alignState 3).updAlign fun (x : Align) => { x with okSince := some 0 }) with sample := 2 ^ 50 }

theorem met_alignLocked : ∃ (s : State) (c : Core) (t : Nat),
    c = s.core ∧
    Live s 4 ∧
    c.align.okSince = some t ∧
    c.get K.alignState = 3 ∧
    t + c.get K.alignLockTime * 1000 ≤ c.clock :=
  ⟨state coreAlignLocked, coreAlignLocked, 0,
    rfl, by decide +kernel, by decide +kernel, by decide +kernel, by decide +kernel⟩

def coreAlignCorrection : Core :=
  { ((up.set K.alignState 3).set K.alignFine 500) with sample := 2 ^ 50 }

theorem met_alignCorrection : ∃ (s : State) (c : Core) (phase : Int) (d : Core) (f : Int),
    c = s.core ∧
    Live s 4 ∧
    (c.get K.alignState = 3 ∨ c.get K.alignState = 4) ∧
    c.align.corrAt + 5 * 1024 * c.alignRatio ≤ c.clock ∧
    (d = (c.satI K.alignPhaseErr phase).updAlign fun (x : Align) => { x with corrAt := (c.satI K.alignPhaseErr phase).clock, okSince := if phase.natAbs ≤ 20 then some ((c.satI K.alignPhaseErr phase).align.okSince.getD (c.satI K.alignPhaseErr phase).clock) else none }) ∧
    f = (d.get K.alignFine : Int) - phase.sign ∧
    0 ≤ f ∧
    f ≤ 1023 :=
  ⟨state coreAlignCorrection, coreAlignCorrection, (1 : Int), (coreAlignCorrection.satI K.alignPhaseErr ((1 : Int))).updAlign fun (x : Align) => { x with corrAt := (coreAlignCorrection.satI K.alignPhaseErr ((1 : Int))).clock, okSince := if ((1 : Int)).natAbs ≤ 20 then some ((coreAlignCorrection.satI K.alignPhaseErr ((1 : Int))).align.okSince.getD (coreAlignCorrection.satI K.alignPhaseErr ((1 : Int))).clock) else none }, (((coreAlignCorrection.satI K.alignPhaseErr ((1 : Int))).updAlign fun (x : Align) => { x with corrAt := (coreAlignCorrection.satI K.alignPhaseErr ((1 : Int))).clock, okSince := if ((1 : Int)).natAbs ≤ 20 then some ((coreAlignCorrection.satI K.alignPhaseErr ((1 : Int))).align.okSince.getD (coreAlignCorrection.satI K.alignPhaseErr ((1 : Int))).clock) else none }).get K.alignFine : Int) - ((1 : Int)).sign,
    rfl, by decide +kernel, by decide +kernel, by decide +kernel, rfl, rfl, by decide +kernel, by decide +kernel⟩

def coreAlignRefLost : Core :=
  up.set K.alignState 4

theorem met_alignRefLost : ∃ (s : State) (c : Core),
    c = s.core ∧
    Live s 4 ∧
    c.get K.alignState ≠ 0 ∧
    c.get K.alignState ≠ 5 :=
  ⟨state coreAlignRefLost, coreAlignRefLost,
    rfl, by decide +kernel, by decide +kernel, by decide +kernel⟩

def coreAlignCoastLimit : Core :=
  { ((up.set K.alignState 5).set (K.chState 0) 3) with sample := 2 ^ 50 }

theorem met_alignCoastLimit : ∃ (s : State) (c : Core),
    c = s.core ∧
    Live s 4 ∧
    c.get K.alignState = 5 ∧
    c.anyEngaged = true ∧
    c.align.coastAt + c.get K.alignCoastLimit * 1000000 < c.clock :=
  ⟨state coreAlignCoastLimit, coreAlignCoastLimit,
    rfl, by decide +kernel, by decide +kernel, by decide +kernel, by decide +kernel⟩

def coreQdRecastReq : Core :=
  (up.updRcst fun x => { x with tellPeers := true }).set K.qdEnable 1

theorem met_qdRecastReq : ∃ (s : State) (c : Core),
    c = s.core ∧
    Live s 4 ∧
    c.rcst.tellPeers = true ∧
    c.get K.qdEnable = 1 :=
  ⟨state coreQdRecastReq, coreQdRecastReq,
    rfl, by decide +kernel, by decide +kernel, by decide +kernel⟩

def coreQdRecastGo : Core :=
  ((up.updRcst fun x => { x with tellGo := true }).set K.qdEnable 1).set K.rcstPhase 4

theorem met_qdRecastGo : ∃ (s : State) (c : Core),
    c = s.core ∧
    Live s 4 ∧
    c.rcst.tellGo = true ∧
    c.get K.rcstPhase = 4 ∧
    c.get K.qdEnable = 1 :=
  ⟨state coreQdRecastGo, coreQdRecastGo,
    rfl, by decide +kernel, by decide +kernel, by decide +kernel, by decide +kernel⟩

def coreQdLineFall : Core :=
  coreQd.updQd fun q => { q with high := true }

theorem met_qdLineFall : ∃ (s : State) (c : Core),
    c = s.core ∧
    Live s 4 ∧
    c.qd.high = true ∧
    ((c.updQd fun (q : Qd) => { q with high := false }).qdActive = true) :=
  ⟨state coreQdLineFall, coreQdLineFall,
    rfl, by decide +kernel, by decide +kernel, by decide +kernel⟩

def coreQdRecord : Core :=
  coreQd.updQd fun q => { q with serials := [(1, 9)] }

theorem met_qdRecord : ∃ (s : State) (c : Core) (p : Nat) (payload : List Byte) (x : QdRec),
    c = s.core ∧
    p < 2 ∧
    Live s 4 ∧
    c.qdActive = true ∧
    p = c.get K.qdPort ∧
    qdParse payload = some x ∧
    x.addr ≠ c.get K.qdAddr ∧
    ((c.qd.serials.find? fun (y : Nat × Nat) => y.1 = x.addr) = some (x.addr, x.serial)) ∧
    c.qd.high = false ∧
    (c.get K.qdPeers).testBit x.addr = true ∧
    qdKind x.prop ≠ 4 :=
  ⟨state coreQdRecord, coreQdRecord, (coreQd.get K.qdPort), aRec.bytes, aRec,
    rfl, by decide +kernel, by decide +kernel, by decide +kernel, by decide +kernel, by decide +kernel, by decide +kernel, by decide +kernel, by decide +kernel, by decide +kernel, by decide +kernel⟩

def coreQdRepeat : Core :=
  { (coreQd.updQd fun q => { q with sent := some aRec, busy := true, holds := true }) with sample := 2 ^ 50 }

theorem met_qdRepeat : ∃ (s : State) (c : Core) (x : QdRec),
    c = s.core ∧
    Live s 4 ∧
    c.qd.sent = some x ∧
    c.qdActive = true ∧
    c.qd.busy = true ∧
    c.qd.holds = true ∧
    c.qd.sentAt + c.get K.qdRepeat * 1000 ≤ c.clock :=
  ⟨state coreQdRepeat, coreQdRepeat, aRec,
    rfl, by decide +kernel, by decide +kernel, by decide +kernel, by decide +kernel, by decide +kernel, by decide +kernel⟩

def coreQdLineRise : Core :=
  (coreQd.set K.qdPeers 1).updQd fun q => { q with high := false, holds := false, busy := true, sent := some { aRec with addr := 0, prop := 0x01010000 }, props := [{ word := 0x01010000, written := true }] }

theorem met_qdLineRise : ∃ (s : State) (c : Core) (x : QdRec) (d : Core) (word : Nat) (who : Option Nat),
    c = s.core ∧
    Live s 4 ∧
    c.qd.high = false ∧
    c.qd.holds = false ∧
    (d = c.updQd fun (q : Qd) => { q with high := true }) ∧
    d.qdActive = true ∧
    d.qd.busy = true ∧
    d.qd.sent = some x ∧
    d.qdWinner d.qdCarried = some (word, who) :=
  ⟨state coreQdLineRise, coreQdLineRise, ({ aRec with addr := 0, prop := 0x01010000 } : QdRec), coreQdLineRise.updQd fun (q : Qd) => { q with high := true }, 0x01010000, some 0,
    rfl, by decide +kernel, by decide +kernel, by decide +kernel, rfl, by decide +kernel, by decide +kernel, by decide +kernel, by decide +kernel⟩

def coreQdStepTimeout : Core :=
  { (coreQd.updQd fun q => { q with busy := true, holds := true }) with sample := 2 ^ 50 }

theorem met_qdStepTimeout : ∃ (s : State) (c : Core),
    c = s.core ∧
    Live s 4 ∧
    c.qdActive = true ∧
    c.qd.busy = true ∧
    c.qd.holds = true ∧
    c.qd.failed = false ∧
    c.qd.fallAt + c.get K.qdStepTimeout * 1000000 ≤ c.clock ∧
    c.qdOwn = none ∧
    ((c.qd.recs.any fun (r : QdRec) => r.prop != qdNone) = false) ∧
    (c.bump K.qdFails).qd.tFall = c.qd.tFall :=
  ⟨state coreQdStepTimeout, coreQdStepTimeout,
    rfl, by decide +kernel, by decide +kernel, by decide +kernel, by decide +kernel, by decide +kernel, by decide +kernel, by decide +kernel, by decide +kernel, by decide +kernel⟩

theorem met_faultConditionEnd : ∃ (s : State) (c : Core) (id : Nat),
    c = s.core ∧
    Live s 1 ∧
    id = faultId 0x0403 1 ∧
    c.dieHottest.2 ≤ c.geti K.fltDieWarn - 20 :=
  ⟨state up, up, faultId 0x0403 1,
    rfl, by decide +kernel, rfl, by decide +kernel⟩

def coreScopeRecover : Core :=
  up.set (K.chState 0) 7

theorem met_scopeRecover : ∃ (s : State) (c : Core) (scope : Nat) (d : Core),
    c = s.core ∧
    scope < 9 ∧
    Live s 1 ∧
    c.boot.step = 9 ∧
    c.get K.devState ≠ 8 ∧
    c.scopeDown scope = true ∧
    c.bitOf K.fltLatched scope = false ∧
    c.scopeHeld scope = false ∧
    (nth c.scopes scope).holdAt = none ∧
    c.recoverAt ≠ some c.sample ∧
    c.recentRecoveries.length < c.get K.fltRecoveryLimit ∧
    d = { c with recoveries := c.clock :: c.recentRecoveries, recoverAt := some c.sample } :=
  ⟨state coreScopeRecover, coreScopeRecover, 1, { coreScopeRecover with recoveries := coreScopeRecover.clock :: coreScopeRecover.recentRecoveries, recoverAt := some coreScopeRecover.sample },
    rfl, by decide +kernel, by decide +kernel, by decide +kernel, by decide +kernel, by decide +kernel, by decide +kernel, by decide +kernel, by decide +kernel, by decide +kernel, by decide +kernel, rfl⟩

theorem met_busError : ∃ (s : State) (c : Core) (kind : Nat),
    c = s.core ∧
    Live s 1 ∧
    1 ≤ kind ∧
    kind ≤ 3 :=
  ⟨state up, up, 3,
    rfl, by decide +kernel, by decide +kernel, by decide +kernel⟩

theorem met_supSramUe : ∃ (s : State) (c : Core),
    c = s.core ∧
    Live s 1 :=
  ⟨state up, up,
    rfl, by decide +kernel⟩

theorem met_supWatchdog : ∃ (s : State) (c : Core),
    c = s.core ∧
    Live s 1 :=
  ⟨state up, up,
    rfl, by decide +kernel⟩

theorem met_dieHot : ∃ (s : State) (c : Core) (sensor : Nat) (t : Nat),
    c = s.core ∧
    sensor < 8 ∧
    Live s 1 ∧
    (dieRead sensor t c).faultActive 0x0403 1 = false ∧
    (dieRead sensor t c).geti K.fltDieWarn ≤ (dieRead sensor t c).dieHottest.2 ∧
    (dieRead sensor t c).dieHottest.2 < (dieRead sensor t c).geti K.fltDieCrit :=
  ⟨state up, up, 0, (up.geti K.fltDieWarn).toNat,
    rfl, by decide +kernel, by decide +kernel, by decide +kernel, by decide +kernel, by decide +kernel⟩

def coreDieCrit : Core :=
  { up with faults := [{ id := faultId 0x0403 1, active := 2 }] }

theorem met_dieCrit : ∃ (s : State) (c : Core) (sensor : Nat) (t : Nat),
    c = s.core ∧
    sensor < 8 ∧
    Live s 1 ∧
    c.dieHottest.2 < c.geti K.fltDieCrit ∧
    (dieRead sensor t c).faultActive 0x0403 1 = true ∧
    (dieRead sensor t c).geti K.fltDieCrit ≤ (dieRead sensor t c).dieHottest.2 :=
  ⟨state coreDieCrit, coreDieCrit, 7, (up.geti K.fltDieCrit).toNat,
    rfl, by decide +kernel, by decide +kernel, by decide +kernel, by decide +kernel, by decide +kernel⟩

theorem met_vaonLow : ∃ (s : State) (c : Core) (mv : Nat),
    c = s.core ∧
    Live s 1 ∧
    c.faultActive 0x0405 1 = false ∧
    (c.set K.railVaon mv).get K.railVaon < (c.set K.railVaon mv).get K.fltVaonMin :=
  ⟨state up, up, 0,
    rfl, by decide +kernel, by decide +kernel, by decide +kernel⟩

theorem met_railGood : ∃ (s : State) (c : Core) (r : Nat),
    c = s.core ∧
    r < 24 ∧
    Live s 1 :=
  ⟨state up, up, 0,
    rfl, by decide +kernel, by decide +kernel⟩

theorem met_railDischarged : ∃ (s : State) (c : Core) (r : Nat),
    c = s.core ∧
    r < 24 ∧
    Live s 1 :=
  ⟨state up, up, 23,
    rfl, by decide +kernel, by decide +kernel⟩

theorem met_railOnDelay : ∃ (s : State) (c : Core) (r : Nat),
    c = s.core ∧
    r < 24 ∧
    Live s 1 :=
  ⟨state up, up, 0,
    rfl, by decide +kernel, by decide +kernel⟩

theorem met_railSettleDone : ∃ (s : State) (c : Core),
    c = s.core ∧
    Live s 1 :=
  ⟨state up, up,
    rfl, by decide +kernel⟩

def coreRailOnTimeout : Core :=
  { (((up.set (K.railOnState 0) 1).set (K.railOrder 0) 0).set (K.railPgMode 0) 1) with sample := 2 ^ 50, rail := { up.rail with step := some { up := true, s := 1, orders := [0], phase := 2 } } }

theorem met_railOnTimeout : ∃ (s : State) (c : Core) (r : Nat) (x : RailStep) (d : Core),
    c = s.core ∧
    r < 24 ∧
    Live s 1 ∧
    c.rail.step = some x ∧
    (c.groupRails x.s (x.orders.headD 256)).contains r = true ∧
    x.t + c.get (K.railOnTimeout r) * 1000 ≤ c.clock ∧
    x.phase = 2 ∧
    c.railGoodAt r x.t = false ∧
    x.up = true ∧
    d = c.raise (0x0540 + r) 1 (2 ^ 56 * 1 + c.railMvWord r) :=
  ⟨state coreRailOnTimeout, coreRailOnTimeout, 0, ({ up := true, s := 1, orders := [0], phase := 2 } : RailStep), coreRailOnTimeout.raise (0x0540 + 0) 1 (2 ^ 56 * 1 + coreRailOnTimeout.railMvWord 0),
    rfl, by decide +kernel, by decide +kernel, by decide +kernel, by decide +kernel, by decide +kernel, by decide +kernel, by decide +kernel, by decide +kernel, rfl⟩

def coreRailOffTimeout : Core :=
  { ((up.set (K.railOnState 0) 1).set (K.railOrder 0) 0) with sample := 2 ^ 50, rail := { up.rail with step := some { up := false, s := 1, orders := [0], phase := 4, cutAt := 2 ^ 50 } } }

theorem met_railOffTimeout : ∃ (s : State) (c : Core) (r : Nat) (x : RailStep),
    c = s.core ∧
    r < 24 ∧
    Live s 1 ∧
    c.rail.step = some x ∧
    x.up = false ∧
    x.phase = 4 ∧
    (c.groupRails x.s (x.orders.headD 256)).contains r = true ∧
    x.passed.contains r = false ∧
    c.railDischargedAt r x.cutAt = false ∧
    x.t + c.get (K.railOffTimeout r) * 1000 ≤ c.clock :=
  ⟨state coreRailOffTimeout, coreRailOffTimeout, 0, ({ up := false, s := 1, orders := [0], phase := 4, cutAt := 2 ^ 50 } : RailStep),
    rfl, by decide +kernel, by decide +kernel, by decide +kernel, by decide +kernel, by decide +kernel, by decide +kernel, by decide +kernel, by decide +kernel, by decide +kernel⟩

def coreRailLost : Core :=
  { ((up.set (K.railStatus 0) 2).set (K.railPgMode 0) 1) with rail := { up.rail with on := 1 } }

theorem met_railLost : ∃ (s : State) (c : Core) (r : Nat) (d : Core),
    c = s.core ∧
    r < 24 ∧
    Live s 1 ∧
    c.get (K.railStatus r) = 2 ∧
    c.rail.on.testBit r = true ∧
    c.inStepUp r = false ∧
    c.pgUsed r = true ∧
    d = (((setPg r false c).set (K.railStatus r) 4).setBitOf K.railFailedMap r true).raiseHeld (0x0520 + r) 1 (2 ^ 16 * bitN (((((setPg r false c).set (K.railStatus r) 4).setBitOf K.railFailedMap r true)).get K.railPgIn) r + ((((setPg r false c).set (K.railStatus r) 4).setBitOf K.railFailedMap r true)).railMvWord r) :=
  ⟨state coreRailLost, coreRailLost, 0, (((setPg 0 false coreRailLost).set (K.railStatus 0) 4).setBitOf K.railFailedMap 0 true).raiseHeld (0x0520 + 0) 1 (2 ^ 16 * bitN (((((setPg 0 false coreRailLost).set (K.railStatus 0) 4).setBitOf K.railFailedMap 0 true)).get K.railPgIn) 0 + ((((setPg 0 false coreRailLost).set (K.railStatus 0) 4).setBitOf K.railFailedMap 0 true)).railMvWord 0),
    rfl, by decide +kernel, by decide +kernel, by decide +kernel, by decide +kernel, by decide +kernel, by decide +kernel, rfl⟩

def coreRailLogProgramDone : Core :=
  { up with rail := { up.rail with queue := [(1, [1])] } }

theorem met_railLogProgramDone : ∃ (s : State) (c : Core) (ok : Bool) (seq : Nat) (bytes : List Byte) (rest : List (Nat × List Byte)),
    c = s.core ∧
    Live s 1 ∧
    ok = true ∧
    c.rail.erasing = false ∧
    c.rail.queue = (seq, bytes) :: rest :=
  ⟨state coreRailLogProgramDone, coreRailLogProgramDone, true, 1, [1], [],
    rfl, by decide +kernel, by decide +kernel, by decide +kernel, by decide +kernel⟩

theorem met_resetNAssert : ∃ (s : State) (c : Core),
    c = s.core ∧
    c.boot.inReset = false :=
  ⟨state up, up,
    rfl, by decide +kernel⟩

theorem met_supplyOutOfRange : ∃ (s : State) (c : Core),
    c = s.core ∧
    c.boot.inReset = false :=
  ⟨state up, up,
    rfl, by decide +kernel⟩

def coreResetEnd : Core :=
  { up with boot := { up.boot with inReset := true } }

theorem met_resetEnd : ∃ (s : State) (c : Core),
    c = s.core ∧
    c.boot.inReset = true :=
  ⟨state coreResetEnd, coreResetEnd,
    rfl, by decide +kernel⟩

def coreBootComplete : Core :=
  { up with boot := { up.boot with step := 8 } }

theorem met_bootComplete : ∃ (s : State) (c : Core) (d : Core) (e : Core),
    c = s.core ∧
    Live s 1 ∧
    c.boot.step = 8 ∧
    c.get K.fwRecovery = 0 ∧
    d = { c with boot := { c.boot with step := 9, raises := [] } }.set K.devBootTime (c.clock / 1000) ∧
    e = ({ d.set K.devBoots (satU 32 (d.nor.boots + 1)) with nor := { d.nor with boots := satU 32 (d.nor.boots + 1) } } : Core).raise 0x0201 1 (2 ^ 56 * d.boot.cause + c.clock / 1000 % 2 ^ 32) :=
  ⟨state coreBootComplete, coreBootComplete, { coreBootComplete with boot := { coreBootComplete.boot with step := 9, raises := [] } }.set K.devBootTime (coreBootComplete.clock / 1000), ({ ({ coreBootComplete with boot := { coreBootComplete.boot with step := 9, raises := [] } }.set K.devBootTime (coreBootComplete.clock / 1000)).set K.devBoots (satU 32 (({ coreBootComplete with boot := { coreBootComplete.boot with step := 9, raises := [] } }.set K.devBootTime (coreBootComplete.clock / 1000)).nor.boots + 1)) with nor := { ({ coreBootComplete with boot := { coreBootComplete.boot with step := 9, raises := [] } }.set K.devBootTime (coreBootComplete.clock / 1000)).nor with boots := satU 32 (({ coreBootComplete with boot := { coreBootComplete.boot with step := 9, raises := [] } }.set K.devBootTime (coreBootComplete.clock / 1000)).nor.boots + 1) } } : Core).raise 0x0201 1 (2 ^ 56 * ({ coreBootComplete with boot := { coreBootComplete.boot with step := 9, raises := [] } }.set K.devBootTime (coreBootComplete.clock / 1000)).boot.cause + coreBootComplete.clock / 1000 % 2 ^ 32),
    rfl, by decide +kernel, by decide +kernel, by decide +kernel, rfl, rfl⟩

theorem met_objectWrite : ∃ (s : State) (c : Core) (w : Writer) (index : Nat) (sub : Nat) (typ : Nat) (offset : Nat) (data : List Byte) (d : Desc) (e : Core),
    c = s.core ∧
    Live s 1 ∧
    c.serverSilent = false ∧
    c.serverBusy = none ∧
    c.resolve index sub = some d ∧
    (writeCheck w d typ offset data c s.dram).1 = 0 ∧
    d.acc = .rw ∧
    isCue (d.obj.key / 256) = false ∧
    isImage (d.obj.key / 256) (d.obj.key % 256) = false ∧
    e = auditWrite w (d.obj.key / 256) (d.obj.key % 256) 0 (auditValue (some d) data) c :=
  ⟨state up, up, me, 0x0200, 3, 0, 0, [1], row K.devMarkMode, auditWrite me ((row K.devMarkMode).obj.key / 256) ((row K.devMarkMode).obj.key % 256) 0 (auditValue (some (row K.devMarkMode)) ([1])) up,
    rfl, by decide +kernel, by decide +kernel, by decide +kernel, by decide +kernel, by decide +kernel, by decide +kernel, by decide +kernel, by decide +kernel, rfl⟩

theorem met_stagedWrite : ∃ (s : State) (c : Core) (w : Writer) (index : Nat) (sub : Nat) (typ : Nat) (offset : Nat) (data : List Byte) (d : Desc) (e : Core),
    c = s.core ∧
    Live s 1 ∧
    c.serverSilent = false ∧
    c.serverBusy = none ∧
    c.resolve index sub = some d ∧
    (writeCheck w d typ offset data c s.dram).1 = 0 ∧
    d.acc = .rws ∧
    e = auditWrite w (d.obj.key / 256) (d.obj.key % 256) 0 (auditValue (some d) data) c :=
  ⟨state up, up, me, ((K.cmpPitchFrac 0).key / 256), ((K.cmpPitchFrac 0).key % 256), 0, 0, [1,0], row (K.cmpPitchFrac 0), auditWrite me ((row (K.cmpPitchFrac 0)).obj.key / 256) ((row (K.cmpPitchFrac 0)).obj.key % 256) 0 (auditValue (some (row (K.cmpPitchFrac 0))) ([1,0])) up,
    rfl, by decide +kernel, by decide +kernel, by decide +kernel, by decide +kernel, by decide +kernel, by decide +kernel, rfl⟩

theorem met_cueEntryWrite : ∃ (s : State) (c : Core) (w : Writer) (entry : Nat) (sub : Nat) (offset : Nat) (data : List Byte) (d : Desc) (e : Core),
    c = s.core ∧
    entry < 4096 ∧
    Live s 1 ∧
    c.serverSilent = false ∧
    c.serverBusy = none ∧
    c.resolve (0x2000 + entry) sub = some d ∧
    d.obj.key = (0x2000 + entry) * 256 + sub ∧
    sub < 256 ∧
    (writeCheck w d 0 offset data c s.dram).1 = 0 ∧
    d.acc = .rw ∧
    e = auditWrite w (0x2000 + entry) sub 0 (auditValue (some d) data) c :=
  ⟨state up, up, me, 4095, 2, 0, [0,0,0,0,0,0], row (K.cueEntryPosition 4095), auditWrite me (0x2000 + 4095) 2 0 (auditValue (some (row (K.cueEntryPosition 4095))) ([0,0,0,0,0,0])) up,
    rfl, by decide +kernel, by decide +kernel, by decide +kernel, by decide +kernel, by decide +kernel, by decide +kernel, by decide +kernel, by decide +kernel, by decide +kernel, rfl⟩

def coreFwImageWrite : Core :=
  { ((up.set K.hubTrainState 2).set K.fwStagedState 1) with fw := { up.fw with blocks := [(0, bytesLE 4 0x38465450 ++ bytesLE 4 1 ++ bytesLE 12 0 ++ bytesLE 4 4000 ++ List.replicate 488 0)] } }

theorem met_fwImageWrite : ∃ (s : State) (c : Core) (w : Writer) (offset : Nat) (data : List Byte) (d : Desc) (e : Core),
    c = s.core ∧
    Live s 1 ∧
    c.serverSilent = false ∧
    c.serverBusy = none ∧
    c.resolve 0x0600 1 = some d ∧
    d.obj.key = 0x0600 * 256 + 1 ∧
    (writeCheck w d 0 offset data c s.dram).1 = 0 ∧
    d.acc ≠ .wo ∧
    d.acc ≠ .rws ∧
    e = auditWrite w 0x0600 1 0 (auditValue (some d) data) c :=
  ⟨state coreFwImageWrite, coreFwImageWrite, me, 4096, (List.replicate 416 0), row K.fwImage, auditWrite me 0x0600 1 0 (auditValue (some (row K.fwImage)) ((List.replicate 416 0))) coreFwImageWrite,
    rfl, by decide +kernel, by decide +kernel, by decide +kernel, by decide +kernel, by decide +kernel, by decide +kernel, by decide +kernel, by decide +kernel, rfl⟩

theorem met_devMarkModeWrite : ∃ (s : State) (w : Writer) (v : Nat) (d : Desc),
    Row K.devMarkMode .rw d ∧
    v < 256 ^ K.devMarkMode.bytes ∧
    Accepts s w d v :=
  ⟨state up, me, 1, row K.devMarkMode,
    by decide +kernel, by decide +kernel, by decide +kernel⟩

theorem met_pdEnableWrite : ∃ (s : State) (w : Writer) (v : Nat) (d : Desc),
    Row K.devPdEnable .rw d ∧
    v < 256 ^ K.devPdEnable.bytes ∧
    Accepts s w d v :=
  ⟨state up, me, 0x1FFFF, row K.devPdEnable,
    by decide +kernel, by decide +kernel, by decide +kernel⟩

theorem met_chCommit : ∃ (s : State) (w : Writer) (n : Nat) (d : Desc),
    n < 8 ∧
    Row (K.chCommit n) .wo d ∧
    Accepts s w d 1 :=
  ⟨state up, me, 0, row (K.chCommit 0),
    by decide +kernel, by decide +kernel, by decide +kernel⟩

theorem met_devCommitNow : ∃ (s : State) (w : Writer) (d : Desc),
    Row K.devCommit .wo d ∧
    Accepts s w d 1 :=
  ⟨state up, me, row K.devCommit,
    by decide +kernel, by decide +kernel⟩

theorem met_devCommitStep : ∃ (s : State) (w : Writer) (d : Desc),
    Row K.devCommit .wo d ∧
    Accepts s w d 2 :=
  ⟨state up, me, row K.devCommit,
    by decide +kernel, by decide +kernel⟩

theorem met_lockAcquire : ∃ (s : State) (w : Writer) (k : Nat) (d : Desc),
    k < 10 ∧
    Row (K.devLockAcquire k) .wo d ∧
    Accepts s w d 1 :=
  ⟨state up, me, 0, row (K.devLockAcquire 0),
    by decide +kernel, by decide +kernel, by decide +kernel⟩

def coreLockRelease : Core :=
  { up with locks := upd up.locks 0 fun x => { x with owner := some me, ends := 1000 } }

theorem met_lockRelease : ∃ (s : State) (w : Writer) (k : Nat) (d : Desc),
    k < 10 ∧
    Row (K.devLockRelease k) .wo d ∧
    Accepts s w d 1 :=
  ⟨state coreLockRelease, me, 0, row (K.devLockRelease 0),
    by decide +kernel, by decide +kernel, by decide +kernel⟩

theorem met_store : ∃ (s : State) (w : Writer) (d : Desc),
    Row K.devOpStart .wo d ∧
    Accepts s w d 1 :=
  ⟨state up, me, row K.devOpStart,
    by decide +kernel, by decide +kernel⟩

theorem met_restoreDefaults : ∃ (s : State) (w : Writer) (d : Desc),
    Row K.devOpStart .wo d ∧
    Accepts s w d 2 :=
  ⟨state up, me, row K.devOpStart,
    by decide +kernel, by decide +kernel⟩

def coreImageVerify : Core :=
  up.set K.fwStagedState 1

theorem met_imageVerify : ∃ (s : State) (w : Writer) (d : Desc),
    Row K.devOpStart .wo d ∧
    Accepts s w d 3 :=
  ⟨state coreImageVerify, me, row K.devOpStart,
    by decide +kernel, by decide +kernel⟩

def coreImageCommit : Core :=
  up.set K.fwStagedState 2

theorem met_imageCommit : ∃ (s : State) (w : Writer) (d : Desc),
    Row K.devOpStart .wo d ∧
    Accepts s w d 4 :=
  ⟨state coreImageCommit, me, row K.devOpStart,
    by decide +kernel, by decide +kernel⟩

theorem met_dramRetrain : ∃ (s : State) (w : Writer) (d : Desc),
    Row K.devOpStart .wo d ∧
    Accepts s w d 5 :=
  ⟨state up, me, row K.devOpStart,
    by decide +kernel, by decide +kernel⟩

theorem met_profTargetWrite : ∃ (s : State) (w : Writer) (a : Nat) (v : Nat) (d : Desc),
    a < 1024 ∧
    Row (K.profTarget a) .rwi d ∧
    v < 256 ^ (K.profTarget a).bytes ∧
    Accepts s w d v :=
  ⟨state up, me, 1023, 131073, row (K.profTarget 1023),
    by decide +kernel, by decide +kernel, by decide +kernel, by decide +kernel⟩

theorem met_devResetWrite : ∃ (s : State) (w : Writer) (v : Nat) (d : Desc),
    Row K.devReset .wo d ∧
    v < 256 ^ K.devReset.bytes ∧
    Accepts s w d v :=
  ⟨state up, me, 0x5253, row K.devReset,
    by decide +kernel, by decide +kernel, by decide +kernel⟩

def coreStateReqStandby : Core :=
  up.set K.devState 3

theorem met_stateReqStandby : ∃ (s : State) (w : Writer) (d : Desc),
    Row K.devStateReq .wo d ∧
    Accepts s w d 2 :=
  ⟨state coreStateReqStandby, me, row K.devStateReq,
    by decide +kernel, by decide +kernel⟩

def coreStateReqReady : Core :=
  up.set K.hubTrainState 2

theorem met_stateReqReady : ∃ (s : State) (w : Writer) (d : Desc),
    Row K.devStateReq .wo d ∧
    Accepts s w d 3 :=
  ⟨state coreStateReqReady, me, row K.devStateReq,
    by decide +kernel, by decide +kernel⟩

def coreStateReqPrinting : Core :=
  up.set K.devState 4

theorem met_stateReqPrinting : ∃ (s : State) (w : Writer) (d : Desc),
    Row K.devStateReq .wo d ∧
    Accepts s w d 5 :=
  ⟨state coreStateReqPrinting, me, row K.devStateReq,
    by decide +kernel, by decide +kernel⟩

def coreFwConfirm : Core :=
  { up with nor := { up.nor with slotA := { up.nor.slotA with state := 1 } } }

theorem met_fwConfirm : ∃ (s : State) (w : Writer) (d : Desc),
    Row K.fwConfirm .wo d ∧
    Accepts s w d 1 :=
  ⟨state coreFwConfirm, me, row K.fwConfirm,
    by decide +kernel, by decide +kernel⟩

theorem met_chToneSwap : ∃ (s : State) (w : Writer) (n : Nat) (v : Nat) (d : Desc),
    n < 8 ∧
    Row (K.chToneSwap n) .wo d ∧
    v < 256 ^ (K.chToneSwap n).bytes ∧
    Accepts s w d v :=
  ⟨state up, me, 7, 1, row (K.chToneSwap 7),
    by decide +kernel, by decide +kernel, by decide +kernel, by decide +kernel⟩

theorem met_toneCopy : ∃ (s : State) (w : Writer) (n : Nat) (d : Desc),
    n < 8 ∧
    Row (K.chToneCopy n) .wo d ∧
    Accepts s w d 1 :=
  ⟨state up, me, 0, row (K.chToneCopy 0),
    by decide +kernel, by decide +kernel, by decide +kernel⟩

theorem met_nozPatch : ∃ (s : State) (w : Writer) (n : Nat) (v : Nat) (d : Desc),
    n < 8 ∧
    Row (K.chNozPatch n) .wo d ∧
    v < 256 ^ (K.chNozPatch n).bytes ∧
    Accepts s w d v :=
  ⟨state up, me, 0, 0, row (K.chNozPatch 0),
    by decide +kernel, by decide +kernel, by decide +kernel, by decide +kernel⟩

def coreTblLoad : Core :=
  (up.set (K.chTblId 0) 1).set (K.chTblCount 0) 1

theorem met_tblLoad : ∃ (s : State) (w : Writer) (n : Nat) (d : Desc),
    n < 8 ∧
    Row (K.chTblGo n) .wo d ∧
    Accepts s w d 1 :=
  ⟨state coreTblLoad, me, 0, row (K.chTblGo 0),
    by decide +kernel, by decide +kernel, by decide +kernel⟩

def coreTblReadback : Core :=
  (up.set (K.chTblId 7) 1).set (K.chTblCount 7) 1

theorem met_tblReadback : ∃ (s : State) (w : Writer) (n : Nat) (d : Desc),
    n < 8 ∧
    Row (K.chTblGo n) .wo d ∧
    Accepts s w d 2 :=
  ⟨state coreTblReadback, me, 7, row (K.chTblGo 7),
    by decide +kernel, by decide +kernel, by decide +kernel⟩

theorem met_scanEnable : ∃ (s : State) (w : Writer) (n : Nat) (d : Desc),
    n < 8 ∧
    Row (K.chScanEnable n) .rw d ∧
    Accepts s w d 1 :=
  ⟨state up, me, 0, row (K.chScanEnable 0),
    by decide +kernel, by decide +kernel, by decide +kernel⟩

theorem met_scanDisable : ∃ (s : State) (w : Writer) (n : Nat) (d : Desc),
    n < 8 ∧
    Row (K.chScanEnable n) .rw d ∧
    Accepts s w d 0 :=
  ⟨state up, me, 0, row (K.chScanEnable 0),
    by decide +kernel, by decide +kernel, by decide +kernel⟩

theorem met_sltLoad : ∃ (s : State) (w : Writer) (n : Nat) (d : Desc),
    n < 8 ∧
    Row (K.chSltGo n) .wo d ∧
    Accepts s w d 1 :=
  ⟨state up, me, 0, row (K.chSltGo 0),
    by decide +kernel, by decide +kernel, by decide +kernel⟩

theorem met_sltReadback : ∃ (s : State) (w : Writer) (n : Nat) (d : Desc),
    n < 8 ∧
    Row (K.chSltGo n) .wo d ∧
    Accepts s w d 2 :=
  ⟨state up, me, 0, row (K.chSltGo 0),
    by decide +kernel, by decide +kernel, by decide +kernel⟩

def coreSltGenerate : Core :=
  (up.set (K.chScanAmplSet 0) 0x10000).set (K.chWidth 0) 8

theorem met_sltGenerate : ∃ (s : State) (w : Writer) (n : Nat) (d : Desc),
    n < 8 ∧
    Row (K.chSltGo n) .wo d ∧
    Accepts s w d 3 :=
  ⟨state coreSltGenerate, me, 0, row (K.chSltGo 0),
    by decide +kernel, by decide +kernel, by decide +kernel⟩

theorem met_pageAbort : ∃ (s : State) (w : Writer) (d : Desc),
    Row K.beamPageAbort .wo d ∧
    Accepts s w d 1 :=
  ⟨state up, me, row K.beamPageAbort,
    by decide +kernel, by decide +kernel⟩

def coreLoad : Core :=
  (up.set K.devState 3).set (K.chFlaskLines 0) 16

theorem met_load : ∃ (s : State) (w : Writer) (n : Nat) (d : Desc),
    n < 8 ∧
    Row (K.chCmd n) .wo d ∧
    Accepts s w d 1 :=
  ⟨state coreLoad, me, 0, row (K.chCmd 0),
    by decide +kernel, by decide +kernel, by decide +kernel⟩

def coreArm : Core :=
  ((((((([0, 1, 2, 3].foldl (fun (c : Core) (m : Nat) => c.set (K.klState m) 3) up).set K.devState 3).set (K.chState 0) 1).set K.railState 15).set (K.chFlaskLines 0) 256).set (K.chFetchLead 0) 64).set (K.chFireLead 0) 60000).updJob 0 fun (x : ChJob) => { x with jobs := [{ uid := 1, id := 1, state := 1, lJ := 1000 }] }

theorem met_arm : ∃ (s : State) (w : Writer) (n : Nat) (d : Desc),
    n < 8 ∧
    Row (K.chCmd n) .wo d ∧
    Accepts s w d 2 :=
  ⟨state coreArm, me, 0, row (K.chCmd 0),
    by decide +kernel, by decide +kernel, by decide +kernel⟩

def coreAbort : Core :=
  up.set (K.chState 0) 3

theorem met_abort : ∃ (s : State) (w : Writer) (n : Nat) (d : Desc),
    n < 8 ∧
    Row (K.chCmd n) .wo d ∧
    Accepts s w d 4 :=
  ⟨state coreAbort, me, 0, row (K.chCmd 0),
    by decide +kernel, by decide +kernel, by decide +kernel⟩

def coreUnload : Core :=
  up.set (K.chState 0) 1

theorem met_unload : ∃ (s : State) (w : Writer) (n : Nat) (d : Desc),
    n < 8 ∧
    Row (K.chCmd n) .wo d ∧
    Accepts s w d 5 :=
  ⟨state coreUnload, me, 0, row (K.chCmd 0),
    by decide +kernel, by decide +kernel, by decide +kernel⟩

def coreCtrlRead : Core :=
  up.set (K.klState 0) 3

theorem met_ctrlRead : ∃ (s : State) (w : Writer) (m : Nat) (d : Desc),
    m < 32 ∧
    Row (K.klCtrlGo m) .wo d ∧
    Accepts s w d 1 :=
  ⟨state coreCtrlRead, me, 0, row (K.klCtrlGo 0),
    by decide +kernel, by decide +kernel, by decide +kernel⟩

def coreCtrlWrite : Core :=
  up.set (K.klState 31) 3

theorem met_ctrlWrite : ∃ (s : State) (w : Writer) (m : Nat) (d : Desc),
    m < 32 ∧
    Row (K.klCtrlGo m) .wo d ∧
    Accepts s w d 2 :=
  ⟨state coreCtrlWrite, me, 31, row (K.klCtrlGo 31),
    by decide +kernel, by decide +kernel, by decide +kernel⟩

def coreBulkGo : Core :=
  up.set (K.klState 0) 3

theorem met_bulkGo : ∃ (s : State) (w : Writer) (m : Nat) (d : Desc),
    m < 32 ∧
    Row (K.klBulkGo m) .wo d ∧
    Accepts s w d 1 :=
  ⟨state coreBulkGo, me, 0, row (K.klBulkGo 0),
    by decide +kernel, by decide +kernel, by decide +kernel⟩

theorem met_encPreset : ∃ (s : State) (w : Writer) (n : Nat) (v : Nat) (d : Desc),
    n < 4 ∧
    Row (K.encPreset n) .wo d ∧
    v < 256 ^ (K.encPreset n).bytes ∧
    Accepts s w d v :=
  ⟨state up, me, 0, 0, row (K.encPreset 0),
    by decide +kernel, by decide +kernel, by decide +kernel, by decide +kernel⟩

theorem met_rehome : ∃ (s : State) (w : Writer) (n : Nat) (v : Nat) (d : Desc),
    n < 4 ∧
    Row (K.encRehome n) .wo d ∧
    v < 256 ^ (K.encRehome n).bytes ∧
    Accepts s w d v :=
  ⟨state up, me, 0, 1, row (K.encRehome 0),
    by decide +kernel, by decide +kernel, by decide +kernel, by decide +kernel⟩

theorem met_cmpArm : ∃ (s : State) (w : Writer) (n : Nat) (d : Desc),
    n < 8 ∧
    Row (K.cmpArm n) .wo d ∧
    Accepts s w d 1 :=
  ⟨state up, me, 0, row (K.cmpArm 0),
    by decide +kernel, by decide +kernel, by decide +kernel⟩

theorem met_cmpDisarm : ∃ (s : State) (w : Writer) (n : Nat) (d : Desc),
    n < 8 ∧
    Row (K.cmpArm n) .wo d ∧
    Accepts s w d 0 :=
  ⟨state up, me, 0, row (K.cmpArm 0),
    by decide +kernel, by decide +kernel, by decide +kernel⟩

theorem met_cueListArm : ∃ (s : State) (w : Writer) (k : Nat) (d : Desc),
    k < 16 ∧
    Row (K.cueListArm k) .wo d ∧
    Accepts s w d 1 :=
  ⟨state up, me, 0, row (K.cueListArm 0),
    by decide +kernel, by decide +kernel, by decide +kernel⟩

theorem met_cueListDisarm : ∃ (s : State) (w : Writer) (k : Nat) (d : Desc),
    k < 16 ∧
    Row (K.cueListArm k) .wo d ∧
    Accepts s w d 0 :=
  ⟨state up, me, 0, row (K.cueListArm 0),
    by decide +kernel, by decide +kernel, by decide +kernel⟩

def coreRcstRequest : Core :=
  up.set K.devState 4

theorem met_rcstRequest : ∃ (s : State) (w : Writer) (v : Nat) (d : Desc),
    Row K.rcstRequest .wo d ∧
    v < 256 ^ K.rcstRequest.bytes ∧
    Accepts s w d v :=
  ⟨state coreRcstRequest, me, 1, row K.rcstRequest,
    by decide +kernel, by decide +kernel, by decide +kernel⟩

theorem met_codecAbort : ∃ (s : State) (w : Writer) (v : Nat) (d : Desc),
    Row K.codecAbort .wo d ∧
    v < 256 ^ K.codecAbort.bytes ∧
    Accepts s w d v :=
  ⟨state up, me, 1, row K.codecAbort,
    by decide +kernel, by decide +kernel, by decide +kernel⟩

theorem met_hubBiasWrite : ∃ (s : State) (w : Writer) (m : Nat) (v : Nat) (d : Desc),
    m < 64 ∧
    Row (K.hubBias m) .rw d ∧
    v < 256 ^ (K.hubBias m).bytes ∧
    Accepts s w d v :=
  ⟨state up, me, 0, 1, row (K.hubBias 0),
    by decide +kernel, by decide +kernel, by decide +kernel, by decide +kernel⟩

theorem met_hubFecRearm : ∃ (s : State) (w : Writer) (d : Desc),
    Row K.hubFecValid .rw d ∧
    Accepts s w d 0 :=
  ⟨state up, me, row K.hubFecValid,
    by decide +kernel, by decide +kernel⟩

theorem met_hubInject : ∃ (s : State) (w : Writer) (v : Nat) (d : Desc),
    Row K.hubInject .wo d ∧
    v < 256 ^ K.hubInject.bytes ∧
    Accepts s w d v :=
  ⟨state up, me, 1, row K.hubInject,
    by decide +kernel, by decide +kernel, by decide +kernel⟩

theorem met_slotEnable : ∃ (s : State) (w : Writer) (slot : Nat) (d : Desc),
    slot < 64 ∧
    Row (K.loopSlotEnable slot) .rw d ∧
    Accepts s w d 1 :=
  ⟨state up, me, 0, row (K.loopSlotEnable 0),
    by decide +kernel, by decide +kernel, by decide +kernel⟩

theorem met_slotDisable : ∃ (s : State) (w : Writer) (slot : Nat) (d : Desc),
    slot < 64 ∧
    Row (K.loopSlotEnable slot) .rw d ∧
    Accepts s w d 0 :=
  ⟨state up, me, 0, row (K.loopSlotEnable 0),
    by decide +kernel, by decide +kernel, by decide +kernel⟩

theorem met_bankSwap : ∃ (s : State) (w : Writer) (slot : Nat) (d : Desc),
    slot < 64 ∧
    Row (K.loopSlotBankSwap slot) .wo d ∧
    Accepts s w d 1 :=
  ⟨state up, me, 0, row (K.loopSlotBankSwap 0),
    by decide +kernel, by decide +kernel, by decide +kernel⟩

theorem met_preset : ∃ (s : State) (w : Writer) (slot : Nat) (v : Nat) (d : Desc),
    slot < 64 ∧
    Row (K.loopSlotPreset slot) .wo d ∧
    v < 256 ^ (K.loopSlotPreset slot).bytes ∧
    Accepts s w d v :=
  ⟨state up, me, 0, 0, row (K.loopSlotPreset 0),
    by decide +kernel, by decide +kernel, by decide +kernel, by decide +kernel⟩

theorem met_publish : ∃ (s : State) (w : Writer) (j : Nat) (d : Desc),
    j < 16 ∧
    Row (K.loopMeasPublish j) .wo d ∧
    Accepts s w d 1 :=
  ⟨state up, me, 0, row (K.loopMeasPublish 0),
    by decide +kernel, by decide +kernel, by decide +kernel⟩

theorem met_gpioOutWrite : ∃ (s : State) (w : Writer) (v : Nat) (d : Desc),
    Row K.loopGpioOut .rw d ∧
    v < 256 ^ K.loopGpioOut.bytes ∧
    Accepts s w d v :=
  ⟨state up, me, 1, row K.loopGpioOut,
    by decide +kernel, by decide +kernel, by decide +kernel⟩

theorem met_timeSet : ∃ (s : State) (w : Writer) (v : Nat) (d : Desc),
    Row K.timeSet .wo d ∧
    v < 256 ^ K.timeSet.bytes ∧
    Accepts s w d v :=
  ⟨state up, me, 0, row K.timeSet,
    by decide +kernel, by decide +kernel, by decide +kernel⟩

theorem met_qdSync : ∃ (s : State) (w : Writer) (d : Desc),
    Row K.qdStep .wo d ∧
    Accepts s w d 0 :=
  ⟨state up, me, row K.qdStep,
    by decide +kernel, by decide +kernel⟩

theorem met_qdRail : ∃ (s : State) (w : Writer) (target : Nat) (d : Desc),
    Row K.qdStep .wo d ∧
    Accepts s w d (2 ^ 24 + 2 ^ 16 * (target % 256)) :=
  ⟨state up, me, 1, row K.qdStep,
    by decide +kernel, by decide +kernel⟩

theorem met_qdArm : ∃ (s : State) (w : Writer) (d : Desc),
    Row K.qdStep .wo d ∧
    Accepts s w d (2 * 2 ^ 24) :=
  ⟨state up, me, row K.qdStep,
    by decide +kernel, by decide +kernel⟩

theorem met_qdStart : ∃ (s : State) (w : Writer) (d : Desc),
    Row K.qdStep .wo d ∧
    Accepts s w d (3 * 2 ^ 24) :=
  ⟨state up, me, row K.qdStep,
    by decide +kernel, by decide +kernel⟩

theorem met_qdStop : ∃ (s : State) (w : Writer) (d : Desc),
    Row K.qdStep .wo d ∧
    Accepts s w d (6 * 2 ^ 24) :=
  ⟨state up, me, row K.qdStep,
    by decide +kernel, by decide +kernel⟩

theorem met_qdCommit : ∃ (s : State) (w : Writer) (d : Desc),
    Row K.qdStep .wo d ∧
    Accepts s w d (7 * 2 ^ 24) :=
  ⟨state up, me, row K.qdStep,
    by decide +kernel, by decide +kernel⟩

theorem met_fltClear : ∃ (s : State) (w : Writer) (d : Desc),
    Row K.fltClear .wo d ∧
    Accepts s w d 1 :=
  ⟨state up, me, row K.fltClear,
    by decide +kernel, by decide +kernel⟩

def coreFltSelClassWrite : Core :=
  up.set K.fltSel (0x0403 * 256 + 1)

theorem met_fltSelClassWrite : ∃ (s : State) (w : Writer) (v : Nat) (d : Desc),
    Row K.fltSelClass .rw d ∧
    v < 256 ^ K.fltSelClass.bytes ∧
    Accepts s w d v :=
  ⟨state coreFltSelClassWrite, me, 2, row K.fltSelClass,
    by decide +kernel, by decide +kernel, by decide +kernel⟩

def coreSelStickyClear : Core :=
  up.set K.fltSel (0x0403 * 256 + 1)

theorem met_selStickyClear : ∃ (s : State) (w : Writer) (d : Desc),
    Row K.fltSelStickyClear .wo d ∧
    Accepts s w d 1 :=
  ⟨state coreSelStickyClear, me, row K.fltSelStickyClear,
    by decide +kernel, by decide +kernel⟩

theorem met_stickyClearAll : ∃ (s : State) (w : Writer) (d : Desc),
    Row K.fltStickyClearAll .wo d ∧
    Accepts s w d 1 :=
  ⟨state up, me, row K.fltStickyClearAll,
    by decide +kernel, by decide +kernel⟩

theorem met_manualSafe : ∃ (s : State) (w : Writer) (d : Desc),
    Row K.fltTrip .wo d ∧
    Accepts s w d 1 :=
  ⟨state up, me, row K.fltTrip,
    by decide +kernel, by decide +kernel⟩

theorem met_fltFecRearm : ∃ (s : State) (w : Writer) (d : Desc),
    Row K.fltFecValid .rw d ∧
    Accepts s w d 0 :=
  ⟨state up, me, row K.fltFecValid,
    by decide +kernel, by decide +kernel⟩

theorem met_railTargetWrite : ∃ (s : State) (w : Writer) (v : Nat) (d : Desc),
    Row K.railTarget .rw d ∧
    v < 256 ^ K.railTarget.bytes ∧
    Accepts s w d v :=
  ⟨state up, me, 1, row K.railTarget,
    by decide +kernel, by decide +kernel, by decide +kernel⟩

/-! ### The other statements: a machine and operands for every hypothesis, at the bounds of each clause -/

theorem met_emptyQueuePassesOneCycle : ∃ (s : State) (c : Core),
    s.pending = [] ∧ s.core.boot.inReset = true ∧ c.geti K.timeRate = 0 :=
  ⟨State.reset, up, by decide +kernel, by decide +kernel, by decide +kernel⟩

theorem met_commandsNeverRefusedAndFaultOnlyOnMissingUnits :
    (∃ i : Instr, i = .encEdge 3 true false ∧ i.unitsOk = true) ∧ (∃ i : Instr, i = .encEdge 4 true false ∧ i.unitsOk = false) :=
  ⟨⟨_, rfl, by decide +kernel⟩, _, rfl, by decide +kernel⟩

theorem met_unpoweredBlockIgnoresItsEvents : ∃ (i : Instr) (s : State) (d : Nat),
    i.unitsOk = true ∧ i.domain = some d ∧ s.core.alive d = false :=
  ⟨.encEdge 3 true false, State.reset, 4, by decide +kernel, by decide +kernel, by decide +kernel⟩

/-- A WOP message with a header, no item and the trailer given: client 7, sequence number seq. -/
def aReq (seq trailer : Nat) : List Byte :=
  [0x57, 0x47, 1, 1] ++ bytesBE 2 7 ++ bytesBE 2 seq ++ List.replicate 8 0 ++ bytesBE 4 trailer

theorem met_commandsLeaveTheQueueAlone : ∃ (i : Instr) (s t : State), s.pending = [.nop 0] ∧ exec i s = .next t :=
  ⟨.arpRequest 0 5, { state up with pending := [.nop 0] }, _, rfl, rfl⟩

theorem met_onlyDramCommandsChangeDram : ∃ (i : Instr) (s t : State), i.writesDram = false ∧ exec i s = .next t :=
  ⟨.arpRequest 0 5, state up, _, by decide +kernel, rfl⟩

theorem met_everyStepKeepsDramCanonical : ∃ s t : State, s.Inv ∧ s.dram = [(0, 1#8)] ∧ step s = .next t :=
  ⟨{ state up with pending := [.arpRequest 0 5], dram := [(0, 1#8)] }, _, by unfold State.Inv; decide +kernel, rfl, rfl⟩

theorem met_dramBytesReadBack : ∃ (m : List Host.Cell) (a x y : Nat) (l : List Byte),
    Memory.wf m = true ∧ l = [0#8, 2#8] ∧ (a ≤ x ∧ x < a + l.length) ∧ ¬(a ≤ y ∧ y < a + l.length) :=
  ⟨[(5, 1#8)], 5, 6, 7, _, by decide, rfl, by decide, by decide⟩

theorem met_hubStoresOrRefusesAWrite :
    (∃ (c : Core) (a : Nat) (l : List Byte), l ≠ [] ∧ c.refusedIn (burstsOf a l.length).1 (burstsOf a l.length).2 = []) ∧
    (∃ (c : Core) (a : Nat) (l : List Byte), l ≠ [] ∧ c.refuses (a / 64) = true) ∧
    (∃ (a x y : Nat) (l : List Byte), l ≠ [] ∧ x < a ∧ a + l.length ≤ y) :=
  ⟨⟨coreHub, 62, [1, 2, 3], by decide, by decide +kernel⟩, ⟨coreHub, coreHub.capBytes, [1], by decide, by decide +kernel⟩,
    ⟨64, 63, 66, [1, 2], by decide, by decide, by decide⟩⟩

theorem met_objectsReadBack : ∃ (c : Core) (o p : Obj),
    (c.objs.map Prod.fst).Pairwise (fun a b => a < b) ∧ p.key ≠ o.key :=
  ⟨coreHub, K.devState, K.devMarkMode, by decide +kernel, by decide⟩

theorem met_countersSaturate : ∃ (c d : Core) (o : Obj),
    c.get o < 256 ^ o.bytes ∧ c.get o = 0 ∧ d.get o < 256 ^ o.bytes ∧ d.get o = 256 ^ o.bytes - 1 :=
  ⟨up, up.set K.dmaBadWrites (2 ^ 32 - 1), K.dmaBadWrites, by decide +kernel, by decide +kernel, by decide +kernel, by decide +kernel⟩

theorem met_nothingFollowsACalmCommand : ∃ c : Core, Calm c := ⟨up, by decide +kernel⟩

/-- Each row of the table from the pair 00, on input 0 and on input 3. -/
theorem met_quadratureTable : ∃ (s : State) (c : Core), c = s.core ∧ Live s 4 ∧
    (∀ n : Nat, n = 0 ∨ n = 3 → n < 4 ∧ c.get (K.encSource n) = 0 ∧ c.bitOf (K.encInvert n) 0 = false ∧
      ((nth c.encs n).a, (nth c.encs n).b) = (false, false)) :=
  ⟨state up, up, rfl, by decide +kernel, by intro n h; rcases h with h | h <;> subst h <;> decide +kernel⟩

theorem met_secdedCode : (0x07 ∈ secdedCols ∧ 0x62 ∈ secdedCols) ∧ popcount 7 0x70 = 3 ∧ ¬ 0x70 ∈ secdedCols := by decide

/-- Ring 1, to the host, with five records not yet consumed. -/
def coreRingUp : Core :=
  { up with rings := upd up.rings 1 fun (x : Ring) => { x with enable := true, size := 4, prod := 5 } }

theorem met_ringDoorbells :
    (∃ (s : State) (c : Core) (k v : Nat), c = s.core ∧ k < 64 ∧ Live s 3 ∧ v < 2 ^ 32 ∧ (nth c.rings k).prod < 2 ^ 32 ∧
      (nth c.rings k).cons < 2 ^ 32 ∧ (nth c.rings k).enable = false) ∧
    (∃ (s : State) (c : Core) (v : Nat), c = s.core ∧ Live s 3 ∧ v < 2 ^ 32 ∧ ringToDevice 0 = true ∧
      (nth c.rings 0).enable = true ∧ (nth c.rings 0).readFailed = false ∧
      -- one more than the size is discarded, the size itself is taken, and the count it has changes nothing
      2 ^ (nth c.rings 0).size < (v + 1 + (2 ^ 32 - (nth c.rings 0).cons)) % 2 ^ 32 ∧
      (v + (2 ^ 32 - (nth c.rings 0).cons)) % 2 ^ 32 = 2 ^ (nth c.rings 0).size ∧ v ≠ (nth c.rings 0).prod ∧
      (((nth c.rings 0).prod + (2 ^ 32 - (nth c.rings 0).cons)) % 2 ^ 32 ≤ 2 ^ (nth c.rings 0).size)) ∧
    (∃ (s : State) (c : Core) (v : Nat), c = s.core ∧ Live s 3 ∧ v < 2 ^ 32 ∧ ringToDevice 1 = false ∧
      (nth c.rings 1).enable = true ∧
      (v + (2 ^ 32 - (nth c.rings 1).cons)) % 2 ^ 32 =
        ((nth c.rings 1).prod + (2 ^ 32 - (nth c.rings 1).cons)) % 2 ^ 32) :=
  ⟨⟨state up, up, 63, 2 ^ 32 - 1, rfl, by decide, by decide +kernel, by decide, by decide +kernel, by decide +kernel, by decide +kernel⟩,
    ⟨state coreRingDb, coreRingDb, 16, rfl, by decide +kernel, by decide, by decide, by decide +kernel, by decide +kernel,
      by decide +kernel, by decide +kernel, by decide +kernel, by decide +kernel⟩,
    ⟨state coreRingUp, coreRingUp, 5, rfl, by decide +kernel, by decide, by decide, by decide +kernel, by decide +kernel⟩⟩

theorem met_eventRecordLayout : ∃ r : EvRec, r.time < 2 ^ 64 ∧ r.pos < 2 ^ 48 ∧ r.src < 2 ^ 16 ∧ r.seq < 2 ^ 32 ∧
    r.code < 2 ^ 32 ∧ r.payload < 2 ^ 64 ∧ r.time = 2 ^ 64 - 1 :=
  ⟨{ time := 2 ^ 64 - 1, pos := 2 ^ 48 - 1, src := 2 ^ 16 - 1, seq := 2 ^ 32 - 1, code := 2 ^ 32 - 1, payload := 2 ^ 64 - 1 },
    by decide, by decide, by decide, by decide, by decide, by decide, rfl⟩

theorem met_wireValuesRoundTrip :
    (∃ typ size v : Nat, typ ≠ 10 ∧ (typ = 7 → size = 4) ∧ v < 256 ^ size ∧ typ = 7 ∧ v = 256 ^ size - 1) ∧
    (∃ m e : Nat, m < 2 ^ 24 ∧ e < 2 ^ 8 ∧ m = 2 ^ 24 - 1 ∧ e = 2 ^ 8 - 1) :=
  ⟨⟨7, 4, 256 ^ 4 - 1, by decide, by decide, by decide, rfl, rfl⟩, 2 ^ 24 - 1, 2 ^ 8 - 1, by decide, by decide, rfl, rfl⟩

theorem met_failedWriteOnlyIsAudited :
    (∃ (s : State) (index sub : Nat), Live s 1 ∧ s.core.serverSilent = false ∧ s.core.serverBusy = none ∧
      s.core.resolve index sub = none) ∧
    (∃ (s : State) (w : Writer) (index sub typ off : Nat) (data : List Byte) (d : Desc), Live s 1 ∧
      s.core.serverSilent = false ∧ s.core.serverBusy = none ∧ s.core.resolve index sub = some d ∧
      (writeCheck w d typ off data s.core s.dram).1 ≠ 0) :=
  ⟨⟨state up, 0x01FF, 1, by decide +kernel, by decide +kernel, by decide +kernel, by decide +kernel⟩,
    ⟨state up, me, 0x0200, 3, 0, 0, [2], row K.devMarkMode, by decide +kernel, by decide +kernel, by decide +kernel,
      by decide +kernel, by decide +kernel⟩⟩

/-- Lock 1, of channel 0, held by this client. -/
def coreLocked : Core := { up with locks := upd up.locks 1 fun (x : Lock) => { x with owner := some me, ends := 1000 } }

theorem met_locksForbidWrites :
    (∃ (c : Core) (d : Desc), d.acc = .rws ∧ c.lockOwner (d.obj.key / 256) = some me) ∧
    (∃ (c : Core) (d : Desc), d.acc = .rws ∧ c.lockOwner (d.obj.key / 256) = none) ∧
    (∃ (c : Core) (d : Desc), d.acc = .rwl ∧ c.lockOwner (d.obj.key / 256) = some me) ∧
    (∃ (c : Core) (d : Desc), d.acc = .rwl ∧ c.lockOwner (d.obj.key / 256) = none) ∧
    (∃ d : Desc, (d.acc = .rw ∨ d.acc = .rwi) ∧ (d.obj.key / 256 < 0x0220 ∨ 0x022A ≤ d.obj.key / 256)) :=
  ⟨⟨coreLocked, row (K.chBarOffset 0), by decide +kernel, by decide +kernel⟩, ⟨up, row (K.chBarOffset 0), by decide +kernel, by decide +kernel⟩,
    ⟨coreLocked, { row (K.chBarOffset 0) with acc := .rwl }, by decide +kernel, by decide +kernel⟩, ⟨up, { row (K.chBarOffset 0) with acc := .rwl }, by decide +kernel, by decide +kernel⟩,
    ⟨row K.devMarkMode, by decide +kernel, by decide +kernel⟩⟩

theorem met_stagingKeepsTheLiveValue : ∃ (c : Core) (o : Obj) (k : Nat),
    k ≠ o.key ∧ (c.staged.map StagedVal.key).Pairwise (fun a b => a < b) ∧ c.staged ≠ [] :=
  ⟨{ up with staged := [{ key := (K.chBarOffset 0).key, value := 1 }] }, K.chBarOffset 0, 0, by decide, by decide +kernel, by decide +kernel⟩

/-- A long operation runs. -/
def coreBusy : Core := { up with fw := { up.fw with op := 1 } }

theorem met_busyServerExecutesNothing :
    (∃ (s : State) (left : Nat), Live s 1 ∧ s.core.serverSilent = false ∧ s.core.serverBusy = some left) ∧
    (∃ (c : Core) (transport left : Nat) (msg : List Byte), discarded msg = false ∧ crcFails transport msg = false ∧
      beAt msg 2 1 = 1 ∧ beAt msg 3 1 = 1 ∧ c.serverBusy = some left) ∧
    (∃ c : Core, c.fw.op ≠ 0) :=
  ⟨⟨state coreBusy, 10000, by decide +kernel, by decide +kernel, by decide +kernel⟩,
    ⟨coreBusy, 5, 10000, aReq 1 0, by decide +kernel, by decide +kernel, by decide +kernel, by decide +kernel, by decide +kernel⟩,
    coreBusy, by decide +kernel⟩

theorem met_silentServerAnswersNothing : ∃ s : State, Live s 1 ∧ s.core.serverSilent = true :=
  ⟨state { up with boot := { up.boot with step := 5 } }, by decide +kernel, by decide +kernel⟩

/-- A client whose last request had sequence number 65,535: 0 and 1 execute, 65,535 is a duplicate, 2 is out of sequence. -/
theorem met_sequenceNumbersDecideExecution : ∃ (c : Core) (x : Client), c.clientOf me = some x ∧
    beAt (aReq 0 0) 6 2 = 0 ∧ (beAt (aReq 1 0) 6 2 ≠ 0 ∧ beAt (aReq 1 0) 6 2 = seqNext x.seq) ∧
    (beAt (aReq 65535 0) 6 2 ≠ 0 ∧ beAt (aReq 65535 0) 6 2 ≠ seqNext x.seq ∧ beAt (aReq 65535 0) 6 2 = x.seq) ∧
    (beAt (aReq 2 0) 6 2 ≠ 0 ∧ beAt (aReq 2 0) 6 2 ≠ seqNext x.seq ∧ beAt (aReq 2 0) 6 2 ≠ x.seq) :=
  ⟨{ up with clients := [{ transport := 1, addr := 0, client := 7, seq := 65535, rsp := [], at_ := 0 }] },
    { transport := 1, addr := 0, client := 7, seq := 65535, rsp := [], at_ := 0 }, by decide +kernel, by decide +kernel,
    by decide +kernel, by decide +kernel, by decide +kernel⟩

theorem met_failedMessageCrcRunsNothing : ∃ (transport : Nat) (msg : List Byte),
    discarded msg = false ∧ crcFails transport msg = true ∧ hasTrailer transport = true :=
  ⟨1, aReq 1 0, by decide +kernel, by decide +kernel, by decide +kernel⟩

theorem met_aliasIsItsTarget :
    (∃ (c : Core) (a : Nat), a < 1024 ∧ c.get (K.profTarget a) = 0) ∧
    (∃ (c : Core) (a : Nat), a < 1024 ∧ c.get (K.profTarget a) ≠ 0) ∧
    (∃ index sub : Nat, index < 0x4000 ∨ 0x4400 ≤ index ∨ sub ≠ 1) :=
  ⟨⟨up, 1023, by decide, by decide +kernel⟩, ⟨up.set (K.profTarget 0) 131075, 0, by decide, by decide +kernel⟩, 0x4400, 1, by decide⟩

theorem met_auditRingHoldsEntries : ∃ (c : Core) (value : List Byte), c.auditOn = true ∧ c.auditNext < 2 ^ 32 ∧
    value.length < 2 ^ 32 ∧ c.audit.length ≤ 65536 ∧ c.auditNext = 2 ^ 32 - 1 :=
  ⟨{ coreHub with auditNext := 2 ^ 32 - 1 }, [1], by decide +kernel, by decide +kernel, by decide, by decide +kernel, rfl⟩

/-- DMA channel ch in a state, or owned by the intake of channel 0. -/
def inState (ch k : Nat) : Core := { up with dmas := upd up.dmas ch fun (x : Dma) => { x with state := k } }
def owned (ch : Nat) : Core := (up.set (K.chState 0) 1).set (K.chIntakeDma 0) ch

theorem met_dmaDiscardsWritesOutOfState : ∀ ch : Nat, ch = 0 ∨ ch = 15 →
    (∃ (s : State) (c : Core), c = s.core ∧ ch < 16 ∧ Live s 3 ∧ c.dmaOwned ch = false ∧ (nth c.dmas ch).state = 4) ∧
    (∃ (s : State) (c : Core), c = s.core ∧ ch < 16 ∧ Live s 3 ∧ c.dmaOwned ch = false ∧ (nth c.dmas ch).state = 1) ∧
    (∃ (s : State) (c : Core), c = s.core ∧ ch < 16 ∧ Live s 3 ∧ c.dmaOwned ch = true) := by
  intro ch h
  refine ⟨⟨state (inState ch 4), inState ch 4, ?_⟩, ⟨state (inState ch 1), inState ch 1, ?_⟩,
    ⟨state (owned ch), owned ch, ?_⟩⟩ <;> rcases h with h | h <;> subst h <;> decide +kernel

/-- A mailbox whose request runs, and one whose response waits. -/
def coreMbx : Core := { up with pcie := { up.pcie with reqBusy := true, rspReady := true } }

theorem met_mailboxTakesOneRequest :
    (∃ (s : State) (c : Core) (len : Nat), c = s.core ∧ Live s 3 ∧ c.pcie.reqBusy = false ∧ c.pcie.rspReady = false ∧ 16384 < len) ∧
    (∃ (s : State) (c : Core), c = s.core ∧ Live s 3 ∧ c.pcie.reqBusy = true) ∧
    (∃ (s : State) (c : Core), c = s.core ∧ Live s 3 ∧ c.pcie.rspReady = true) :=
  ⟨⟨state up, up, 16385, by decide +kernel⟩, ⟨state coreMbx, coreMbx, by decide +kernel⟩, ⟨state coreMbx, coreMbx, by decide +kernel⟩⟩

theorem met_minorFaultsAreOnlyRecorded :
    (∃ (r : Raise) (c : Core), c.beam = false ∧ c.classOf r.src r.kind r.payload = 1) ∧
    (∃ (r : Raise) (c : Core), c.beam = false ∧ c.classOf r.src r.kind r.payload = 2) :=
  ⟨⟨{ src := 0x0200, kind := 1, payload := 0 }, up, by decide +kernel, by decide +kernel⟩,
    ⟨{ src := 0x0403, kind := 1, payload := 0 }, up, by decide +kernel, by decide +kernel⟩⟩

theorem met_faultClassReactions : ∃ (c : Core) (n : Nat), c.beam = false ∧ n < 8 ∧ c.get (K.chState n) = 7 :=
  ⟨up.set (K.chState 7) 7, 7, by decide +kernel, by decide, by decide +kernel⟩

/-- Two heads at the arbiter of channel 0, of which one has a bias. -/
def coreHeads : Core :=
  (coreHub.updHub fun (h : Hub) => { h with waits :=
    [{ arbiter := 0, master := 0, write := false, next := 0, stop := 1, since := 0 },
     { arbiter := 0, master := 5, write := true, next := 0, stop := 1, since := 0 }] }).set (K.hubBias 5) 3

theorem met_hubGrantsTheHighestHead :
    (∃ (c : Core) (ch : Nat) (r x : HubReq), c.hubChoice ch = some r ∧ x ∈ c.hubHeads ch ∧ c.hubEligible x = true ∧
      x.master ≠ r.master) ∧ ∃ (c : Core) (ch : Nat), c.hubChoice ch = none :=
  ⟨⟨coreHeads, 0, { arbiter := 0, master := 5, write := true, next := 0, stop := 1, since := 0 },
    { arbiter := 0, master := 0, write := false, next := 0, stop := 1, since := 0 }, by decide +kernel⟩,
   ⟨up, 3, by decide +kernel⟩⟩

theorem met_hostReadsAreAnswered : ∃ (bar off size : Nat), bar = 4 ∧ off = 0x8008 ∧ size = 4 := ⟨4, 0x8008, 4, rfl, rfl, rfl⟩

theorem met_resetIsCold : ∃ (c : Core) (k : Nat), k < 10 ∧ c.nor.log ≠ [] :=
  ⟨{ up with nor := { up.nor with log := [{ slot := 0, seq := 1, bytes := [] }] } }, 9, by decide, by decide +kernel⟩

/-! ### Ill-formed commands, one for each check -/

theorem test_wf_transport : ({ me with transport := 6 } : Writer).wf = false ∧ ({ me with transport := 0 } : Writer).wf = false ∧ me.wf = true := by
  decide

theorem test_wf_client : ({ me with client := 0 } : Writer).wf = false ∧ ({ me with client := 0x10000 } : Writer).wf = false := by decide

theorem test_wf_addr : ({ me with addr := 2 ^ 32 } : Writer).wf = false := by decide

theorem test_wf_item : (Instr.objectWrite me 0x10000 0 0 0 []).wf = false ∧ (Instr.objectWrite me 0 256 0 0 []).wf = false ∧
    (Instr.objectWrite me 0 0 256 0 []).wf = false ∧ (Instr.objectWrite me 0 0 0 (2 ^ 32) []).wf = false ∧
    (Instr.objectWrite me 0x0200 3 1 0 [1]).wf = true := by decide

theorem test_wf_item_length : itemWf 0 0 0 0 (List.replicate 65536 0) = false := by
  simp only [itemWf, List.length_replicate]; decide

theorem test_wf_unit : (Instr.encEdge 4 true false).wf = false ∧ (Instr.encEdge 3 true false).wf = true := by decide

theorem test_wf_operands : (Instr.cmpArm { me with client := 0 } 7).wf = false ∧ (Instr.cmpArm me 7).wf = true := by decide

/-! ### The worked examples of the spec -/

/-- R33, from the pair 00 on input 2: 10 counts up, 01 counts down and sets REVERSE, 11 is a double edge. -/
theorem test_quadrature :
    ((encEdge 2 true false up).geti (K.encCount 2), encReverse (encEdge 2 true false up) 2) = (1, false) ∧
    ((encEdge 2 false true up).geti (K.encCount 2), encReverse (encEdge 2 false true up) 2) = (-1, true) ∧
    ((encEdge 2 true true up).geti (K.encCount 2), (encEdge 2 true true up).get (K.encDoubleEdges 2)) = (0, 1) := by
  decide +kernel

/-- spec/04_image_path.md, the worked element 20,001: zone and weight of columns 10,000 and 10,001. -/
theorem test_zone : zoneOf 10000 0 406 = (24, 33) ∧ zoneOf 10001 0 406 = (24, 34) := by decide

/-- The same element: u from entries 2,000 and 2,100 of zones 24 and 25. -/
theorem test_tone : (toneStage { ({} : ChImg) with toneA := toneSet (toneSet [] (256 * 24 + 128) 2000) (256 * 25 + 128) 2100 }
    0 10000 128 0 406).1 = 2013 := by decide +kernel

/-- The same element: the Flask slot of contone line 9,976, and the store entries of its thresholds. -/
theorem test_flask : (((up.set (K.chFlaskBase 3) 0x58000000).set (K.chFlaskLines 3) 2048).set (K.chFlaskSlot 3) 65536).flaskAddr 3 9976 =
    0x5EF80000 ∧ scrIndex 256 256 1 33 240 = 61473 ∧ scrIndex 256 256 2 33 240 = 127009 ∧ scrIndex 256 256 3 33 240 = 192545 := by
  decide +kernel

/-- spec/05_firing_and_protection.md, line 20,000 of the black bar: row 1, group 1 at tick 137, row 3, group 3 at tick 410. -/
theorem test_firePos :
    let c := ((up.set (K.chGroups 3) 4).set (K.chRowPhase 3 1) 73).set (K.chRowPhase 3 3) 218
    c.firePos 3 20000 1 1 = 5120000 + 137 ∧ c.firePos 3 20000 3 3 = 5120000 + 410 := by decide +kernel

/-- spec/07_beam_stations.md, station K: T_0, T_1950 and T_3900 of the generated table. -/
theorem test_knots :
    let c := ((up.set K.beamScanFreq 2500000).set (K.chScanAmplSet 3) 1152000).seti (K.chScanX0 3) (-998400)
    c.knotGen 3 0 = -4271898 ∧ c.knotGen 3 1950 = 0 ∧ c.knotGen 3 3900 = 4271898 := by decide +kernel

/-- spec/13_loop_engine.md, density of the black bar: T[24][128] from the reference 2,000 and the gains 66,192 and 66,403. -/
theorem test_toneEntries : (2000 * 66192 + 32768) / 65536 = 2020 ∧ toneEntries [2000] [66192] = [2020] ∧ toneEntries [2000] [66403] = [2026] := by
  decide

/-- R262: the DRAM channel takes the four pairs of address bits. -/
theorem test_dramChannel : dramChannel 0x3000 = 3 ∧ dramChannel 0x303000 = 0 ∧ dramChannel 0x100000 = 1 ∧ dramLocal 0x4001 = 4097 := by
  decide

/-- spec/12_object_dictionary.md, one staged change over UDP: the request, and bytes 0 to 51 of the response. -/
def wopExample : List Byte :=
  let body : List Byte :=
    [0x57, 0x47, 0x01, 0x01, 0x00, 0x42, 0x01, 0x07, 0x00, 0x00, 0x00, 0x03, 0x00, 0x30, 0x00, 0x00,
     0x02, 0x01, 0x02, 0x24, 0x01, 0x00, 0x00, 0x01, 0x00, 0x00, 0x00, 0x00, 0x01, 0x00, 0x00, 0x00,
     0x02, 0x01, 0x13, 0x70, 0x11, 0x00, 0x00, 0x01, 0x00, 0x00, 0x00, 0x00, 0x49, 0x00, 0x00, 0x00,
     0x02, 0x01, 0x13, 0x00, 0x10, 0x00, 0x00, 0x01, 0x00, 0x00, 0x00, 0x00, 0x01, 0x00, 0x00, 0x00]
  body ++ bytesBE 4 (crc32 body)

def wopAnswer : List Byte :=
  [0x57, 0x47, 0x01, 0x02, 0x00, 0x42, 0x01, 0x07, 0x00, 0x00, 0x00, 0x03, 0x00, 0x24, 0x00, 0x00,
   0x00, 0x01, 0x02, 0x24, 0x01, 0x00, 0x00, 0x00, 0x00, 0x00, 0x13, 0x88,
   0x00, 0x01, 0x13, 0x70, 0x11, 0x00, 0x00, 0x00, 0x00, 0x00, 0x00, 0x00,
   0x00, 0x01, 0x13, 0x00, 0x10, 0x00, 0x00, 0x00, 0x00, 0x00, 0x00, 0x00]

/-- The press controller of the example, known with SEQ 0106H; channel 3 takes boundaries. -/
def wopCore : Core :=
  { up.set (K.chState 3) 3 with
    clients := [{ transport := 1, addr := 0xC0A8500A, client := 0x42, seq := 0x0106, rsp := [], at_ := 0 }] }

theorem test_wop_answer : ((request 1 0xC0A8500A wopExample wopCore []).1.map fun (r : List Byte) => r.take 52) = some wopAnswer := by
  decide +kernel

/-- The same example: 73 is staged, not yet in force, and lock 4 is the client's. -/
theorem test_wop_staged :
    let c := (request 1 0xC0A8500A wopExample wopCore []).2.1
    c.getStaged (K.chRowPhase 3 1) = 73 ∧ c.get (K.chRowPhase 3 1) = 0 ∧
      c.lockOwner 0x1370 = some { transport := 1, addr := 0xC0A8500A, client := 0x42 } := by
  decide +kernel

/-- The decoder spells no command: no row of the table gives bits. -/
theorem test_decode : decodeTableWord 16 0xFFFF = none := by decide


end Sys2Proof.Tests
end

section
/-! Which of its three outcomes a command ends in: it follows from the shape of the command alone. -/

namespace Sys2Proof.Machine

/-- A command that names a missing unit faults: an event and a memory command test the unit first, and the commands of the
reset name none. -/
theorem exec_fault (i : Instr) (s : State) (h : i.unitsOk = false) : exec i s = .fault .noSuchUnit := by
  cases exec_shape i s with
  | event d f _ he => exact he.trans (run_fault i.unitsOk d s f h)
  | mem d f _ he => exact he.trans (runMem_fault i.unitsOk d s f h)
  | reset f _ hu _ => exact absurd (hu.symm.trans h) (by decide)

/-- Settles O28, from the shape of a command's outcome (`exec_shape`). -/
theorem commandsNeverRefusedAndFaultOnlyOnMissingUnits :
    Obligations.CommandsNeverRefusedAndFaultOnlyOnMissingUnits := by
  unfold Obligations.CommandsNeverRefusedAndFaultOnlyOnMissingUnits
  intro i s
  refine ⟨fun hok => ?_, exec_fault i s⟩
  obtain ⟨c, m, hnext⟩ := exec_next i s hok
  exact ⟨_, hnext⟩

end Sys2Proof.Machine
end

section
/-! An accepted write of an object, by its access right: what a command that makes it leaves. -/

namespace Sys2Proof.Machine

section Effects
variable (w : Writer) (d : Desc) (o : Obj) (v : Nat) (e : Core) (m : List Host.Cell)

/-- A write of a WO object is its action (R314). -/
theorem writeEffect_wo (hrow : Row o .wo d) (hv : v < 256 ^ o.bytes) :
    writeEffect w d 0 (wireBytes d.typ d.obj.bytes v) e m = woAction w (o.key / 256) (o.key % 256) v e m := by
  have hwhole := writeWhole_value e o .wo d v hrow hv
  obtain ⟨-, rfl, hacc, -, -⟩ := hrow
  simp only [writeEffect, hwhole, hacc, if_true]

/-- A write of an RW or RWI object outside FW.IMAGE and the Cue Table applies its value (R314). -/
theorem writeEffect_readable (a : Acc) (hrow : Row o a d) (ha : a ≠ .wo ∧ a ≠ .rws)
    (hplace : isImage (o.key / 256) (o.key % 256) = false ∧ isCue (o.key / 256) = false) (hv : v < 256 ^ o.bytes) :
    writeEffect w d 0 (wireBytes d.typ d.obj.bytes v) e m =
      (applyValue o v 0 (wireBytes d.typ o.bytes v).length e, m) := by
  have hwhole := writeWhole_value e o a d v hrow hv
  obtain ⟨-, rfl, rfl, -, -⟩ := hrow
  simp [writeEffect, hwhole, ha, hplace]

/-- The action of a WO object outside the channels, but for CODEC.ABORT. -/
theorem woAction_device (index sub : Nat) (h : index < 0x1000) (hcodec : index ≠ 0x0A00) :
    woAction w index sub v e m = (devAction w index sub v e, m) := by
  have hch : indexCh index = none := by simp [indexCh, show ¬ 0x1000 ≤ index by omega]
  simp only [woAction, if_neg hcodec, hch]

/-- The action of a WO object of channel n, at offset p of its indices. -/
theorem woAction_channel (n p sub : Nat) (hn : n < 8) (hp : p < 0x100) :
    woAction w (0x1000 + 0x100 * n + p) sub v e m = (chAction w m n p sub v e, m) := by
  have hcodec : 0x1000 + 0x100 * n + p ≠ 0x0A00 := by omega
  have hrange : 0x1000 ≤ 0x1000 + 0x100 * n + p ∧ 0x1000 + 0x100 * n + p < 0x1800 := by omega
  have hquot : (0x1000 + 0x100 * n + p - 0x1000) / 256 = n := by omega
  have hch : indexCh (0x1000 + 0x100 * n + p) = some n := by simp [indexCh, hrange, hquot]
  have hoff : (0x1000 + 0x100 * n + p) % 256 = p := by omega
  simp only [woAction, if_neg hcodec, hch, hoff]

end Effects

section Commands
variable {i : Instr} {s : State} {w : Writer} {o : Obj} {v : Nat} {d : Desc} {ok : Bool}

/-- A command that writes a WO object, accepted: the server answers for the object's action. -/
theorem doesMem_wo (act : Core → List Host.Cell → Core × List Host.Cell) (hexec : exec i s = runPut ok s w o v)
    (hok : ok = true) (hrow : Row o .wo d) (hv : v < 256 ^ o.bytes) (hplain : o.key / 256 < 0x4000)
    (hacc : Accepts s w d v)
    (hact : ∀ (e : Core) (m : List Host.Cell), woAction w (o.key / 256) (o.key % 256) v e m = act e m) :
    DoesMem i s (answered w d v act s) := by
  subst hok
  exact hexec.trans (put_answered o .wo d w v s act hrow (.inl hplain) hacc fun e m =>
    (writeEffect_wo w d o v e m hrow hv).trans (hact e m))

/-- The same for a WO object of the device. -/
theorem doesMem_devAction (f : Core → Core) (hexec : exec i s = runPut ok s w o v) (hok : ok = true)
    (hrow : Row o .wo d) (hv : v < 256 ^ o.bytes) (hdev : o.key / 256 < 0x1000 ∧ o.key / 256 ≠ 0x0A00)
    (hacc : Accepts s w d v) (hact : ∀ e : Core, devAction w (o.key / 256) (o.key % 256) v e = f e) :
    DoesMem i s (answered w d v (fun (e : Core) (m : List Host.Cell) => (f e, m)) s) := by
  refine doesMem_wo _ hexec hok hrow hv (by omega) hacc fun e m => ?_
  rw [woAction_device w v e m _ _ hdev.1 hdev.2, hact e]

/-- A command that writes an RW or RWI object outside FW.IMAGE and the Cue Table, accepted: the server answers for the
application of the value, which for this object is f. -/
theorem doesMem_readable (a : Acc) (f : Core → Core) (hexec : exec i s = runPut ok s w o v) (hok : ok = true)
    (hrow : Row o a d) (ha : a ≠ .wo ∧ a ≠ .rws) (hv : v < 256 ^ o.bytes)
    (hplain : o.key / 256 < 0x4000 ∨ 0x4400 ≤ o.key / 256 ∨ o.key % 256 ≠ 1)
    (hplace : isImage (o.key / 256) (o.key % 256) = false ∧ isCue (o.key / 256) = false) (hacc : Accepts s w d v)
    (hact : ∀ (len : Nat) (e : Core), applyValue o v 0 len e = f e) :
    DoesMem i s (answered w d v (fun (e : Core) (m : List Host.Cell) => (f e, m)) s) := by
  subst hok
  refine hexec.trans (put_answered o a d w v s _ hrow hplain hacc fun e m => ?_)
  rw [writeEffect_readable w d o v e m a hrow ha hplace hv, hact]

end Commands

end Sys2Proof.Machine
end

section
/-! The writes of the objects of the device (R1, R28, R318, R322, R325, R342, R430, R437, R472): which action the tables of the
object server give each of them, and the clause of its command. -/

namespace Sys2Proof.Machine

section Actions
variable (w : Writer) (e : Core)

theorem devAction_devReset (v : Nat) :
    devAction w (K.devReset.key / 256) (K.devReset.key % 256) v e = resetAsk e := rfl

theorem devAction_devStateReq (v : Nat) :
    devAction w (K.devStateReq.key / 256) (K.devStateReq.key % 256) v e = stateReq v e := rfl

theorem devAction_devOpStart (v : Nat) :
    devAction w (K.devOpStart.key / 256) (K.devOpStart.key % 256) v e = opStart v e := rfl

theorem devAction_devCommit (v : Nat) :
    devAction w (K.devCommit.key / 256) (K.devCommit.key % 256) v e =
      if v = 1 then devCommitNow w e else commitMark w e := rfl

theorem devAction_fwConfirm (v : Nat) :
    devAction w (K.fwConfirm.key / 256) (K.fwConfirm.key % 256) v e = fwConfirm e := rfl

/-- Lock k has index 0x0220 + k. -/
theorem devAction_lock (k sub v : Nat) (hk : k < 10) :
    devAction w (0x0220 + k) sub v e = if sub = 1 then lockAcquire k w e else lockRelease k e := by
  have hstate : 0x0220 + k ≠ 0x0200 := by omega
  have hlock : (decide (0x0220 ≤ 0x0220 + k) && decide (0x0220 + k < 0x022A)) = true := by
    simp [show 0x0220 + k < 0x022A by omega]
  rw [devAction, if_neg hstate, if_pos hlock, Nat.add_sub_cancel_left]

theorem devAction_devLockAcquire (k v : Nat) (hk : k < 10) :
    devAction w ((K.devLockAcquire k).key / 256) ((K.devLockAcquire k).key % 256) v e = lockAcquire k w e := by
  have hindex : (K.devLockAcquire k).key / 256 = 0x0220 + k := by simp only [K.devLockAcquire]; omega
  have hsub : (K.devLockAcquire k).key % 256 = 1 := by simp only [K.devLockAcquire]; omega
  rw [hindex, hsub, devAction_lock w e k 1 v hk, if_pos rfl]

theorem devAction_devLockRelease (k v : Nat) (hk : k < 10) :
    devAction w ((K.devLockRelease k).key / 256) ((K.devLockRelease k).key % 256) v e = lockRelease k e := by
  have hindex : (K.devLockRelease k).key / 256 = 0x0220 + k := by simp only [K.devLockRelease]; omega
  have hsub : (K.devLockRelease k).key % 256 = 2 := by simp only [K.devLockRelease]; omega
  rw [hindex, hsub, devAction_lock w e k 2 v hk, if_neg (by decide)]

theorem woAction_chCommit (n v : Nat) (m : List Host.Cell) (hn : n < 8) :
    woAction w ((K.chCommit n).key / 256) ((K.chCommit n).key % 256) v e m = (commitAsk n 1 [w] e, m) := by
  have hindex : (K.chCommit n).key / 256 = 0x1000 + 0x100 * n + 0 := by simp only [K.chCommit]; omega
  have hsub : (K.chCommit n).key % 256 = 16 := by simp only [K.chCommit]; omega
  rw [hindex, hsub, woAction_channel w v e m n 0 16 hn (by decide)]
  rfl

theorem applyValue_devMarkMode (v off len : Nat) : applyValue K.devMarkMode v off len e = e.set K.devMarkMode v := rfl

theorem applyValue_devPdEnable (v off len : Nat) :
    applyValue K.devPdEnable v off len e = pdSwitch (e.set K.devPdEnable v) := rfl

/-- Every block that takes a value of its own has its objects below 0x1800 (the channels are the last of them). -/
theorem applyValue_beyond (o : Obj) (v off len : Nat) (ho : 0x1800 ≤ o.key / 256) :
    applyValue o v off len e = e.set o v := by
  have hne : ∀ x < 0x1800, o.key / 256 ≠ x := by omega
  have hlt : ∀ x ≤ 0x1800, ¬ o.key / 256 < x := by omega
  simp [applyValue, devHook, hne, hlt]

theorem applyValue_profTarget (a v off len : Nat) :
    applyValue (K.profTarget a) v off len e = e.set (K.profTarget a) v :=
  applyValue_beyond e _ v off len (by simp only [K.profTarget]; omega)

end Actions

theorem devMarkModeWrite_completes : Effect.DevMarkModeWrite := fun _ w v _ hrow hv hacc =>
  doesMem_readable .rw _ rfl rfl hrow (by decide) hv (by decide) (by decide) hacc
    fun len e => applyValue_devMarkMode e v 0 len

theorem pdEnableWrite_completes : Effect.PdEnableWrite := fun _ w v _ hrow hv hacc =>
  doesMem_readable .rw _ rfl rfl hrow (by decide) hv (by decide) (by decide) hacc
    fun len e => applyValue_devPdEnable e v 0 len

theorem profTargetWrite_completes : Effect.ProfTargetWrite := fun _ w a v _ ha hrow hv hacc =>
  have hindex : (K.profTarget a).key / 256 = 0x4000 + a := by simp only [K.profTarget]; omega
  have hsub : (K.profTarget a).key % 256 = 2 := by simp only [K.profTarget]; omega
  have himage : 0x4000 + a ≠ 0x0600 := by omega
  have hcues : ¬ 0x4000 + a < 0x3000 := by omega
  doesMem_readable .rwi _ rfl (decide_eq_true ha) hrow (by decide) hv (by omega)
    (by simp [hindex, isImage, isCue, himage, hcues]) hacc fun len e => applyValue_profTarget e a v 0 len

theorem chCommit_completes : Effect.ChCommit := fun _ w n _ hn hrow hacc =>
  doesMem_wo _ rfl (decide_eq_true hn) hrow (by simp only [K.chCommit]; omega) (by simp only [K.chCommit]; omega) hacc
    fun e m => woAction_chCommit w e n 1 m hn

theorem lockAcquire_completes : Effect.LockAcquire := fun _ w k _ hk hrow hacc =>
  doesMem_devAction _ rfl (decide_eq_true hk) hrow (by simp only [K.devLockAcquire]; omega)
    (by simp only [K.devLockAcquire]; omega) hacc fun e => devAction_devLockAcquire w e k 1 hk

theorem lockRelease_completes : Effect.LockRelease := fun _ w k _ hk hrow hacc =>
  doesMem_devAction _ rfl (decide_eq_true hk) hrow (by simp only [K.devLockRelease]; omega)
    (by simp only [K.devLockRelease]; omega) hacc fun e => devAction_devLockRelease w e k 1 hk

theorem devCommitNow_completes : Effect.DevCommitNow := fun _ w _ hrow hacc =>
  doesMem_devAction _ rfl rfl hrow (by decide) (by decide) hacc fun e => devAction_devCommit w e 1

theorem devCommitStep_completes : Effect.DevCommitStep := fun _ w _ hrow hacc =>
  doesMem_devAction _ rfl rfl hrow (by decide) (by decide) hacc fun e => devAction_devCommit w e 2

theorem store_completes : Effect.Store := fun _ w _ hrow hacc =>
  doesMem_devAction _ rfl rfl hrow (by decide) (by decide) hacc fun e => devAction_devOpStart w e 1

theorem restoreDefaults_completes : Effect.RestoreDefaults := fun _ w _ hrow hacc =>
  doesMem_devAction _ rfl rfl hrow (by decide) (by decide) hacc fun e => devAction_devOpStart w e 2

theorem imageVerify_completes : Effect.ImageVerify := fun _ w _ hrow hacc =>
  doesMem_devAction _ rfl rfl hrow (by decide) (by decide) hacc fun e => devAction_devOpStart w e 3

theorem imageCommit_completes : Effect.ImageCommit := fun _ w _ hrow hacc =>
  doesMem_devAction _ rfl rfl hrow (by decide) (by decide) hacc fun e => devAction_devOpStart w e 4

theorem dramRetrain_completes : Effect.DramRetrain := fun _ w _ hrow hacc =>
  doesMem_devAction _ rfl rfl hrow (by decide) (by decide) hacc fun e => devAction_devOpStart w e 5

theorem devResetWrite_completes : Effect.DevResetWrite := fun _ w v _ hrow hv hacc =>
  doesMem_devAction _ rfl rfl hrow hv (by decide) hacc fun e => devAction_devReset w e v

theorem stateReqStandby_completes : Effect.StateReqStandby := fun _ w _ hrow hacc =>
  doesMem_devAction _ rfl rfl hrow (by decide) (by decide) hacc fun e => devAction_devStateReq w e 2

theorem stateReqReady_completes : Effect.StateReqReady := fun _ w _ hrow hacc =>
  doesMem_devAction _ rfl rfl hrow (by decide) (by decide) hacc fun e => devAction_devStateReq w e 3

theorem stateReqPrinting_completes : Effect.StateReqPrinting := fun _ w _ hrow hacc =>
  doesMem_devAction _ rfl rfl hrow (by decide) (by decide) hacc fun e => devAction_devStateReq w e 5

theorem fwConfirm_completes : Effect.FwConfirm := fun _ w _ hrow hacc =>
  doesMem_devAction _ rfl rfl hrow (by decide) (by decide) hacc fun e => devAction_fwConfirm w e 1

/-- Settles O22: each command is one write through the object server, and its clause is the answer to that write
(`doesMem_devAction`, `doesMem_wo`, `doesMem_readable`) with the action that the object's index selects. -/
theorem deviceWritesComplete : Obligations.DeviceWritesComplete :=
  ⟨devMarkModeWrite_completes, pdEnableWrite_completes, chCommit_completes, devCommitNow_completes,
    devCommitStep_completes, lockAcquire_completes, lockRelease_completes, store_completes, restoreDefaults_completes,
    imageVerify_completes, imageCommit_completes, dramRetrain_completes, profTargetWrite_completes,
    devResetWrite_completes, stateReqStandby_completes, stateReqReady_completes, stateReqPrinting_completes,
    fwConfirm_completes⟩

end Sys2Proof.Machine
end

section
/-! A command with an effect in a power domain: nothing while the domain is not usable or the device is in reset (R29, R429),
its effect otherwise. -/

namespace Sys2Proof.Machine

/-- Settles O29, from the shape of a command's outcome (`exec_shape`): an event and a memory command test the domain before
their effect, and the commands of the reset lie in no domain. -/
theorem unpoweredBlockIgnoresItsEvents : Obligations.UnpoweredBlockIgnoresItsEvents := by
  unfold Obligations.UnpoweredBlockIgnoresItsEvents
  intro i s d hok hdomain hoff
  cases exec_shape i s with
  | event d' f hd hexec =>
    obtain rfl : d' = d := Option.some.inj (hd.symm.trans hdomain)
    exact hexec.trans (run_off i.unitsOk d' s f hok hoff)
  | mem d' f hd hexec =>
    obtain rfl : d' = d := Option.some.inj (hd.symm.trans hdomain)
    exact hexec.trans (runMem_off i.unitsOk d' s f hok hoff)
  | reset f hnone _ _ => cases hnone.symm.trans hdomain

section Events
variable {i : Instr} {s : State} {ok : Bool} {d : Nat}

/-- An event of an existing unit in a live domain ends in the machine that its effect leaves. -/
theorem does_of_run {f : Core → Core} {c : Core} (hexec : exec i s = run ok d s f) (hok : ok = true) (hlive : Live s d)
    (heffect : f s.core = c) : Does i s c := by
  subst heffect
  exact hexec.trans (run_live ok d s f hok hlive)

/-- A command leaves one machine only. -/
theorem finish_eq_of_does {c e : Core} (hc : Does i s c) (he : Does i s e) : finish c = finish e := by
  unfold Does at hc he
  rw [hc, Host.Outcome.next.injEq, State.mk.injEq] at he
  obtain ⟨-, hcore, -⟩ := he
  exact hcore

/-- An event that ends an access of DRAM comes while the hub grants (R260). -/
theorem served_granted {f : Core → Core} {c : Core} (hgranted : c.hubWaits = false) : served f c = f c := by
  simp [served, hgranted]

end Events

end Sys2Proof.Machine
end

section
/-! Writes of objects that give bytes, and the events of the object server (R28, R81, R314, R316, R324, R327, R468). -/

namespace Sys2Proof.Machine

section Effects
variable (w : Writer) (d : Desc) (off : Nat) (data : List Byte) (e : Core) (m : List Host.Cell)

/-- An accepted write of an RW-S object stages its value (R316). -/
theorem writeEffect_staged (hacc : d.acc = .rws) :
    writeEffect w d off data e m = (stageValue d.obj (writeWhole e d off data) w e, m) := by
  simp [writeEffect, hacc]

/-- An accepted write of any other readable object, in FW.IMAGE, in the Cue Table and elsewhere (R81, R314, R468). -/
theorem writeEffect_unstaged (hwo : d.acc ≠ .wo) (hrws : d.acc ≠ .rws) :
    writeEffect w d off data e m =
      ((if isImage (d.obj.key / 256) (d.obj.key % 256) then imageStage off data e
        else if isCue (d.obj.key / 256) then
          e.set (K.cueEntry (d.obj.key / 256 - 0x2000))
            (cueWith (cueEntryOf e (d.obj.key / 256 - 0x2000)) (d.obj.key % 256) (writeWhole e d off data))
        else applyValue d.obj (writeWhole e d off data) off data.length e), m) := by
  simp only [writeEffect, if_neg hwo, if_neg hrws]
  split
  · rfl
  · split <;> rfl

end Effects

/-- A write command that gives bytes, accepted, whose effect leaves DRAM alone: the server audits it, applies it and answers
OK. -/
theorem doesMem_runWrite {i : Instr} {s : State} {w : Writer} {index sub typ off : Nat} {data : List Byte} {d : Desc}
    {e : Core} (hexec : exec i s = runWrite true s w index sub typ off data) (hlive : Live s 1)
    (hsilent : s.core.serverSilent = false) (hbusy : s.core.serverBusy = none)
    (hresolve : s.core.resolve index sub = some d) (hcheck : (writeCheck w d typ off data s.core s.dram).1 = 0)
    (heffect : writeEffect w d off data
      (auditWrite w (d.obj.key / 256) (d.obj.key % 256) 0 (auditValue (some d) data) s.core) s.dram = (e, s.dram)) :
    DoesMem i s (setReply 0 (writeCheck w d typ off data s.core s.dram).2 (lockRefresh w e), s.dram) := by
  refine hexec.trans ((runMem_live true 1 s (serverWrite w index sub typ off data) rfl hlive).trans ?_)
  rw [serverWrite_ok w index sub typ off data s.core s.dram d hsilent hbusy hresolve hcheck, heffect]

theorem objectWrite_completes : Effect.ObjectWrite := by
  rintro s _ w index sub typ off data d _ rfl hlive hsilent hbusy hresolve hcheck hacc hcue himage rfl
  refine doesMem_runWrite rfl hlive hsilent hbusy hresolve hcheck ?_
  simp [writeEffect_unstaged, hacc, himage, hcue]

theorem stagedWrite_completes : Effect.StagedWrite := by
  rintro s _ w index sub typ off data d _ rfl hlive hsilent hbusy hresolve hcheck hacc rfl
  exact doesMem_runWrite rfl hlive hsilent hbusy hresolve hcheck (writeEffect_staged w d off data _ _ hacc)

theorem cueEntryWrite_completes : Effect.CueEntryWrite := by
  rintro s _ w entry sub off data d _ rfl hentry hlive hsilent hbusy hresolve hkey hsub hcheck hacc rfl
  have hindex : d.obj.key / 256 = 0x2000 + entry := by omega
  have hsubindex : d.obj.key % 256 = sub := by omega
  have himage : isImage (0x2000 + entry) sub = false := by simp [isImage, show 0x2000 + entry ≠ 0x0600 by omega]
  have hcue : isCue (0x2000 + entry) = true := by simp [isCue, show 0x2000 + entry < 0x3000 by omega]
  have hexec : exec (.cueEntryWrite w entry sub off data) s = runWrite true s w (0x2000 + entry) sub 0 off data := by
    rw [← decide_eq_true hentry]
    rfl
  refine doesMem_runWrite hexec hlive hsilent hbusy hresolve hcheck ?_
  simp [writeEffect_unstaged, hacc, hindex, hsubindex, himage, hcue]

theorem fwImageWrite_completes : Effect.FwImageWrite := by
  rintro s _ w off data d _ rfl hlive hsilent hbusy hresolve hkey hcheck hwo hrws rfl
  have hindex : d.obj.key / 256 = 0x0600 := by omega
  have hsubindex : d.obj.key % 256 = 1 := by omega
  refine doesMem_runWrite rfl hlive hsilent hbusy hresolve hcheck ?_
  simp [writeEffect_unstaged, hwo, hrws, hindex, hsubindex, isImage]

theorem pdSwitchDone_completes : Effect.PdSwitchDone := by
  rintro s _ d rest rfl hd hlive hoffs
  refine does_of_run rfl (decide_eq_true hd) hlive ?_
  simp [pdSwitchDone, hoffs]

theorem lockLeaseExpiry_completes : Effect.LockLeaseExpiry := by
  rintro s _ k rfl hk hlive hidle hends
  refine does_of_run rfl (decide_eq_true hk) hlive ?_
  simp [lockExpire, hidle, hends]

theorem opEnd_completes : Effect.OpEnd := by
  rintro s _ _ detail rfl hlive rfl hop
  refine does_of_run rfl rfl hlive ?_
  simp [opEnd, hop]

theorem opTimeout_completes : Effect.OpTimeout := by
  rintro s _ rfl hlive hruns hretrain hlate
  refine does_of_run rfl rfl hlive ?_
  simp [opTimeout, hruns, hretrain, Nat.not_lt.2 hlate]

/-- Settles O15: a write is the server's answer to an accepted item (`doesMem_runWrite`) with the effect of its access right
(`writeEffect_staged`, `writeEffect_unstaged`); an event is its effect on a live machine, whose condition holds. -/
theorem dictionaryCommandsComplete : Obligations.DictionaryCommandsComplete :=
  ⟨objectWrite_completes, stagedWrite_completes, cueEntryWrite_completes, fwImageWrite_completes,
    pdSwitchDone_completes, lockLeaseExpiry_completes, opEnd_completes, opTimeout_completes⟩

end Sys2Proof.Machine
end

section
/-! The line boundary, the image path and firing (R15, R93, R96, R97, R101, R112, R120, R130, R268): every command has the effect
that its clause names, but for what FIRE_ISSUE notes as the last fire time of its line (R150). -/

namespace Sys2Proof.Machine

theorem lineBoundary_completes : Effect.LineBoundary := by
  rintro s _ n rfl hn hlive hstate hhold hbound hreached
  refine does_of_run rfl (decide_eq_true hn) hlive ?_
  simp [lineBoundary, hstate, hhold, hbound, hreached]

theorem flaskReadDone_completes : Effect.FlaskReadDone := by
  rintro s _ n line burst _ rfl hn hlive hgranted rfl hwritten hreleased hburst hstate
  refine does_of_run rfl (decide_eq_true hn) hlive ((served_granted hgranted).trans ?_)
  unfold flaskReadDone
  rw [if_pos (by simp [hwritten, hreleased, hburst, hstate])]
  extract_lets a
  generalize s.core.hubRead (4 * n) 0 a 64 = r
  obtain ⟨_ | _, e⟩ := r
  · rfl
  · rfl

theorem toneDrainEnd_completes : Effect.ToneDrainEnd := by
  rintro s _ n rfl hn hlive hdrains hheld hline
  refine does_of_run rfl (decide_eq_true hn) hlive ?_
  simp [toneDrainEnd, hdrains, hheld, hline]

theorem toneCopyDone_completes : Effect.ToneCopyDone := by
  rintro s _ n rfl hn hlive hruns hends
  refine does_of_run rfl (decide_eq_true hn) hlive ?_
  simp [toneCopyDone, hruns, hends]

theorem nozResyncDone_completes : Effect.NozResyncDone := by
  rintro s _ n rfl hn hlive hruns hends
  refine does_of_run rfl (decide_eq_true hn) hlive ?_
  simp [nozResyncDone, hruns, hends]

theorem tblLoadDone_completes : Effect.TblLoadDone := by
  rintro s _ n t rfl hn hlive hgranted htbl hload hid
  refine (runMem_live (n < 8) (7 + n) s _ (decide_eq_true hn) hlive).trans ?_
  simp [servedMem, hgranted, tblLoadDone, htbl, hload, hid]

theorem sramScrubRead_completes : Effect.SramScrubRead := by
  rintro s _ n _ entry flips rfl hn hlive rfl hentry hgood hbad
  have hword : ¬ sramWords 4 ≤ entry := Nat.not_le.2 hentry
  refine does_of_run rfl (decide_eq_true hn) hlive ?_
  simp only [sramScrubRead, hword, hgood, hbad]
  rfl

theorem headTempStale_completes : Effect.HeadTempStale := by
  rintro s _ n h rfl hn hlive hmonitored hjudged hcool hrecent hlate
  have hcool' : (s.core.updFire n fun (x : ChFire) => { x with old := setBit x.old h true }).headHot n h = false := hcool
  refine does_of_run rfl (decide_eq_true hn) hlive ?_
  simp only [headTempStale, hmonitored, hjudged, hrecent, hlate, hcool', decide_true, Bool.not_false, Bool.and_true,
    if_true]
  rfl

/-- FIRE_ISSUE is the one clause on which the statement of the family turns. -/
theorem imageCommandsComplete_iff_fireIssue : Obligations.ImageCommandsComplete ↔ Effect.FireIssue :=
  ⟨fun ⟨_, hfire, _⟩ => hfire, fun hfire =>
    ⟨lineBoundary_completes, hfire, flaskReadDone_completes, toneDrainEnd_completes, toneCopyDone_completes,
      nozResyncDone_completes, tblLoadDone_completes, sramScrubRead_completes, headTempStale_completes⟩⟩

/-- The fire event of row 0 in line 5, whose cycle has come, with fire time 8,000. -/
def earlierFire : FireEv := { line := 5, row := 0, group := 0, pos := 0, due := some 8000 }

/-- Line 5 of channel 0 in part issued: its event of row 1 has gone out with fire time 9,000, the gap of its row having put it
off (R122), and that of row 0 still waits. -/
def lineInPartIssued : Core :=
  { ({ boot := { inReset := false, step := 9 } } : Core).set K.devPdStatus 0x1FFFF with
    fires := upd ({} : Core).fires 0 fun (x : ChFire) =>
      { x with pending := [earlierFire], rowLast := x.rowLast.set 1 (some 9000), issued := [5], lastFire := [(5, 9000)] } }

/-- FIRE_ISSUE keeps the latest fire time of a line, 9,000 for line 5 here; the clause puts that of the event issued last,
8,000. -/
theorem not_fireIssue : ¬ Effect.FireIssue := by
  intro hclause
  let s : State := { pending := [], core := lineInPartIssued, dram := [] }
  have hlive : Live s 7 := by decide +kernel
  have hmodel : Does (.fireIssue 0) s (fireIssue 0 lineInPartIssued) := does_of_run rfl rfl hlive rfl
  have hsame := finish_eq_of_does hmodel (hclause s lineInPartIssued 0 earlierFire [] 8000 _ rfl (by decide) hlive
    (by decide +kernel) rfl rfl (by decide +kernel))
  exact absurd (congrArg (fun (c : Core) => (nth c.fires 0).lastFire) hsame) (by decide +kernel)

/-- Refutes O6: the clause of FIRE_ISSUE fails where an event of a line is issued with an earlier fire time than one before
it of the same line. -/
theorem not_imageCommandsComplete : ¬ Obligations.ImageCommandsComplete :=
  mt imageCommandsComplete_iff_fireIssue.1 not_fireIssue

end Sys2Proof.Machine
end

section
/-! Counters (R59, R371): what an object reads as once it has counted up. -/

namespace Sys2Proof.Machine

/-- Saturation in the width of an object of n bytes. -/
theorem satU_bytes (n v : Nat) : satU (8 * n) v = min v (256 ^ n - 1) := by
  have hwidth : 2 ^ (8 * n) = 256 ^ n := by rw [Nat.pow_mul]
  have hpos : 0 < 256 ^ n := Nat.pow_pos (by decide)
  unfold satU
  rw [hwidth]
  split <;> omega

/-- An object set with saturation reads as the number, or as its own largest value. -/
theorem get_satN_self (c : Core) (o : Obj) (v : Nat) : (c.satN o v).get o = min v (256 ^ o.bytes - 1) := by
  have hpos : 0 < 256 ^ o.bytes := Nat.pow_pos (by decide)
  unfold Core.satN
  rw [get_set_self, satU_bytes, Nat.mod_eq_of_lt (by omega)]

/-- Settles O37: a count up is a sum that saturates in the object's width (`get_satN_self`). -/
theorem countersSaturate : Obligations.CountersSaturate := fun c o _ => get_satN_self c o (c.get o + 1)

end Sys2Proof.Machine
end

section
/-! The quadrature decoder (R33): what ENC_EDGE does for an equal pair, for a change of one line and for one of both. -/

namespace Sys2Proof.Machine

/-- The successor of R33 as a table over the four pairs. -/
theorem quadNext_table (q : Bool × Bool) :
    quadNext q.1 q.2 = if q = (false, false) then (true, false) else if q = (true, false) then (true, true)
      else if q = (true, true) then (false, true) else (false, false) := by
  obtain ⟨x, y⟩ := q
  cases x <;> cases y <;> rfl

/-- One line changes toward the successor. -/
theorem quadNext_one_line (x y : Bool) : ((quadNext x y).1 != x) != ((quadNext x y).2 != y) := by
  cases x <;> cases y <;> rfl

/-- One line changes toward the predecessor. -/
theorem quadNext_one_line_back (x y : Bool) : (x != (quadNext x y).1) != (y != (quadNext x y).2) := by
  cases x <;> cases y <;> rfl

/-- No pair is the successor of its own successor. -/
theorem quadNext_quadNext_ne (x y : Bool) : (x, y) ≠ quadNext (quadNext x y).1 (quadNext x y).2 := by
  cases x <;> cases y <;> decide

section Decoder
variable (c : Core) (n : Nat) (a b : Bool)

/-- Input n has taken the filtered pair (a, b) in this sample. -/
def pairTaken : Core :=
  { c with encs := upd c.encs n fun (x : Enc) => { x with a := a, b := b, abAt := some c.sample } }

/-- Input n has counted a change to the pair (a, b), forward or in reverse. -/
def edgeCounted (fwd : Bool) : Core :=
  encJudge (encCount ((pairTaken c n a b).setBitOf (K.encStatus n) 3 (!fwd)) n (if fwd then 1 else -1) c.sample) n
    (nth c.encs n).zAt

/-- A double edge of input n, counted and stamped, has made its count uncertain. -/
def doubleCounted : Core :=
  (Core.bump { c with encs := upd c.encs n fun (x : Enc) => { x with doubles := (c.sample :: x.doubles).take 256 } }
    (K.encDoubleEdges n)).setBitOf (K.encStatus n) 1 true

/-- A double edge of input n to the pair (a, b) is raised with the number of them. -/
def doubleRaised : Core :=
  let d := doubleCounted (pairTaken c n a b) n
  encJudge (d.raise (0x0B10 + n) 1 (d.get (K.encDoubleEdges n))) n (nth c.encs n).zAt

variable {c n a b}

theorem encEdge_same (h : (a, b) = ((nth c.encs n).a, (nth c.encs n).b)) : encEdge n a b c = c := by
  simp only [encEdge, h, if_true]

/-- A change of the pair of an input in quadrature: of both lines or of one. -/
theorem encEdge_changed (hsource : c.get (K.encSource n) = 0) (h : (a, b) ≠ ((nth c.encs n).a, (nth c.encs n).b)) :
    encEdge n a b c = if a != (nth c.encs n).a && b != (nth c.encs n).b then doubleRaised c n a b
      else edgeCounted c n a b
        (((a, b) = quadNext (nth c.encs n).a (nth c.encs n).b) != c.bitOf (K.encInvert n) 0) := by
  have hcounts : ¬ ((pairTaken c n a b).get (K.encSource n) != 0) = true := by
    simp [show (pairTaken c n a b).get (K.encSource n) = 0 from hsource]
  unfold encEdge
  rw [if_neg h]
  exact (if_neg hcounts).trans (apply_ite (encJudge · n (nth c.encs n).zAt) _ _ _)

/-- A change of one line counts forward toward the successor, and the other way round where INVERT says so. -/
theorem encEdge_one_line (hsource : c.get (K.encSource n) = 0) (h : (a != (nth c.encs n).a) != (b != (nth c.encs n).b)) :
    encEdge n a b c = edgeCounted c n a b
      (((a, b) = quadNext (nth c.encs n).a (nth c.encs n).b) != c.bitOf (K.encInvert n) 0) := by
  have hchanged : (a, b) ≠ ((nth c.encs n).a, (nth c.encs n).b) := by
    rintro ⟨⟩
    simp at h
  have hone : ¬ (a != (nth c.encs n).a && b != (nth c.encs n).b) = true := by
    intro hboth
    obtain ⟨ha, hb⟩ := Bool.and_eq_true_iff.1 hboth
    rw [ha, hb] at h
    exact absurd h (by decide)
  exact (encEdge_changed hsource hchanged).trans (if_neg hone)

/-- A change of both lines leaves the count. -/
theorem encEdge_both_lines (hsource : c.get (K.encSource n) = 0) (ha : a ≠ (nth c.encs n).a) (hb : b ≠ (nth c.encs n).b) :
    encEdge n a b c = doubleRaised c n a b :=
  (encEdge_changed hsource fun h => ha (Prod.mk.inj h).1).trans (if_pos (by simp [ha, hb]))

/-- On an input that is not inverted the successor of the last pair counts +1. -/
theorem encEdge_successor (hsource : c.get (K.encSource n) = 0) (hinvert : c.bitOf (K.encInvert n) 0 = false)
    (h : (a, b) = quadNext (nth c.encs n).a (nth c.encs n).b) : encEdge n a b c = edgeCounted c n a b true := by
  have hone := quadNext_one_line (nth c.encs n).a (nth c.encs n).b
  rw [← h] at hone
  rw [encEdge_one_line hsource hone, hinvert, decide_eq_true h]
  rfl

/-- On an input that is not inverted the predecessor of the last pair counts -1. -/
theorem encEdge_predecessor (hsource : c.get (K.encSource n) = 0) (hinvert : c.bitOf (K.encInvert n) 0 = false)
    (h : ((nth c.encs n).a, (nth c.encs n).b) = quadNext a b) : encEdge n a b c = edgeCounted c n a b false := by
  have hone := quadNext_one_line_back a b
  have hne := quadNext_quadNext_ne a b
  rw [← h] at hone hne
  rw [encEdge_one_line hsource hone, hinvert, decide_eq_false hne]
  rfl

end Decoder

/-- ENC_EDGE is its effect on a live machine, after which fires of reversed channels are dropped. -/
theorem does_encEdge {s : State} {n : Nat} {a b : Bool} {e : Core} (hn : n < 4) (hlive : Live s 4)
    (heffect : encEdge n a b s.core = e) : Does (.encEdge n a b) s (dropReversedAll e) :=
  does_of_run (execEncEdge.eq_1 n a b s) (decide_eq_true hn) hlive (congrArg dropReversedAll heffect)

/-- Settles O39: the pairs of R33 are those of `quadNext`, and ENC_EDGE does for each what its lemma says. A count changes
before it reaches the synthesiser because `encCount` is defined so. -/
theorem quadratureTable : Obligations.QuadratureTable := by
  intro s c n a b hcore hn hlive hsource hinvert p seen next count
  subst hcore
  refine ⟨fun x d t => ⟨encPut x n (x.geti (K.encCount n) + d), rfl, rfl⟩, fun h => ?_, fun h => ?_, fun h => ?_,
    fun ha hb => ?_⟩
  · exact does_encEdge hn hlive (encEdge_same h)
  · exact does_encEdge hn hlive (encEdge_successor hsource hinvert (h.trans (quadNext_table p).symm))
  · exact does_encEdge hn hlive (encEdge_predecessor hsource hinvert (h.trans (quadNext_table (a, b)).symm))
  · exact does_encEdge hn hlive (encEdge_both_lines hsource ha hb)

end Sys2Proof.Machine
end

section
/-! The commands of the position inputs and outputs (R31, R33, R34, R36, R40, R44 to R46, R49, R51 to R53, R56). -/

namespace Sys2Proof.Machine

section Ports
variable (c : Core) (n : Nat)

@[simp] theorem sposClk_get (b : Bool) (o : Obj) : (sposClk c n b).get o = c.get o := by
  unfold sposClk
  split <;> rfl

@[simp] theorem sposTaken_get (o : Obj) : (sposTaken c n).get o = c.get o :=
  sposClk_get _ n true o

/-- A port's line delay is no object of its settings. -/
theorem sposTaken_satN_lineDelay_get (v : Nat) (o : Obj) (h : o.key ≠ (K.sposLineDelay n).key) :
    ((sposTaken c n).satN (K.sposLineDelay n) v).get o = c.get o :=
  (get_set_other (sposTaken c n) (K.sposLineDelay n) o _ h).trans (sposTaken_get c n o)

/-- A word that starts in time is judged with the port idle again and its line delay reported. -/
theorem sposWord_in_time {startClocks delay word stamp t0 : Nat} (hreq : (nth c.sposs n).req = some (stamp, t0))
    (hfirst : (nth c.sposs n).wordDone = false) (hstart : startClocks ≤ c.get (K.sposStartTimeout n)) :
    sposWord n startClocks delay word c =
      sposJudge ((sposTaken c n).satN (K.sposLineDelay n) (delay / 5 * 5)) n (delay / 5 * 5) word stamp t0 := by
  simp [sposWord, hreq, hfirst, Nat.not_lt.2 hstart]

/-- A word without CRC and status bits, of a port without a step limit, is good whatever it holds. -/
theorem sposJudge_unchecked {d word stamp t0 : Nat} (hdelay : d ≤ 2000) (hcrc : c.get (K.sposCrcSel n) = 0)
    (hstatus : c.get (K.sposStatusBits n) = 0) (hstep : c.get (K.sposMaxStep n) = 0) :
    sposJudge c n d word stamp t0 = sposGood c n (word % 2 ^ c.get (K.sposPosBits n)) 0 stamp := by
  simp [sposJudge, Nat.not_lt.2 hdelay, hcrc, hstatus, hstep, sposCrc, sposCrcOf, Nat.mod_one]

end Ports

theorem encEdge_completes : Effect.EncEdge := by
  rintro s _ n a b rfl hn hlive hsource hone
  exact does_encEdge hn hlive (encEdge_one_line hsource hone)

theorem encUnreliable_completes : Effect.EncUnreliable := by
  rintro s _ n rfl hn hlive hmany hnew
  refine does_of_run rfl (decide_eq_true hn) hlive ?_
  simp [encUnreliable, hmany, hnew]

theorem encIndex_completes : Effect.EncIndex := by
  rintro s _ n _ rfl hn hlive rfl hinvert hlow hpair
  refine does_of_run rfl (decide_eq_true hn) hlive ?_
  simp [encIndex, encJudge, hinvert, hlow, hpair]

theorem sposRequest_completes : Effect.SposRequest := by
  rintro s _ n _ rfl hn hlive rfl henable hdue
  refine does_of_run rfl (decide_eq_true hn) hlive ?_
  simp only [sposRequest, henable, hdue, decide_true, Bool.and_true, if_true]
  rfl

theorem sposWord_completes : Effect.SposWord := by
  rintro s _ n startClocks delay word stamp t0 rfl hn hlive hreq hfirst hstart hdelay hcrc hstatus hstep
  refine does_of_run (execSposWord.eq_1 n startClocks delay word s) (decide_eq_true hn) hlive (congrArg dropReversedAll ?_)
  have hget := fun (o : Obj) => sposTaken_satN_lineDelay_get s.core n (delay / 5 * 5) o
  have hsel := hget (K.sposCrcSel n) (by simp only [K.sposCrcSel, K.sposLineDelay]; omega)
  have hstat := hget (K.sposStatusBits n) (by simp only [K.sposStatusBits, K.sposLineDelay]; omega)
  have hmax := hget (K.sposMaxStep n) (by simp only [K.sposMaxStep, K.sposLineDelay]; omega)
  have hbits := hget (K.sposPosBits n) (by simp only [K.sposPosBits, K.sposLineDelay]; omega)
  rw [sposWord_in_time s.core n hreq hfirst hstart, sposJudge_unchecked _ n (by omega) (hsel.trans hcrc) (hstat.trans hstatus)
    (hmax.trans hstep), hbits]

theorem sposWordTimeout_completes : Effect.SposWordTimeout := by
  rintro s _ n stamp t0 rfl hn hlive hreq hnew hdone hlate
  refine does_of_run rfl (decide_eq_true hn) hlive ?_
  simp only [sposWordTimeout, hreq, hnew, hdone, hlate, decide_true, Bool.not_false, Bool.and_true, if_true]
  rfl

theorem sposLost_completes : Effect.SposLost := by
  rintro s _ n rfl hn hlive hnew hlimit
  refine does_of_run rfl (decide_eq_true hn) hlive ?_
  simp [sposLost, hnew, hlimit]

theorem passOverrun_completes : Effect.PassOverrun := by
  rintro s _ p rfl hp hlive hmode hnew hleft hover
  refine does_of_run rfl (decide_eq_true hp) hlive ?_
  simp [passOverrun, hmode, hnew, hleft, hover]

theorem compareTarget_completes : Effect.CompareTarget := by
  rintro s _ n _ rfl hn hlive harmed hmode rfl hmore
  refine does_of_run rfl (decide_eq_true hn) hlive ?_
  simp only [compareTarget, harmed, hmode, decide_true, Bool.and_true, if_true]
  refine if_neg ?_
  simp only [Bool.and_eq_true, bne_iff_ne, decide_eq_true_eq]
  omega

theorem cmpPulse_completes : Effect.CmpPulse := by
  rintro s _ n _ _ rfl hn hlive harmed hmode rfl rfl hmore
  refine does_of_run rfl (decide_eq_true hn) hlive ?_
  simp only [cmpPulse, harmed, hmode, hmore, decide_true, Bool.and_true, if_true]

theorem cmpPulseEnd_completes : Effect.CmpPulseEnd := by
  rintro s _ n t rfl hn hlive hends hover hnone
  refine does_of_run rfl (decide_eq_true hn) hlive ?_
  simp only [cmpPulseEnd, hends, hover, hnone, if_true, List.foldl_nil]
  rfl

theorem cmpCapture_completes : Effect.CmpCapture := by
  rintro s _ n rising pos time chPos rfl hn hlive hmode hedge hfree hlatched
  refine does_of_run rfl (decide_eq_true hn) hlive ?_
  simp only [cmpCapture, hmode, hedge, hfree, hlatched, decide_true, Bool.true_or, Bool.true_and, Bool.false_and,
    Bool.false_eq_true, if_true, if_false]

theorem encRawPulse_completes : Effect.EncRawPulse := by
  rintro s _ n rfl hn hlive
  exact does_of_run rfl (decide_eq_true hn) hlive rfl

/-- Settles O3: each command is its effect on a live machine, which its clause's conditions select. -/
theorem positionCommandsComplete : Obligations.PositionCommandsComplete :=
  ⟨encEdge_completes, encUnreliable_completes, encIndex_completes, sposRequest_completes, sposWord_completes,
    sposWordTimeout_completes, sposLost_completes, passOverrun_completes, compareTarget_completes, cmpPulse_completes,
    cmpPulseEnd_completes, cmpCapture_completes, encRawPulse_completes⟩

end Sys2Proof.Machine
end

section
/-! The writes of the objects of the other units (R35, R37, R55, R75, R222, R253, R273, R281, R283, R355 to R357, R362, R367,
R368, R374, R393, R407, R409, R414 to R416, R421): the action or application that the object's index selects, and the clause of
its command. -/

namespace Sys2Proof.Machine

/-- The index of a unit is not below that of the first one of its block. -/
theorem unit_not_lt (base k x : Nat) (h : x ≤ base) : ¬ base + k < x := by omega

/-- The index of a unit is none of those before its block. -/
theorem unit_ne (base k x : Nat) (h : x < base) : base + k ≠ x := by omega

section Actions
variable (w : Writer) (e : Core)

/-- Quadrature input n has index 0x0B10 + n. -/
theorem devAction_enc (n sub v : Nat) (hn : n < 4) :
    devAction w (0x0B10 + n) sub v e = if sub = 5 then encPreset n v e else encRehome n e := by
  simp [devAction, unit_not_lt, unit_ne, show 0x0B10 + n < 0x0B14 by omega]

/-- Compare unit n has index 0x0B40 + n. -/
theorem devAction_cmp (n sub v : Nat) (hn : n < 8) :
    devAction w (0x0B40 + n) sub v e = if v = 1 then cmpArm n e else cmpDisarm n e := by
  simp [devAction, unit_not_lt, unit_ne, show 0x0B40 + n < 0x0B48 by omega]

/-- Cue list k has index 0x0B60 + k. -/
theorem devAction_cueList (k sub v : Nat) (hk : k < 16) :
    devAction w (0x0B60 + k) sub v e = if v = 1 then cueArm k e else cueDisarm k e := by
  simp [devAction, unit_not_lt, unit_ne, show 0x0B60 + k < 0x0B70 by omega]

/-- Measurement vector j has index 0x0C20 + j. -/
theorem devAction_loopMeas (j sub v : Nat) (hj : j < 16) : devAction w (0x0C20 + j) sub v e = publish j e := by
  simp [devAction, unit_not_lt, unit_ne, show 0x0C20 + j < 0x0C30 by omega]

/-- Slot k of the Loop Engine has index 0x0C40 + k. -/
theorem devAction_loopSlot (k sub v : Nat) (hk : k < 64) :
    devAction w (0x0C40 + k) sub v e = if sub = 0x13 then slotPreset k v e else bankSwap k e := by
  simp [devAction, unit_not_lt, unit_ne, show 0x0C40 + k < 0x0C80 by omega]

/-- ENABLE of slot k applies as the slot's own switch. -/
theorem applyValue_loopSlotEnable (k v off len : Nat) (hk : k < 64) :
    applyValue (K.loopSlotEnable k) v off len e =
      if v = 1 then slotEnable k e else if e.slotOn k then slotDisable k e else e := by
  have hindex : (K.loopSlotEnable k).key / 256 = 0x0C40 + k := by simp only [K.loopSlotEnable]; omega
  have hsub : (K.loopSlotEnable k).key % 256 = 1 := by simp only [K.loopSlotEnable]; omega
  simp [applyValue, hindex, hsub, unit_ne, show 0x0C40 + k < 0x0C80 by omega]

/-- The bias of a master is stored and no more. -/
theorem applyValue_hubBias (m v off len : Nat) (hm : m < 64) :
    applyValue (K.hubBias m) v off len e = e.set (K.hubBias m) v := by
  have hindex : (K.hubBias m).key / 256 = 0x0820 := by simp only [K.hubBias]; omega
  simp [applyValue, devHook, hindex]

end Actions

/-- A command that writes a WO object of a unit of the device, accepted, its object given by index and sub-index. -/
theorem doesMem_unitAction {i : Instr} {s : State} {w : Writer} {o : Obj} {v : Nat} {d : Desc} {ok : Bool} (index sub : Nat)
    (f : Core → Core) (hkey : o.key = index * 256 + sub ∧ sub < 256) (hexec : exec i s = runPut ok s w o v) (hok : ok = true)
    (hrow : Row o .wo d) (hv : v < 256 ^ o.bytes) (hdev : index < 0x1000 ∧ index ≠ 0x0A00) (hacc : Accepts s w d v)
    (hact : ∀ e : Core, devAction w index sub v e = f e) :
    DoesMem i s (answered w d v (fun (e : Core) (m : List Host.Cell) => (f e, m)) s) := by
  obtain rfl : o.key / 256 = index := by omega
  obtain rfl : o.key % 256 = sub := by omega
  exact doesMem_devAction f hexec hok hrow hv hdev hacc hact

theorem encPreset_completes : Effect.EncPreset := fun _ w n v _ hn hrow hv hacc =>
  doesMem_unitAction (0x0B10 + n) 5 _ ⟨rfl, by decide⟩ rfl (decide_eq_true hn) hrow hv (by omega) hacc
    fun e => (devAction_enc w e n 5 v hn).trans (if_pos rfl)

theorem rehome_completes : Effect.Rehome := fun _ w n v _ hn hrow hv hacc =>
  doesMem_unitAction (0x0B10 + n) 20 _ ⟨rfl, by decide⟩ rfl (decide_eq_true hn) hrow hv (by omega) hacc
    fun e => (devAction_enc w e n 20 v hn).trans (if_neg (by decide))

theorem cmpArm_completes : Effect.CmpArm := fun _ w n _ hn hrow hacc =>
  doesMem_unitAction (0x0B40 + n) 13 _ ⟨rfl, by decide⟩ rfl (decide_eq_true hn) hrow (show 1 < 256 by decide) (by omega) hacc
    fun e => (devAction_cmp w e n 13 1 hn).trans (if_pos rfl)

theorem cmpDisarm_completes : Effect.CmpDisarm := fun _ w n _ hn hrow hacc =>
  doesMem_unitAction (0x0B40 + n) 13 _ ⟨rfl, by decide⟩ rfl (decide_eq_true hn) hrow (show 0 < 256 by decide) (by omega) hacc
    fun e => (devAction_cmp w e n 13 0 hn).trans (if_neg (by decide))

theorem cueListArm_completes : Effect.CueListArm := fun _ w k _ hk hrow hacc =>
  doesMem_unitAction (0x0B60 + k) 5 _ ⟨rfl, by decide⟩ rfl (decide_eq_true hk) hrow (show 1 < 256 by decide) (by omega) hacc
    fun e => (devAction_cueList w e k 5 1 hk).trans (if_pos rfl)

theorem cueListDisarm_completes : Effect.CueListDisarm := fun _ w k _ hk hrow hacc =>
  doesMem_unitAction (0x0B60 + k) 5 _ ⟨rfl, by decide⟩ rfl (decide_eq_true hk) hrow (show 0 < 256 by decide) (by omega) hacc
    fun e => (devAction_cueList w e k 5 0 hk).trans (if_neg (by decide))

theorem rcstRequest_completes : Effect.RcstRequest := fun _ _ _ _ hrow hv hacc =>
  doesMem_devAction _ rfl rfl hrow hv (by decide) hacc fun _ => rfl

theorem codecAbort_completes : Effect.CodecAbort := fun _ _ v _ hrow hv hacc =>
  doesMem_wo (codecAbort v) rfl rfl hrow hv (by decide) hacc fun _ _ => rfl

theorem hubBiasWrite_completes : Effect.HubBiasWrite := fun _ w m v _ hm hrow hv hacc =>
  have hindex : (K.hubBias m).key / 256 = 0x0820 := by simp only [K.hubBias]; omega
  doesMem_readable .rw _ rfl (decide_eq_true hm) hrow (by decide) hv (by omega) (by simp [hindex, isImage, isCue]) hacc
    fun len e => applyValue_hubBias e m v 0 len hm

theorem hubFecRearm_completes : Effect.HubFecRearm := fun _ _ _ hrow hacc =>
  doesMem_readable .rw _ rfl rfl hrow (by decide) (by decide) (by decide) (by decide) hacc fun _ _ => rfl

theorem hubInject_completes : Effect.HubInject := fun _ _ _ _ hrow hv hacc =>
  doesMem_devAction _ rfl rfl hrow hv (by decide) hacc fun _ => rfl

/-- A write of ENABLE of a slot, accepted. -/
theorem loopSlotEnable_write {i : Instr} {s : State} {w : Writer} {d : Desc} {slot v : Nat} (f : Core → Core)
    (hexec : exec i s = runPut (slot < 64) s w (K.loopSlotEnable slot) v) (hslot : slot < 64)
    (hrow : Row (K.loopSlotEnable slot) .rw d) (hv : v < 256) (hacc : Accepts s w d v)
    (hact : ∀ e : Core, (if v = 1 then slotEnable slot e else if e.slotOn slot then slotDisable slot e else e) = f e) :
    DoesMem i s (answered w d v (fun (e : Core) (m : List Host.Cell) => (f e, m)) s) :=
  have hindex : (K.loopSlotEnable slot).key / 256 = 0x0C40 + slot := by simp only [K.loopSlotEnable]; omega
  have himage : ¬ 0x0C40 + slot = 0x0600 := by omega
  have hcues : ¬ 0x2000 ≤ 0x0C40 + slot := by omega
  doesMem_readable .rw _ hexec (decide_eq_true hslot) hrow (by decide) hv (by omega)
    (by simp only [hindex, isImage, isCue, himage, hcues, decide_false, Bool.false_and, and_self]) hacc
    fun len e => (applyValue_loopSlotEnable e slot v 0 len hslot).trans (hact e)

theorem slotEnable_completes : Effect.SlotEnable := fun _ _ _ _ hslot hrow hacc =>
  loopSlotEnable_write _ rfl hslot hrow (by decide) hacc fun _ => if_pos rfl

theorem slotDisable_completes : Effect.SlotDisable := fun _ _ _ _ hslot hrow hacc =>
  loopSlotEnable_write _ rfl hslot hrow (by decide) hacc fun _ => if_neg (by decide)

theorem bankSwap_completes : Effect.BankSwap := fun _ w slot _ hslot hrow hacc =>
  doesMem_unitAction (0x0C40 + slot) 18 _ ⟨rfl, by decide⟩ rfl (decide_eq_true hslot) hrow (show 1 < 256 by decide)
    (by omega) hacc fun e => (devAction_loopSlot w e slot 18 1 hslot).trans (if_neg (by decide))

theorem preset_completes : Effect.Preset := fun _ w slot v _ hslot hrow hv hacc =>
  doesMem_unitAction (0x0C40 + slot) 19 _ ⟨rfl, by decide⟩ rfl (decide_eq_true hslot) hrow hv (by omega) hacc
    fun e => (devAction_loopSlot w e slot 19 v hslot).trans (if_pos rfl)

theorem publish_completes : Effect.Publish := fun _ w j _ hj hrow hacc =>
  doesMem_unitAction (0x0C20 + j) 2 _ ⟨rfl, by decide⟩ rfl (decide_eq_true hj) hrow (show 1 < 256 by decide) (by omega) hacc
    fun e => devAction_loopMeas w e j 2 1 hj

theorem gpioOutWrite_completes : Effect.GpioOutWrite := fun _ _ _ _ hrow hv hacc =>
  doesMem_readable .rw _ rfl rfl hrow (by decide) hv (by decide) (by decide) hacc fun _ _ => rfl

theorem timeSet_completes : Effect.TimeSet := fun _ _ _ _ hrow hv hacc =>
  doesMem_devAction _ rfl rfl hrow hv (by decide) hacc fun _ => rfl

/-- A write of QD.STEP, accepted, proposes the step that its word names (R393). -/
theorem qdStep_write {i : Instr} {s : State} {w : Writer} {d : Desc} {word : Nat}
    (hexec : exec i s = runPut true s w K.qdStep word) (hrow : Row K.qdStep .wo d) (hv : word < 2 ^ 32)
    (hacc : Accepts s w d word) :
    DoesMem i s (answered w d word (fun (e : Core) (m : List Host.Cell) => (qdStepWrite word e, m)) s) :=
  doesMem_devAction _ hexec rfl hrow hv (by decide) hacc fun _ => rfl

theorem qdSync_completes : Effect.QdSync := fun _ _ _ hrow hacc => qdStep_write rfl hrow (by decide) hacc

theorem qdRail_completes : Effect.QdRail := fun _ _ _ _ hrow hacc => qdStep_write rfl hrow (by omega) hacc

theorem qdArm_completes : Effect.QdArm := fun _ _ _ hrow hacc => qdStep_write rfl hrow (by decide) hacc

theorem qdStart_completes : Effect.QdStart := fun _ _ _ hrow hacc => qdStep_write rfl hrow (by decide) hacc

theorem qdStop_completes : Effect.QdStop := fun _ _ _ hrow hacc => qdStep_write rfl hrow (by decide) hacc

theorem qdCommit_completes : Effect.QdCommit := fun _ _ _ hrow hacc => qdStep_write rfl hrow (by decide) hacc

theorem fltClear_completes : Effect.FltClear := fun _ _ _ hrow hacc =>
  doesMem_devAction _ rfl rfl hrow (by decide) (by decide) hacc fun _ => rfl

theorem fltSelClassWrite_completes : Effect.FltSelClassWrite := fun _ _ _ _ hrow hv hacc =>
  doesMem_readable .rw _ rfl rfl hrow (by decide) hv (by decide) (by decide) hacc fun _ _ => rfl

theorem selStickyClear_completes : Effect.SelStickyClear := fun _ _ _ hrow hacc =>
  doesMem_devAction _ rfl rfl hrow (by decide) (by decide) hacc fun _ => rfl

theorem stickyClearAll_completes : Effect.StickyClearAll := fun _ _ _ hrow hacc =>
  doesMem_devAction _ rfl rfl hrow (by decide) (by decide) hacc fun _ => rfl

theorem manualSafe_completes : Effect.ManualSafe := fun _ _ _ hrow hacc =>
  doesMem_devAction _ rfl rfl hrow (by decide) (by decide) hacc fun _ => rfl

theorem fltFecRearm_completes : Effect.FltFecRearm := fun _ _ _ hrow hacc =>
  doesMem_readable .rw _ rfl rfl hrow (by decide) (by decide) (by decide) (by decide) hacc fun _ _ => rfl

theorem railTargetWrite_completes : Effect.RailTargetWrite := fun _ _ _ _ hrow hv hacc =>
  doesMem_readable .rw _ rfl rfl hrow (by decide) hv (by decide) (by decide) hacc fun _ _ => rfl

/-- Settles O24: each command is one write through the object server, and its clause is the answer to that write
(`doesMem_unitAction`, `doesMem_devAction`, `doesMem_wo`, `doesMem_readable`) with the effect that the object's index selects. -/
theorem unitWritesComplete : Obligations.UnitWritesComplete :=
  ⟨encPreset_completes, rehome_completes, cmpArm_completes, cmpDisarm_completes, cueListArm_completes,
    cueListDisarm_completes, rcstRequest_completes, codecAbort_completes, hubBiasWrite_completes, hubFecRearm_completes,
    hubInject_completes, slotEnable_completes, slotDisable_completes, bankSwap_completes, preset_completes,
    publish_completes, gpioOutWrite_completes, timeSet_completes, qdSync_completes, qdRail_completes, qdArm_completes,
    qdStart_completes, qdStop_completes, qdCommit_completes, fltClear_completes, fltSelClassWrite_completes,
    selStickyClear_completes, stickyClearAll_completes, manualSafe_completes, fltFecRearm_completes,
    railTargetWrite_completes⟩

end Sys2Proof.Machine
end

section
/-! The commands of the line clock synthesisers (R63, R64): each changes a synthesiser under one condition, which its clause
states. -/

namespace Sys2Proof.Machine

theorem lcTrackExit_completes : Effect.LcTrackExit := by
  rintro s _ n rfl hn hlive hon htrack hslow
  refine does_of_run rfl (decide_eq_true hn) hlive (if_pos ?_)
  simp only [hon, htrack, hslow, decide_true, Bool.and_self]

theorem lcStill_completes : Effect.LcStill := by
  rintro s _ n rfl hn hlive hon hedge hmoving hlong
  refine does_of_run rfl (decide_eq_true hn) hlive (if_pos ?_)
  simp only [hon, hedge, hmoving, hlong, decide_true, Bool.not_false, Bool.and_self]

theorem lcUnlock_completes : Effect.LcUnlock := by
  rintro s _ n rfl hn hlive hon htrack hlocked hbeyond
  refine does_of_run rfl (decide_eq_true hn) hlive (if_pos ?_)
  simp only [hon, htrack, hlocked, hbeyond, decide_true, Bool.and_self]

theorem lcRelock_completes : Effect.LcRelock := by
  rintro s _ n rfl hn hlive hsteady hunlocked
  refine does_of_run rfl (decide_eq_true hn) hlive (if_pos ?_)
  simp only [hsteady, hunlocked, Bool.not_false, Bool.and_self]

theorem lcSettled_completes : Effect.LcSettled := by
  rintro s _ n rfl hn hlive hsteady
  exact does_of_run rfl (decide_eq_true hn) hlive (if_pos hsteady)

/-- Settles O4: each command is its effect on a live machine, which its clause's conditions select. -/
theorem clockCommandsComplete : Obligations.ClockCommandsComplete :=
  ⟨lcTrackExit_completes, lcStill_completes, lcUnlock_completes, lcRelock_completes, lcSettled_completes⟩

end Sys2Proof.Machine
end

section
/-! The cue actions (R73, R74, R76, R78): what the code of an entry's action selects, and the command of each action on a list that
follows no channel. -/

namespace Sys2Proof.Machine

section Actions
variable {e : Nat} (k j base : Nat) (here : Option (Nat × Nat)) (c : Core)

theorem cueAct_nop (h : cueAction e = 0) : cueAct k j e base here c = c := by
  simp only [cueAct, h]

/-- TONE_SWAP and COMMIT go to the channels of the mask. -/
theorem cueAct_channels (h : cueAction e = 1 ∨ cueAction e = 2) : cueAct k j e base here c = cueChannels k j e here c := by
  rcases h with h | h
  · simp only [cueAct, h]
  · simp only [cueAct, h]

theorem cueAct_devCommit (h : cueAction e = 3) : cueAct k j e base here c = commitScope 0 2 [] 0 c := by
  simp only [cueAct, h]

theorem cueAct_loopSample (h : cueAction e = 4) : cueAct k j e base here c = loopCue (cueArg e) c := by
  simp only [cueAct, h]

theorem cueAct_loopBank (h : cueAction e = 5) : cueAct k j e base here c = bankSwap (cueArg e) c := by
  simp only [cueAct, h]

theorem cueAct_adcTrigger (h : cueAction e = 6) : cueAct k j e base here c = adcCue (cueArg e) c := by
  simp only [cueAct, h]

theorem cueAct_gpio (h : cueAction e = 7) : cueAct k j e base here c = cueGpio (cueTarget e) (cueArg e) c := by
  simp only [cueAct, h]

theorem cueAct_event (h : cueAction e = 8) : cueAct k j e base here c = cueRecord k (cueTarget e) 2 j e c := by
  simp only [cueAct, h]

theorem cueAct_listArm (h : cueAction e = 9) :
    cueAct k j e base here c = cueListAct k j (cueTarget e) (cueArg e) c := by
  simp only [cueAct, h]

theorem cueAct_recastReq (h : cueAction e = 10) : cueAct k j e base here c = cueRecast (cueArg e) c := by
  simp only [cueAct, h]

/-- A page of a list on a capture clock starts at the capture, the base of the walk. -/
theorem cueAct_pageStart (h : cueAction e = 11) :
    cueAct k j e base here c =
      pageStart (cueTarget e) j k
        (if cueOnCapture c k then some (c.get (K.cueListClock k) - 0x20, base) else none) c := by
  simp only [cueAct, h]

end Actions

/-- The command of the action of a reached entry under the cursor executes the entry, and the list passes over what follows
it. -/
theorem cueRun_executes {c : Core} {k j e : Nat} (hchannel : cueOnChannel c k = false) (hruns : cuesFrozen c = false)
    (hreached : cueReachedAt (cueWalk k c) k (cueClock (cueWalk k c) k).1 = some (j, e)) :
    cueRun (cueAction e) k c = cueWalk k (cueExecute k j e none (cueWalk k c)) := by
  simp only [cueRun, hchannel, hruns, hreached, Bool.or_self, Bool.false_eq_true, if_false, if_true]

/-- The cue command i of action a, of effect act: its clause holds, for a list that follows neither a channel nor captures. -/
theorem cueCommand_completes {i : Nat → Instr} {a : Nat} {act : Nat → Nat → Nat → Core → Core}
    (hexec : ∀ (k : Nat) (s : State), exec (i k) s = run (k < 16) 4 s (cueRun a k))
    (hact : ∀ (k j e : Nat) (d : Core), cueAction e = a → cueAct k j e 0 none d = act k j e d)
    (s : State) (c : Core) (k j e : Nat) (hcore : c = s.core) (hk : k < 16) (hlive : Live s 4)
    (hchannel : cueOnChannel c k = false) (_ : cueOnCapture (cueWalk k c) k = false) (hruns : cuesFrozen c = false)
    (hreached : cueReachedAt (cueWalk k c) k (cueClock (cueWalk k c) k).1 = some (j, e)) (haction : cueAction e = a) :
    Does (i k) s (cueWalk k (cueExecute k j e none (cueWalk k c))) ∧ ∀ d : Core, cueAct k j e 0 none d = act k j e d := by
  subst hcore haction
  exact ⟨does_of_run (hexec k s) (decide_eq_true hk) hlive (cueRun_executes hchannel hruns hreached),
    fun d => hact k j e d rfl⟩

theorem nop_completes : Effect.Nop :=
  cueCommand_completes (fun _ _ => rfl) fun k j _ d h => cueAct_nop k j 0 none d h

theorem toneSwap_completes : Effect.ToneSwap :=
  cueCommand_completes (fun _ _ => rfl) fun k j _ d h => cueAct_channels k j 0 none d (.inl h)

theorem commit_completes : Effect.Commit :=
  cueCommand_completes (fun _ _ => rfl) fun k j _ d h => cueAct_channels k j 0 none d (.inr h)

theorem devCommit_completes : Effect.DevCommit :=
  cueCommand_completes (fun _ _ => rfl) fun k j _ d h => cueAct_devCommit k j 0 none d h

theorem loopSample_completes : Effect.LoopSample :=
  cueCommand_completes (fun _ _ => rfl) fun k j _ d h => cueAct_loopSample k j 0 none d h

theorem loopBank_completes : Effect.LoopBank :=
  cueCommand_completes (fun _ _ => rfl) fun k j _ d h => cueAct_loopBank k j 0 none d h

theorem adcTrigger_completes : Effect.AdcTrigger :=
  cueCommand_completes (fun _ _ => rfl) fun k j _ d h => cueAct_adcTrigger k j 0 none d h

theorem gpio_completes : Effect.Gpio :=
  cueCommand_completes (fun _ _ => rfl) fun k j _ d h => cueAct_gpio k j 0 none d h

theorem event_completes : Effect.Event :=
  cueCommand_completes (fun _ _ => rfl) fun k j _ d h => cueAct_event k j 0 none d h

theorem listArm_completes : Effect.ListArm :=
  cueCommand_completes (fun _ _ => rfl) fun k j _ d h => cueAct_listArm k j 0 none d h

theorem recastReq_completes : Effect.RecastReq :=
  cueCommand_completes (fun _ _ => rfl) fun k j _ d h => cueAct_recastReq k j 0 none d h

theorem pageStart_completes : Effect.PageStart :=
  cueCommand_completes (fun _ _ => rfl) fun k j _ d h => cueAct_pageStart k j 0 none d h

/-- Settles O5: each cue command executes the entry of its action (`cueRun_executes`), whose effect is the one that the action
code selects. -/
theorem cueActionsExecute : Obligations.CueActionsExecute :=
  ⟨nop_completes, toneSwap_completes, commit_completes, devCommit_completes, loopSample_completes, loopBank_completes,
    adcTrigger_completes, gpio_completes, event_completes, listArm_completes, recastReq_completes, pageStart_completes⟩

end Sys2Proof.Machine
end

section
/-! The writes of the objects of a channel and of its lanes (R95, R97, R101, R110, R156, R157, R182, R187, R199, R205 to
R207): the action that the offset of the object's index within its channel selects, and the clause of its command. -/

namespace Sys2Proof.Machine

section Actions
variable (w : Writer) (e : Core)

/-- The value of CHn.CMD is the transition asked for (R205 to R207). -/
theorem chAction_cmd (n v : Nat) (m : List Host.Cell) :
    chAction w m n 0 2 v e =
      if v = 1 then chLoad n e else if v = 2 then chArm n e else if v = 4 then chAbort n e else chUnload n e := by
  simp only [chAction, if_true]

/-- Lane l is lane l % 4 of channel l / 4, with its objects at offset 0xB0 + l % 4. -/
theorem chAction_lane (l sub v : Nat) (m : List Host.Cell) :
    chAction w m (l / 4) (0xB0 + l % 4) sub v e =
      if sub = 16 then ctrlStart l (decide (v = 2)) e else bulkGo m l e := by
  simp [chAction, unit_ne, Nat.div_add_mod, show 0xB0 + l % 4 < 0xB4 by omega]

/-- A value of an object of channel n, at offset p of its indices, is stored, with what follows from it in the channel. -/
theorem applyValue_channel (o : Obj) (n p v off len : Nat) (hindex : o.key / 256 = 0x1000 + 0x100 * n + p) (hn : n < 8)
    (hp : p < 0x100) :
    applyValue o v off len e = chHook n p (o.key % 256) (e.get o) v (e.set o v) := by
  have hrange : 0x1000 ≤ o.key / 256 ∧ o.key / 256 < 0x1800 := by omega
  have hne : ∀ x < 0x1000, o.key / 256 ≠ x := by omega
  have hlt : ∀ x ≤ 0x1000, ¬ o.key / 256 < x := by omega
  have hquot : (o.key / 256 - 0x1000) / 256 = n := by omega
  have hoff : o.key / 256 % 256 = p := by omega
  simp [applyValue, hrange, hne, hlt, hquot, hoff]

/-- ENABLE of the scan of channel n is stored and switches the scan; a write of 0 does so only where it was 1 (R182). -/
theorem applyValue_chScanEnable (n v off len : Nat) (hn : n < 8) :
    applyValue (K.chScanEnable n) v off len e =
      if v = 1 then scanEnable n (e.set (K.chScanEnable n) v)
      else if e.get (K.chScanEnable n) = 1 then scanDisable n (e.set (K.chScanEnable n) v)
      else e.set (K.chScanEnable n) v := by
  have hindex : (K.chScanEnable n).key / 256 = 0x1000 + 0x100 * n + 0xD0 := by simp only [K.chScanEnable]; omega
  have hsub : (K.chScanEnable n).key % 256 = 1 := by simp only [K.chScanEnable]; omega
  rw [applyValue_channel e _ n 0xD0 v off len hindex hn (by decide), hsub]
  rfl

end Actions

section Commands
variable {i : Instr} {s : State} {w : Writer} {o : Obj} {v : Nat} {d : Desc} {ok : Bool} {n : Nat}

/-- A command that writes a WO object of channel n, accepted, its object given by the offset of its index and its
sub-index. -/
theorem doesMem_chAction (p sub : Nat) (f : Core → List Host.Cell → Core)
    (hkey : o.key = (0x1000 + 0x100 * n + p) * 256 + sub ∧ p < 0x100 ∧ sub < 256)
    (hexec : exec i s = runPut ok s w o v) (hok : ok = true) (hn : n < 8) (hrow : Row o .wo d) (hv : v < 256 ^ o.bytes)
    (hacc : Accepts s w d v) (hact : ∀ (e : Core) (m : List Host.Cell), chAction w m n p sub v e = f e m) :
    DoesMem i s (answered w d v (fun (e : Core) (m : List Host.Cell) => (f e m, m)) s) := by
  obtain ⟨hkey, hp, hsub⟩ := hkey
  have hindex : o.key / 256 = 0x1000 + 0x100 * n + p := by omega
  have hlow : o.key % 256 = sub := by omega
  refine doesMem_wo _ hexec hok hrow hv (by omega) hacc fun e m => ?_
  rw [hindex, hlow, woAction_channel w v e m n p sub hn hp, hact e m]

/-- A write of CHn.CMD, accepted, makes the transition that its value asks for. -/
theorem chCmd_write (f : Core → Core) (hexec : exec i s = runPut (n < 8) s w (K.chCmd n) v) (hn : n < 8)
    (hrow : Row (K.chCmd n) .wo d) (hv : v < 256) (hacc : Accepts s w d v)
    (hact : ∀ e : Core,
      (if v = 1 then chLoad n e else if v = 2 then chArm n e else if v = 4 then chAbort n e else chUnload n e) = f e) :
    DoesMem i s (answered w d v (fun (e : Core) (m : List Host.Cell) => (f e, m)) s) :=
  doesMem_chAction 0 2 _ ⟨rfl, by decide⟩ hexec (decide_eq_true hn) hn hrow hv hacc
    fun e m => (chAction_cmd w e n v m).trans (hact e)

/-- A write of CHn.TBL_GO, accepted, starts a load for 1, else a readback (R110). -/
theorem chTblGo_write (hexec : exec i s = runPut (n < 8) s w (K.chTblGo n) v) (hn : n < 8)
    (hrow : Row (K.chTblGo n) .wo d) (hv : v < 256) (hacc : Accepts s w d v) :
    DoesMem i s (answered w d v (fun (e : Core) (m : List Host.Cell) => (tblStart n (decide (v = 1)) e, m)) s) :=
  doesMem_chAction 0x60 5 _ ⟨by simp only [K.chTblGo]; omega, by decide⟩ hexec (decide_eq_true hn) hn hrow hv hacc
    fun _ _ => rfl

/-- A write of CHn.SLT_GO, accepted, starts what its value asks for (R187). -/
theorem chSltGo_write (hexec : exec i s = runPut (n < 8) s w (K.chSltGo n) v) (hn : n < 8)
    (hrow : Row (K.chSltGo n) .wo d) (hv : v < 256) (hacc : Accepts s w d v) :
    DoesMem i s (answered w d v (fun (e : Core) (m : List Host.Cell) => (sltStart n v e, m)) s) :=
  doesMem_chAction 0xE0 5 _ ⟨by simp only [K.chSltGo]; omega, by decide⟩ hexec (decide_eq_true hn) hn hrow hv hacc
    fun _ _ => rfl

/-- A write of the scan's ENABLE, accepted, is what the application of its value does. -/
theorem chScanEnable_write (f : Core → Core) (hexec : exec i s = runPut (n < 8) s w (K.chScanEnable n) v) (hn : n < 8)
    (hrow : Row (K.chScanEnable n) .rw d) (hv : v < 256) (hacc : Accepts s w d v)
    (hact : ∀ (len : Nat) (e : Core), applyValue (K.chScanEnable n) v 0 len e = f e) :
    DoesMem i s (answered w d v (fun (e : Core) (m : List Host.Cell) => (f e, m)) s) :=
  have hindex : (K.chScanEnable n).key / 256 = 0x10D0 + 0x100 * n := by simp only [K.chScanEnable]; omega
  have himage : ¬ 0x10D0 + 0x100 * n = 0x0600 := by omega
  have hcues : ¬ 0x2000 ≤ 0x10D0 + 0x100 * n := by omega
  doesMem_readable .rw f hexec (decide_eq_true hn) hrow (by decide) hv (by omega)
    (by simp only [hindex, isImage, isCue, himage, hcues, decide_false, Bool.false_and, and_self]) hacc hact

/-- A write of the control GO of lane l, accepted, starts a register access over the lane, a write for 2 (R156). -/
theorem klCtrlGo_write {l : Nat} (hexec : exec i s = runPut (l < 32) s w (K.klCtrlGo l) v) (hl : l < 32)
    (hrow : Row (K.klCtrlGo l) .wo d) (hv : v < 256) (hacc : Accepts s w d v) :
    DoesMem i s (answered w d v (fun (e : Core) (m : List Host.Cell) => (ctrlStart l (decide (v = 2)) e, m)) s) :=
  doesMem_chAction (n := l / 4) (0xB0 + l % 4) 16 _ ⟨by simp only [K.klCtrlGo]; omega, by omega⟩ hexec
    (decide_eq_true hl) (by omega) hrow hv hacc fun e m => (chAction_lane w e l 16 v m).trans (if_pos rfl)

end Commands

theorem chToneSwap_completes : Effect.ChToneSwap := fun _ _ _ _ _ hn hrow hv hacc =>
  doesMem_chAction 0x30 3 _ ⟨by simp only [K.chToneSwap]; omega, by decide⟩ rfl (decide_eq_true hn) hn hrow hv hacc
    fun _ _ => rfl

theorem toneCopy_completes : Effect.ToneCopy := fun _ _ _ _ hn hrow hacc =>
  doesMem_chAction 0x30 6 _ ⟨by simp only [K.chToneCopy]; omega, by decide⟩ rfl (decide_eq_true hn) hn hrow
    (show 1 < 256 by decide) hacc fun _ _ => rfl

theorem nozPatch_completes : Effect.NozPatch := fun _ _ _ _ _ hn hrow hv hacc =>
  doesMem_chAction 0x40 1 _ ⟨by simp only [K.chNozPatch]; omega, by decide⟩ rfl (decide_eq_true hn) hn hrow hv hacc
    fun _ _ => rfl

theorem tblLoad_completes : Effect.TblLoad := fun _ _ _ _ hn hrow hacc => chTblGo_write rfl hn hrow (by decide) hacc

theorem tblReadback_completes : Effect.TblReadback := fun _ _ _ _ hn hrow hacc =>
  chTblGo_write rfl hn hrow (by decide) hacc

theorem scanEnable_completes : Effect.ScanEnable := fun _ _ n _ hn hrow hacc =>
  chScanEnable_write _ rfl hn hrow (by decide) hacc
    fun len e => (applyValue_chScanEnable e n 1 0 len hn).trans (if_pos rfl)

theorem scanDisable_completes : Effect.ScanDisable := fun _ _ n _ hn hrow hacc =>
  chScanEnable_write _ rfl hn hrow (by decide) hacc
    fun len e => (applyValue_chScanEnable e n 0 0 len hn).trans (if_neg (by decide))

theorem sltLoad_completes : Effect.SltLoad := fun _ _ _ _ hn hrow hacc => chSltGo_write rfl hn hrow (by decide) hacc

theorem sltReadback_completes : Effect.SltReadback := fun _ _ _ _ hn hrow hacc =>
  chSltGo_write rfl hn hrow (by decide) hacc

theorem sltGenerate_completes : Effect.SltGenerate := fun _ _ _ _ hn hrow hacc =>
  chSltGo_write rfl hn hrow (by decide) hacc

theorem pageAbort_completes : Effect.PageAbort := fun _ _ _ hrow hacc =>
  doesMem_devAction _ rfl rfl hrow (by decide) (by decide) hacc fun _ => rfl

theorem chLoad_completes : Effect.Load := fun _ _ _ _ hn hrow hacc =>
  chCmd_write _ rfl hn hrow (by decide) hacc fun _ => if_pos rfl

theorem chArm_completes : Effect.Arm := fun _ _ _ _ hn hrow hacc =>
  chCmd_write _ rfl hn hrow (by decide) hacc fun _ => (if_neg (by decide)).trans (if_pos rfl)

theorem chAbort_completes : Effect.Abort := fun _ _ _ _ hn hrow hacc =>
  chCmd_write _ rfl hn hrow (by decide) hacc fun _ =>
    (if_neg (by decide)).trans ((if_neg (by decide)).trans (if_pos rfl))

theorem chUnload_completes : Effect.Unload := fun _ _ _ _ hn hrow hacc =>
  chCmd_write _ rfl hn hrow (by decide) hacc fun _ =>
    (if_neg (by decide)).trans ((if_neg (by decide)).trans (if_neg (by decide)))

theorem ctrlRead_completes : Effect.CtrlRead := fun _ _ _ _ hl hrow hacc =>
  klCtrlGo_write rfl hl hrow (by decide) hacc

theorem ctrlWrite_completes : Effect.CtrlWrite := fun _ _ _ _ hl hrow hacc =>
  klCtrlGo_write rfl hl hrow (by decide) hacc

theorem bulkGo_completes : Effect.BulkGo := fun _ w l _ hl hrow hacc =>
  doesMem_chAction (n := l / 4) (0xB0 + l % 4) 21 _ ⟨by simp only [K.klBulkGo]; omega, by omega⟩ rfl
    (decide_eq_true hl) (by omega) hrow (show 1 < 256 by decide) hacc
    fun e m => (chAction_lane w e l 21 1 m).trans (if_neg (by decide))

/-- Settles O23: each command is one write through the object server, and its clause is the answer to that write
(`doesMem_chAction`, `doesMem_devAction`, `doesMem_readable`) with the effect that the object's index selects. -/
theorem channelWritesComplete : Obligations.ChannelWritesComplete :=
  ⟨chToneSwap_completes, toneCopy_completes, nozPatch_completes, tblLoad_completes, tblReadback_completes,
    scanEnable_completes, scanDisable_completes, sltLoad_completes, sltReadback_completes, sltGenerate_completes,
    pageAbort_completes, chLoad_completes, chArm_completes, chAbort_completes, chUnload_completes, ctrlRead_completes,
    ctrlWrite_completes, bulkGo_completes⟩

end Sys2Proof.Machine
end

section
/-! The events of a Kuntelink lane and the blocks it receives (R143, R150 to R153, R156, R160 to R166, R168, R170): each command
has the effect that its clause's conditions select. -/

namespace Sys2Proof.Machine

theorem temp_completes : Effect.Temp := by
  rintro s _ m head t sensor j rfl hm hlive hhears hgood hhead hrecords
  refine does_of_run rfl (decide_eq_true hm) hlive ?_
  simp [tempBlock, hhears, hgood, hhead, hrecords]

theorem nozzle_completes : Effect.Nozzle := by
  rintro s _ m entry value health rfl hm hlive hhears hnozzle
  refine does_of_run rfl (decide_eq_true hm) hlive ?_
  simp [nozzleBlock, hhears, hnozzle]

theorem fault_completes : Effect.Fault := by
  rintro s _ m code severity detail rfl hm hlive hhears
  refine does_of_run rfl (decide_eq_true hm) hlive ?_
  simp [faultBlock, hhears]

theorem status_completes : Effect.Status := by
  rintro s _ m safe enabled blank late naks invalid rfl hm hlive hhears
  refine does_of_run rfl (decide_eq_true hm) hlive ?_
  simp [statusBlock, hhears]

theorem lineNak_completes : Effect.LineNak := by
  rintro s _ m line reason b _ rfl hm hlive rfl hhears hup hheld hunfired
  refine does_of_run rfl (decide_eq_true hm) hlive ?_
  simp only [lineNak, hhears, hup, hheld, hunfired]
  rfl

theorem ctrlAck_completes : Effect.CtrlAck := by
  rintro s _ m _ _ data a rfl hm hlive hhears hregister hopen rfl hhost hwrite rfl
  refine does_of_run rfl (decide_eq_true hm) hlive ?_
  simp [ctrlAck, hhears, hregister, hopen, hhost, hwrite]

theorem echoRsp_completes : Effect.EchoRsp := by
  rintro s _ m t1 tau t4 rfl hm hlive hhears htraining hasked hmore
  refine does_of_run rfl (decide_eq_true hm) hlive ?_
  simp only [echoRsp, hhears, htraining, hasked, decide_true, Bool.and_self, if_true]
  exact congrArg (retDone m) (if_pos (Nat.succ_lt_succ hmore))

theorem train_completes : Effect.Train := by
  rintro s _ m _ stage rfl hm hlive hhears hdown htraining rfl
  refine does_of_run rfl (decide_eq_true hm) hlive ?_
  simp [trainRx, hhears, hdown, htraining]

theorem klInvalidBlock_completes : Effect.KlInvalidBlock := by
  rintro s _ m block rfl hm hlive hon hrunning hcontrol hinvalid
  refine does_of_run (execKlInvalidBlock.eq_1 m block s) (decide_eq_true hm) hlive ?_
  rw [hcontrol]
  generalize block % 2 ^ 64 = payload at hinvalid ⊢
  simp [klInvalidBlock, hon, hrunning, hinvalid]

theorem klLockLoss_completes : Effect.KlLockLoss := by
  rintro s _ m t rfl hm hlive hsixteenth hlocked hwithin hup
  refine does_of_run rfl (decide_eq_true hm) hlive ?_
  simp only [klLockLoss, hsixteenth, hlocked, hwithin, hup, decide_true, Bool.and_self, if_true]

theorem klSilence_completes : Effect.KlSilence := by
  rintro s _ m rfl hm hlive hup hsilent
  refine does_of_run rfl (decide_eq_true hm) hlive (if_pos ?_)
  simp only [hup, hsilent, decide_true, Bool.and_self]

theorem klBlockLock_completes : Effect.KlBlockLock := by
  rintro s _ m _ rfl hm hlive htraining hunlocked rfl
  refine does_of_run rfl (decide_eq_true hm) hlive ?_
  simp [klBlockLock, htraining, hunlocked]

theorem klStageTimer_completes : Effect.KlStageTimer := by
  rintro s _ m t rfl hm hlive hboth htraining hstage hover
  refine does_of_run rfl (decide_eq_true hm) hlive ?_
  simp only [klStageTimer, hboth, htraining, hstage, hover, decide_true, Bool.and_self, if_true]

theorem laneTrainStart_completes : Effect.LaneTrainStart := by
  rintro s _ m rfl hm hlive hmay hidle
  refine does_of_run rfl (decide_eq_true hm) hlive (if_pos ?_)
  simp only [hmay, hidle, decide_true, Bool.true_or, Bool.and_self]

theorem klTrainTimeout_completes : Effect.KlTrainTimeout := by
  rintro s _ m rfl hm hlive htraining hlate
  refine does_of_run rfl (decide_eq_true hm) hlive (if_pos ?_)
  simp only [htraining, hlate, decide_true, Bool.true_or, Bool.and_self]

theorem klRetryTimer_completes : Effect.KlRetryTimer := by
  rintro s _ m rfl hm hlive hfailed hmay hover
  refine does_of_run rfl (decide_eq_true hm) hlive (if_pos ?_)
  simp only [hfailed, hmay, hover, decide_true, Bool.and_self]

theorem klSyncDue_completes : Effect.KlSyncDue := by
  rintro s _ rfl hlive hdue
  refine does_of_run rfl rfl hlive ?_
  simp only [klSyncDue, hdue, if_true]

theorem keepaliveDue_completes : Effect.KeepaliveDue := by
  rintro s _ m rfl hm hlive hup
  exact does_of_run rfl (decide_eq_true hm) hlive (if_pos hup)

theorem lineFrameOpen_completes : Effect.LineFrameOpen := by
  rintro s _ m line _ rfl hm hlive hready hnobulk hnext rfl hlevels
  refine does_of_run rfl (decide_eq_true hm) hlive ?_
  simp [lineFrameOpen, hready, hnobulk, hnext, hlevels]

/-- A register access of fewer than four attempts that has waited 20 us is repeated (R156). -/
theorem ctrlLate_repeats {m : Nat} {c : Core} {a : CtrlAcc} (hopen : (nth c.lanes m).ctrl = some a)
    (hlate : a.sentAt + 20000 ≤ c.clock) (hmore : a.attempts < 4) :
    ctrlLate m c =
      ((c.bump (K.klCtrlRetries m)).updLane m fun (x : Lane) =>
        { x with ctrl := some { a with attempts := a.attempts + 1, sentAt := c.clock } }).block m
        (if a.write then 0x87 else 0x8B) (a.addr * 2 ^ 32 + (if a.write then a.data else 0)) := by
  simp only [ctrlLate, hopen, Nat.not_lt.2 hlate, hmore, if_true, if_false]

theorem klCtrlTimeout_completes : Effect.KlCtrlTimeout := by
  rintro s _ m a _ rfl hm hlive rfl hopen hlate hmore
  exact does_of_run rfl (decide_eq_true hm) hlive (congrArg (bulkLate s.dram m) (ctrlLate_repeats hopen hlate hmore))

theorem echoReqDue_completes : Effect.EchoReqDue := by
  rintro s _ m rfl hm hlive htraining htx hrx hfirst
  refine does_of_run rfl (decide_eq_true hm) hlive (if_pos ?_)
  simp [htraining, htx, hrx, hfirst]

theorem lineFrameComplete_completes : Effect.LineFrameComplete := by
  rintro s _ m line rfl hm hlive hopen
  refine does_of_run rfl (decide_eq_true hm) hlive ?_
  simp only [lineFrameComplete, hopen]

/-- Settles O7: each command is its effect on a live machine, which its clause's conditions select. -/
theorem linkCommandsComplete : Obligations.LinkCommandsComplete :=
  ⟨temp_completes, nozzle_completes, fault_completes, status_completes, lineNak_completes, ctrlAck_completes,
    echoRsp_completes, train_completes, klInvalidBlock_completes, klLockLoss_completes, klSilence_completes,
    klBlockLock_completes, klStageTimer_completes, laneTrainStart_completes, klTrainTimeout_completes,
    klRetryTimer_completes, klSyncDue_completes, keepaliveDue_completes, lineFrameOpen_completes,
    klCtrlTimeout_completes, echoReqDue_completes, lineFrameComplete_completes⟩

end Sys2Proof.Machine
end

section
/-! The scan of the beam stations, its sweeps and scan parameter pages, and the pages that the stations print (R174, R179, R182,
R183, R187, R192, R193, R199, R202): each command has the effect that its clause's conditions select. -/

namespace Sys2Proof.Machine

/-- A pulse of a sweep before lock that follows none of its sensor is noted and measures nothing: there is no pulse before it
to take a difference from (R178). -/
theorem scanPulse_first {c : Core} {n rise fall k : Nat} (hsweeping : c.sweeping n = true)
    (hlong : rise + 4 * c.get (K.chScanMinPulse n) ≤ fall)
    (hsweep : c.sweepAt n false (((rise + fall : Nat) : Int) * 2 ^ 29) = some k) (hfirst : (nth c.scans n).lastA = none)
    (hacquire : c.get (K.chScanState n) = 2) :
    scanPulse n false rise fall c = c.updScan n fun (y : Scan) =>
      { y with lastA := some (k, ((rise + fall : Nat) : Int) * 2 ^ 29), seenA := k :: y.seenA } := by
  have hnotShort : ¬ fall < rise + 4 * c.get (K.chScanMinPulse n) := Nat.not_lt.2 hlong
  simp only [scanPulse, hsweeping, hnotShort, hsweep, hfirst, hacquire, decide_false, Bool.not_true, Bool.or_self,
    Bool.false_eq_true, if_false, Nat.reduceEqDiff]

theorem scanPulse_completes : Effect.ScanPulse := by
  rintro s _ n _ rise fall k rfl hn hlive rfl hsweeping hlong hsweep hfirst hacquire
  exact does_of_run rfl (decide_eq_true hn) hlive (scanPulse_first hsweeping hlong hsweep hfirst hacquire)

/-- SCAN_MISS waits until each sensor's window has ended, or without a window until a quarter period past the centre of the
sweep (R179). -/
theorem scanMiss_completes : Effect.ScanMiss := by
  rintro s _ n rfl hn hlive hlocked hwindows hunseen
  refine does_of_run rfl (decide_eq_true hn) hlive ?_
  unfold scanMiss
  extract_lets x k late
  have hlate : ∀ b : Bool, late b = true := by
    intro b
    have hwindow := hwindows b
    cases hpulse : s.core.pulseWindow n (nth s.core.scans n).judged b <;>
      simpa only [late, k, x, hpulse, decide_eq_true_eq] using hwindow
  refine if_pos ?_
  simp only [hlocked, hlate, k, x, hunseen, decide_true, Bool.not_false, Bool.and_self]

theorem scanLost_completes : Effect.ScanLost := by
  rintro s _ n rfl hn hlive hlocked hlimit
  refine does_of_run rfl (decide_eq_true hn) hlive (if_pos ?_)
  simp only [hlocked, hlimit, decide_true, Bool.and_self]

theorem scanSpinupDone_completes : Effect.ScanSpinupDone := by
  rintro s _ n rfl hn hlive hbeam hspinup hlanes hover
  refine does_of_run rfl (decide_eq_true hn) hlive (if_pos ?_)
  simp only [hbeam, hspinup, hlanes, hover, decide_true, Bool.and_self]

theorem scanAcquired_completes : Effect.ScanAcquired := by
  rintro s _ n rfl hn hlive hacquire hgood hidle
  refine does_of_run rfl (decide_eq_true hn) hlive (if_pos ?_)
  simp only [hacquire, hgood, hidle, decide_true, Option.isNone_none, Bool.and_self]

theorem scanAcqTimeout_completes : Effect.ScanAcqTimeout := by
  rintro s _ n rfl hn hlive hacquire hover
  refine does_of_run rfl (decide_eq_true hn) hlive (if_pos ?_)
  simp only [hacquire, hover, decide_true, Bool.and_self]

theorem scanLostRetry_completes : Effect.ScanLostRetry := by
  rintro s _ n rfl hn hlive hlost hover
  refine does_of_run rfl (decide_eq_true hn) hlive (if_pos ?_)
  simp only [hlost, hover, decide_true, Bool.and_self]

theorem sweepCommit_completes : Effect.SweepCommit := by
  rintro s _ n _ d rfl hn hlive rfl hsweeping hcome hcomplete hd
  refine does_of_run rfl (decide_eq_true hn) hlive ?_
  have hnow : ¬ (s.core.time : Int) < s.core.commitTime n (s.core.nextSweep n) := Int.not_lt.2 hcome
  simp only [hd, sweepCommit, hsweeping, hnow, hcomplete, decide_false, Bool.not_true, Bool.or_self, Bool.false_eq_true,
    if_false]

theorem scanPagePhase2_completes : Effect.ScanPagePhase2 := by
  rintro s _ n w rfl hn hlive hswitch hphase hacked
  refine does_of_run rfl (decide_eq_true hn) hlive ?_
  simp [scanPagePhase2, hswitch, hphase, hacked]

theorem scanSplit_completes : Effect.ScanSplit := by
  rintro s _ n w rfl hn hlive hswitch hnew hleft hdue
  refine does_of_run rfl (decide_eq_true hn) hlive ?_
  simp [scanSplit, hswitch, hnew, hleft, hdue]

/-- A generation that ends takes its knots from the formula and leaves DRAM alone (R187). The table of 4,096 knots stays a
variable: no step of the proof computes it. -/
theorem sltDone_generate {c : Core} {n a : Nat} (m : List Host.Cell) (hgenerate : (nth c.scans n).slt = some (3, a)) :
    sltDone m n c =
      (let g := genKnots n (List.range 4096) c []
       (sltEnd n 2 true (g.2.updScan n fun (x : Scan) => { x with knots := g.1 }), m)) := by
  unfold sltDone
  rw [hgenerate]
  generalize genKnots n (List.range 4096) c [] = g
  obtain ⟨knots, e⟩ := g
  simp

theorem sltDone_completes : Effect.SltDone := by
  rintro s _ n a rfl hn hlive hgenerate
  refine (execSltDone.eq_1 n s).trans ((runMem_live (n < 8) (7 + n) s _ (decide_eq_true hn) hlive).trans ?_)
  rw [sltDone_generate s.dram hgenerate]

theorem apcSample_completes : Effect.ApcSample := by
  rintro s _ n code k rfl hn hlive hdue
  exact does_of_run rfl (decide_eq_true hn) hlive rfl

/-- A page with stations that go on is not PRINTED, whatever its reason (R199). -/
theorem stationFinished_completes : Effect.StationFinished := by
  rintro s _ n x _ p rfl hn hlive hruns hany hcommitted hover rfl hpage hothers
  refine does_of_run rfl (decide_eq_true hn) hlive ?_
  simp only [stationFinished, hruns, hany, hcommitted, hover, hpage, hothers, decide_true, decide_false, Bool.and_self,
    Bool.and_false, Bool.true_or, Bool.not_true, Bool.false_eq_true, if_false]

theorem pageSpoiledReport_completes : Effect.PageSpoiledReport := by
  rintro s _ n p rfl hn hlive hended
  refine does_of_run rfl (decide_eq_true hn) hlive ?_
  simp only [pageSpoiledReport, hended]

/-- Settles O8: each command is its effect on a live machine, which its clause's conditions select. -/
theorem beamCommandsComplete : Obligations.BeamCommandsComplete :=
  ⟨scanPulse_completes, scanMiss_completes, scanLost_completes, scanSpinupDone_completes, scanAcquired_completes,
    scanAcqTimeout_completes, scanLostRetry_completes, sweepCommit_completes, scanPagePhase2_completes,
    scanSplit_completes, sltDone_completes, apcSample_completes, stationFinished_completes,
    pageSpoiledReport_completes⟩

end Sys2Proof.Machine
end

section
/-! The job intake, Sprue and the compressors (R205, R208, R213, R214, R220, R243, R246, R252): each command has the effect that
its clause's conditions select. -/

namespace Sys2Proof.Machine

/-- A command of an existing unit in a live domain that ends an access of DRAM, while the hub grants (R260), ends in the core
and DRAM that its effect leaves. -/
theorem doesMem_of_served {i : Instr} {s : State} {ok : Bool} {d : Nat}
    {f : Core → List Host.Cell → Core × List Host.Cell} {r : Core × List Host.Cell}
    (hexec : exec i s = runMem ok d s (servedMem f)) (hok : ok = true) (hlive : Live s d)
    (hgranted : s.core.hubWaits = false) (heffect : f s.core s.dram = r) : DoesMem i s r := by
  have hserved : servedMem f s.core s.dram = r := by
    simpa only [servedMem, hgranted, Bool.false_eq_true, if_false] using heffect
  subst hserved
  exact hexec.trans (runMem_live ok d s _ hok hlive)

theorem jobDescriptor_completes : Effect.JobDescriptor := by
  rintro s _ n e _ _ _ rfl hn hlive hhead htype rfl hgood rfl hfits rfl hplaced
  refine does_of_run rfl (decide_eq_true hn) hlive ?_
  simp only [jobDescriptor, hhead, htype, hgood, hfits, hplaced, bne_self_eq_false, Bool.not_true, Bool.false_and,
    Bool.or_self, Bool.false_eq_true, if_false, if_true]

theorem bandDescriptor_completes : Effect.BandDescriptor := by
  rintro s _ n e _ j rfl hn hlive hhead htype rfl hopen hrefused haborted haccepted
  refine does_of_run rfl (decide_eq_true hn) hlive ?_
  simp only [bandDescriptor, hhead, htype, hopen, hrefused, haborted, haccepted, Nat.reduceEqDiff, Nat.succ_ne_self,
    decide_false, Bool.or_self, Bool.and_false, bne_self_eq_false, Bool.false_eq_true, if_false]

theorem stopDescriptor_completes : Effect.StopDescriptor := by
  rintro s _ n e rfl hn hlive hhead htype hflags hrest
  refine does_of_run rfl (decide_eq_true hn) hlive ?_
  simp only [stopDescriptor, hhead, htype, hflags, hrest, bne_self_eq_false, Bool.or_self, Bool.false_eq_true, if_false]

theorem bandFetchStart_completes : Effect.BandFetchStart := by
  rintro s _ n b off rfl hn hlive hnext hstate hidle hdma hplace
  refine does_of_run rfl (decide_eq_true hn) hlive ?_
  simp only [bandFetchStart, hnext, hstate, hidle, hdma, hplace, Nat.reduceEqDiff, reduceCtorEq, decide_false,
    decide_true, Bool.true_or, Bool.or_self, Bool.not_true, Bool.false_eq_true, if_false]

/-- The band whose fetch ends well is measured and, its bytes being good, landed (R214). -/
theorem bandFetched_completes : Effect.BandFetched := by
  rintro s _ n data _ b d m rfl hn hlive hgranted hfetching hintake hruns rfl hdone hgood
  refine doesMem_of_served rfl (decide_eq_true hn) hlive hgranted ?_
  simp only [bandFetched, hfetching, hintake, hruns, hdone, hgood, bne_self_eq_false, Bool.or_self, Bool.false_eq_true,
    Bool.or_eq_true, Bool.not_eq_true', decide_eq_true_eq, if_false, if_true]

theorem sprueBandStart_completes : Effect.SprueBandStart := by
  rintro s _ n b rfl hn hlive hruns hidle hnext
  refine does_of_run rfl (decide_eq_true hn) hlive ?_
  simp only [sprueBandStart, hruns, hidle, hnext, Bool.not_true, Bool.false_eq_true, if_false]

theorem sprueLine_completes : Effect.SprueLine := by
  rintro s _ n b t rfl hn hlive hgranted hband hruns hfree hmore
  have hleft : ¬ b.lines ≤ t.line := Nat.not_le.2 hmore
  refine doesMem_of_served (f := fun c m => sprueLine m n c) rfl (decide_eq_true hn) hlive hgranted ?_
  simp only [sprueLine, hband, hruns, hfree, hleft, decide_false, Bool.not_true, Bool.or_self, Bool.false_eq_true,
    if_false]

theorem codecJobStart_completes : Effect.CodecJobStart := by
  rintro s _ u j job rest d rfl hu hlive hidle hready hsplit hd haccepted
  refine does_of_run rfl (decide_eq_true hu) hlive ?_
  simp only [codecJobStart, hidle, hready, hsplit, ← hd, haccepted, Bool.false_eq_true, if_false]

theorem codecJobDone_completes : Effect.CodecJobDone := by
  rintro s _ u q k f r t d d1 d2 m1 m2 b1 b2 rfl hu hlive hgranted hunit hcoded hgood hout hlog
  refine doesMem_of_served (f := fun c m => codecJobDone m u c) rfl (decide_eq_true hu) hlive hgranted ?_
  simp only [codecJobDone, hunit, hcoded, hgood, hout, ← hlog, if_true]

/-- Settles O9: each command is its effect on a live machine (`does_of_run`, `doesMem_of_served`), which its clause's
conditions select. -/
theorem jobCommandsComplete : Obligations.JobCommandsComplete :=
  ⟨jobDescriptor_completes, bandDescriptor_completes, stopDescriptor_completes, bandFetchStart_completes,
    bandFetched_completes, sprueBandStart_completes, sprueLine_completes, codecJobStart_completes,
    codecJobDone_completes⟩

end Sys2Proof.Machine
end

section
/-! Recast (R223, R225, R226, R228, R231): each event has the effect that its clause's conditions select. -/

namespace Sys2Proof.Machine

theorem heldStop_completes : Effect.HeldStop := by
  rintro s _ n rfl hn hlive hasked hstate hreached
  refine does_of_run rfl (decide_eq_true hn) hlive (if_pos ?_)
  simp only [hasked, hstate, hreached, decide_true, Bool.or_true, Bool.true_or, Bool.and_self]

theorem recastBackup_completes : Effect.RecastBackup := by
  rintro s _ rfl hlive hphase hreached
  refine does_of_run rfl rfl hlive (if_pos ?_)
  simp only [hphase, hreached, decide_true, Bool.and_self]

theorem recastWait_completes : Effect.RecastWait := by
  rintro s _ rfl hlive hphase hreached
  refine does_of_run rfl rfl hlive (if_pos ?_)
  simp only [hphase, hreached, decide_true, Bool.and_self]

theorem recastApproach_completes : Effect.RecastApproach := by
  rintro s _ rfl hlive hphase hready
  refine does_of_run rfl rfl hlive (if_pos ?_)
  simp only [hphase, hready, decide_true, Bool.and_self]

theorem recastDecide_completes : Effect.RecastDecide := by
  rintro s _ rfl hlive hphase hbelow hreached hready halone
  refine does_of_run rfl rfl hlive ((if_pos ?_).trans (if_pos ?_))
  · simp only [hphase, hbelow, hreached, Nat.reduceBNe, Bool.and_self]
  · have halone' : (s.core.updRcst fun (x : Rcst) => { x with below := false }).severalDevices = false := halone
    simp only [hphase, hready, halone', decide_true, Bool.not_false, Bool.true_or, Bool.and_self]

theorem channelResume_completes : Effect.ChannelResume := by
  rintro s _ n rfl hn hlive hphase hheld hbound hreached hready
  refine does_of_run rfl (decide_eq_true hn) hlive ((if_pos ?_).trans (if_pos hready))
  simp only [hphase, hheld, bne_iff_ne.2 hbound, hreached, decide_true, Bool.and_self]

theorem recastOverrun_completes : Effect.RecastOverrun := by
  rintro s _ rfl hlive hphase hfirst hreached
  refine does_of_run rfl rfl hlive (if_pos ?_)
  simp only [bne_iff_ne.2 hphase, hfirst, hreached, Bool.not_false, Bool.and_self]

theorem recastHoldTimeout_completes : Effect.RecastHoldTimeout := by
  rintro s _ rfl hlive hphase hsplice hlate
  refine does_of_run rfl rfl hlive ?_
  simp only [recastHoldTimeout, bne_iff_ne.2 hphase, bne_iff_ne.2 hsplice, hlate, decide_true, Bool.and_self, if_true]

theorem recastPassLimit_completes : Effect.RecastPassLimit := by
  rintro s _ rfl hlive hphase hlimit
  refine does_of_run rfl rfl hlive (if_pos ?_)
  simp only [bne_iff_ne.2 hphase, hlimit, decide_true, Bool.and_self]

/-- Settles O10: each event is its effect on a live machine (`does_of_run`), whose test its clause's conditions meet. -/
theorem recastCommandsComplete : Obligations.RecastCommandsComplete :=
  ⟨heldStop_completes, recastBackup_completes, recastWait_completes, recastApproach_completes,
    recastDecide_completes, channelResume_completes, recastOverrun_completes, recastHoldTimeout_completes,
    recastPassLimit_completes⟩

end Sys2Proof.Machine
end

section
/-! What leaves DRAM canonical (R262): the writes of a requester, and each effect of a block that may store in DRAM.

HUB.CAPACITY in bytes is a product with 2^20, which the kernel works out in unary when it evaluates whether a burst is
refused. So a function that goes by the first refused burst is unfolded here as a whole (`delta`, without its arguments), and
what it calls stays a variable: nothing is to be computed. -/

namespace Sys2Proof.Machine

/-- What a function answers has DRAM in canonical form. -/
def LeavesCanonical (r : Core × List Host.Cell) : Prop := Memory.wf r.2 = true

theorem LeavesCanonical.mk {m : List Host.Cell} (hm : Memory.wf m = true) (c : Core) : LeavesCanonical (c, m) := hm

theorem LeavesCanonical.mem {r : Core × List Host.Cell} (hr : LeavesCanonical r) {c : Core} {m : List Host.Cell}
    (heq : r = (c, m)) : Memory.wf m = true := by
  subst heq
  exact hr

/-- The same for a function that gives an answer beside the core and DRAM. -/
theorem LeavesCanonical.mem_of_answer {α : Type} {r : α × Core × List Host.Cell} (hr : LeavesCanonical r.2) {x : α}
    {c : Core} {m : List Host.Cell} (heq : r = (x, c, m)) : Memory.wf m = true := by
  subst heq
  exact hr

/-- A write that stops at the first refused burst is the write of a part of its bytes (R112). -/
theorem hubWriteStop_eq_hubWrite (c : Core) (m : List Host.Cell) (master a : Nat) (l : List Byte) :
    ∃ l', c.hubWriteStop m master a l = c.hubWrite m master a l' := by
  generalize hstop : @Core.hubWriteStop = stop
  delta Core.hubWriteStop at hstop
  subst hstop
  obtain ⟨refused, hrefused⟩ : ∃ f, f = @Core.refusedIn := ⟨_, rfl⟩
  rw [← hrefused]
  dsimp only
  split
  · exact ⟨_, rfl⟩
  · exact ⟨_, rfl⟩

section Writes
variable {m : List Host.Cell} (hm : Memory.wf m = true) (c : Core)
include hm

theorem hubWrite_canonical (master a : Nat) (l : List Byte) : LeavesCanonical (c.hubWrite m master a l).2 :=
  hubWrite_wf c m master a l hm

theorem hubWriteStop_canonical (master a : Nat) (l : List Byte) : LeavesCanonical (c.hubWriteStop m master a l).2 := by
  obtain ⟨l', hprefix⟩ := hubWriteStop_eq_hubWrite c m master a l
  rw [hprefix]
  exact hubWrite_canonical hm c master a l'

theorem freeRanges_canonical (l : List (Nat × Nat)) : LeavesCanonical (freeRanges l c m) := by
  induction l generalizing c m with
  | nil => exact .mk hm c
  | cons p r ih => exact ih (dramPut_wf m p.1 _ hm) _

end Writes

section Transfers

/-- A stretch of a transfer writes DRAM by one write of its channel, or not at all (R306). -/
theorem dmaStretch_wf (k : Nat) (d : List Byte) (src dst len : Nat) {s : Moved} (hs : Memory.wf s.mem = true) :
    Memory.wf (dmaStretch k d src dst len s).mem = true := by
  unfold dmaStretch
  split
  · exact hs
  split
  · exact hs
  extract_lets
  split
  next bytes _ e _ _ =>
    split
    · split
      next hwrite =>
        have hwritten := (hubWriteStop_canonical hs e (0x20 + k) dst bytes).mem_of_answer hwrite
        split
        · exact hwritten
        · exact hwritten
    · exact hs

theorem dmaStretches_wf (k : Nat) (d : List Byte) (u0 : Nat) (idx : List Nat) (l : List (Nat × Nat × Nat)) {s : Moved}
    (hs : Memory.wf s.mem = true) : Memory.wf (dmaStretches k d u0 idx l s).mem = true := by
  induction l generalizing s with
  | nil => exact hs
  | cons p r ih =>
    unfold dmaStretches
    split
    · exact hs
    · exact ih (dmaStretch_wf k d _ _ _ hs)

variable {m : List Host.Cell} (hm : Memory.wf m = true) (c : Core)
include hm

theorem dmaOverlap_canonical (d : List Byte) (src dst : List (Nat × Nat)) :
    LeavesCanonical (dmaOverlap d src dst c m) := by
  unfold dmaOverlap
  split
  · exact freeRanges_canonical hm c _
  · exact .mk hm c

theorem dmaMove_wf (k : Nat) (d : List Byte) (lo hi : Nat) (host : List Byte) :
    Memory.wf (dmaMove k d lo hi host c m).mem = true := by
  unfold dmaMove
  exact dmaOverlap_canonical (dmaStretches_wf k d 0 _ _ hm) _ d _ _

theorem dmaFailed_canonical (k : Nat) (x : DmaDesc) (e : Nat × Nat × Nat) : LeavesCanonical (dmaFailed k x e c m) := by
  unfold dmaFailed
  exact freeRanges_canonical hm c _

theorem dmaUpTo_canonical (k hi : Nat) (host : List Byte) (f : DmaDesc → Core → Core) :
    LeavesCanonical (dmaUpTo k hi host f c m) := by
  unfold dmaUpTo
  split
  · exact .mk hm c
  next x _ _ =>
    have hmove := dmaMove_wf hm c k x.bytes (nth c.dmas k).moved hi host
    dsimp only
    split
    · exact dmaFailed_canonical hmove _ k x _
    · exact .mk hmove _

theorem dmaHalfPoint_canonical (k : Nat) (data : List Byte) : LeavesCanonical (dmaHalfPoint k data c m) := by
  unfold dmaHalfPoint
  extract_lets
  split
  · split
    · exact dmaUpTo_canonical hm c k _ data _
    · exact .mk hm c
  · exact .mk hm c

theorem dmaDescDone_canonical (k : Nat) (data : List Byte) : LeavesCanonical (dmaDescDone k data c m) := by
  unfold dmaDescDone
  extract_lets
  split
  · split
    · exact dmaUpTo_canonical hm c k _ data _
    · exact .mk hm c
  · exact .mk hm c

theorem dmaStopped_canonical (k upTo : Nat) (data : List Byte) : LeavesCanonical (dmaStopped k upTo data c m) := by
  unfold dmaStopped
  extract_lets
  split
  · exact .mk hm c
  split
  · exact .mk hm _
  split
  · exact .mk hm _
  split
  · exact dmaUpTo_canonical hm c k upTo data _
  · exact .mk hm c

theorem dmaError_canonical (k kind typ addr : Nat) : LeavesCanonical (dmaError k kind typ addr c m) := by
  unfold dmaError
  extract_lets
  split
  · extract_lets
    split
    · exact dmaFailed_canonical hm c k _ _
    · exact .mk hm c
  · exact .mk hm c

theorem dmaHostError_canonical (k kind typ addr : Nat) : LeavesCanonical (dmaHostError k kind typ addr c m) := by
  unfold dmaHostError
  exact dmaError_canonical hm c k kind typ addr

theorem dmaIntakeDone_canonical (k : Nat) (data : List Byte) : LeavesCanonical (dmaIntakeDone k data c m).2 := by
  unfold dmaIntakeDone
  split
  · exact .mk hm c
  · exact dmaUpTo_canonical hm c k _ data _

theorem bandFetched_canonical (n : Nat) (data : List Byte) (err : Nat) :
    LeavesCanonical (bandFetched n data err c m) := by
  unfold bandFetched
  extract_lets k
  split
  · exact .mk hm c
  split
  · exact .mk hm c
  split
  · exact dmaError_canonical hm c k _ 3 _
  · split
    next hdone =>
      have hmoved := (dmaIntakeDone_canonical hm c k data).mem_of_answer hdone
      split
      · exact .mk hmoved _
      extract_lets
      split
      · exact .mk hmoved _
      · exact .mk hmoved _

end Transfers

section Blocks
variable {m : List Host.Cell} (hm : Memory.wf m = true) (c : Core)
include hm

theorem tblBackEnd_canonical (n : Nat) (t : TblJob) : LeavesCanonical (tblBackEnd m n t c) := by
  generalize hback : @tblBackEnd = back
  delta tblBackEnd at hback
  subst hback
  obtain ⟨write, hwrite, hkeeps⟩ : ∃ f, f = @Core.hubWriteStop ∧
      ∀ (e : Core) (i a : Nat) (l : List Byte), LeavesCanonical (f e m i a l).2 := ⟨_, rfl, hubWriteStop_canonical hm⟩
  rw [← hwrite]
  exact hkeeps _ _ _ _

theorem tblLoadDone_canonical (n : Nat) : LeavesCanonical (tblLoadDone m n c) := by
  unfold tblLoadDone
  split
  · exact .mk hm c
  split
  · split
    · exact .mk hm c
    · exact .mk hm _
  · exact tblBackEnd_canonical hm c n _

/-- Of the operations of the knot tables a read-back alone writes DRAM (R187). -/
theorem sltDone_canonical (n : Nat) : LeavesCanonical (sltDone m n c) := by
  unfold sltDone
  split
  · exact .mk hm c
  split
  · exact .mk hm c
  split
  · split
    extract_lets
    exact .mk hm _
  split
  · extract_lets data
    clear_value data
    split
    next hwrite => exact .mk ((hubWrite_canonical hm c _ _ data).mem_of_answer hwrite) _
  · split
    exact .mk hm _

theorem flaskPut_canonical (n : Nat) (b : Band) (samples : List Nat) : LeavesCanonical (flaskPut m n b samples c) := by
  unfold flaskPut
  exact hubWrite_canonical hm c _ _ _

theorem sprueCoded_canonical (n : Nat) (b : Band) (t : SprueCur) : LeavesCanonical (sprueCoded m n b t c) := by
  unfold sprueCoded
  extract_lets s res upTo
  clear_value upTo res
  split
  split
  · exact .mk hm _
  · exact .mk hm _
  · split
    next hput =>
      have hwritten := (flaskPut_canonical hm _ n b _).mem hput
      extract_lets
      split
      · exact .mk hwritten _
      · exact .mk hwritten _

theorem sprueRaw_canonical (n : Nat) (b : Band) (t : SprueCur) : LeavesCanonical (sprueRaw m n b t c) := by
  generalize hraw : @sprueRaw = raw
  delta sprueRaw at hraw
  subst hraw
  obtain ⟨read, hread⟩ : ∃ f, f = @Core.hubRead := ⟨_, rfl⟩
  rw [← hread]
  dsimp -iota -zeta only
  extract_lets
  split
  split
  · exact .mk hm _
  split
  next hput =>
    have hwritten := (flaskPut_canonical hm _ n b _).mem hput
    split
    · exact .mk hwritten _
    · exact .mk hwritten _

theorem sprueLine_canonical (n : Nat) : LeavesCanonical (sprueLine m n c) := by
  unfold sprueLine
  split
  · exact .mk hm c
  split
  · exact .mk hm c
  split
  · exact sprueRaw_canonical hm c n _ _
  · exact sprueCoded_canonical hm c n _ _

theorem codecUndefined_canonical (job : List (List Byte)) : LeavesCanonical (codecUndefined job c m) := by
  unfold codecUndefined
  split
  · exact .mk hm c
  · exact freeRanges_canonical hm c _

/-- A job that ends well writes its output and then its log; any other gives free values to their regions (R250). -/
theorem codecJobDone_canonical (u : Nat) : LeavesCanonical (codecJobDone m u c) := by
  unfold codecJobDone
  extract_lets
  split
  · extract_lets
    split
    extract_lets
    split
    · split
      next hout =>
      have hout' := (hubWrite_canonical hm _ _ _ _).mem_of_answer hout
      split
      next hlog =>
      split at hlog
      · exact .mk ((hubWrite_canonical hout' _ _ _ _).mem_of_answer hlog) _
      · cases hlog
        exact .mk hout' _
    · exact codecUndefined_canonical hm _ _
  · exact .mk hm c

theorem codecAbort_canonical (v : Nat) : LeavesCanonical (codecAbort v c m) := by
  refine List.foldlRecOn (motive := LeavesCanonical) _ _ (.mk hm c) fun r hr j _ => ?_
  refine List.foldlRecOn (motive := LeavesCanonical) _ _ hr fun r hr u _ => ?_
  dsimp only
  split
  · exact codecUndefined_canonical hr _ _
  · exact hr

/-- The fill lists no byte: each is 0 (R260). -/
theorem dramFillDone_canonical : LeavesCanonical (dramFillDone c m) := by
  unfold dramFillDone
  split
  · rfl
  · exact .mk hm c

theorem fillDone_canonical : LeavesCanonical (fillDone c m) := by
  unfold fillDone
  exact dramFillDone_canonical hm c

theorem partialWriteMerge_canonical (master addr : Nat) (errs : List (Nat × Nat)) (data : List Byte) :
    LeavesCanonical (partialWriteMerge master addr errs data c m) := by
  unfold partialWriteMerge
  split
  · exact .mk hm c
  · exact hubWrite_canonical hm _ _ _ _

theorem bar2Write_canonical (x : Nat) (data : List Byte) (poisoned : Bool) :
    LeavesCanonical (bar2Write m x data poisoned c) := by
  unfold bar2Write
  split
  · exact .mk hm c
  split
  · exact .mk hm _
  split
  · exact .mk hm _
  · exact hubWrite_canonical hm c _ _ _

theorem barServe_canonical : LeavesCanonical (barServe c m) := by
  unfold barServe
  split
  · exact .mk hm c
  · refine List.foldlRecOn (motive := LeavesCanonical) _ _ (.mk hm _) fun r hr w _ => ?_
    cases w with
    | read x len => exact .mk hr _
    | write x data => exact hubWrite_canonical hr _ _ _ _

end Blocks

end Sys2Proof.Machine
end

section
/-! What leaves DRAM canonical (R262), continued: the object server and the transports of its messages, and the step. -/

namespace Sys2Proof.Machine

section Server
variable {m : List Host.Cell} (hm : Memory.wf m = true) (c : Core)
include hm

theorem woAction_canonical (w : Writer) (index sub v : Nat) : LeavesCanonical (woAction w index sub v c m) := by
  unfold woAction
  split
  · exact codecAbort_canonical hm c v
  split
  · exact .mk hm _
  · exact .mk hm _

/-- The action of a write-only object is the one effect of a write that may store in DRAM. -/
theorem writeEffect_canonical (w : Writer) (d : Desc) (off : Nat) (data : List Byte) :
    LeavesCanonical (writeEffect w d off data c m) := by
  unfold writeEffect
  extract_lets index sub v
  split
  · exact woAction_canonical hm c w index sub v
  split
  · exact .mk hm _
  split
  · exact .mk hm _
  split
  · exact .mk hm _
  · exact .mk hm _

theorem serverItem_canonical (w : Writer) (index sub typ off : Nat) (data : List Byte) :
    LeavesCanonical (serverItem w index sub typ off data c m).2 := by
  unfold serverItem
  split
  · exact .mk hm _
  next d _ =>
    dsimp only
    split
    · exact writeEffect_canonical hm _ w d off data
    · exact .mk hm _

theorem serverWrite_canonical (w : Writer) (index sub typ off : Nat) (data : List Byte) :
    LeavesCanonical (serverWrite w index sub typ off data c m) := by
  unfold serverWrite
  split
  · exact .mk hm c
  split
  · exact .mk hm _
  · split
    next hitem => exact .mk ((serverItem_canonical hm c w index sub typ off data).mem_of_answer hitem) _

theorem serverPut_canonical (w : Writer) (o : Obj) (v : Nat) : LeavesCanonical (serverPut w o v c m) := by
  unfold serverPut
  split
  · exact serverWrite_canonical hm c w _ _ _ _ _
  · exact .mk hm c

theorem runItem_canonical (w : Writer) (i : Item) : LeavesCanonical (runItem w i c m).2 := by
  unfold runItem
  split
  · exact .mk hm _
  · exact serverItem_canonical hm c w _ _ _ _ _

theorem runItems_canonical (w : Writer) (stop : Bool) (l : List Item) : LeavesCanonical (runItems w stop l c m).2 := by
  induction l generalizing c m with
  | nil => exact .mk hm c
  | cons i r ih =>
    unfold runItems
    split
    next hitem =>
    have hfirst := (runItem_canonical hm c w i).mem_of_answer hitem
    extract_lets
    split
    · exact .mk hfirst _
    split
    next hrest => exact .mk ((ih hfirst _).mem_of_answer hrest) _

theorem runRequest_canonical (w : Writer) (msg : List Byte) (items : List Item) :
    LeavesCanonical (runRequest w msg items c m).2 := by
  unfold runRequest
  split
  next hitems => exact .mk ((runItems_canonical hm c w _ items).mem_of_answer hitems) _

theorem requestBySeq_canonical (w : Writer) (msg : List Byte) (items : List Item) :
    LeavesCanonical (requestBySeq w msg items c m).2 := by
  unfold requestBySeq
  extract_lets
  split
  · split
    · exact .mk hm _
    · exact runRequest_canonical hm _ w msg items
  split
  · exact runRequest_canonical hm _ w msg items
  split
  · exact runRequest_canonical hm c w msg items
  split
  · exact .mk hm _
  · exact .mk hm _

theorem request_canonical (transport addr : Nat) (msg : List Byte) :
    LeavesCanonical (request transport addr msg c m).2 := by
  unfold request
  split
  · exact .mk hm c
  split
  · exact .mk hm _
  split
  · exact .mk hm c
  split
  · exact .mk hm _
  split
  · exact .mk hm c
  · exact requestBySeq_canonical hm c _ msg _

end Server

section Transports
variable {m : List Host.Cell} (hm : Memory.wf m = true) (c : Core)
include hm

theorem ethMessage_canonical (p src port : Nat) (msg : List Byte) :
    LeavesCanonical (ethMessage p src port msg c m) := by
  have hrequest := request_canonical hm c (p + 1) src msg
  unfold ethMessage
  dsimp only
  split
  · exact hrequest
  · exact hrequest

theorem udpWhole_canonical (p src : Nat) (d : List Byte) : LeavesCanonical (udpWhole p src d c m) := by
  unfold udpWhole
  extract_lets
  split
  · exact .mk hm _
  · exact ethMessage_canonical hm c p src _ _

theorem fragment_canonical (p src ident off : Nat) (more : Bool) (data : List Byte) :
    LeavesCanonical (fragment p src ident off more data c m) := by
  unfold fragment
  extract_lets
  split
  · split
    · exact .mk hm _
    · exact .mk hm _
  extract_lets
  split
  · exact .mk hm _
  split
  · exact udpWhole_canonical hm _ p src _
  · exact .mk hm _

theorem udpDatagram_canonical (p src ident off : Nat) (more : Bool) (data : List Byte) :
    LeavesCanonical (udpDatagram p src ident off more data c m) := by
  unfold udpDatagram
  split
  · exact .mk hm c
  split
  · exact udpWhole_canonical hm c p src data
  · exact fragment_canonical hm c p src ident off more data

theorem canMessage_canonical (k : Nat) (msg : List Byte) : LeavesCanonical (canMessage k msg c m) := by
  have hrequest := request_canonical hm c (k + 3) 0 msg
  unfold canMessage
  dsimp only
  split
  · exact hrequest
  · exact hrequest

theorem canSegmentIn_canonical (k : Nat) (before : List Byte) (count : Nat) (last : Bool) (seg : List Byte) :
    LeavesCanonical (canSegmentIn k before count last seg c m) := by
  unfold canSegmentIn
  split
  · exact .mk hm _
  split
  · exact canMessage_canonical hm _ k _
  · exact .mk hm _

theorem canFrame_canonical (k id : Nat) (fd : Bool) (data : List Byte) : LeavesCanonical (canFrame k id fd data c m) := by
  unfold canFrame
  split
  · exact .mk hm c
  extract_lets e ctl seg last
  split
  · split
    · exact .mk hm _
    · exact canSegmentIn_canonical hm e k [] 0 last seg
  split
  · exact .mk hm _
  split
  · exact .mk hm _
  · exact canSegmentIn_canonical hm e k _ _ last seg

theorem wopRequest_canonical (transport addr : Nat) (msg : List Byte) :
    LeavesCanonical (wopRequest transport addr msg c m) := by
  unfold wopRequest
  split
  · split
    · exact ethMessage_canonical hm c 0 _ _ msg
    · exact .mk hm c
  · split
    · exact ethMessage_canonical hm c 1 _ _ msg
    · exact .mk hm c
  · split
    · exact canMessage_canonical hm c 0 msg
    · exact .mk hm c
  · split
    · exact canMessage_canonical hm c 1 msg
    · exact .mk hm c
  · split
    · extract_lets msg
      split
      next hrequest => exact .mk ((request_canonical hm c 5 0 msg).mem_of_answer hrequest) _
    · exact .mk hm c
  · exact .mk hm c

end Transports

/-- An effect that ends an access of DRAM leaves DRAM as it is while the hub grants none (R260). -/
theorem servedMem_canonical {f : Core → List Host.Cell → Core × List Host.Cell}
    (hf : ∀ (c : Core) (m : List Host.Cell), Memory.wf m = true → LeavesCanonical (f c m)) (c : Core)
    {m : List Host.Cell} (hm : Memory.wf m = true) : LeavesCanonical (servedMem f c m) := by
  unfold servedMem
  split
  · exact .mk hm c
  · exact hf c m hm

section Commands
variable {s t : State} (hinv : s.Inv)
include hinv

/-- The invariant is about DRAM alone. -/
theorem inv_core (c : Core) : State.Inv { s with core := c } := hinv

theorem run_inv {ok : Bool} {d : Nat} {f : Core → Core} (hnext : run ok d s f = .next t) : t.Inv := by
  rcases run_cases ok d s f with hfault | ⟨c, hc⟩
  · cases hfault.symm.trans hnext
  · cases hc.symm.trans hnext
    exact inv_core hinv c

theorem runMem_inv {ok : Bool} {d : Nat} {f : Core → List Host.Cell → Core × List Host.Cell}
    (hf : LeavesCanonical (f s.core s.dram)) (hnext : runMem ok d s f = .next t) : t.Inv := by
  rcases runMem_cases ok d s f with hfault | ⟨c, m, hc, rfl | rfl⟩
  · cases hfault.symm.trans hnext
  · cases hc.symm.trans hnext
    exact inv_core hinv c
  · cases hc.symm.trans hnext
    exact hf

theorem runServed_inv {ok : Bool} {d : Nat} {f : Core → List Host.Cell → Core × List Host.Cell}
    (hf : ∀ (c : Core) (m : List Host.Cell), Memory.wf m = true → LeavesCanonical (f c m))
    (hnext : runMem ok d s (servedMem f) = .next t) : t.Inv :=
  runMem_inv hinv (servedMem_canonical hf s.core hinv) hnext

theorem runPut_inv {ok : Bool} {w : Writer} {o : Obj} {v : Nat} (hnext : runPut ok s w o v = .next t) : t.Inv :=
  runMem_inv hinv (serverPut_canonical hinv s.core w o v) hnext

theorem runWrite_inv {ok : Bool} {w : Writer} {index sub typ off : Nat} {data : List Byte}
    (hnext : runWrite ok s w index sub typ off data = .next t) : t.Inv :=
  runMem_inv hinv (serverWrite_canonical hinv s.core w index sub typ off data) hnext

theorem runReset_inv {f : Core → Core} (hnext : runReset s f = .next t) : t.Inv := by
  rw [← Host.Outcome.next.inj hnext]
  exact inv_core hinv _

/-- A command is a write of an object, an effect that may store in DRAM, one of the reset, or an event that leaves DRAM
alone. -/
theorem exec_inv {i : Instr} (hnext : exec i s = .next t) : t.Inv := by
  unfold exec at hnext
  cases i with
  | devMarkModeWrite | pdEnableWrite | encPreset | rehome | cmpArm | cmpDisarm | cueListArm | cueListDisarm |
    chToneSwap | toneCopy | nozPatch | tblLoad | tblReadback | ctrlRead | ctrlWrite | bulkGo | scanEnable |
    scanDisable | sltLoad | sltReadback | sltGenerate | pageAbort | load | arm | abort | unload | rcstRequest |
    codecAbort | hubBiasWrite | hubFecRearm | hubInject | chCommit | devCommitNow | devCommitStep | lockAcquire |
    lockRelease | store | restoreDefaults | imageVerify | imageCommit | dramRetrain | profTargetWrite | slotEnable |
    slotDisable | bankSwap | preset | publish | gpioOutWrite | timeSet | qdSync | qdRail | qdArm | qdStart | qdStop |
    qdCommit | fltClear | fltSelClassWrite | selStickyClear | stickyClearAll | manualSafe | fltFecRearm |
    railTargetWrite | devResetWrite | stateReqStandby | stateReqReady | stateReqPrinting | fwConfirm =>
    exact runPut_inv hinv hnext
  | objectWrite | stagedWrite | cueEntryWrite | fwImageWrite => exact runWrite_inv hinv hnext
  | tblLoadDone n => exact runServed_inv hinv (fun c _ hm => tblLoadDone_canonical hm c n) hnext
  | sltDone n => exact runMem_inv hinv (sltDone_canonical hinv s.core n) hnext
  | bandFetched n data err => exact runServed_inv hinv (fun c _ hm => bandFetched_canonical hm c n data err) hnext
  | sprueLine n => exact runServed_inv hinv (fun c _ hm => sprueLine_canonical hm c n) hnext
  | codecJobDone u => exact runServed_inv hinv (fun c _ hm => codecJobDone_canonical hm c u) hnext
  | dramTrainDone ok result => exact runMem_inv hinv (barServe_canonical hinv (trainDone ok result s.core)) hnext
  | dramFillDone => exact runMem_inv hinv (barServe_canonical (fillDone_canonical hinv s.core) _) hnext
  | partialWriteMerge master addr errs data =>
    exact runMem_inv hinv (partialWriteMerge_canonical hinv s.core master addr errs data) hnext
  | bar2Write x data poisoned => exact runMem_inv hinv (bar2Write_canonical hinv s.core x data poisoned) hnext
  | dmaHalfPoint ch data => exact runServed_inv hinv (fun c _ hm => dmaHalfPoint_canonical hm c ch data) hnext
  | dmaDescDone ch data => exact runServed_inv hinv (fun c _ hm => dmaDescDone_canonical hm c ch data) hnext
  | dmaStopped ch upTo data => exact runServed_inv hinv (fun c _ hm => dmaStopped_canonical hm c ch upTo data) hnext
  | dmaError ch kind typ addr => exact runMem_inv hinv (dmaHostError_canonical hinv s.core ch kind typ addr) hnext
  | wopRequest transport addr msg => exact runMem_inv hinv (wopRequest_canonical hinv s.core transport addr msg) hnext
  | udpDatagram p addr ident fragOffset more payload =>
    exact runMem_inv hinv (udpDatagram_canonical hinv s.core p addr ident fragOffset more payload) hnext
  | canFrame ch id fd data => exact runMem_inv hinv (canFrame_canonical hinv s.core ch id fd data) hnext
  | resetNAssert | supplyOutOfRange | resetEnd => exact runReset_inv hinv hnext
  | _ => exact run_inv hinv hnext

end Commands

/-- Settles O32: a step is the front command (`exec_inv`), or a cycle that passes, which leaves DRAM alone. -/
theorem everyStepKeepsDramCanonical : Obligations.EveryStepKeepsDramCanonical := by
  intro s t hinv hnext
  unfold step at hnext
  split at hnext
  · rw [← Host.Outcome.next.inj hnext]
    exact inv_core hinv _
  next i r _ => exact exec_inv (s := { s with pending := r }) hinv hnext

end Sys2Proof.Machine
end

section
/-! The sparse map after a run of puts, and with it what the bytes of DRAM read as after a store (R262). -/

namespace Sys2Proof.Machine

/-- A run of puts reads back at its keys and leaves every other key alone: what the later puts do not cover is the first
put. -/
theorem sget_sputs {α : Type} [DecidableEq α] (d : α) (m : List (Nat × α)) (a x : Nat) (l : List α) :
    sget d (sputs d m a l) x = if a ≤ x ∧ x < a + l.length then l.getD (x - a) d else sget d m x := by
  induction l generalizing m a with
  | nil =>
    rw [if_neg (by simp)]
    rfl
  | cons v r ih =>
    rw [sputs, ih, List.length_cons]
    rcases Nat.lt_trichotomy x a with h | rfl | h
    · rw [if_neg (by omega), if_neg (by omega), sget_sput_other d d m a x v (by omega)]
    · rw [if_neg (by omega), if_pos (by omega), sget_sput_self, Nat.sub_self, List.getD_cons_zero]
    · have hrange : (a + 1 ≤ x ∧ x < a + 1 + r.length) = (a ≤ x ∧ x < a + (r.length + 1)) := propext (by omega)
      rw [sget_sput_other d d m a x v (by omega), show x - a = x - (a + 1) + 1 by omega, List.getD_cons_succ]
      simp only [hrange]

/-- Settles O34: DRAM is a sparse map with default 0, and a store is a run of puts. -/
theorem dramBytesReadBack : Obligations.DramBytesReadBack := fun m a x l =>
  ⟨dramPut_wf m a l, sget_sputs 0#8 m a x l⟩

end Sys2Proof.Machine
end

section
/-! The grants of the arbiters (R272 to R274): the choice of an arbiter is the best in rank of its eligible heads. -/

namespace Sys2Proof.Machine

section Ranks
variable (c : Core)

/-- Head x ranks below head r: by class, then by key, then by the higher master ID. -/
def Core.ranksBelow (x r : HubReq) : Prop :=
  c.hubClass x < c.hubClass r ∨ (c.hubClass x = c.hubClass r ∧
    (c.hubKey x < c.hubKey r ∨ (c.hubKey x = c.hubKey r ∧ r.master < x.master)))

theorem ranksAbove_iff (r x : HubReq) : c.ranksAbove r x = true ↔ c.ranksBelow x r := by
  unfold Core.ranksAbove Core.ranksBelow
  by_cases hclass : c.hubClass r = c.hubClass x
  · by_cases hkey : c.hubKey r = c.hubKey x
    · simp [hclass, hkey]
    · simp [hclass, hkey, Ne.symm hkey]
  · simp [hclass, Ne.symm hclass]

theorem not_ranksBelow_self (r : HubReq) : ¬ c.ranksBelow r r := by
  unfold Core.ranksBelow
  omega

theorem not_ranksBelow_of_ranksBelow {x r : HubReq} (h : c.ranksBelow x r) : ¬ c.ranksBelow r x := by
  unfold Core.ranksBelow at h ⊢
  omega

/-- Where y does not outrank x, nor x outrank r, y does not outrank r. -/
theorem not_ranksBelow_trans {x y r : HubReq} (hy : ¬ c.ranksBelow x y) (hx : ¬ c.ranksBelow r x) :
    ¬ c.ranksBelow r y := by
  unfold Core.ranksBelow at hx hy ⊢
  omega

/-- Of two heads of different requesters the one that does not outrank the other ranks below it. -/
theorem ranksBelow_of_not {x r : HubReq} (hr : ¬ c.ranksBelow r x) (hmaster : x.master ≠ r.master) :
    c.ranksBelow x r := by
  unfold Core.ranksBelow at hr ⊢
  omega

/-- One of the heads that none of them outranks, or none of no heads. -/
def Core.BestOf (l : List HubReq) : Option HubReq → Prop
  | none => l = []
  | some r => r ∈ l ∧ ∀ x ∈ l, ¬ c.ranksBelow r x

/-- The better of the best head so far, if any, and the next one. -/
def Core.hubBetter (best : Option HubReq) (r : HubReq) : Option HubReq :=
  match best with
  | none => some r
  | some x => if c.ranksAbove r x then some r else some x

theorem hubChoice_eq_foldl (ch : Nat) :
    c.hubChoice ch = ((c.hubHeads ch).filter c.hubEligible).foldl c.hubBetter none := by
  refine congrArg (fun step => List.foldl step none _) ?_
  funext best r
  cases best with
  | none => rfl
  | some x => rfl

section Best
variable {c}

theorem bestOf_hubBetter {l : List HubReq} {best : Option HubReq} (h : c.BestOf l best) (r : HubReq) :
    c.BestOf (l ++ [r]) (c.hubBetter best r) := by
  cases best with
  | none =>
    obtain rfl : l = [] := h
    exact ⟨List.mem_singleton.2 rfl, fun x hx => List.mem_singleton.1 hx ▸ not_ranksBelow_self c r⟩
  | some y =>
    obtain ⟨hy, hbest⟩ := h
    unfold Core.hubBetter
    dsimp only
    split
    next habove =>
      rw [ranksAbove_iff] at habove
      refine ⟨List.mem_append_right l (List.mem_singleton.2 rfl), fun x hx => ?_⟩
      rcases List.mem_append.1 hx with hx | hx
      · exact not_ranksBelow_trans c (hbest x hx) (not_ranksBelow_of_ranksBelow c habove)
      · exact List.mem_singleton.1 hx ▸ not_ranksBelow_self c r
    next habove =>
      rw [ranksAbove_iff] at habove
      refine ⟨List.mem_append_left [r] hy, fun x hx => ?_⟩
      rcases List.mem_append.1 hx with hx | hx
      · exact hbest x hx
      · exact List.mem_singleton.1 hx ▸ habove

theorem bestOf_foldl (l : List HubReq) {seen : List HubReq} {best : Option HubReq} (h : c.BestOf seen best) :
    c.BestOf (seen ++ l) (l.foldl c.hubBetter best) := by
  induction l generalizing seen best with
  | nil => rwa [List.append_nil]
  | cons r l ih =>
    have hnext := ih (bestOf_hubBetter h r)
    rwa [List.append_assoc, List.singleton_append] at hnext

end Best

/-- The choice of an arbiter is the best of its eligible heads. -/
theorem hubChoice_best (ch : Nat) : c.BestOf ((c.hubHeads ch).filter c.hubEligible) (c.hubChoice ch) := by
  rw [hubChoice_eq_foldl]
  exact bestOf_foldl _ (seen := []) (best := none) rfl

theorem hubChoice_eq_none_iff (ch : Nat) :
    c.hubChoice ch = none ↔ ∀ x ∈ c.hubHeads ch, c.hubEligible x = false := by
  have hbest := hubChoice_best c ch
  constructor
  · intro hnone x hx
    rw [hnone] at hbest
    exact Bool.eq_false_iff.2 (List.filter_eq_nil_iff.1 hbest x hx)
  · intro hall
    rw [hubChoice_eq_foldl, List.filter_eq_nil_iff.2 fun x hx => Bool.eq_false_iff.1 (hall x hx)]
    rfl

/-- What is granted is an eligible head, and every other requester's eligible head ranks below it. -/
theorem hubChoice_spec {ch : Nat} {r : HubReq} (hgrant : c.hubChoice ch = some r) :
    (r ∈ c.hubHeads ch ∧ c.hubEligible r = true) ∧
      ∀ x ∈ c.hubHeads ch, c.hubEligible x = true → x.master ≠ r.master → c.ranksBelow x r := by
  have hbest := hubChoice_best c ch
  rw [hgrant] at hbest
  obtain ⟨hmem, hmost⟩ := hbest
  exact ⟨List.mem_filter.1 hmem, fun x hx heligible hmaster =>
    ranksBelow_of_not c (hmost x (List.mem_filter.2 ⟨hx, heligible⟩)) hmaster⟩

/-- Panicking heads are the highest class. -/
theorem hubClass_eq_two (r : HubReq) : c.hubClass r = 2 ↔ c.masterPanics r.master = true := by
  unfold Core.hubClass
  split
  · simp [*]
  · split
    · simp [*]
    · simp [*]

/-- Heads of saturated age that do not panic are the next. -/
theorem hubClass_eq_one (r : HubReq) :
    c.hubClass r = 1 ↔ c.masterPanics r.master = false ∧ c.hubAge r = 4095 := by
  unfold Core.hubClass
  split
  · simp [*]
  · split
    · simp [*]
    · simp [*]

end Ranks

/-- Settles O1: the choice is the best of the eligible heads (`hubChoice_best`), and two requesters' heads never tie. -/
theorem hubGrantsTheHighestHead : Obligations.HubGrantsTheHighestHead := by
  intro c ch
  refine ⟨hubChoice_eq_none_iff c ch, fun r hgrant => ?_, fun r =>
    ⟨Nat.min_le_left 4095 _, hubClass_eq_two c r, hubClass_eq_one c r⟩⟩
  obtain ⟨⟨hhead, heligible⟩, hbelow⟩ := hubChoice_spec c hgrant
  exact ⟨hhead, heligible, hbelow⟩

end Sys2Proof.Machine
end

section
/-! The (39,32) SECDED code (R264). -/

namespace Sys2Proof.Machine

/-- Check bit k of a word whose set bits' columns are summed, from a given sum on. -/
theorem testBit_secdedSum (data k : Nat) (l : List Nat) (s : Nat) :
    (l.foldl (fun (s i : Nat) => if data.testBit i then s ^^^ secdedCols.getD i 0 else s) s).testBit k =
      l.foldl (fun (x : Bool) (i : Nat) => x != (data.testBit i && (secdedCols.getD i 0).testBit k)) (s.testBit k) := by
  induction l generalizing s with
  | nil => rfl
  | cons i r ih =>
    rw [List.foldl_cons, List.foldl_cons, ih]
    cases data.testBit i with
    | false => simp
    | true => simp

theorem secdedCheck_testBit (data k : Nat) : (secdedCheck data).testBit k =
    (List.range 32).foldl (fun (x : Bool) (i : Nat) => x != (data.testBit i && (secdedCols.getD i 0).testBit k)) false := by
  rw [secdedCheck, testBit_secdedSum, Nat.zero_testBit]

/-- The check bits of a beat are its bits 32 to 38. -/
theorem syndromeOf_eq (word : Nat) : syndromeOf word = word / 2 ^ 32 % 2 ^ 7 ^^^ secdedCheck (word % 2 ^ 32) := by
  rw [syndromeOf, Nat.xor_comm, field, Nat.shiftRight_eq_div_pow]

/-- The data bit that a syndrome points at. -/
theorem findIdx?_secdedCols (syn : Nat) : secdedCols.findIdx? (fun (h : Nat) => h = syn) =
    if syn ∈ secdedCols then some (secdedCols.idxOf syn) else none := by
  split
  next hmem => exact List.findIdx?_eq_some_iff_findIdx_eq.2 ⟨List.idxOf_lt_length_iff.2 hmem, rfl⟩
  next hmem => exact List.findIdx?_eq_none_iff.2 fun h hh => decide_eq_false fun heq => hmem (heq ▸ hh)

theorem secdedResult_eq (syn : Nat) : secdedResult syn =
    if syn = 0 then .clean else if popcount 7 syn = 1 then .corrected 0
    else if syn ∈ secdedCols then .corrected (2 ^ secdedCols.idxOf syn) else .uncorrectable := by
  rw [secdedResult, findIdx?_secdedCols]
  by_cases hmem : syn ∈ secdedCols
  · simp only [if_pos hmem]
  · simp only [if_neg hmem]

/-- Settles O40: the columns are a finite table; the check bits, the syndrome and its result are general facts. -/
theorem secdedCode : Obligations.SecdedCode :=
  ⟨by decide, by decide, by decide, by decide, by decide, fun data k _ => secdedCheck_testBit data k, syndromeOf_eq,
    fun syn _ => secdedResult_eq syn⟩

end Sys2Proof.Machine
end

section
/-! The events of the memory hub (R259, R260, R266 to R268, R275, R276, R278, R432): each has the effect that its clause's
conditions select. -/

namespace Sys2Proof.Machine

/-- A command of an existing unit in a live domain that may write DRAM ends in the core and DRAM that its effect leaves. -/
theorem doesMem_of_runMem {i : Instr} {s : State} {ok : Bool} {d : Nat}
    {f : Core → List Host.Cell → Core × List Host.Cell} {r : Core × List Host.Cell} (hexec : exec i s = runMem ok d s f)
    (hok : ok = true) (hlive : Live s d) (heffect : f s.core s.dram = r) : DoesMem i s r := by
  subst heffect
  exact hexec.trans (runMem_live ok d s f hok hlive)

/-- Subchannel sub of DRAM channel ch is a unit of the hub. -/
theorem subchannel_ok {ch sub : Nat} (h : ch < 4 ∧ sub < 2) : (decide (ch < 4) && decide (sub < 2)) = true := by
  simpa using h

theorem hubConfigure_boot (c : Core) : (hubConfigure c).boot = c.boot := by
  unfold hubConfigure
  extract_lets
  split
  · rfl
  · rfl

/-- The end of a training leaves the step of the boot to `trainDone`. -/
theorem dramTrainDone_boot (ok : Bool) (result : Nat) (c : Core) : (dramTrainDone ok result c).boot = c.boot := by
  unfold dramTrainDone
  split
  · rfl
  split
  · split
    · rfl
    · rfl
  split
  · rw [hubConfigure_boot]
    rfl
  · rfl

theorem dramTraining_completes : Effect.DramTraining := by
  rintro s _ rfl hlive hon hdue hcold
  refine does_of_run rfl rfl hlive ?_
  simp [dramTraining, hon, hdue, hcold]

theorem dramTrainDone_completes : Effect.DramTrainDone := by
  rintro s _ ok result rfl hlive htraining hstep hdone
  refine doesMem_of_runMem (execDramTrainDone.eq_1 ok result s) rfl hlive (congrArg (barServe · s.dram) ?_)
  simp [trainDone, dramTrainDone_boot, htraining, hstep, hdone]

theorem dramFillDone_completes : Effect.DramFillDone := by
  rintro s _ rfl hlive hnext _ hstep hfilled
  refine doesMem_of_runMem (execDramFillDone.eq_1 s) rfl hlive ?_
  simp [fillDone, hnext, hstep, hfilled]

theorem dramReadReturn_completes : Effect.DramReadReturn := by
  rintro s _ master addr len errs rfl hlive hgranted hfits
  refine does_of_run rfl rfl hlive ?_
  simp [dramReadReturn, hgranted, hfits]

theorem partialWriteMerge_completes : Effect.PartialWriteMerge := by
  rintro s _ master addr errs data rfl hlive hgranted hdata hlength hburst hfits
  refine doesMem_of_runMem rfl rfl hlive ((if_neg ?_).trans ?_)
  · simp [hgranted, hdata, hlength, hburst]
  · simp only [hfits]
    rfl

theorem scrubRead_completes : Effect.ScrubRead := by
  rintro s _ errs d rfl hlive hon hgranted hawake hdue hd hfits hgood hcorrected
  refine does_of_run (execScrubRead.eq_1 errs s) rfl hlive ((if_neg ?_).trans ((if_neg ?_).trans ?_))
  · simp [hon, hgranted, hawake, hdue]
  · simp [hfits]
  · subst hd
    refine congrArg scrubNext (if_neg ?_)
    simp [hgood, hcorrected]

theorem refreshDue_completes : Effect.RefreshDue := by
  rintro s _ ch sub panic _ rfl hsub hlive hon hgranted hpanic hawake hdue rfl
  refine does_of_run rfl (subchannel_ok hsub) hlive ((if_neg ?_).trans (ite_congr ?_ (fun _ => rfl) fun _ => rfl))
  · simp [hon, hgranted, hpanic, hawake, hdue]
  · simp

theorem dramTempPoll_completes : Effect.DramTempPoll := by
  rintro s _ ch sub hot rfl hsub hlive rfl hon hgranted hdue hcool
  refine does_of_run rfl (subchannel_ok hsub) hlive ((if_neg ?_).trans (if_pos ?_))
  · simp [hon, hgranted, Nat.not_lt.2 hdue]
  · simp [hcool]

theorem zqCal_completes : Effect.ZqCal := by
  rintro s _ ch rfl hch hlive hon hgranted hranks hfirst hsecond
  refine does_of_run (execZqCal.eq_1 ch s) (decide_eq_true hch) hlive ((if_neg ?_).trans ?_)
  · simp [hon, hgranted]
  · have hrange : List.range (min 2 s.core.rankCount) = [0, 1] := by
      rw [hranks]
      rfl
    refine congrArg (fun (l : List Nat) => s.core.updHub fun (h : Hub) => { h with zqAt := l }) ?_
    rw [hrange, List.foldl_cons, List.foldl_cons, List.foldl_nil, Nat.add_zero (2 * ch),
      if_neg (Nat.not_lt.2 hfirst), if_neg (Nat.not_lt.2 hsecond)]

theorem dqsOscRead_completes : Effect.DqsOscRead := by
  rintro s _ ch sub drift r rfl hsub hlive hon hgranted hdue
  refine does_of_run rfl (subchannel_ok hsub) hlive ?_
  simp [dqsOscRead, hon, hgranted, hdue]

theorem srEntry_completes : Effect.SrEntry := by
  rintro s _ ch sub rfl hsub hlive hon hgranted hidle hstate hquiet hawake hlate
  refine does_of_run rfl (subchannel_ok hsub) hlive (if_pos ?_)
  simp only [Bool.and_eq_true, List.all_eq_true, List.mem_range, decide_eq_true_eq, Bool.or_eq_true, bne_iff_ne,
    Bool.not_eq_true']
  exact ⟨⟨⟨⟨⟨⟨hon, hgranted⟩, hidle⟩, hstate⟩, hquiet⟩, hawake⟩, hlate⟩

theorem srExit_completes : Effect.SrExit := by
  rintro s _ ch sub rfl hsub hlive hon hgranted hasleep hall
  refine does_of_run rfl (subchannel_ok hsub) hlive ((if_neg ?_).trans (if_pos hall))
  simp [hon, hgranted, hasleep]

/-- Settles O11: each event is its effect on a live machine (`does_of_run`, `doesMem_of_runMem`), whose tests its clause's
conditions meet. -/
theorem hubCommandsComplete : Obligations.HubCommandsComplete :=
  ⟨dramTraining_completes, dramTrainDone_completes, dramFillDone_completes, dramReadReturn_completes,
    partialWriteMerge_completes, scrubRead_completes, refreshDue_completes, dramTempPoll_completes, zqCal_completes,
    dqsOscRead_completes, srEntry_completes, srExit_completes⟩

end Sys2Proof.Machine
end

section
/-! Reads of the host in BAR0 and BAR4 (R287, R288): the bytes that a read delivers, and the little that it changes. -/

namespace Sys2Proof.Machine

/-- Free bytes are as many as asked for, and use up free values only. -/
theorem freeBytes_takes (size : Nat) (c : Core) :
    ∃ (l : List Byte) (n : Nat), l.length = size ∧ freeBytes size c = (l, { c with fresh := n }) := by
  induction size generalizing c with
  | zero => exact ⟨[], c.fresh, rfl, rfl⟩
  | succ size ih =>
    obtain ⟨l, n, hlength, hbytes⟩ := ih (c.freeVal 8).2
    refine ⟨BitVec.ofNat 8 (c.freeVal 8).1 :: l, n, congrArg (· + 1) hlength, ?_⟩
    simp only [freeBytes, hbytes]
    rfl

/-- A register is read as four bytes, and uses up at most a free value, for the bits of it that are undefined. -/
theorem regBytes_takes (bar off : Nat) (c : Core) :
    ∃ (l : List Byte) (n : Nat), l.length = 4 ∧ regBytes bar off c = (l, { c with fresh := n }) := by
  by_cases hdefined : (c.regView bar off).2 = 0
  · exact ⟨_, c.fresh, length_bytesLE 4 _, if_pos hdefined⟩
  · exact ⟨_, c.fresh + 1, length_bytesLE 4 _, if_neg hdefined⟩

/-- A register with no undefined bit is read as its value. -/
theorem regBytes_defined (c : Core) {bar off v : Nat} (hview : c.regView bar off = (v, 0)) :
    regBytes bar off c = (bytesLE 4 v, c) := by
  simp only [regBytes, hview, if_true]

section Reads
variable (c : Core) {bar off size : Nat}

/-- The machine that a read of BAR0 or BAR4 finds: that of the low half of GLB_TIME latches first. -/
def readLatched (bar off : Nat) (c : Core) : Core := if bar = 0 && off = 8 then glbLatch c else c

/-- A read that is not naturally aligned, or of neither 4 nor 8 bytes, delivers free bytes. -/
theorem barRead_irregular (hbar : bar = 0 ∨ bar = 4) (h : (!(size = 4 || size = 8) || off % max 1 size != 0) = true) :
    barRead bar off size c = (freeBytes size c).2.emit (.completion bar off (freeBytes size c).1 false) := by
  unfold barRead
  rw [if_neg (by rcases hbar with rfl | rfl <;> decide), if_neg (by rcases hbar with rfl | rfl <;> simp), if_pos h]

/-- A naturally aligned read of 4 or 8 bytes delivers one register or two, the lower first. -/
theorem barRead_aligned (hbar : bar = 0 ∨ bar = 4) (hsize : size = 4 ∨ size = 8) (haligned : off % size = 0) :
    barRead bar off size c =
      let lo := regBytes bar off (readLatched bar off c)
      let hi := if size = 8 then regBytes bar (off + 4) lo.2 else ([], lo.2)
      hi.2.emit (.completion bar off (lo.1 ++ hi.1) false) := by
  have hregular : ¬ (!(size = 4 || size = 8) || off % max 1 size != 0) = true := by
    rcases hsize with rfl | rfl
    · simp [haligned]
    · simp [haligned]
  unfold barRead
  rw [if_neg (by rcases hbar with rfl | rfl <;> decide), if_neg (by rcases hbar with rfl | rfl <;> simp),
    if_neg hregular]
  rfl

/-- A read of one register without undefined bits delivers its value. -/
theorem barRead_defined {v : Nat} (hbar : bar = 0 ∨ bar = 4) (haligned : off % 4 = 0)
    (hview : (readLatched bar off c).regView bar off = (v, 0)) :
    barRead bar off 4 c = (readLatched bar off c).emit (.completion bar off (bytesLE 4 v) false) := by
  rw [barRead_aligned c hbar (.inl rfl) haligned, regBytes_defined _ hview]
  rfl

/-- A read of BAR0 or BAR4 is answered in full, and but for free values leaves the machine that it finds. -/
theorem barRead_answers (hbar : bar = 0 ∨ bar = 4) : ∃ (l : List Byte) (n : Nat), l.length = size ∧
    barRead bar off size c =
      ({ (if bar = 0 ∧ off = 8 ∧ (size = 4 ∨ size = 8) then glbLatch c else c) with fresh := n } : Core).emit
        (.completion bar off l false) := by
  by_cases hregular : (size = 4 ∨ size = 8) ∧ off % size = 0
  · obtain ⟨hsize, haligned⟩ := hregular
    have hlatched : readLatched bar off c =
        if bar = 0 ∧ off = 8 ∧ (size = 4 ∨ size = 8) then glbLatch c else c := by
      simp [readLatched, hsize]
    rw [← hlatched]
    obtain ⟨lo, n, hlo, hloRead⟩ := regBytes_takes bar off (readLatched bar off c)
    rcases hsize with rfl | rfl
    · refine ⟨lo ++ [], n, by simp [hlo], ?_⟩
      rw [barRead_aligned c hbar (.inl rfl) haligned, hloRead]
      rfl
    · obtain ⟨hi, m, hhi, hhiRead⟩ := regBytes_takes bar (off + 4) { readLatched bar off c with fresh := n }
      refine ⟨lo ++ hi, m, by simp [hlo, hhi], ?_⟩
      simp only [barRead_aligned c hbar (.inr rfl) haligned, hloRead, hhiRead, if_true]
  · have hunlatched : ¬ (bar = 0 ∧ off = 8 ∧ (size = 4 ∨ size = 8)) := by
      rintro ⟨-, rfl, rfl | rfl⟩
      · exact hregular (by decide)
      · exact hregular (by decide)
    have hirregular : (!(size = 4 || size = 8) || off % max 1 size != 0) = true := by
      by_cases hsize : size = 4 ∨ size = 8
      · have hoff : off % size ≠ 0 := fun h => hregular ⟨hsize, h⟩
        simp [show max 1 size = size by omega, hoff]
      · simp [not_or.1 hsize]
    obtain ⟨l, n, hlength, hbytes⟩ := freeBytes_takes size c
    refine ⟨l, n, hlength, ?_⟩
    rw [barRead_irregular c hbar hirregular, hbytes, if_neg hunlatched]

end Reads

/-- Settles O2: a register read takes free values only (`regBytes_takes`), and so do the bytes of any other read. -/
theorem hostReadsAreAnswered : Obligations.HostReadsAreAnswered :=
  ⟨fun c => barRead_defined (off := 0) c (.inl rfl) rfl rfl, fun c _ _ _ hbar => barRead_answers c hbar,
    fun _ => ⟨rfl, rfl, rfl, rfl, rfl⟩⟩

end Sys2Proof.Machine
end

section
/-! The commands of the host interface (R284, R285, R287 to R293, R296, R309): each has the effect that its clause's conditions
select. -/

namespace Sys2Proof.Machine

section Rings
variable {c : Core} {k v : Nat}

/-- A doorbell whose count lies in the range of a to-device ring, and which says something new: the count is taken, and the
device reads on. -/
theorem ringDb_toDevice (hto : ringToDevice k = true) (hon : (nth c.rings k).enable = true)
    (hrange : (v % 2 ^ 32 + (2 ^ 32 - (nth c.rings k).cons)) % 2 ^ 32 ≤ 2 ^ (nth c.rings k).size)
    (hnew : v % 2 ^ 32 ≠ (nth c.rings k).prod) :
    ringDb k v c = ringFetch k (c.updRing k fun (x : Ring) => { x with prod := v % 2 ^ 32, readFailed := false }) := by
  simp only [ringDb, hto, hon, hnew, Nat.not_lt.2 hrange, decide_false, Bool.not_true, Bool.false_and, Bool.false_eq_true,
    if_false, if_true]

/-- A doorbell whose count lies in the range of a to-host ring: the count is taken, and a ring that has room again counts its
next drop as the first (R295). -/
theorem ringDb_toHost (hto : ringToDevice k = false) (hon : (nth c.rings k).enable = true)
    (hrange : (v % 2 ^ 32 + (2 ^ 32 - (nth c.rings k).cons)) % 2 ^ 32 ≤
      ((nth c.rings k).prod + (2 ^ 32 - (nth c.rings k).cons)) % 2 ^ 32) :
    ringDb k v c = c.updRing k fun (x : Ring) =>
      { x with
        cons := v % 2 ^ 32
        overflowed := x.overflowed && decide (2 ^ x.size ≤ (x.prod + (2 ^ 32 - v % 2 ^ 32)) % 2 ^ 32) } := by
  simp only [ringDb, hto, hon, Nat.not_lt.2 hrange, Bool.not_true, Bool.false_eq_true, if_false]

end Rings

theorem perstNAssert_completes : Effect.PerstNAssert := by
  rintro s _ rfl hlive
  exact does_of_run rfl rfl hlive rfl

theorem functionLevelReset_completes : Effect.FunctionLevelReset := by
  rintro s _ rfl hlive
  exact does_of_run rfl rfl hlive rfl

theorem pcieLinkDown_completes : Effect.PcieLinkDown := by
  rintro s _ rfl hlive
  exact does_of_run rfl rfl hlive rfl

theorem pcieAer_completes : Effect.PcieAer := by
  rintro s _ status rfl hlive hstatus
  refine does_of_run rfl rfl hlive ?_
  simp only [pcieAer, Nat.testBit_lt_two_pow hstatus, Nat.mod_eq_of_lt hstatus, Bool.false_eq_true, if_false]

theorem bar0Write_completes : Effect.Bar0Write := by
  rintro s _ _ offset size v rfl hlive rfl hsize haligned
  refine does_of_run (execBar0Write.eq_1 0 offset size v s) rfl hlive ?_
  rw [barAccess, if_neg (by decide), bar0Write, if_neg (by decide), if_neg]
  · simp
  · rcases hsize with rfl | rfl
    · simp [haligned]
    · simp [haligned]

theorem glbTimeRead_completes : Effect.GlbTimeRead := by
  rintro s _ rfl hlive
  exact does_of_run rfl rfl hlive (barRead_defined s.core (.inl rfl) rfl rfl)

/-- A read of BAR2 of which the hub refuses nothing delivers what DRAM holds. The kernel must not work out whether a burst is
refused (HUB.CAPACITY is a large number), so what `bar2Serve` asks the hub stays a variable. -/
theorem bar2Serve_fits (c : Core) (m : List Host.Cell) (x len : Nat)
    (hfits : c.refusedIn (burstsOf (c.bar2Addr x) len).1 (burstsOf (c.bar2Addr x) len).2 = []) :
    bar2Serve m x len c = (c.hubRead 0x3C 0 (c.bar2Addr x) len).2.emit
      (.completion 2 x (c.readBytes m (c.bar2Addr x) len) (c.hubRead 0x3C 0 (c.bar2Addr x) len).1.isSome) := by
  generalize hserve : @bar2Serve = serve
  delta bar2Serve at hserve
  subst hserve
  obtain ⟨read, hread⟩ : ∃ f, f = @Core.hubRead := ⟨_, rfl⟩
  obtain ⟨refused, hrefused⟩ : ∃ f, f = @Core.refusedIn := ⟨_, rfl⟩
  rw [← hrefused] at hfits
  rw [← hread, ← hrefused]
  simp only [hfits, bne_self_eq_false, Bool.false_eq_true, if_false]

theorem bar2Read_completes : Effect.Bar2Read := by
  rintro s _ x len rfl hlive hgranted hwindow hfits
  refine does_of_run (execBar2Read.eq_1 x len s) rfl hlive ?_
  rw [bar2Read, if_neg (Nat.not_lt.2 hwindow), hgranted, if_neg Bool.false_ne_true]
  exact bar2Serve_fits s.core s.dram x len hfits

theorem bar2Write_completes : Effect.Bar2Write := by
  rintro s _ x data _ rfl hlive hgranted hwindow rfl
  refine doesMem_of_runMem (execBar2Write.eq_1 x data false s) rfl hlive ?_
  simp only [bar2Write, Nat.not_lt.2 hwindow, hgranted, Bool.false_eq_true, if_false]

theorem mbxSubmit_completes : Effect.MbxSubmit := by
  rintro s _ len rfl hlive hidle hempty hlen hfits
  refine does_of_run (execMbxSubmit.eq_1 len s) rfl hlive ?_
  simp [mbxSubmit, hidle, hempty, hlen, Nat.not_lt.2 hfits]

theorem mbxRspAck_completes : Effect.MbxRspAck := by
  rintro s _ rfl hlive
  exact does_of_run rfl rfl hlive rfl

theorem ringEnable_completes : Effect.RingEnable := by
  rintro s _ k v rfl hk hlive hoff hleast hmost hon
  refine does_of_run rfl (decide_eq_true hk) hlive ((if_neg ?_).trans ?_)
  · simp [hoff, hleast, hmost, hon]
  · simp

theorem ringDisable_completes : Effect.RingDisable := by
  rintro s _ k rfl hk hlive
  exact does_of_run rfl (decide_eq_true hk) hlive rfl

theorem ringDb_completes : Effect.RingDb := by
  rintro s _ k v rfl hk hlive hto hon hrange hnew
  exact does_of_run rfl (decide_eq_true hk) hlive (ringDb_toDevice hto hon hrange hnew)

/-- An entry of a channel's ring goes to the channel, and the device reads on. -/
theorem ringEntryRead_completes : Effect.RingEntryRead := by
  rintro s _ k data _ rfl hk hlive hchannel hto hon hgood hwaits rfl
  refine does_of_run rfl (decide_eq_true hk) hlive ((if_pos ?_).trans ((if_pos rfl).trans ?_))
  · simp [hto, hon, hgood, hwaits]
  · simp only [hchannel, if_true]

theorem ringInterruptDue_completes : Effect.RingInterruptDue := by
  rintro s _ k rfl hk hlive hsince hcount
  refine does_of_run rfl (decide_eq_true hk) hlive (if_pos ?_)
  rw [decide_eq_true hcount, bne_iff_ne.2 hsince, Bool.true_or, Bool.and_self]

theorem msixUnmask_completes : Effect.MsixUnmask := by
  rintro s _ v rfl hv hlive hpending
  exact does_of_run rfl (decide_eq_true hv) hlive (if_pos hpending)

theorem pcieLinkUp_completes : Effect.PcieLinkUp := by
  rintro s _ gen width rfl hlive hleast hmost hwidth
  refine does_of_run rfl rfl hlive (if_pos ?_)
  simp [hleast, hmost, hwidth]

/-- Settles O12: each command is its effect on a live machine (`does_of_run`, `doesMem_of_runMem`), which its clause's
conditions select. -/
theorem hostCommandsComplete : Obligations.HostCommandsComplete :=
  ⟨perstNAssert_completes, functionLevelReset_completes, pcieLinkDown_completes, pcieAer_completes, bar0Write_completes,
    glbTimeRead_completes, bar2Read_completes, bar2Write_completes, mbxSubmit_completes, mbxRspAck_completes,
    ringEnable_completes, ringDisable_completes, ringDb_completes, ringEntryRead_completes, ringInterruptDue_completes,
    msixUnmask_completes, pcieLinkUp_completes⟩

/-- Settles O55: what the mailbox does not take it discards. -/
theorem mailboxTakesOneRequest : Obligations.MailboxTakesOneRequest := by
  rintro s _ len rfl hlive hrefused
  refine does_of_run (execMbxSubmit.eq_1 len s) rfl hlive ?_
  simp only [mbxSubmit, Bool.or_eq_true, decide_eq_true_eq, or_assoc, hrefused, if_true]

/-- Ring 1, to the host, full and with a record dropped. -/
def ringOverflowed : Core :=
  { ({ boot := { inReset := false, step := 9 } } : Core).set K.devPdStatus 0x1FFFF with
    rings := upd ({} : Core).rings 1 fun (x : Ring) =>
      { x with enable := true, size := 4, prod := 16, dropped := 1, overflowed := true } }

/-- Refutes O41: a doorbell that frees an entry of a full to-host ring ends the ring's overflow (`ringDb_toHost`), as R295 asks,
so that the next drop is the first after the ring last had room; the statement's last clause changes the count alone. -/
theorem not_ringDoorbells : ¬ Obligations.RingDoorbells := by
  intro hclause
  let s : State := { pending := [], core := ringOverflowed, dram := [] }
  have hlive : Live s 3 := by decide +kernel
  have hon : (nth ringOverflowed.rings 1).enable = true := rfl
  have hmodel : Does (.ringDb 1 1) s _ := does_of_run rfl rfl hlive (ringDb_toHost rfl hon (by decide +kernel))
  obtain ⟨-, -, -, hcount⟩ := hclause s ringOverflowed 1 1 rfl (by decide) hlive (by decide) (by decide +kernel)
    (by decide +kernel)
  have hsame := finish_eq_of_does hmodel (hcount hon (by decide +kernel) rfl)
  exact absurd (congrArg (fun (c : Core) => (nth c.rings 1).overflowed) hsame) (by decide +kernel)

end Sys2Proof.Machine
end

section
/-! The commands of the DMA channels (R298, R302, R304, R306): each has the effect that its clause's conditions select, and a
write that the channel's state does not accept is counted (R298). -/

namespace Sys2Proof.Machine

theorem dmaStart_completes : Effect.DmaStart := by
  rintro s _ ch rfl hch hlive hfree hstate
  refine does_of_run rfl (decide_eq_true hch) hlive (if_neg ?_)
  simp only [hfree, hstate, Bool.false_or, Bool.not_eq_true', ← Bool.decide_or, decide_true, Bool.true_eq_false,
    not_false_eq_true]

theorem dmaStop_completes : Effect.DmaStop := by
  rintro s _ ch rfl hch hlive hfree hstate
  refine does_of_run rfl (decide_eq_true hch) hlive (if_neg ?_)
  simp only [hfree, hstate, Bool.false_or, Bool.not_eq_true', ← Bool.decide_or, decide_true, Bool.true_eq_false,
    not_false_eq_true]

theorem dmaReset_completes : Effect.DmaReset := by
  rintro s _ ch rfl hch hlive hfree hstate
  refine does_of_run rfl (decide_eq_true hch) hlive (if_neg ?_)
  simp only [hfree, hstate, Bool.false_or, Bool.not_eq_true', ← Bool.decide_or, decide_true, Bool.true_eq_false,
    not_false_eq_true]

theorem dmaHeadWrite_completes : Effect.DmaHeadWrite := by
  rintro s _ ch v rfl hch hlive hfree hstate
  refine does_of_run rfl (decide_eq_true hch) hlive (if_neg ?_)
  simp only [hfree, hstate, Bool.false_or, Bool.not_eq_true', ← Bool.decide_or, or_assoc, decide_true, Bool.true_eq_false,
    not_false_eq_true]

theorem dmaKick_completes : Effect.DmaKick := by
  rintro s _ ch rfl hch hlive hfree hidle hhalted
  refine does_of_run rfl (decide_eq_true hch) hlive (if_neg ?_)
  simp [hfree, hidle, hhalted]

/-- A descriptor from host memory that is good and not the last joins a chain that has others. -/
theorem dmaDescFetched_completes : Effect.DmaDescFetched := by
  rintro s _ ch desc _ a rfl hch hlive hnext hruns hroom hothers hhost rfl hgood hmore
  have hroom' : ¬ 4 ≤ (nth s.core.dmas ch).chain.length := Nat.not_le.2 hroom
  refine does_of_run (execDmaDescFetched.eq_1 ch desc 0 s) (decide_eq_true hch) hlive ?_
  simp [dmaDescFetched, hnext, hruns, hroom', hothers, hhost, hgood, hmore]

theorem dmaLinkReread_completes : Effect.DmaLinkReread := by
  rintro s _ ch link _ a kick rfl hch hlive hreread hruns hhost rfl hmore
  refine does_of_run (execDmaLinkReread.eq_1 ch link 0 s) (decide_eq_true hch) hlive ?_
  simp [dmaLinkReread, hreread, hruns, hhost, hmore]

theorem dmaHalfPoint_completes : Effect.DmaHalfPoint := by
  rintro s _ ch data x rest rfl hch hlive hgranted hchain hruns hgood hhalf hfirst
  refine doesMem_of_served rfl (decide_eq_true hch) hlive hgranted ?_
  simp [dmaHalfPoint, hchain, hruns, hgood, hhalf, hfirst]

theorem dmaDescDone_completes : Effect.DmaDescDone := by
  rintro s _ ch data x rest rfl hch hlive hgranted hchain hruns hintake hgood hhalf
  refine doesMem_of_served rfl (decide_eq_true hch) hlive hgranted ?_
  simp [dmaDescDone, hchain, hruns, hintake, hgood, hhalf]

theorem dmaStopped_completes : Effect.DmaStopped := by
  rintro s _ ch upTo data x rest rfl hch hlive hgranted hchain hstops hgood hmoved hwithin hends
  refine doesMem_of_served rfl (decide_eq_true hch) hlive hgranted ?_
  simp [dmaStopped, hchain, hstops, hgood, hmoved, hwithin, hends]

/-- A channel that no band fetch uses fails its descriptor alone. -/
theorem dmaError_completes : Effect.DmaError := by
  rintro s _ ch kind _ addr x rest rfl hch hlive hchain hruns hgood hintake rfl hhost hleast hmost
  refine doesMem_of_runMem rfl (decide_eq_true hch) hlive ?_
  simp [dmaHostError, dmaError, hintake, hchain, hruns, hgood, hhost, hleast, hmost]

/-- Settles O13: each command is its effect on a live machine (`does_of_run`, `doesMem_of_served`), which its clause's
conditions select. -/
theorem dmaCommandsComplete : Obligations.DmaCommandsComplete :=
  ⟨dmaStart_completes, dmaStop_completes, dmaReset_completes, dmaHeadWrite_completes, dmaKick_completes,
    dmaDescFetched_completes, dmaLinkReread_completes, dmaHalfPoint_completes, dmaDescDone_completes,
    dmaStopped_completes, dmaError_completes⟩

/-- Settles O54: each register write tests the owner and the state before its effect, and counts what it does not accept. -/
theorem dmaDiscardsWritesOutOfState : Obligations.DmaDiscardsWritesOutOfState := by
  intro s c ch v hcore hch hlive st bad
  subst hcore
  refine ⟨fun h => ?_, fun h => ?_, fun h => ?_, fun h => ?_, fun h => ?_⟩
  all_goals -- each write opens with the test that h passes
    refine does_of_run rfl (decide_eq_true hch) hlive (if_pos ?_)
    simpa [and_assoc, or_assoc] using h

end Sys2Proof.Machine
end

section
/-! The commands of the transports of the object server (R333, R336, R337, R338, R345): each has the effect that its clause's
conditions select. -/

namespace Sys2Proof.Machine

theorem wopRequest_completes : Effect.WopRequest := by
  rintro s _ transport addr msg rfl hlive rfl hup
  refine doesMem_of_runMem rfl rfl hlive ?_
  simp [wopRequest, hup]

/-- A whole datagram of the server's port, with a length that fits and a right checksum, carries a message (R336). -/
theorem udpWhole_message {p src : Nat} {d : List Byte} {c : Core} (m : List Host.Cell) (hleast : 8 ≤ beAt d 4 2)
    (hmost : beAt d 4 2 ≤ d.length) (hport : beAt d 2 2 = 47250)
    (hsum : udpChecksumFails src (c.get (K.wopEthIpAddr p)) (d.take (beAt d 4 2)) = false) :
    udpWhole p src d c m = ethMessage p src (beAt d 0 2) (slice d 8 (beAt d 4 2 - 8)) c m := by
  have hwhole : ¬ d.length < 8 := by omega
  have hlen : ¬ beAt d 4 2 < 8 := Nat.not_lt.2 hleast
  have hfits : ¬ d.length < beAt d 4 2 := Nat.not_lt.2 hmost
  simp [udpWhole, hwhole, hlen, hfits, hport, hsum]

theorem udpDatagram_completes : Effect.UdpDatagram := by
  rintro s _ p addr ident _ _ payload rfl hp hlive hup rfl rfl hleast hmost hport hsum
  refine doesMem_of_runMem rfl (decide_eq_true hp) hlive ?_
  simp [udpDatagram, hup, udpWhole_message s.dram hleast hmost hport hsum]

/-- A reassembly that fails on port 0 leaves those of port 1. -/
theorem reasmFail_zero_reasms_one (r : Reasm) (c : Core) : nth (reasmFail 0 r c).reasms 1 = nth c.reasms 1 := by
  show nth (upd c.reasms 0 _) 1 = nth c.reasms 1
  simp [nth, upd]

theorem reassemblyTimeout_completes : Effect.ReassemblyTimeout := by
  rintro s _ x rfl hlive hport0 hport1 hlate
  refine does_of_run rfl rfl hlive ?_
  have hrest : nth (reasmFail 0 x s.core).reasms 1 = [] := (reasmFail_zero_reasms_one x s.core).trans hport1
  simp [reassemblyTimeout, List.range_succ, hport0, hlate, hrest]

theorem arpRequest_completes : Effect.ArpRequest := by
  rintro s _ p ip rfl hp hlive hanswers hown
  refine does_of_run rfl (decide_eq_true hp) hlive ?_
  simp [arpRequest, hanswers, ← hown]

theorem icmpEcho_completes : Effect.IcmpEcho := by
  rintro s _ p ip payload rfl hp hlive hanswers
  exact does_of_run rfl (decide_eq_true hp) hlive (if_pos hanswers)

/-- A segment that is neither a message's last nor beyond the largest message joins it (R338). -/
theorem canSegmentIn_joins (k : Nat) (before seg : List Byte) {count : Nat} (c : Core) (m : List Host.Cell)
    (hroom : count < 70) :
    canSegmentIn k before count false seg c m = (setCan k { msg := some (before ++ seg, count + 1), at_ := c.clock } c, m) := by
  simp [canSegmentIn, Nat.not_le.2 hroom]

theorem canFrame_completes : Effect.CanFrame := by
  rintro s _ ch _ _ data rfl hch hlive hup rfl rfl hleast hmost hfirst hmore hcount
  have hdata : data ≠ [] := List.length_pos_iff.1 hleast
  refine doesMem_of_runMem rfl (decide_eq_true hch) hlive ?_
  simp [canFrame, hup, hdata, Nat.not_lt.2 hmost, hfirst, hmore, hcount, canSegmentIn_joins]

theorem segTimeout_completes : Effect.SegTimeout := by
  rintro s _ ch rfl hch hlive hopen hlate
  refine does_of_run rfl (decide_eq_true hch) hlive ?_
  simp [segTimeout, canError, hopen, hlate]

theorem canBusOff_completes : Effect.CanBusOff := by
  rintro s _ ch rfl hch hlive hup
  exact does_of_run rfl (decide_eq_true hch) hlive (if_pos hup)

theorem ethLinkChange_completes : Effect.EthLinkChange := by
  rintro s _ p up rfl hp hlive hpowered
  exact does_of_run rfl (decide_eq_true hp) hlive (if_pos hpowered)

/-- Settles O14: each command is its effect on a live machine (`does_of_run`, `doesMem_of_runMem`), which its clause's
conditions select. -/
theorem transportCommandsComplete : Obligations.TransportCommandsComplete :=
  ⟨wopRequest_completes, udpDatagram_completes, reassemblyTimeout_completes, arpRequest_completes, icmpEcho_completes,
    canFrame_completes, segTimeout_completes, canBusOff_completes, ethLinkChange_completes⟩

end Sys2Proof.Machine
end

section
/-! Bytes on the wire and in memory (R10, R312): where a field stands in a string of bytes, and what it reads as. -/

namespace Sys2Proof.Machine

/-- The part of a byte string that stands after a given one. -/
theorem slice_middle (pre x post : List Byte) : slice (pre ++ (x ++ post)) pre.length x.length = x := by
  simp [slice]

/-- A little-endian field after a given part. -/
theorem natLE_slice_middle (pre post : List Byte) {n v : Nat} (hv : v < 256 ^ n) :
    natLE (slice (pre ++ (bytesLE n v ++ post)) pre.length n) = v := by
  have hslice := slice_middle pre (bytesLE n v) post
  rw [length_bytesLE] at hslice
  rw [hslice, natLE_bytesLE n v hv]

/-- A big-endian field after a given part. -/
theorem beAt_middle (pre post : List Byte) {n v : Nat} (hv : v < 256 ^ n) :
    beAt (pre ++ (bytesBE n v ++ post)) pre.length n = v := by
  have hslice := slice_middle pre (bytesBE n v) post
  rw [length_bytesBE] at hslice
  rw [beAt, hslice, natBE_bytesBE n v hv]

theorem length_padTo (n : Nat) (l : List Byte) : (padTo n l).length = n := by
  simp only [padTo, List.length_append, List.length_take, List.length_replicate]
  omega

/-- A value of any type but BLOB takes as many bytes on the wire as its object has. -/
theorem length_wireBytes {typ size : Nat} (v : Nat) (h7 : typ = 7 → size = 4) : (wireBytes typ size v).length = size := by
  unfold wireBytes
  split
  · exact length_bytesLE size v
  split
  next hbf24 => simp [length_bytesBE, h7 hbf24]
  next => exact length_bytesBE size v

/-- The mantissa of a BF24 goes first, big-endian, and its exponent last (R312). -/
theorem wireBytes_bf24 {m : Nat} (e : Nat) (hm : m < 2 ^ 24) :
    wireBytes 7 4 (m + 2 ^ 24 * e) =
      [BitVec.ofNat 8 (m / 2 ^ 16), BitVec.ofNat 8 (m / 2 ^ 8), BitVec.ofNat 8 m, BitVec.ofNat 8 e] := by
  have hmantissa : (m + 2 ^ 24 * e) % 2 ^ 24 = m := by omega
  have hexponent : (m + 2 ^ 24 * e) / 2 ^ 24 = e := by omega
  have hlayout : wireBytes 7 4 (m + 2 ^ 24 * e) = bytesBE 3 m ++ bytesBE 1 e := by
    simp only [wireBytes, hmantissa, hexponent]
    rfl
  rw [hlayout]
  simp [bytesBE, bytesLE, Nat.div_div_eq_div_mul]

/-- Settles O43: what is put on the wire has the object's length (`length_wireBytes`) and is read back
(`wireValue_wireBytes`); a BF24 is laid out as `wireBytes_bf24` says. -/
theorem wireValuesRoundTrip : Obligations.WireValuesRoundTrip :=
  ⟨fun typ size v h10 h7 hv => ⟨length_wireBytes v h7, wireValue_wireBytes typ size v h10 h7 hv⟩,
    fun _ e hm _ => wireBytes_bf24 e hm⟩

end Sys2Proof.Machine
end

section
/-! The rows of the dictionary (R311, R314), the object store behind it, and the aliases of Profile T (R342). -/

namespace Sys2Proof.Machine

/-- Settles O36: a set is one put in the store. -/
theorem objectsReadBack : Obligations.ObjectsReadBack := fun c o v =>
  ⟨sput_ascending o.dflt c.objs o.key (v % 256 ^ o.bytes), get_set_self c o v, fun p hp => get_set_other c o p v hp, rfl⟩

/-- Sub-index 1 of a name of Profile T stands for its target, or for no object where it has none (R342). -/
theorem resolve_alias (c : Core) {a : Nat} (ha : a < 1024) :
    c.resolve (0x4000 + a) 1 =
      if c.get (K.profTarget a) = 0 then none
      else descOf (c.get (K.profTarget a) / 256 % 65536) (c.get (K.profTarget a) % 256) := by
  simp [Core.resolve, show 0x4000 + a < 0x4400 by omega]

/-- Settles O52: sub-index 1 of Profile T goes to its target (`resolve_alias`), and nothing else does (`resolve_plain`). -/
theorem aliasIsItsTarget : Obligations.AliasIsItsTarget := fun c _ index sub ha =>
  ⟨fun hunused => (resolve_alias c ha).trans (if_pos hunused), fun hused => (resolve_alias c ha).trans (if_neg hused),
    resolve_plain c index sub⟩

/-- Whether the dictionary has a row for an object, with an access right and one whole value. -/
def hasRow (o : Obj) (a : Acc) : Bool :=
  match descOf (o.key / 256) (o.key % 256) with
  | some d => decide (d.obj = o ∧ d.acc = a ∧ d.typ ≠ 10 ∧ (d.typ = 7 → o.bytes = 4))
  | none => false

theorem exists_row_iff (o : Obj) (a : Acc) : (∃ d, Row o a d) ↔ hasRow o a = true := by
  unfold hasRow
  cases hdesc : descOf (o.key / 256) (o.key % 256) with
  | none => simp [Row, hdesc]
  | some d => simp only [Row, hdesc, Option.some.injEq, exists_eq_left', decide_eq_true_eq]

/-- The indices from 0x4000 hold the rows of Profile T (R341). -/
theorem rowsAt_alias {index a : Nat} (ha : a < 1024) (hindex : index = 0x4000 + a) : rowsAt index = rows4000A a := by
  have hne : ∀ x < 0x4000, index ≠ x := by omega
  have hlt : ∀ x ≤ 0x4000, ¬ index < x := by omega
  have halias : 0x4000 ≤ index ∧ index < 0x4400 := by omega
  have hnumber : index - 0x4000 = a := by omega
  simp [rowsAt, hne, hlt, halias, hnumber]

/-- Every PROF.TARGET has its row, RW-I. -/
theorem hasRow_profTarget {a : Nat} (ha : a < 1024) : hasRow (K.profTarget a) .rwi = true := by
  have hindex : (K.profTarget a).key / 256 = 0x4000 + a := by simp only [K.profTarget]; omega
  have hsub : (K.profTarget a).key % 256 = 2 := by simp only [K.profTarget]; omega
  have hrows : rowsAt (0x4000 + a) = rows4000A a := rowsAt_alias ha rfl
  simp [hasRow, hindex, hsub, descOf, hrows, rows4000A]

/-- Settles O25: the tables have each row (`hasRow`), for every unit of its block. -/
theorem commandObjectsHaveRows : Obligations.CommandObjectsHaveRows := by
  unfold Obligations.CommandObjectsHaveRows
  simp only [exists_row_iff]
  exact ⟨by decide +kernel, by decide +kernel, by decide +kernel, by decide +kernel, by decide +kernel, by decide +kernel,
    fun a ha => hasRow_profTarget ha, by decide +kernel, by decide +kernel⟩

end Sys2Proof.Machine
end

section
/-! A write of an object that is not accepted (R311, R315, R323, R328): the check that decides, the locks, and what is left. -/

namespace Sys2Proof.Machine

/-- Settles O44: the checks are tested in the order of their statuses; the lock is one that has an owner to name. -/
theorem firstFailingCheckDecides : Obligations.FirstFailingCheckDecides := by
  intro w d typ off data c m
  cases hlock : c.lockedBy d w with
  | none => simp [writeCheck, hlock, apply_ite Prod.fst]
  | some owner => simp [writeCheck, hlock, apply_ite Prod.fst]

/-- A write of an object that the dictionary does not have (R311). -/
theorem serverWrite_unknown {w : Writer} {index sub : Nat} (typ off : Nat) (data : List Byte) {c : Core} (m : List Host.Cell)
    (hsilent : c.serverSilent = false) (hbusy : c.serverBusy = none) (hresolve : c.resolve index sub = none) :
    serverWrite w index sub typ off data c m =
      (setReply 2 0 (lockRefresh w (auditWrite w index sub 2 data c)), m) := by
  simp [serverWrite, serverItem, hsilent, hbusy, hresolve]

/-- Settles O45: a write is the server's answer to it (`serverWrite_unknown`, `serverWrite_fails`). -/
theorem failedWriteOnlyIsAudited : Obligations.FailedWriteOnlyIsAudited := fun s w index sub typ off data hlive hsilent hbusy =>
  ⟨fun hresolve => doesMem_of_runMem rfl rfl hlive
      (serverWrite_unknown typ off data s.dram hsilent hbusy hresolve),
    fun d hresolve hcheck => doesMem_of_runMem rfl rfl hlive
      (serverWrite_fails w index sub typ off data s.core s.dram d hsilent hbusy hresolve hcheck)⟩

/-- Settles O46, by the access right of the object and the owner of the lock of its scope. -/
theorem locksForbidWrites : Obligations.LocksForbidWrites := by
  intro c d w x
  refine ⟨fun hacc howner => ?_, fun hacc hfree => ?_, fun hacc howner => ?_, fun hacc hfree => ?_, fun hacc houtside => ?_⟩
  · simp [Core.lockedBy, hacc, howner]
  · simp [Core.lockedBy, hacc, hfree]
  · simp [Core.lockedBy, hacc, howner]
  · simp [Core.lockedBy, hacc, hfree]
  · have hplace : ¬ (0x0220 ≤ d.obj.key / 256 ∧ d.obj.key / 256 < 0x022A) := by omega
    rcases hacc with hacc | hacc
    · simp [Core.lockedBy, hacc, hplace]
    · simp [Core.lockedBy, hacc, hplace]

end Sys2Proof.Machine
end

section
/-! The staging copy (R316, R323): a staged value takes the place of the one staged before it. -/

namespace Sys2Proof.Machine

/-- The value put is the one found for its object, whatever was staged for it before. -/
theorem find_stagePut_self (x : StagedVal) (l : List StagedVal) :
    (stagePut x l).find? (fun (y : StagedVal) => y.key = x.key) = some x := by
  induction l with
  | nil => simp [stagePut]
  | cons y r ih =>
    unfold stagePut
    split
    · simp
    split
    · simp
    · next hne => simpa [hne] using ih

theorem find_stagePut_other (x : StagedVal) (l : List StagedVal) {k : Nat} (hk : k ≠ x.key) :
    (stagePut x l).find? (fun (y : StagedVal) => y.key = k) = l.find? fun (y : StagedVal) => y.key = k := by
  induction l with
  | nil => simp [stagePut, hk.symm]
  | cons y r ih =>
    unfold stagePut
    split
    · simp [hk.symm]
    split
    · next heq => simp [heq, hk.symm]
    · simp [List.find?_cons, ih]

theorem mem_keys_stagePut (x : StagedVal) (l : List StagedVal) {k : Nat} (hk : k ∈ (stagePut x l).map StagedVal.key) :
    k = x.key ∨ k ∈ l.map StagedVal.key := by
  induction l with
  | nil => simpa [stagePut] using hk
  | cons y r ih =>
    unfold stagePut at hk
    split at hk
    · simpa using hk
    split at hk
    · rcases List.mem_cons.1 hk with rfl | hk -- the head is replaced
      · exact .inl rfl
      · exact .inr (List.mem_cons_of_mem _ hk)
    · rcases List.mem_cons.1 hk with rfl | hk -- the head stays, and x goes into the rest
      · exact .inr List.mem_cons_self
      · exact (ih hk).imp_right (List.mem_cons_of_mem _)

theorem stagePut_ascending (x : StagedVal) (l : List StagedVal)
    (hl : (l.map StagedVal.key).Pairwise (fun a b => a < b)) :
    ((stagePut x l).map StagedVal.key).Pairwise (fun a b => a < b) := by
  induction l with
  | nil => simp [stagePut]
  | cons y r ih =>
    obtain ⟨hy, hr⟩ := List.pairwise_cons.1 hl
    unfold stagePut
    split
    · next hlt =>
      refine List.pairwise_cons.2 ⟨fun k hk => ?_, hl⟩
      rcases List.mem_cons.1 hk with rfl | hk
      · exact hlt
      · exact Nat.lt_trans hlt (hy k hk)
    split
    · next heq => exact List.pairwise_cons.2 ⟨heq ▸ hy, hr⟩
    · next hnlt hne =>
      refine List.pairwise_cons.2 ⟨fun k hk => ?_, ih hr⟩
      rcases mem_keys_stagePut x r hk with rfl | hk
      · omega
      · exact hy k hk

/-- A value is staged with its writer and the cycle of its acceptance, which a line boundary looks at (R80); the other staged
values and the values in force stay. -/
theorem stageValue_keeps (c : Core) (o : Obj) (v : Nat) (w : Writer) :
    (stageValue o v w c).stagedOf o.key =
      some { key := o.key, value := v, by_ := some w, withheld := decide (c.lockOwner (o.key / 256) = some w),
             at_ := c.sample } ∧
    (∀ k : Nat, k ≠ o.key → (stageValue o v w c).stagedOf k = c.stagedOf k) ∧
    ((c.staged.map StagedVal.key).Pairwise (fun a b => a < b) →
      ((stageValue o v w c).staged.map StagedVal.key).Pairwise (fun a b => a < b)) ∧
    (∀ p : Obj, (stageValue o v w c).get p = c.get p) :=
  ⟨find_stagePut_self ⟨o.key, v, some w, decide (c.lockOwner (o.key / 256) = some w), c.sample⟩ c.staged,
    fun _ hk => find_stagePut_other _ c.staged hk, stagePut_ascending _ c.staged, fun _ => rfl⟩

/-- Refutes O47: the staged value keeps the cycle in which it was staged (R80; `stageValue_keeps`), where the statement has
cycle 0. Here CMP0.PITCH is staged in cycle 1. -/
theorem not_stagingKeepsTheLiveValue : ¬ Obligations.StagingKeepsTheLiveValue := by
  intro hclause
  let c : Core := { sample := 1 }
  let w : Writer := { transport := 1, addr := 0, client := 7 }
  obtain ⟨hmodel, -⟩ := stageValue_keeps c (K.cmpPitch 0) 10 w
  obtain ⟨hstated, -⟩ := hclause c (K.cmpPitch 0) 10 w
  have hcycle := congrArg (Option.map StagedVal.at_) (hmodel.symm.trans hstated)
  exact absurd hcycle (by decide)

end Sys2Proof.Machine
end

section
/-! Requests of a message (R331, R334, R336): the sequence number of a client, and the answer to a message whose CRC fails. -/

namespace Sys2Proof.Machine

theorem seqNext_of_lt {q : Nat} (hq : q < 65535) : seqNext q = q + 1 := if_neg (Nat.ne_of_lt hq)

/-- Settles O50: the branches of `requestBySeq` for a client that the table has. -/
theorem sequenceNumbersDecideExecution : Obligations.SequenceNumbersDecideExecution := by
  refine ⟨fun w msg items c m x hclient => ⟨fun hzero => ?_, fun hzero hnext => ?_, fun hzero hnext hlast => ?_,
    fun hzero hnext hlast => ?_⟩, rfl, fun _ => seqNext_of_lt⟩
  · simp only [requestBySeq, hclient, if_pos hzero]
  · simp only [requestBySeq, hclient, if_neg hzero, if_pos hnext]
  · simp only [requestBySeq, hclient, if_neg hzero, if_neg hnext, if_pos hlast]
  · simp only [requestBySeq, hclient, if_neg hzero, if_neg hnext, if_neg hlast]

/-- The fields of a response from its status on, and the trailer of its transport (R331). -/
theorem response_layout (transport : Nat) (req : List Byte) (status detail : Nat) (items : List (List Byte)) :
    ∃ trailer : List Byte, trailer.length = trailerLen transport ∧
      response transport req status detail items =
        (bytesBE 2 0x5747 ++ bytesBE 1 1 ++ bytesBE 1 2 ++ slice req 4 5) ++ (bytesBE 1 status ++ (bytesBE 2 items.length ++
          (bytesBE 2 items.flatten.length ++ (bytesBE 2 detail ++ (items.flatten ++ trailer))))) := by
  unfold response trailerLen
  extract_lets body m
  generalize crc32 m = crc
  split
  · exact ⟨bytesBE 4 crc, length_bytesBE 4 crc, by simp [m, body]⟩
  · exact ⟨[], rfl, by simp [m, body]⟩

/-- The answer without items to a request with a whole header: its length, and its status, number of items and length of
items (R331). -/
theorem response_empty {transport status : Nat} {req : List Byte} (detail : Nat) (hreq : 16 ≤ req.length)
    (hstatus : status < 256) :
    (response transport req status detail []).length = 16 + trailerLen transport ∧
      beAt (response transport req status detail []) 9 1 = status ∧
      beAt (response transport req status detail []) 10 2 = 0 ∧
      beAt (response transport req status detail []) 12 2 = 0 := by
  obtain ⟨trailer, htrailer, hresponse⟩ := response_layout transport req status detail []
  generalize hpre : bytesBE 2 0x5747 ++ bytesBE 1 1 ++ bytesBE 1 2 ++ slice req 4 5 = pre at hresponse
  have hlength : pre.length = 9 := by
    subst hpre
    simp only [List.length_append, length_bytesBE, slice, List.length_take, List.length_drop]
    omega
  simp only [List.flatten_nil, List.length_nil, List.nil_append] at hresponse
  rw [hresponse]
  refine ⟨?_, ?_, ?_, ?_⟩
  · simp only [List.length_append, length_bytesBE, hlength, htrailer]
    omega
  · simpa [hlength] using beAt_middle pre _ (n := 1) hstatus
  · simpa [hlength, length_bytesBE] using
      beAt_middle (pre ++ bytesBE 1 status) (bytesBE 2 0 ++ (bytesBE 2 detail ++ trailer)) (n := 2) (v := 0) (by decide)
  · simpa [hlength, length_bytesBE] using
      beAt_middle (pre ++ bytesBE 1 status ++ bytesBE 2 0) (bytesBE 2 detail ++ trailer) (n := 2) (v := 0) (by decide)

/-- Settles O51: a request tests the CRC before anything but legibility, and the answer is one without items
(`response_empty`). -/
theorem failedMessageCrcRunsNothing : Obligations.FailedMessageCrcRunsNothing := by
  intro c m transport addr msg hlegible hcrc
  refine ⟨by simp [request, hlegible, hcrc], fun htrailer => ?_⟩
  have hheader : 16 ≤ msg.length := by
    simp only [discarded, Bool.or_eq_false_iff, decide_eq_false_iff_not] at hlegible
    omega
  simpa [trailerLen, htrailer] using response_empty (transport := transport) (status := 10) 0 hheader (by decide)

end Sys2Proof.Machine
end

section
/-! The audit ring (R328, R329): the layout of an entry, and the ring after one. -/

namespace Sys2Proof.Machine

/-- The bytes of an audit entry: its event record, then length, CRC and first bytes of the value written (R329). -/
def auditBytes (r : EvRec) (crc : Nat) (value : List Byte) : List Byte :=
  r.bytes ++ (bytesLE 4 value.length ++ (bytesLE 4 crc ++ padTo 24 value))

/-- While the ring is kept, an entry goes to its front: a record of the ring's source with its next sequence number. -/
theorem auditEntry_kept (code payload : Nat) (value : List Byte) {c : Core} (hon : c.auditOn = true) :
    ∃ (r : EvRec) (crc : Nat), r.src = 0x0270 ∧ r.seq = c.auditNext ∧
      (auditEntry code payload value c).audit = (auditBytes r crc value :: c.audit).take 65536 ∧
      (auditEntry code payload value c).auditNext = (c.auditNext + 1) % 2 ^ 32 := by
  simp only [auditEntry, hon, Bool.not_true, Bool.false_eq_true, if_false, List.append_assoc]
  exact ⟨_, _, rfl, rfl, rfl, rfl⟩

theorem length_evRec_bytes (r : EvRec) : r.bytes.length = 32 := by simp [EvRec.bytes, length_bytesLE]

section Entry
variable (r : EvRec) (crc : Nat) (value : List Byte)

theorem length_auditBytes : (auditBytes r crc value).length = 64 := by
  simp [auditBytes, length_evRec_bytes, length_bytesLE, length_padTo]

theorem auditBytes_src (hsrc : r.src < 2 ^ 16) : natLE (slice (auditBytes r crc value) 0x0E 2) = r.src := by
  simpa [auditBytes, EvRec.bytes, length_bytesLE] using
    natLE_slice_middle (bytesLE 8 r.time ++ bytesLE 6 r.pos) (bytesLE 4 r.seq ++ (bytesLE 4 r.code ++ (bytesLE 8 r.payload ++
      (bytesLE 4 value.length ++ (bytesLE 4 crc ++ padTo 24 value))))) (n := 2) hsrc

theorem auditBytes_seq (hseq : r.seq < 2 ^ 32) : natLE (slice (auditBytes r crc value) 0x10 4) = r.seq := by
  simpa [auditBytes, EvRec.bytes, length_bytesLE] using
    natLE_slice_middle (bytesLE 8 r.time ++ bytesLE 6 r.pos ++ bytesLE 2 r.src) (bytesLE 4 r.code ++ (bytesLE 8 r.payload ++
      (bytesLE 4 value.length ++ (bytesLE 4 crc ++ padTo 24 value)))) (n := 4) hseq

theorem auditBytes_length (hlength : value.length < 2 ^ 32) :
    natLE (slice (auditBytes r crc value) 0x20 4) = value.length := by
  simpa [auditBytes, length_evRec_bytes] using
    natLE_slice_middle r.bytes (bytesLE 4 crc ++ padTo 24 value) (n := 4) hlength

theorem auditBytes_value : slice (auditBytes r crc value) 0x28 24 = padTo 24 value := by
  simpa [auditBytes, length_evRec_bytes, length_bytesLE, length_padTo] using
    slice_middle (r.bytes ++ (bytesLE 4 value.length ++ bytesLE 4 crc)) (padTo 24 value) []

end Entry

/-- Settles O53: an entry of 64 bytes goes to the front of the ring (`auditEntry_kept`), which holds 65,536. -/
theorem auditRingHoldsEntries : Obligations.AuditRingHoldsEntries := by
  intro c code payload value hon hseq hvalue hfull d
  obtain ⟨r, crc, hsrc, hnumber, haudit, hnext⟩ := auditEntry_kept code payload value hon
  have hfront : d.audit = auditBytes r crc value :: c.audit.take 65535 := haudit
  rw [← hnumber] at hseq
  rw [hfront]
  refine ⟨hnext, ?_, rfl, length_auditBytes r crc value, ?_, ?_, auditBytes_length r crc value hvalue,
    auditBytes_value r crc value⟩
  · rw [List.length_cons, List.length_take]
    omega
  · rw [List.headD_cons, auditBytes_src r crc value (by rw [hsrc]; decide), hsrc]
  · rw [List.headD_cons, auditBytes_seq r crc value hseq, hnumber]

end Sys2Proof.Machine
end

section
/-! The events of the Loop Engine and of the analog inputs (R349, R352, R354, R360, R363, R364): each has the effect that its
clause's conditions select. That the engine computes one sample at a time is the model's choice (log 100). -/

namespace Sys2Proof.Machine

theorem loopPeriodTrigger_completes : Effect.LoopPeriodTrigger := by
  rintro s _ slot rfl hslot hlive hon henabled hmode hdue
  refine does_of_run rfl (decide_eq_true hslot) hlive ((if_neg ?_).trans (if_neg (Nat.not_lt.2 hdue)))
  simp [hon, henabled, hmode]

theorem loopSampleRun_completes : Effect.LoopSampleRun := by
  rintro s _ d k t rfl hlive hon hfree hd hnext hwait
  refine does_of_run (execLoopSampleRun.eq_1 s) rfl hlive ((if_neg ?_).trans ?_)
  · simp [hon, hfree]
  · simp only [← hd, hnext, hwait]

theorem loopDeadlineMiss_completes : Effect.LoopDeadlineMiss := by
  rintro s _ slot rfl hslot hlive hon
  exact does_of_run rfl (decide_eq_true hslot) hlive (if_pos hon)

theorem loopToneWrite_completes : Effect.LoopToneWrite := by
  rintro s _ slot rfl hslot hlive hon hdue hidle
  refine does_of_run rfl (decide_eq_true hslot) hlive (if_neg ?_)
  simp [hon, hdue, hidle]

/-- The tone writes of a slot that run end with tones computed from the reference table as it was read (R360). -/
theorem loopToneWriteDone_of_toneRef {m : List Host.Cell} {slot : Nat} {c d : Core} {ref : List Nat} (hon : c.loopOn = true)
    (hruns : (nth c.slots slot).toneRuns ≠ [])
    (href : toneRef m (c.get (K.loopSlotToneRef slot)) (c.updSlot slot fun (x : LoopSlot) => { x with toneRuns := [] }) =
      (ref, d)) :
    loopToneWriteDone m slot c = slotStatus slot ((nth c.slots slot).toneRuns.foldl
      (fun (a : Core) (r : Nat × List Nat) => toneEnd slot r.1 ref r.2 a) d) := by
  rw [loopToneWriteDone.eq_1, if_neg (by simp [hon, hruns])]
  extract_lets e
  have href' : toneRef m (e.get (K.loopSlotToneRef slot)) e = (ref, d) := href
  rw [href']

theorem loopToneWriteDone_completes : Effect.LoopToneWriteDone := by
  rintro s _ slot rfl hslot hlive hgranted hon hruns
  exact does_of_run (execLoopToneWriteDone.eq_1 slot s) (decide_eq_true hslot) hlive
    ((served_granted hgranted).trans (loopToneWriteDone_of_toneRef hon hruns (Prod.eta _).symm))

theorem loopPendingWrite_completes : Effect.LoopPendingWrite := by
  rintro s _ slot rfl hslot hlive hon
  refine does_of_run rfl (decide_eq_true hslot) hlive (if_neg ?_)
  simp [hon]

theorem ainSeqPeriod_completes : Effect.AinSeqPeriod := by
  rintro s _ q rfl hq hlive hon hperiod hdue
  refine does_of_run rfl (decide_eq_true hq) hlive ((if_neg ?_).trans (if_neg (Nat.not_lt.2 hdue)))
  simp [hon, hperiod]

theorem ainSeqDone_completes : Effect.AinSeqDone := by
  rintro s _ q codes rfl hq hlive hon hruns
  refine does_of_run rfl (decide_eq_true hq) hlive (if_neg ?_)
  simp [hon, hruns]

theorem ainScanConversion_completes : Effect.AinScanConversion := by
  rintro s _ input code rfl hinput hlive hon hscanned
  refine does_of_run rfl (decide_eq_true hinput) hlive (if_pos ?_)
  simp [hon, hinput, hscanned]

/-- Settles O16: each event is its effect on a live machine (`does_of_run`), whose tests its clause's conditions meet. -/
theorem loopCommandsComplete : Obligations.LoopCommandsComplete :=
  ⟨loopPeriodTrigger_completes, loopSampleRun_completes, loopDeadlineMiss_completes, loopToneWrite_completes,
    loopToneWriteDone_completes, loopPendingWrite_completes, ainSeqPeriod_completes, ainSeqDone_completes,
    ainScanConversion_completes⟩

end Sys2Proof.Machine
end

section
/-! The commands of PTP and of the reference aligner (R378, R380, R382, R384, R387, R389, R390): each has the effect that its
clause's conditions select. -/

namespace Sys2Proof.Machine

/-- The master that `bestMaster` finds in mode 1 is followed, whatever this device's own dataset is (R378). -/
theorem ptpAnnounceRx_completes : Effect.PtpAnnounceRx := by
  rintro s _ p msg _ b _ rfl hp hlive hhears hmode hforeign hsteps rfl rfl hbest -
  refine does_of_run rfl (decide_eq_true hp) hlive ((if_neg ?_).trans ?_)
  · simp [hhears, hmode, hforeign, hsteps]
  · split
    next hnone => cases hnone.symm.trans hbest
    next b' hsome =>
      obtain rfl : b' = b := Option.some.inj (hsome.symm.trans hbest)
      refine (if_neg ?_).trans (if_neg ?_)
      · simp [hmode]
      · simp [hmode]

theorem ptpSyncRx_completes : Effect.PtpSyncRx := by
  rintro s _ p msg rfl hp hlive hhears hparent hone
  refine does_of_run rfl (decide_eq_true hp) hlive ?_
  simp [ptpSyncRx, hhears, hparent, hone]

theorem ptpFollowUpRx_completes : Effect.PtpFollowUpRx := by
  rintro s _ p msg t2 corr rfl hp hlive hhears hparent hwaiting
  refine does_of_run rfl (decide_eq_true hp) hlive ?_
  simp [ptpFollowUpRx, hhears, hparent, hwaiting]

theorem ptpDelayRespRx_completes : Effect.PtpDelayRespRx := by
  rintro s _ p msg t3 dms _ rfl hp hlive hhears hparent hown hreq hdms rfl
  refine does_of_run rfl (decide_eq_true hp) hlive ?_
  simp [ptpDelayRespRx, hhears, hparent, hown, hreq, hdms]

theorem ptpDelayReqRx_completes : Effect.PtpDelayReqRx := by
  rintro s _ p msg rfl hp hlive hhears hmaster
  refine does_of_run rfl (decide_eq_true hp) hlive (if_pos ?_)
  simp [hhears, hmaster]

theorem ptpSyncTx_completes : Effect.PtpSyncTx := by
  rintro s _ p _ rfl hp hlive hon hmaster hdue rfl
  refine does_of_run rfl (decide_eq_true hp) hlive (if_neg ?_)
  simp [hon, hmaster, hdue]

theorem ptpDelayReqTx_completes : Effect.PtpDelayReqTx := by
  rintro s _ p rfl hp hlive hon hslave hdue
  refine does_of_run rfl (decide_eq_true hp) hlive (if_neg ?_)
  simpa [hon, hdue, or_iff_not_imp_left] using hslave

theorem ptpAnnounceTx_completes : Effect.PtpAnnounceTx := by
  rintro s _ p rfl hp hlive hon hmaster hdue
  refine does_of_run rfl (decide_eq_true hp) hlive (if_neg ?_)
  simp [hon, hmaster, hdue]

/-- Only a device in mode 2 becomes master by itself when the announcements cease. -/
theorem ptpAnnounceTimeout_completes : Effect.PtpAnnounceTimeout := by
  rintro s _ p rfl hp hlive hon hstate hdue hmode
  refine does_of_run rfl (decide_eq_true hp) hlive ((if_neg ?_).trans (if_neg ?_))
  · simpa [hon, hdue, or_iff_not_imp_left] using hstate
  · rw [hmode]
    decide

theorem timeValidHold_completes : Effect.TimeValidHold := by
  rintro s _ rfl hlive hvalid hstate hdue
  refine does_of_run (execTimeValidHold.eq_1 s) rfl hlive (if_pos ?_)
  simp only [hvalid, bne_iff_ne.2 hstate, hdue, decide_true, Bool.and_self]

theorem timeSnap_completes : Effect.TimeSnap := by
  rintro s _ _ _ rfl hlive hmode hfree hlocked hvalid hnear hsteps hedge rfl rfl
  refine does_of_run rfl rfl hlive (if_pos ?_)
  simp [hmode, hfree, hlocked, hvalid, hnear, hsteps, hedge]

theorem timeSnapLost_completes : Effect.TimeSnapLost := by
  rintro s _ rfl hlive hsnapped hcoasts hlong
  refine does_of_run (execTimeSnapLost.eq_1 s) rfl hlive (if_pos ?_)
  simp [hsnapped, hcoasts, hlong]

theorem alignAcquire_completes : Effect.AlignAcquire := by
  rintro s _ phase j fine rfl hlive hfreq hstate htable hband
  refine does_of_run rfl rfl hlive ?_
  simp [alignAcquire, hfreq, hstate, htable, hband]

theorem alignLocked_completes : Effect.AlignLocked := by
  rintro s _ t rfl hlive hsince hstate hlong
  refine does_of_run rfl rfl hlive ?_
  simp [alignLocked, hsince, hstate, hlong]

/-- While the fine code stays within its band, the aligner keeps the band; the direction of the step is the model's choice
(log 104). -/
theorem alignCorrection_completes : Effect.AlignCorrection := by
  rintro s _ phase _ _ rfl hlive hstate hdue rfl rfl hleast hmost
  refine does_of_run (execAlignCorrection.eq_1 phase s) rfl hlive ((if_neg ?_).trans (if_pos ?_))
  · simpa [hdue, or_iff_not_imp_left] using hstate
  · exact Bool.and_eq_true_iff.2 ⟨decide_eq_true hleast, decide_eq_true hmost⟩

theorem alignRefLost_completes : Effect.AlignRefLost := by
  rintro s _ reason rfl hlive hoff hcoast
  refine does_of_run rfl rfl hlive (if_neg ?_)
  simp [hoff, hcoast]

theorem alignCoastLimit_completes : Effect.AlignCoastLimit := by
  rintro s _ rfl hlive hcoasts hengaged hlong
  refine does_of_run (execAlignCoastLimit.eq_1 s) rfl hlive (if_pos ?_)
  simp [hcoasts, hengaged, hlong]

/-- Settles O17: each command is its effect on a live machine (`does_of_run`), whose tests its clause's conditions meet. -/
theorem timeCommandsComplete : Obligations.TimeCommandsComplete :=
  ⟨ptpSyncRx_completes, ptpFollowUpRx_completes, ptpDelayRespRx_completes, ptpDelayReqRx_completes,
    ptpAnnounceRx_completes, ptpSyncTx_completes, ptpDelayReqTx_completes, ptpAnnounceTx_completes,
    ptpAnnounceTimeout_completes, timeValidHold_completes, timeSnap_completes, timeSnapLost_completes,
    alignAcquire_completes, alignLocked_completes, alignCorrection_completes, alignRefLost_completes,
    alignCoastLimit_completes⟩

end Sys2Proof.Machine
end

section
/-! The events of the Quadrille (R393, R394, R395, R398): each has the effect that its clause's conditions select. That a
device with QD.ENABLE 0 proposes nothing by itself (log 99), and which of its proposals its record carries (log 33), is the
model's choice. -/

namespace Sys2Proof.Machine

theorem qdRecastReq_completes : Effect.QdRecastReq := by
  rintro s _ rfl hlive htell henable
  refine does_of_run rfl rfl hlive (if_pos ?_)
  simp [htell, henable]

theorem qdRecastGo_completes : Effect.QdRecastGo := by
  rintro s _ rfl hlive htell hphase henable
  refine does_of_run rfl rfl hlive (if_pos ?_)
  simp [htell, hphase, henable]

theorem qdLineFall_completes : Effect.QdLineFall := by
  rintro s _ rfl hlive hhigh hactive
  refine does_of_run (execQdLineFall.eq_1 s) rfl hlive ((if_neg ?_).trans (if_pos hactive))
  simp [hhigh]

theorem qdRecord_completes : Effect.QdRecord := by
  rintro s _ p payload x rfl hp hlive hactive hport hparse hother hserial hlow hpeer hkind
  refine does_of_run rfl (decide_eq_true hp) hlive ?_
  simp [qdRecordRx, hactive, hport, hparse, hother, hserial, hlow, hpeer, hkind]

theorem qdRepeat_completes : Effect.QdRepeat := by
  rintro s _ x rfl hlive hsent hactive hbusy hholds hdue
  refine does_of_run rfl rfl hlive ?_
  simp [qdRepeat, hsent, hactive, hbusy, hholds, hdue]

theorem qdLineRise_completes : Effect.QdLineRise := by
  rintro s _ x _ word who rfl hlive hlow hreleased rfl hactive hbusy hsent hwinner
  refine does_of_run (execQdLineRise.eq_1 s) rfl hlive ((if_neg ?_).trans ((if_neg ?_).trans ?_))
  · simp [hlow, hreleased]
  · simp [hactive, hbusy]
  · simp only [hsent, hwinner]

/-- In a step without a proposal of any device, only the count, the fault and the mark of the failure follow. -/
theorem qdStepTimeout_completes : Effect.QdStepTimeout := by
  rintro s _ rfl hlive hactive hbusy hholds hfirst hlate hown hnone -
  refine does_of_run (execQdStepTimeout.eq_1 s) rfl hlive ((if_neg ?_).trans ?_)
  · simp [hactive, hbusy, hholds, hfirst, hlate]
  · simp only [hown, hnone, Option.isSome_none, Bool.or_self, Bool.false_eq_true, if_false]
    rfl

/-- Settles O18: each event is its effect on a live machine (`does_of_run`), whose tests its clause's conditions meet. -/
theorem quadrilleCommandsComplete : Obligations.QuadrilleCommandsComplete :=
  ⟨qdRecastReq_completes, qdRecastGo_completes, qdLineFall_completes, qdRecord_completes, qdRepeat_completes,
    qdLineRise_completes, qdStepTimeout_completes⟩

end Sys2Proof.Machine
end

section
/-! The event record (R376): where its fields stand, and what the flag bits of its code say. -/

namespace Sys2Proof.Machine

section Layout
variable (r : EvRec)

theorem evRec_bytes_time (htime : r.time < 2 ^ 64) : natLE (slice r.bytes 0x00 8) = r.time := by
  simpa [EvRec.bytes] using natLE_slice_middle [] (bytesLE 6 r.pos ++ (bytesLE 2 r.src ++ (bytesLE 4 r.seq ++
    (bytesLE 4 r.code ++ bytesLE 8 r.payload)))) (n := 8) htime

theorem evRec_bytes_pos (hpos : r.pos < 2 ^ 48) : natLE (slice r.bytes 0x08 6) = r.pos := by
  simpa [EvRec.bytes, length_bytesLE] using natLE_slice_middle (bytesLE 8 r.time) (bytesLE 2 r.src ++ (bytesLE 4 r.seq ++
    (bytesLE 4 r.code ++ bytesLE 8 r.payload))) (n := 6) hpos

theorem evRec_bytes_src (hsrc : r.src < 2 ^ 16) : natLE (slice r.bytes 0x0E 2) = r.src := by
  simpa [EvRec.bytes, length_bytesLE] using natLE_slice_middle (bytesLE 8 r.time ++ bytesLE 6 r.pos) (bytesLE 4 r.seq ++
    (bytesLE 4 r.code ++ bytesLE 8 r.payload)) (n := 2) hsrc

theorem evRec_bytes_seq (hseq : r.seq < 2 ^ 32) : natLE (slice r.bytes 0x10 4) = r.seq := by
  simpa [EvRec.bytes, length_bytesLE] using natLE_slice_middle (bytesLE 8 r.time ++ bytesLE 6 r.pos ++ bytesLE 2 r.src)
    (bytesLE 4 r.code ++ bytesLE 8 r.payload) (n := 4) hseq

theorem evRec_bytes_code (hcode : r.code < 2 ^ 32) : natLE (slice r.bytes 0x14 4) = r.code := by
  simpa [EvRec.bytes, length_bytesLE] using natLE_slice_middle (bytesLE 8 r.time ++ bytesLE 6 r.pos ++ bytesLE 2 r.src ++
    bytesLE 4 r.seq) (bytesLE 8 r.payload) (n := 4) hcode

theorem evRec_bytes_payload (hpayload : r.payload < 2 ^ 64) : natLE (slice r.bytes 0x18 8) = r.payload := by
  simpa [EvRec.bytes, length_bytesLE] using natLE_slice_middle (bytesLE 8 r.time ++ bytesLE 6 r.pos ++ bytesLE 2 r.src ++
    bytesLE 4 r.seq ++ bytesLE 4 r.code) [] (n := 8) hpayload

end Layout

/-- The four flags of a record's code, from bit 28 up. -/
def flagNibble (uncertain snapped locked valid : Bool) : Nat :=
  8 * b2n valid + 4 * b2n locked + 2 * b2n snapped + b2n uncertain

theorem flagNibble_lt (u s l v : Bool) : flagNibble u s l v < 2 ^ 4 := by
  revert u s l v
  decide

theorem flagNibble_testBit (u s l v : Bool) :
    (flagNibble u s l v).testBit 3 = v ∧ (flagNibble u s l v).testBit 2 = l ∧ (flagNibble u s l v).testBit 1 = s ∧
      (flagNibble u s l v).testBit 0 = u := by
  revert u s l v
  decide

theorem bitN_eq_b2n (v i : Nat) : bitN v i = b2n (v.testBit i) := by
  rw [bitN, Nat.shiftRight_eq_div_pow, ← Nat.toNat_testBit]
  cases v.testBit i
  · rfl
  · rfl

/-- The flags stand at bits 28 to 31 of a code that is otherwise 0. -/
theorem codeFlags_eq (c : Core) (k : Nat) : c.codeFlags k =
    2 ^ 28 * flagNibble (c.bitOf (K.encStatus k) 1) c.snapped (decide (c.get K.alignState = 4)) c.timeValid := by
  have hlocked : (if c.get K.alignState = 4 then 1 else 0) = b2n (decide (c.get K.alignState = 4)) := by simp [b2n]
  simp only [Core.codeFlags, hlocked, bitN_eq_b2n, flagNibble, Core.bitOf, Core.snapped, Core.timeValid]
  ring

/-- A flag of a record's code is a bit of the nibble; every bit beside is 0. -/
theorem codeFlags_testBit (c : Core) (k j : Nat) : (c.codeFlags k).testBit j = (decide (28 ≤ j) &&
    (flagNibble (c.bitOf (K.encStatus k) 1) c.snapped (decide (c.get K.alignState = 4)) c.timeValid).testBit (j - 28)) := by
  rw [codeFlags_eq, Nat.testBit_two_pow_mul]

/-- Settles O42: each field is found after those before it (`natLE_slice_middle`), and each flag in the nibble
(`codeFlags_testBit`). -/
theorem eventRecordLayout : Obligations.EventRecordLayout := by
  refine ⟨fun r htime hpos hsrc hseq hcode hpayload => ⟨length_evRec_bytes r, evRec_bytes_time r htime,
    evRec_bytes_pos r hpos, evRec_bytes_src r hsrc, evRec_bytes_seq r hseq, evRec_bytes_code r hcode,
    evRec_bytes_payload r hpayload⟩, fun c k => ?_⟩
  obtain ⟨hvalid, hlocked, hsnapped, huncertain⟩ := flagNibble_testBit (c.bitOf (K.encStatus k) 1) c.snapped
    (decide (c.get K.alignState = 4)) c.timeValid
  refine ⟨(codeFlags_testBit c k 31).trans hvalid, (codeFlags_testBit c k 30).trans hlocked,
    (codeFlags_testBit c k 29).trans hsnapped, (codeFlags_testBit c k 28).trans huncertain, fun j hj => ?_⟩
  rw [codeFlags_testBit]
  rcases hj with hlow | hhigh
  · simp [Nat.not_le.2 hlow]
  · have hbound := flagNibble_lt (c.bitOf (K.encStatus k) 1) c.snapped (decide (c.get K.alignState = 4)) c.timeValid
    rw [Nat.testBit_lt_two_pow (hbound.trans_le (Nat.pow_le_pow_right (by decide) (by omega))), Bool.and_false]

end Sys2Proof.Machine
end

section
/-! The events of the fault collector (R406, R412, R413, R415, R416): each has the effect that its clause's conditions
select. -/

namespace Sys2Proof.Machine

theorem faultConditionEnd_completes : Effect.FaultConditionEnd := by
  rintro s _ _ rfl hlive rfl hcool
  refine does_of_run (execFaultConditionEnd.eq_1 _ s) rfl hlive (if_pos ?_)
  simp [hcool]

theorem scopeRecover_completes : Effect.ScopeRecover := by
  rintro s _ scope _ rfl hscope hlive hbooted hstate hdown hunlatched hfree hquiet hnew hlimit rfl
  refine does_of_run rfl (decide_eq_true hscope) hlive
    ((if_neg ?_).trans ((if_neg hnew).trans (if_neg (Nat.not_le.2 hlimit))))
  simp [hbooted, hstate, hdown, hunlatched, hfree, hquiet]

theorem busError_completes : Effect.BusError := by
  rintro s _ kind addr master typ rfl hlive hleast hmost
  refine does_of_run rfl rfl hlive (if_pos ?_)
  simp [hleast, hmost]

theorem supSramUe_completes : Effect.SupSramUe := by
  rintro s _ addr rfl hlive
  exact does_of_run rfl rfl hlive rfl

theorem supWatchdog_completes : Effect.SupWatchdog := by
  rintro s _ rfl hlive
  exact does_of_run rfl rfl hlive rfl

/-- A reading that stays below DIE_CRIT raises no DIE_CRIT. -/
theorem dieHot_completes : Effect.DieHot := by
  rintro s _ sensor t rfl hsensor hlive hnew hwarn hbelow
  refine does_of_run rfl (decide_eq_true hsensor) hlive ((if_neg ?_).trans (if_pos ?_))
  · simp [Core.dieAtCrit, hbelow]
  · simp [hnew, hwarn]

/-- A reading taken while DIE_HOT is active raises no second DIE_HOT. -/
theorem dieCrit_completes : Effect.DieCrit := by
  rintro s _ sensor t rfl hsensor hlive hbefore hactive hcrit
  have hhot : dieHotEdge (dieRead sensor t s.core) = dieRead sensor t s.core := if_neg (by simp [hactive])
  refine does_of_run (execDieCrit.eq_1 sensor t s) (decide_eq_true hsensor) hlive ((if_pos ?_).trans ?_)
  · simp [Core.dieAtCrit, hbefore, hcrit]
  · rw [hhot]

theorem vaonLow_completes : Effect.VaonLow := by
  rintro s _ mv rfl hlive hnew hlow
  refine does_of_run (execVaonLow.eq_1 mv s) rfl hlive (if_pos ?_)
  simp [hnew, hlow]

/-- Settles O19: each event is its effect on a live machine (`does_of_run`), whose tests its clause's conditions meet. -/
theorem faultCommandsComplete : Obligations.FaultCommandsComplete :=
  ⟨faultConditionEnd_completes, scopeRecover_completes, busError_completes, supSramUe_completes, supWatchdog_completes,
    dieHot_completes, dieCrit_completes, vaonLow_completes⟩

end Sys2Proof.Machine
end

section
/-! The events of the rail sequencer and of the rail log (R418, R419, R420, R426): each has the effect that its clause's
conditions select. What the readings of a lost rail say is the model's choice (log 105). -/

namespace Sys2Proof.Machine

theorem railGood_completes : Effect.RailGood := by
  rintro s _ r rfl hr hlive
  exact does_of_run rfl (decide_eq_true hr) hlive rfl

theorem railDischarged_completes : Effect.RailDischarged := by
  rintro s _ r rfl hr hlive
  exact does_of_run rfl (decide_eq_true hr) hlive rfl

theorem railOnDelay_completes : Effect.RailOnDelay := by
  rintro s _ r rfl hr hlive
  exact does_of_run rfl (decide_eq_true hr) hlive rfl

theorem railSettleDone_completes : Effect.RailSettleDone := by
  rintro s _ rfl hlive
  exact does_of_run rfl rfl hlive rfl

/-- In phase 2 the rail waits to be good, and not to be discharged: the reason given is 1. -/
theorem railOnTimeout_completes : Effect.RailOnTimeout := by
  rintro s _ r x _ rfl hr hlive hstep hgroup hdue hphase hbad hup rfl
  refine does_of_run rfl (decide_eq_true hr) hlive ?_
  simp only [railOnTimeout, hstep, hgroup, hdue, hphase, hbad, hup, Nat.reduceEqDiff, decide_true, decide_false,
    Bool.false_and, Bool.false_or, Bool.not_false, Bool.and_self, Bool.false_eq_true, if_true, if_false]

theorem railOffTimeout_completes : Effect.RailOffTimeout := by
  rintro s _ r x rfl hr hlive hstep hdown hphase hgroup hnew hcharged hdue
  refine does_of_run rfl (decide_eq_true hr) hlive ?_
  simp only [railOffTimeout, hstep, hdown, hphase, hgroup, hnew, hcharged, hdue, decide_true, Bool.not_false,
    Bool.and_self, if_true]

theorem railLost_completes : Effect.RailLost := by
  rintro s _ r _ rfl hr hlive hgood hon houtside hpg rfl
  refine does_of_run rfl (decide_eq_true hr) hlive ((if_neg ?_).trans (if_pos ?_))
  · simp [hgood, hon, houtside]
  · simp [hpg]

theorem railLogProgramDone_completes : Effect.RailLogProgramDone := by
  rintro s _ _ seq bytes rest rfl hlive rfl hidle hqueue
  refine does_of_run rfl rfl hlive ?_
  simp [railLogProgramDone, hidle, hqueue]

/-- Settles O20: each event is its effect on a live machine (`does_of_run`), whose tests its clause's conditions meet. -/
theorem railCommandsComplete : Obligations.RailCommandsComplete :=
  ⟨railGood_completes, railDischarged_completes, railOnDelay_completes, railSettleDone_completes, railOnTimeout_completes,
    railOffTimeout_completes, railLost_completes, railLogProgramDone_completes⟩

end Sys2Proof.Machine
end

section
/-! The raise of a fault of class NOTE or DEGRADE outside beam mode (R407, R408): its record and its snapshot leave the marking
mode, and no reaction follows. -/

namespace Sys2Proof.Machine

section MarkingMode
variable (c : Core)

theorem signal_beam (v : Nat) : (c.signal v).beam = c.beam := by
  unfold Core.signal
  extract_lets
  split
  · split
    · rfl
    · rfl
  · rfl

theorem ringShadow_beam (k count : Nat) : (c.ringShadow k count).beam = c.beam := by
  unfold Core.ringShadow
  extract_lets
  split
  · rfl
  · rfl

theorem ringDue_beam (k : Nat) : (c.ringDue k).beam = c.beam := by
  unfold Core.ringDue
  extract_lets
  split
  · exact signal_beam _ _
  · rfl

theorem freeVal_beam {w v : Nat} {d : Core} (hfree : c.freeVal w = (v, d)) : d.beam = c.beam :=
  congrArg (fun (p : Nat × Core) => p.2.beam) hfree.symm

/-- A record that a ring takes counts there and may signal; one that it drops is counted and may be raised. -/
theorem putRecord_beam (k : Nat) (e : EvRec) : (c.putRecord k e).beam = c.beam := by
  unfold Core.putRecord
  extract_lets r
  split
  next v d hfree =>
    have hd : d.beam = c.beam := freeVal_beam c hfree
    extract_lets
    split
    · exact ((ringDue_beam _ k).trans (ringShadow_beam _ k _)).trans hd
    split
    · exact hd
    · exact hd

theorem faultRecord_beam (src kind cls event payload : Nat) : (faultRecord src kind cls event payload c).beam = c.beam := by
  unfold faultRecord
  extract_lets
  split
  · exact putRecord_beam c 58 _
  · exact putRecord_beam c 58 _

theorem logBytes_beam {seq trigger src kind cls repeats pos : Nat} {bytes : List Byte} {d : Core}
    (hlog : c.logBytes seq trigger src kind cls repeats pos = (bytes, d)) : d.beam = c.beam := by
  rw [Core.logBytes.eq_1] at hlog
  split at hlog
  next v e hfree =>
    exact (congrArg (fun (p : List Byte × Core) => p.2.beam) hlog.symm).trans (freeVal_beam c hfree)

theorem snapshot_beam (trigger src kind cls repeats : Nat) : (snapshot trigger src kind cls repeats c).beam = c.beam := by
  unfold snapshot
  extract_lets n pos seq
  split
  next bytes d hlog =>
    extract_lets numbered dropped queued pay
    have hqueued : queued.beam = c.beam := by
      refine Eq.trans ?_ (logBytes_beam c hlog)
      unfold queued
      split
      · rfl
      split
      · rfl
      · rfl
    clear_value n
    split
    · exact (putRecord_beam queued 59 _).trans hqueued
    · exact (putRecord_beam queued 59 _).trans hqueued

theorem faultSnapshot_beam (src kind cls : Nat) : (faultSnapshot src kind cls c).beam = c.beam := by
  unfold faultSnapshot
  extract_lets
  split
  · rfl
  · exact snapshot_beam _ 2 src kind cls _

end MarkingMode

theorem satU_eq_min (w v : Nat) : satU w v = min v (2 ^ w - 1) := by
  have hpos : 0 < 2 ^ w := Nat.two_pow_pos w
  unfold satU
  split
  · omega
  · omega

/-- Classes NOTE and DEGRADE have no reaction in either marking mode (R199, R408). -/
theorem react_minor (src kind : Nat) {cls : Nat} (c : Core) (hcls : cls = 1 ∨ cls = 2) : react src kind cls c = c := by
  rcases hcls with rfl | rfl
  · simp [react, spoilClass]
  · simp [react, spoilClass]

/-- The first steps of a raise (R407): the fault's entry, and the mark on the scopes that the fault holds. -/
def faultMarked (r : Raise) (c : Core) : Core :=
  let id := faultId r.src r.kind
  let cls := c.classOf r.src r.kind r.payload
  let held := r.held || ((c.faultOf id).cycle.isNone && c.activeNow (c.faultOf id) != 0)
  let d := c.updFault id fun (x : FaultEntry) =>
    { x with sticky := true, count := min (x.count + 1) (2 ^ 32 - 1), time := c.now, payload := r.payload, active := cls,
             cycle := if held then none else some c.sample }
  { d with scopes := c.scopes.mapIdx fun (i : Nat) (x : Scope) =>
    if holdsScope r.src cls i = true then { x with holdAt := some c.clock } else x }

/-- A raise of a minor class: its marks, its record, its snapshot, the causes that spoil pages in beam mode, and the fault move
of a lost rail. -/
theorem faultRaised_minor (r : Raise) (c : Core)
    (hminor : c.classOf r.src r.kind r.payload = 1 ∨ c.classOf r.src r.kind r.payload = 2) :
    faultRaised r c =
      let cls := c.classOf r.src r.kind r.payload
      let d := faultSnapshot r.src r.kind cls (faultRecord r.src r.kind cls 1 r.payload (faultMarked r c))
      railLostMove r.src (if d.beam then spoilCause r.src r.payload d else d) := by
  simp only [faultRaised, faultMarked, satU_eq_min, react_minor _ _ _ hminor, ite_self]
  rfl

/-- Settles O56: a minor class has no reaction (`faultRaised_minor`), and outside beam mode, which neither record nor snapshot
changes (`faultRecord_beam`, `faultSnapshot_beam`), no page is spoiled. -/
theorem minorFaultsAreOnlyRecorded : Obligations.MinorFaultsAreOnlyRecorded := by
  intro r c hnozzle hminor id cls held d e
  have hmode : ¬ (faultSnapshot r.src r.kind cls (faultRecord r.src r.kind cls 1 r.payload e)).beam = true :=
    Bool.eq_false_iff.1 ((faultSnapshot_beam _ _ _ _).trans ((faultRecord_beam _ _ _ _ _ _).trans hnozzle))
  exact (faultRaised_minor r c hminor).trans (congrArg (railLostMove r.src) (if_neg hmode))

end Sys2Proof.Machine
end

section
/-! What follows a command that leaves nothing raised and nothing in progress (R231, R394, R407): nothing, but for the arms
that wait for the boards (R167). -/

namespace Sys2Proof.Machine

section Watches
variable {c : Core}

/-- No channel's arm waits for its boards. -/
def Core.noArmWaits (c : Core) : Prop := ∀ n : Nat, n < 8 → (nth c.jobs n).arming = false

theorem armWatch_of_noArmWaits (hnone : c.noArmWaits) : armWatch c = c := by
  unfold armWatch
  refine List.foldlRecOn (motive := fun (d : Core) => d = c) _ _ rfl fun d hd n hn => ?_
  subst hd
  exact if_pos (by simp [hnone n (List.mem_range.1 hn)])

theorem rcstWatch_of_phase (hphase : c.get K.rcstPhase = 0) : rcstWatch c = c := if_pos hphase

theorem qdWithdrawGo_of_no_props (hprops : c.qd.props = []) : qdWithdrawGo c = c := by
  have hnone : (c.qd.props.filter fun (p : QdProp) => qdKind p.word != 5) = c.qd.props := by
    rw [hprops, List.filter_nil]
  unfold qdWithdrawGo Core.updQd
  split
  · rfl
  · dsimp only
    rw [hnone]

theorem qdWatch_of_idle (hprops : c.qd.props = []) (hbusy : c.qd.busy = false) : qdWatch c = c := by
  unfold qdWatch
  rw [qdWithdrawGo_of_no_props hprops]
  simp [hprops, hbusy]

theorem devFollow_of_state (h3 : c.get K.devState ≠ 3) (h4 : c.get K.devState ≠ 4) (h5 : c.get K.devState ≠ 5) :
    devFollow c = c := by
  simp [devFollow, h3, h4, h5]

/-- What follows a change of a calm machine is what follows from its arms. -/
theorem finish_eq_armWatch (hcalm : Calm (armWatch c)) : finish c = armWatch c := by
  obtain ⟨hraises, hphase, hprops, hbusy, hreset, h3, h4, h5⟩ := hcalm
  have hfollow : follow c = armWatch c := by
    rw [follow, settle_none _ hraises, rcstWatch_of_phase hphase, qdWatch_of_idle hprops hbusy, settle_none _ hraises,
      devFollow_of_state h3 h4 h5, settle_none _ hraises]
  rw [finish, hfollow, resetAsked, if_neg (by simp [hreset])]

/-- Where no arm waits for the boards either, nothing follows. -/
theorem finish_of_calm (hcalm : Calm c) (hnone : c.noArmWaits) : finish c = c := by
  have harms := armWatch_of_noArmWaits hnone
  rw [finish_eq_armWatch (by rwa [harms]), harms]

end Watches

/-- A stop of the device came while the arm of channel 0 waited for its boards: the device is in FAULT, the channel FAULTED, and
the arm still waits. -/
def armLeftByStop : Core :=
  (((({ boot := { inReset := false, step := 9 } } : Core).updJob 0 fun (x : ChJob) => { x with arming := true }).set
    (K.chState 0) 7).set K.devState 7)

theorem armLeftByStop_calm : Calm armLeftByStop ∧ Calm (armWatch armLeftByStop) := by decide

/-- Of a calm machine in which an arm waits that can no longer be made, it follows that the arm comes to nothing. -/
theorem finish_armLeftByStop_ne : finish armLeftByStop ≠ armLeftByStop := by
  have hbefore : (nth armLeftByStop.jobs 0).arming = true := by decide
  have hafter : (nth (armWatch armLeftByStop).jobs 0).arming = false := by decide
  rw [finish_eq_armWatch armLeftByStop_calm.2]
  intro hsame
  rw [hsame, hbefore] at hafter
  cases hafter

/-- Refutes O38: an arm that waits for the boards of its channel comes to nothing by itself once its conditions have ceased to
hold (R167, log 83), and the statement's conditions do not look at it (`armLeftByStop`). Where no arm waits nothing
follows (`finish_of_calm`). -/
theorem not_nothingFollowsACalmCommand : ¬ Obligations.NothingFollowsACalmCommand := fun h =>
  finish_armLeftByStop_ne (h armLeftByStop armLeftByStop_calm.1)

end Sys2Proof.Machine
end

section
/-! Reset and boot (R429, R431, R432): the commands of the reset and of the end of the boot, and what a reset leaves. -/

namespace Sys2Proof.Machine

/-- A command of the reset and the supplies ends in the machine that its effect leaves. -/
theorem doesReset_of_runReset {i : Instr} {s : State} {f : Core → Core} {c : Core} (hexec : exec i s = runReset s f)
    (heffect : f s.core = c) : DoesReset i s c := by
  subst heffect
  exact hexec

theorem resetNAssert_completes : Effect.ResetNAssert := by
  rintro s _ rfl hout
  refine doesReset_of_runReset rfl ?_
  simp [resetNAssert, hout]

theorem supplyOutOfRange_completes : Effect.SupplyOutOfRange := by
  rintro s _ rfl hout
  refine doesReset_of_runReset rfl ?_
  simp [supplyOutOfRange, hout]

theorem resetEnd_completes : Effect.ResetEnd := by
  rintro s _ rfl hin
  exact doesReset_of_runReset rfl (if_pos hin)

theorem bootComplete_completes : Effect.BootComplete := by
  rintro s _ d e rfl hlive hstep hrecovery htimed hraised
  refine does_of_run (execBootComplete.eq_1 s) rfl hlive ?_
  rw [bootComplete.eq_1, if_neg (by simp [hstep, hrecovery])]
  extract_lets kept boot begun us timed boots stored nor counted raised
  obtain rfl : d = timed := htimed
  obtain rfl : e = raised := hraised
  rfl

/-- Settles O21: each event is its effect on the machine (`doesReset_of_runReset`, `does_of_run`), whose test its clause's
conditions meet. That RESET_END runs steps 1 to 6 of the boot at once is the model's choice (log 107). -/
theorem startupCommandsComplete : Obligations.StartupCommandsComplete :=
  ⟨resetNAssert_completes, supplyOutOfRange_completes, resetEnd_completes, bootComplete_completes⟩

/-- Settles O33, by evaluation of the one machine it speaks of. -/
theorem resetMachineHasCanonicalDram : Obligations.ResetMachineHasCanonicalDram := ⟨rfl, rfl, rfl⟩

/-- No lock of a new machine is held. -/
theorem locks_free : ∀ k : Nat, k < 10 → (nth ({} : Core).locks k).owner = none := by decide

section Frames
variable (c : Core)

theorem foldl_nor {α : Type} {f : Core → α → Core} (hf : ∀ (d : Core) (x : α), (f d x).nor = d.nor) (l : List α) :
    (l.foldl f c).nor = c.nor :=
  List.foldlRecOn (motive := fun (d : Core) => d.nor = c.nor) l f rfl fun d hd x _ => (hf d x).trans hd

theorem cmpPulseEnd_nor (u : Nat) : (cmpPulseEnd u c).nor = c.nor := by
  unfold cmpPulseEnd
  extract_lets unit idle deferred
  split
  · rfl
  split
  · have hdeferred : deferred.nor = idle.nor := by
      refine foldl_nor idle (fun d p => ?_) _
      split
      · rfl
      · rfl
    exact hdeferred
  · rfl

theorem cmpSafe_nor (u : Nat) : (cmpSafe u c).nor = c.nor := cmpPulseEnd_nor _ u

theorem fieldPinsSafe_nor : (fieldPinsSafe c).nor = c.nor := by
  unfold fieldPinsSafe
  dsimp only
  refine (foldl_nor _ ?_ _).trans ((foldl_nor _ ?_ _).trans (foldl_nor _ ?_ _))
  · exact fun _ _ => rfl
  · exact fun _ _ => rfl
  · exact cmpSafe_nor

theorem setAlive_nor (b : Bool) : (setAlive b c).nor = c.nor := by
  unfold setAlive
  split
  · rfl
  · rfl

theorem logAdvance_log : (logAdvance c).nor.log = c.nor.log := by
  unfold logAdvance
  dsimp only
  split
  · simp only [Core.updRail_nor]
  · rfl

/-- A reset that catches a program leaves at most a torn record more (R427). -/
theorem log_subset_logCut : c.nor.log ⊆ (logCut c).nor.log := by
  unfold logCut
  extract_lets
  split
  · exact List.Subset.refl _
  split
  · exact List.Subset.refl _
  · rw [logAdvance_log]
    exact List.subset_append_left _ _

theorem log_subset_doReset (cause : Nat) : c.nor.log ⊆ (doReset cause c).nor.log := by
  unfold doReset
  dsimp only
  rw [fieldPinsSafe_nor, setAlive_nor]
  exact log_subset_logCut c

end Frames

/-- Settles O58: a reset starts from a machine like a new one (`doReset`), with the log that was kept
(`log_subset_doReset`). -/
theorem resetIsCold : Obligations.ResetIsCold := fun cause c =>
  ⟨rfl, rfl, locks_free, rfl, rfl, rfl, rfl, rfl, rfl, rfl, fun _ hr => log_subset_doReset c cause hr⟩

end Sys2Proof.Machine
end

section
/-! A step and the queue of waiting commands (log 3). -/

namespace Sys2Proof.Machine

/-- Settles O26: it is the definition of `step`. -/
theorem stepRunsTheFrontCommand : Obligations.StepRunsTheFrontCommand := fun _ _ _ => rfl

/-- Settles O30, from the shape of a command's outcome (`exec_shape`): each gives the machine a core or DRAM, never a queue. -/
theorem commandsLeaveTheQueueAlone : Obligations.CommandsLeaveTheQueueAlone := by
  intro i s t hnext
  cases exec_shape i s with
  | event d f _ hexec =>
    rcases run_cases i.unitsOk d s f with hfault | ⟨c, hrun⟩
    · cases hnext.symm.trans (hexec.trans hfault)
    · cases hnext.symm.trans (hexec.trans hrun)
      rfl
  | mem d f _ hexec =>
    rcases runMem_cases i.unitsOk d s f with hfault | ⟨c, m, hrun, -⟩
    · cases hnext.symm.trans (hexec.trans hfault)
    · cases hnext.symm.trans (hexec.trans hrun)
      rfl
  | reset f _ _ hexec =>
    cases hnext.symm.trans hexec
    rfl

end Sys2Proof.Machine
end
